-- ==== Sys2Proof/Word.lean ====
section
/-!
DEFINITION. The word types of the block: bytes and 16-bit words of the shared window (R63, R108), 32-bit registers of the
extended space (R89), 64-bit ring time (R12).
-/

namespace Sys2Proof

/-- A byte of the shared window (R108). -/
abbrev Byte := BitVec 8

/-- A word of the host bus (R63). -/
abbrev Word := BitVec 16

/-- A register of the extended space (R89). -/
abbrev DWord := BitVec 32

/-- Ring time in nanoseconds (R12). -/
abbrev QWord := BitVec 64

end Sys2Proof
end

