-- ==== Sys2Proof/Syntax.lean ====
section
/-!
DEFINITION. The commands of the block and their operands: one constructor of Instr per row of spec/opcode_table.json.
A command that stands for an event in time or on a pin carries what the event measures; a measure that a term leaves out is written
as 0 (nothing measured). That is a matter of spelling only: the host sends every operand, and every statement names it.
-/

namespace Sys2Proof

/-- The two host targets of the interrupt controller (R429). -/
inductive HostTarget where
  | a
  | b
  deriving DecidableEq, Repr

/-- The access a host aborts (R719): a read of a direct register, a read of a window word, or a write. -/
inductive HostAccess where
  | readRegister (a : BitVec 18)
  | readWindow (w : BitVec 16)
  | write (a : BitVec 18) (data : Word)
  deriving DecidableEq, Repr

/-- The phase of a frame (R37). -/
inductive Phase where
  | a
  | e
  | c
  | g
  deriving DecidableEq, Repr

/-- What one frame tick brings with it: the phase of the frame that overruns, if one does (R47), the BCLK edges of the frame
that ends which no timer command has brought, the shunt voltage codes sampled at the tick (BANK_STATUS_n.I_NOW), and the level of
TWIN_OWN_IN_N: asserted or not at the tick (R572), and released throughout the 200 ns before it or not (R592, R596). -/
structure TickInput where
  overrun : Option Phase := none
  bclk : Nat := 25
  shunts : Vector Byte 6 := Vector.replicate 6 0#8
  ownIn : Bool := false
  ownFree : Bool := true
  lapse : Bool := false
  deriving DecidableEq, Repr

/-- The supervised rails (R489). -/
inductive Rail where
  | vpre
  | vcore
  | vio
  deriving DecidableEq, Repr

/-- A cell of the ring's message area as it reaches a node (R546): its bytes 1 to 14, and which of its bytes 0 to 15 carried a
symbol error. -/
structure RingCell where
  bytes : Vector Byte 14
  bad : BitVec 16
  deriving DecidableEq, Repr

/-- The angle area and the message area of a cycle as it returns to the ring master (R521): the bytes of the four slots, and the occupied
cells by position, bytes 1 to 14, with `done` for one that ends in DONE as it leaves the master. -/
structure CycleAreas where
  angle : List Byte := []
  cells : List (Fin 60 × Vector Byte 14 × Bool) := []
  deriving DecidableEq, Repr

/-- A grant that a node which takes over an announced mastership continues (R530): the node, its quota, its angle slot, and its master
key where it is master-capable (R527). -/
structure RingGrant where
  node : Byte
  quota : Fin 31
  slot : Option (Fin 4)
  key : Option (Fin 257) := none
  deriving DecidableEq, Repr

/-- A CAN frame (R637, R645): its identifier and type, its format, its data length code, the error state indicator and its
data bytes. -/
structure CanFrame where
  id : BitVec 29
  ide : Bool
  rtr : Bool
  fdf : Bool
  brs : Bool
  esi : Bool
  dlc : Fin 16
  data : List Byte
  deriving DecidableEq, Repr

/-- A scan of the boundary register (R749): the levels it sampled at the balls and the cells it loaded. -/
structure DrScan where
  sampled : List Bool
  loaded : List Bool
  deriving DecidableEq, Repr

/-- What the controller detects on the bus (R642, CAN_STATUS.LAST_ERR). -/
inductive CanError where
  | stuff
  | form
  | acknowledgement
  | bit1
  | bit0
  | crc
  deriving DecidableEq, Repr


/-- The commands the block takes: one constructor per row of spec/opcode_table.json. -/
inductive Instr where
  /-- POWER_ON_RESET (R509). VBAT rises to at least 4.5 V for 1 ms after being below 2.0 V, or the device wakes from OFF, and the device
  resets with cause POR. -/
  | powerOnReset (twinSel : Bool)
  /-- BROWNOUT (R482). VPRE stays below 3.9 V for more than 2 µs and the device resets with cause BROWNOUT. -/
  | brownout
  /-- PIN_RESET (R510). RESET_N is held low long enough to pass the glitch filter and the device resets with cause PIN. -/
  | pinReset
  /-- SOFT_RESET (R509). A protected write of 1 to DEV_CONTROL.SOFT_RESET resets the device with cause SOFT. -/
  | softReset
  /-- LOCKSTEP_RESET (R509). The supervisor's lockstep cores disagree and the device resets with cause LOCKSTEP. -/
  | lockstepReset
  /-- CLOCK_LOSS_RESET (R509). The fallback oscillator also fails, or a PLL stays unlocked for 100 µs, and the device resets with cause
  CLOCK_LOSS. -/
  | clockLossReset
  /-- THERMAL_RESET (R492). The always-on comparator finds the junction at 165 °C or more and holds the device in reset until it is below
  140 °C. -/
  | thermalReset
  /-- RETAIN_WAKE (R496). A wake event in RETAIN resets the device with cause RETAIN_WAKE, restores its configuration and takes in blocks
  10 to 30. -/
  | retainWake
  /-- RESET_RELEASE (R58). The internal reset is released and the first frame tick starts the pipeline with the reset configuration. -/
  | resetRelease
  /-- BOOT_COMPLETE (R511). Supervisor boot and firmware verification finish and DEV_STATUS.READY is set. -/
  | bootComplete (patch : Bool := false)
  /-- CLOCK_FALLBACK (R253). The clock monitor declares the crystal failed and switches REFCLK to the fallback oscillator. -/
  | clockFallback
  /-- CLOCK_RESTORED (R255). The crystal has stayed qualified for 10 ms and REFCLK returns to it. -/
  | clockRestored
  /-- DEBUG_HALT (R56). The test port halts supervisor execution while everything else runs on. -/
  | debugHalt
  /-- DEBUG_RESUME (R56). The test port resumes supervisor execution. -/
  | debugResume
  /-- FRAME_TICK (R37). The 1 MHz frame tick runs phases A, E, C and G of one frame. -/
  | frameTick (t : TickInput)
  /-- FRAME_OVERRUN_PERSIST (R50). Eight consecutive frames overrun and a safe stop of class F3 is raised. -/
  | frameOverrunPersist
  /-- COMMIT_TAKE_EFFECT (R43). Committed writes that reached the CCLK domain take effect together at a frame tick. -/
  | commitTakeEffect
  /-- BLOCK_RETURN_TAKE_EFFECT (R120). At the return tick the contents of a returned block take effect. -/
  | blockReturnTakeEffect
  /-- OUTPUT_EDGE_EXECUTE (R41). A committed edge executes at its vernier offset in the next frame. -/
  | outputEdgeExecute
  /-- TIME_MODE_END_DUE (R261). The duration of a time-mode pulse or window elapses and its end edge is evaluated. -/
  | timeModeEndDue (x : BitVec 11)
  /-- WINDOW_WRITE (R112). A host write to the shared window is performed or dropped by block ownership. -/
  | windowWrite (w : BitVec 16) (data : Word) (be0 : Bool) (be1 : Bool)
  /-- WINDOW_READ (R125). A host read of the shared window returns the word and loads or uses the window latch. -/
  | windowRead (w : BitVec 16)
  /-- SCRUBBER_READ (R140). The background scrubber reads and repairs a word of blocks 0 to 495. -/
  | scrubberRead (w : BitVec 16)
  /-- ANGLE_L_READ (R86). A read of ANGLE_L returns the angle and latches ANGLE_H, SPEED and SYNC_STATUS. -/
  | angleLRead (steps : Fin 401 := 0)
  /-- FRAME_COUNT_L_READ (R86). A read of FRAME_COUNT_L latches the high half of FRAME_COUNT. -/
  | frameCountLRead
  /-- PORT_DATA_L_WRITE (R91). A write of PORT_DATA_L stores its value in the holding register. -/
  | portDataLWrite (data : Word)
  /-- PORT_COMMIT (R92). A write of PORT_DATA_H commits the 32-bit value to the local extended address. -/
  | portCommit (hi : Word) (phaseG : Bool)
  /-- REMOTE_WRITE_POST (R98). A write of PORT_DATA_H with REMOTE set posts a tagged write to another node. -/
  | remoteWritePost (hi : Word) (phaseG : Bool)
  /-- PORT_READ (R94). A read of PORT_DATA_L fetches the 32-bit extended register and latches its high half. -/
  | portRead
  /-- UNLOCK_FIRST_KEY (R80). A write of 0xC35A to DEV_UNLOCK arms the key sequence. -/
  | unlockFirstKey
  /-- UNLOCK_SECOND_KEY (R80). A write of 0x3CA5 while armed opens the unlock window. -/
  | unlockSecondKey
  /-- UNLOCK_WRONG_KEY (R80). A write of any other value disarms the sequence and closes the window. -/
  | unlockWrongKey (data : Word)
  /-- UNLOCK_WINDOW_EXPIRE (R80). The unlock window closes at its 100th frame tick. -/
  | unlockWindowExpire
  /-- REGISTER_WRITE (R77). A write to a register with no row of its own acts under the access codes. -/
  | registerWrite (a : BitVec 18) (data : Word) (be0 : Bool) (be1 : Bool) (phaseG : Bool)
  /-- HOST_ACCESS_ABORT (R719). The host ends a strobe while WAIT_N is low and the access is aborted. -/
  | hostAccessAbort (access : HostAccess)
  /-- BLOCK_TAKE (R118). An OWN_REQ take gives a block to HOST, or refuses it. -/
  | blockTake (b : Fin 512)
  /-- BLOCK_RETURN (R120). An OWN_REQ return makes the block DEVICE-owned at once and RETURNING until its tick. -/
  | blockReturn (b : Fin 512) (phaseG : Bool)
  /-- OWN_VIOL_COUNT_READ (R112). A read of OWN_VIOL_COUNT returns and clears the count of dropped writes. -/
  | ownViolCountRead
  /-- IRQ_ANOMALY_COUNT_READ (R434). A read of IRQ_ANOMALY_COUNT returns and clears the anomaly counts. -/
  | irqAnomalyCountRead
  /-- TIME_SNAPSHOT (R22). A write to TIME_SNAPSHOT captures epoch, ring time and FRAME_COUNT at one instant. -/
  | timeSnapshot (steps : Fin 401)
  /-- LTR_WRITE (R497). A write of LTR changes the latency tolerance, and below 3000 in RETAIN requests a wake. -/
  | ltrWrite (data : Word)
  /-- INVAL_BLOCK (R301). A write of INVAL_BLOCK reloads or releases the cached entries of a block at its tick. -/
  | invalBlock (data : Word) (phaseG : Bool)
  /-- SCHED_CONTROL_WRITE (R276). A write of SCHED_CONTROL sets ENABLE and LOOKAHEAD from the next tick. -/
  | schedControlWrite (data : Word) (phaseG : Bool)
  /-- RING_ADDR_WRITE (R79). A write of RING_ADDR sets the node address and master flags, and sets CONFIGURED. -/
  | ringAddrWrite (data : Word)
  /-- TEST_PORT_DISABLE (R747). A protected write of TEST_PORT_DIS blocks supervisor debug through the test port until reset. -/
  | testPortDisable
  /-- JOURNAL_INFO (R469). The mailbox command JOURNAL_INFO returns the journal's range, OP_TIME and counts. -/
  | journalInfo
  /-- JOURNAL_READ (R469). The mailbox command JOURNAL_READ returns up to 7 journal entries. -/
  | journalRead
  /-- JOURNAL_NOTE (R469). The mailbox command JOURNAL_NOTE writes a HOST_NOTE journal entry. -/
  | journalNote
  /-- POWER_OFF (R508). The mailbox command POWER_OFF begins the entry to OFF unless the engine rotates. -/
  | powerOff
  /-- RING_SET_TIME (R539). The mailbox command RING_SET_TIME loads a reference time into the ring master. -/
  | ringSetTime
  /-- CAL_APPLY (R627). The mailbox command CAL_APPLY checks, decrypts and stages an authenticated calibration package. -/
  | calApply
  /-- CAL_APPLY_TICK (R627). The staged blocks and commits of a calibration package take effect at one frame tick. -/
  | calApplyTick
  /-- CAL_RAISE_FLOOR (R630). The mailbox command CAL_RAISE_FLOOR burns rollback fuses up to a new floor. -/
  | calRaiseFloor
  /-- KEY_PURGE (R635). The mailbox command KEY_PURGE raises a firmware alarm that empties every slot. -/
  | keyPurge (time : Word)
  /-- SERVICE_GET (R670). The mailbox command SERVICE_GET returns bytes of a forwarded diagnostic request. -/
  | serviceGet
  /-- SERVICE_PUT (R670). The mailbox command SERVICE_PUT gathers and, when final, sends a forwarded response. -/
  | servicePut
  /-- SERVICE_FORWARD (R670). The mailbox command SERVICE_FORWARD sets forwarding and its timeout. -/
  | serviceForward
  /-- TAG_UPDATE (R691). The mailbox command TAG_UPDATE starts a service tag update or is refused. -/
  | tagUpdate
  /-- MAILBOX_COMPLETE (R107). The supervisor completes a command, writes the reply, sets DONE and raises source 60. -/
  | mailboxComplete
  /-- IRQ_CLAIM (R433). A read of IRQ_CLAIM_x returns the highest eligible source and makes it active. -/
  | irqClaim (x : HostTarget)
  /-- IRQ_COMPLETE (R435). A write of IRQ_COMPLETE_x ends the active state of a source. -/
  | irqComplete (x : HostTarget) (data : Word)
  /-- IRQ_SET_PEND (R437). A write of IRQ_SET_PEND raises a source as its own event would. -/
  | irqSetPend (data : Word)
  /-- IRQ_PEND_CLR (R437). A commit of IRQ_PEND_CLR clears the pending bits it names. -/
  | irqPendClr (high : Bool) (mask : DWord)
  /-- SUP_SOURCE_CLAIM (R439). The supervisor claims a source routed to SUP and journals or merges it. -/
  | supSourceClaim
  /-- SOURCE_EVENT_FLUSH (R439). One second after the last entry, merged supervisor claims are journaled as one SOURCE_EVENT. -/
  | sourceEventFlush (x : Fin 64)
  /-- FAULT_ACK (R451). A write of FAULT_ACK frees a slot when its SEQ matches and it is not standing. -/
  | faultAck (data : Word)
  /-- SAFE_N_FALL (R341). SAFE_N falls below its threshold and a safe stop drives every gate inactive. -/
  | safeNFall
  /-- SAFE_N_RISE (R458). SAFE_N rises and the SAFE_N_ASSERTED record stops standing. -/
  | safeNRise
  /-- FORCE_F3 (R459). A write of FORCE_F3 raises FORCED_SAFE_STOP. -/
  | forceF3
  /-- ARM_REQUEST (R335). A protected write of ARM requests arming at the next tick. -/
  | armRequest (phaseG : Bool)
  /-- DISARM_REQUEST (R338). A write of DISARM disarms the stage at the next tick. -/
  | disarmRequest (phaseG : Bool)
  /-- WATCHDOG_ENABLE (R461). A protected write of WDT_EN starts the host watchdog. -/
  | watchdogEnable (window : BitVec 7)
  /-- WDT_KICK (R462). A write of WDT_KICK restarts the watchdog, or with a wrong value expires it. -/
  | wdtKick (data : Word)
  /-- WATCHDOG_EXPIRED (R463). The watchdog window passes without a kick and an F3 is raised. -/
  | watchdogExpired
  /-- JOURNAL_WRITE (R466). The supervisor writes a pending journal entry to non-volatile memory. -/
  | journalWrite (ok : Bool) (eraseOk : Bool)
  /-- JOURNAL_ALLOWANCE_REGAIN (R467). Every 4 s the rate-limited journal allowance regains one entry. -/
  | journalAllowanceRegain
  /-- HOURS (R465). One hour of rotation passes and an HOURS entry is due. -/
  | hours
  /-- WHEEL_EDGE (R155). A wheel input produces an edge that is accepted with a timestamp or rejected as a glitch. -/
  | wheelEdge (n : Fin 4) (at' : Int) (pol : Bool) (peak : Byte) (dip : Byte := 0) (held : Byte := 0)
  /-- EDGE_TAKE_IN (R158). Phase A takes an accepted edge in for matching and prediction. -/
  | edgeTakeIn (n : Fin 4)
  /-- VR_THRESHOLD_DECAY (R152). No edge for four times the last interval drops the VR threshold to ARM_FLOOR. -/
  | vrThresholdDecay (n : Fin 4)
  /-- WHEEL_NO_SIGNAL (R187). The published angle advances twice the largest interval without an edge on a configured input. -/
  | wheelNoSignal (n : Fin 4)
  /-- STALL_TIMEOUT (R249). No accepted edge arrives for STALL_TIME and stall is declared. -/
  | stallTimeout
  /-- DR_LIMIT_REACHED (R249). Dead reckoning travels DR_LIMIT and stall is declared. -/
  | drLimitReached
  /-- SNAPSHOT_TIMEOUT (R218). No snapshot arrives from the chosen position master for 4 ring cycles and RING is unavailable. -/
  | snapshotTimeout
  /-- BANK_GRANT (R320). A waiting injector channel is granted and enters BOOST. -/
  | bankGrant (k : Fin 24) (at' : Fin 403)
  /-- BANK_WAIT_TIMEOUT (R321). A waiting injection reaches MAX_DELAY and is refused. -/
  | bankWaitTimeout (k : Fin 24) (at' : Fin 403)
  /-- BOOST_THRESHOLD_REACHED (R314). The bank current reaches the boost threshold and the channel enters its transition. -/
  | boostThresholdReached (k : Fin 24) (at' : Fin 403)
  /-- BOOST_TIME_LIMIT (R344). T_BOOST_MAX elapses and the pulse is judged OPEN or PEAK_MISSED. -/
  | boostTimeLimit (k : Fin 24) (code : Byte) (at' : Fin 403)
  /-- TRANSITION_END (R315). The transition phase ends by T_TRANS or current and the channel enters HOLD. -/
  | transitionEnd (k : Fin 24) (fell : Bool) (at' : Fin 403)
  /-- HOLD_CHOP (R317). The bank current crosses a hold threshold and BANK_HSV is switched. -/
  | holdChop (n : Fin 6) (on : Bool) (at' : Fin 403)
  /-- INJ_HOLD_LOST (R344). The battery switch has been on 20 µs with the current below LO. -/
  | injHoldLost (n : Fin 6) (code : Byte)
  /-- INJ_OVERCURRENT (R345). The bank current reaches I_OC and the bank trips. -/
  | injOvercurrent (n : Fin 6)
  /-- INJ_IDLE_CURRENT (R346). Current flows with every gate inactive and the bank trips. -/
  | injIdleCurrent (n : Fin 6) (code : Byte)
  /-- BANK_TRIP_CLEAR (R345). A commit clearing TRIPPED re-admits starts in the bank. -/
  | bankTripClear (n : Fin 6) (still : Bool)
  /-- INJ_ENABLE_COMMIT (R326). A commit of INJ_ENABLE disables channels at the tick or re-enables them at their wrap. -/
  | injEnableCommit (v : DWord)
  /-- VALVE_PULL_END (R330). T_PULL elapses and the valve output enters its hold PWM. -/
  | valvePullEnd (v : Fin 16) (at' : Fin 403)
  /-- VALVE_START_DELAY_END (R332). OFF_MIN elapses and a delayed valve start executes. -/
  | valveStartDelayEnd (v : Fin 16) (at' : Fin 403)
  /-- VALVE_OPEN (R347). The valve feedback stays low for 50 µs while inactive and OPEN is set. -/
  | valveOpen (v : Fin 16)
  /-- VALVE_SHORT (R347). The valve feedback is high for 5 µs while on and the output is latched off. -/
  | valveShort (v : Fin 16) (at' : Fin 403)
  /-- SHORT_LATCH_CLEAR (R347). A commit clearing SHORT_LATCH releases a valve output. -/
  | shortLatchClear (mask : Word)
  /-- TIMER_MATCH (R364). A waiting compare arrives at its value, flags, raises its source and acts on its pin. -/
  | timerMatch (lead : Nat)
  /-- TIMER_OVERFLOW (R354). A count wraps to 0 and OVF is set. -/
  | timerOverflow (lead : Nat)
  /-- TIMER_PIN_CAPTURE (R370). A filtered TIO input edge captures the count of its linked channel. -/
  | timerPinCapture (k : Fin 8) (level : Bool) (lead : Nat) (held : Nat := 0)
  /-- CH_VALUE_COMMIT (R360). A commit of CH_VALUE arms a compare with the passed test at its commit edge. -/
  | chValueCommit (n : Fin 16) (v : DWord) (lead : Nat)
  /-- CH_CTRL_COMMIT (R360). A commit of CH_CTRL sets the mode and arms or ends a compare. -/
  | chCtrlCommit (n : Fin 16) (v : DWord) (lead : Nat)
  /-- TU_CFG_COMMIT (R373). A commit of TU_CFG changes prescale and chaining at its commit edge. -/
  | tuCfgCommit (u : Fin 4) (v : DWord) (lead : Nat)
  /-- TIMER_SNAP (R376). A commit to TIMER_SNAP copies all four counts at one edge. -/
  | timerSnap (lead : Nat)
  /-- TIO_SEL_COMMIT (R377). A commit of TIO_SEL requests a new pin function at the next tick. -/
  | tioSelCommit (k : Fin 8) (v : DWord)
  /-- CONV_WINDOW_OPEN (R401). An angle or time window open is applied at a CONV edge or refused as MISSED. -/
  | convWindowOpen (r : Fin 16)
  /-- CONV_WINDOW_CLOSE (R396). An angle window closes at its end edge and its result is written. -/
  | convWindowClose (r : Fin 16) (raw : Int) (clip : Bool := false)
  /-- TIME_WINDOW_COMPLETE (R396). A time window completes its length in modulator clocks and its result is written. -/
  | timeWindowComplete (k : Fin 2) (raw : Int) (clip : Bool := false)
  /-- PENDING_WINDOW_START (R402). A pending time window starts once its core is free. -/
  | pendingWindowStart (k : Fin 2) (at' : Fin 403)
  /-- PENDING_WINDOW_EXPIRE (R402). A pending time window reaches MAX_LAT and is MISSED. -/
  | pendingWindowExpire (r : Fin 17) (at' : Fin 403)
  /-- WINDOW_TRUNCATE (R399). A window reaches its length limit and closes TRUNCATED. -/
  | windowTruncate (k : Fin 2) (raw : Int) (clip : Bool := false)
  /-- CONV_SYNC_APPLY (R404). A SYNC is applied at a CONV edge, aborting a window or restarting the decimator. -/
  | convSyncApply (k : Fin 2)
  /-- DECIMATOR_OUTPUT (R407). A continuous core delivers a sinc³ output every OSR clocks. -/
  | decimatorOutput (k : Fin 2) (raw : Int) (varies : Option (Int × Int) := none) (clip : Bool := false)
  /-- CONV_START (R395). A commit to CONV_START opens host time windows at the next tick. -/
  | convStart (mask : Word)
  /-- CONV_SYNC (R404). A commit to CONV_SYNC sends a SYNC to a core. -/
  | convSync (mask : BitVec 2)
  /-- RING_TAIL_COMMIT (R414). A commit of RING_TAIL frees read result entries or is refused. -/
  | ringTailCommit (r : Fin 16) (v : DWord)
  /-- MONITOR_BURST (R420). Every 100 frames the supervisor runs two monitor windows on MON_CORE. -/
  | monitorBurst
  /-- VBAT_BAND_CHANGE (R477). VBAT crosses a band boundary and the supplies and boost change behaviour. -/
  | vbatBandChange (mv : Nat)
  /-- HOLDUP_UPDATE (R480). Every 100 µs the hold-up reserves are recomputed. -/
  | holdupUpdate (vhold : BitVec 10) (vpre : BitVec 10)
  /-- BOOST_CHARGE_CONTROL (R484). VBOOST crosses VSET − HYST or VSET and charging starts or stops. -/
  | boostChargeControl (meas : BitVec 10)
  /-- BOOST_START_TIMEOUT (R488). VBOOST does not reach VSET − HYST within START_MAX. -/
  | boostStartTimeout (ms : Nat := 0)
  /-- BOOST_OVERCURRENT (R488). The boost current reaches twice the limit and switching pauses for 1 ms. -/
  | boostOvercurrent (code : BitVec 10 := 0)
  /-- BOOST_OC_PAUSE_END (R488). The 1 ms boost overcurrent pause ends. -/
  | boostOcPauseEnd
  /-- RAIL_OUT_OF_REG (R490). A rail leaves its window and its out-of-regulation fault is raised. -/
  | railOutOfReg (r : Rail)
  /-- POWER_STATE_CHANGE (R497). An input of the state choice changes and the device begins a change of power state. -/
  | powerStateChange
  /-- DEFERRED_ENTRY (R499). The last deferring activity ends and the deferred deeper state is entered. -/
  | deferredEntry
  /-- WAKE (R503). An enabled wake event ends WATCH or RETAIN. -/
  | wake (code : Fin 8)
  /-- WAKE_DWELL_END (R498). The wake dwell of DWELL ms ends. -/
  | wakeDwellEnd (ms : Nat := 0)
  /-- KEY_IN_CHANGE (R505). KEY_IN changes level and may wake or key off the device. -/
  | keyInChange (high : Bool)
  /-- KEYOFF_DELAY_EXPIRE (R497). KEY_IN has stayed low for KEYOFF_DELAY and OFF may be chosen. -/
  | keyoffDelayExpire (held : Nat := 0)
  /-- RING_CYCLE_START (R520). The ring master originates a ring cycle at every 100th frame tick. -/
  | ringCycleStart (run : Word) (grants : List RingGrant)
  /-- BEACON_RECEIVE (R525). A node receives a Solstice beacon and acts on it when valid. -/
  | beaconReceive (bytes : Vector Byte 31) (errors : Byte) (arrive : Fin 2011) (run : Word)
  /-- CYCLE_RETURN (R521). A cycle returns to the master, which reads the loop delay and forwards the areas. -/
  | cycleReturn (bytes : Vector Byte 31) (errors : Byte) (areas : CycleAreas := {})
  /-- SNAPSHOT_RECEIVE (R544). A follower takes a valid snapshot of its position master and anchors its RING model. -/
  | snapshotReceive (bytes : Vector Byte 24) (errors : Byte) (previous : Bool)
  /-- STATUS_ENTRY_RECEIVE (R556). A node reads a status entry carrying presence and remote-write reports. -/
  | statusEntryReceive (node : Byte) (entry : Vector Byte 4) (errors : Fin 5 := 0)
  /-- WRITE_MESSAGE (R555). A target applies a posted remote WRITE or refuses it with a NACK. -/
  | writeMessage (cell : RingCell) (phaseG : Bool)
  /-- NACK_MESSAGE (R557). An initiator receives a NACK refusing one of its writes. -/
  | nackMessage (cell : RingCell)
  /-- CONFIRM_MESSAGE (R556). An initiator receives a CONFIRM with a target's counts. -/
  | confirmMessage (cell : RingCell)
  /-- JOIN_MESSAGE (R562). The master receives a JOIN and grants quota and slot. -/
  | joinMessage (cell : RingCell)
  /-- JOIN_ACK_MESSAGE (R561). A joining node receives JOIN_ACK and becomes inserted or withdraws. -/
  | joinAckMessage (cell : RingCell)
  /-- LEAVE_MESSAGE (R565). The master receives LEAVE and frees the node's quota and slot. -/
  | leaveMessage (cell : RingCell)
  /-- HOST_MESSAGE (R553). A target claims a HOST cell and stores an inbound entry. -/
  | hostMessage (cell : RingCell)
  /-- CELL_RETURNED (R548). A cell returns to its origin unclaimed and is recorded by type. -/
  | cellReturned (cell : RingCell)
  /-- OUTBOUND_ENTRY_SEND (R552). The device takes a valid outbound entry and inserts it as a HOST cell. -/
  | outboundEntrySend
  /-- OUTBOUND_DELIVERED (R552). A sent cell has not returned in 2 cycles and its entry is marked delivered. -/
  | outboundDelivered (e : Fin 128)
  /-- RING_RX_TAIL_COMMIT (R553). A commit of RING_RX_TAIL frees read inbound entries. -/
  | ringRxTailCommit (v : DWord)
  /-- REMOTE_WRITE_EXPIRE (R551). A WRITE not sent within 2 cycles is withdrawn as EXPIRED. -/
  | remoteWriteExpire (tag : Byte)
  /-- REMOTE_WRITE_JUDGE (R557). Eight cycles after a post the initiator judges its writes to a target. -/
  | remoteWriteJudge (tag : Byte)
  /-- RING_MASTER_LOST (R535). Four cycle periods pass without a valid beacon. -/
  | ringMasterLost
  /-- MASTER_ELECTION (R528). A master-capable node's key-weighted wait ends and it becomes ring master. -/
  | masterElection (periods : Nat := 0)
  /-- RING_BROKEN (R568). The master receives no valid beacon of its own for 4 cycle periods. -/
  | ringBroken
  /-- RING_JOIN_FAILED (R563). No JOIN_ACK arrives within 8 cycles and the node withdraws. -/
  | ringJoinFailed
  /-- JOIN_RETRY (R563). After 64 cycles a withdrawn node tries to insert again. -/
  | joinRetry
  /-- RING_FOUND (R695). A listening master-capable node hears no beacon and founds the ring. -/
  | ringFound (periods : Nat := 0)
  /-- INSERT_ENABLE (R561). A write of INSERT_EN starts listening for insertion. -/
  | insertEnable
  /-- RING_LEAVE (R564). A write of LEAVE makes the node send LEAVE and close its bypass. -/
  | ringLeave
  /-- TWIN_FRAME_RECEIVE (R574). A member receives its partner's twin frame. -/
  | twinFrameReceive (bytes : Vector Byte 23) (symErr : Bool) (arrival : Word)
  /-- TWIN_LINK_LOST (R575). Four frame periods pass without a valid twin frame and LINK_UP falls. -/
  | twinLinkLost
  /-- MIRROR_BLOCK (R586). A BLOCK mirror packet is received. -/
  | mirrorBlock
  /-- MIRROR_COMMIT (R586). A COMMIT mirror packet is received. -/
  | mirrorCommit
  /-- MIRROR_DIRECT (R586). A DIRECT mirror packet is received. -/
  | mirrorDirect
  /-- MIRROR_APPLY (R586). An APPLY packet completes a mirror group. -/
  | mirrorApply
  /-- MIRROR_GROUP_TAKE_IN (R586). At the next tick the mirror group takes effect and MCOUNT takes its value. -/
  | mirrorGroupTakeIn
  /-- CAPTURE_PACKET (R590). A CAPTURE packet of the owner's model is received. -/
  | capturePacket
  /-- CAPTURE_APPLY (R590). At the next tick the non-owner applies or discards the capture. -/
  | captureApply
  /-- HELLO (R588). A HELLO packet gives the partner's identity and PFN. -/
  | hello
  /-- TWIN_ENABLE (R580). A write of TWIN_EN operates or isolates the device as a twin member. -/
  | twinEnable (en : Bool) (phaseG : Bool)
  /-- TWIN_ISOLATE (R580). A write of ISOLATE requests the ISOLATED state. -/
  | twinIsolate (en : Bool) (phaseG : Bool)
  /-- TWIN_REJOIN (R589). A write of REJOIN starts an Equinox rejoin. -/
  | twinRejoin (en : Bool) (phaseG : Bool)
  /-- FOUNDING_CLAIM (R592). A protected HANDOVER write to a non-owner claims ownership when the partner line is released. -/
  | foundingClaim (en : Bool) (phaseG : Bool)
  /-- PLANNED_HANDOVER (R594). A protected HANDOVER write to the owner schedules a hand-over at frame H. -/
  | plannedHandover (en : Bool) (phaseG : Bool)
  /-- HANDOVER_EXECUTE (R594). At tick H the owner releases and its READY partner claims. -/
  | handoverExecute
  /-- TWIN_TAKEOVER (R596). A READY member claims the gates after the owner's line has been released for 200 ns. -/
  | twinTakeover
  /-- TWIN_OWNER_COLLISION (R593). Both members assert ownership and seat B releases. -/
  | twinOwnerCollision
  /-- CIPHER_START (R615). A commit to CIPHER_START queues jobs or refuses them for ownership. -/
  | cipherStart (mask : Byte)
  /-- GCM_ENCRYPT (R617). A GCM_ENCRYPT job runs and writes ciphertext and tag. -/
  | gcmEncrypt (wait : Word)
  /-- GCM_DECRYPT (R618). A GCM_DECRYPT job verifies the tag and then writes plaintext. -/
  | gcmDecrypt (wait : Word)
  /-- CTR (R604). A CTR job runs and writes its output. -/
  | ctr (wait : Word)
  /-- CMAC_GENERATE (R604). A CMAC_GENERATE job writes a tag. -/
  | cmacGenerate (wait : Word)
  /-- CMAC_VERIFY (R618). A CMAC_VERIFY job compares a tag in constant time. -/
  | cmacVerify (wait : Word)
  /-- DERIVE (R609). A DERIVE job derives a key into a slot. -/
  | derive (wait : Word)
  /-- UNWRAP (R612). An UNWRAP job unwraps a blob into a slot or fails. -/
  | unwrap (wait : Word)
  /-- CIPHER_ERASE (R608). A commit to CIPHER_ERASE empties the named slots. -/
  | cipherErase (mask : Word) (time : Word)
  /-- KEY_ALARM (R622). An alarm detector fires and every slot is emptied and jobs aborted. -/
  | keyAlarm (cause : Fin 4) (time : Word)
  /-- ALARM_LATCH_CLEAR (R623). A write clearing LATCH with no cause persisting re-enables cipher functions. -/
  | alarmLatchClear (persists : BitVec 3)
  /-- CAN_FRAME_RECEIVE (R644). A received CAN frame is placed in a buffer or lost. -/
  | canFrameReceive (f : CanFrame)
  /-- MB_TX_REQUEST (R646). A commit setting TX_REQ queues a host buffer's frame. -/
  | mbTxRequest (b : Fin 12) (v : DWord)
  /-- MB_TX_ABORT (R646). A commit clearing TX_REQ aborts a queued frame. -/
  | mbTxAbort (b : Fin 12) (v : DWord) (sending : Bool)
  /-- CAN_TX_COMPLETE (R646). A queued frame is transmitted and TX_DONE is set. -/
  | canTxComplete (queued : Word)
  /-- MB_FULL_CLEAR (R645). Clearing FULL releases a receive buffer. -/
  | mbFullClear (b : Fin 12) (v : DWord)
  /-- CAN_CFG_COMMIT (R639). A commit of CAN_CFG enables or disables the controller at the bus-idle point. -/
  | canCfgCommit (v : DWord)
  /-- CAN_BUS_OFF (R642). The transmit error counter passes 255 and the controller goes bus-off. -/
  | canBusOff
  /-- CAN_BUSOFF_RECOVERY (R642). Bus-off recovery completes and the controller rejoins the bus. -/
  | canBusoffRecovery
  /-- SINGLE_FRAME (R647). A diagnostic single frame delivers a whole request. -/
  | singleFrame
  /-- FIRST_FRAME (R647). A diagnostic first frame starts a segmented request and a flow control is sent. -/
  | firstFrame
  /-- CONSECUTIVE_FRAME (R647). A diagnostic consecutive frame continues a segmented request. -/
  | consecutiveFrame
  /-- FLOW_CONTROL (R647). A tester flow control paces a segmented response. -/
  | flowControl
  /-- ISOTP_TIMEOUT (R647). N_Bs or N_Cr expires and the transfer ends. -/
  | isotpTimeout (sending : Bool)
  /-- DIAGNOSTIC_SESSION_CONTROL (R649). Service 0x10 changes the diagnostic session and relocks security. -/
  | diagnosticSessionControl
  /-- ECU_RESET (R653). Service 0x11 hardReset resets the device unless the engine rotates. -/
  | ecuReset
  /-- CLEAR_DIAGNOSTIC_INFORMATION (R665). Service 0x14 writes a CLEARED marker that empties the trouble-code memory. -/
  | clearDiagnosticInformation (fails : Nat := 0)
  /-- REPORT_NUMBER_OF_DTC_BY_STATUS_MASK (R667). Service 0x19 sub-function 0x01 reports the count of matching trouble codes. -/
  | reportNumberOfDtcByStatusMask
  /-- REPORT_DTC_BY_STATUS_MASK (R667). Service 0x19 sub-function 0x02 reports matching trouble codes with status. -/
  | reportDtcByStatusMask
  /-- REPORT_DTC_SNAPSHOT_RECORD (R667). Service 0x19 sub-function 0x04 reports snapshot records of a trouble code. -/
  | reportDtcSnapshotRecord
  /-- REPORT_DTC_EXTENDED_DATA_RECORD (R667). Service 0x19 sub-function 0x06 reports extended data records. -/
  | reportDtcExtendedDataRecord
  /-- READ_DATA_BY_IDENTIFIER (R655). Service 0x22 returns the named Halanatum data identifiers. -/
  | readDataByIdentifier
  /-- WRITE_DATA_BY_IDENTIFIER (R655). Service 0x2E writes a writable data identifier. -/
  | writeDataByIdentifier
  /-- REQUEST_SEED (R658). SecurityAccess requestSeed issues a 16-byte seed for a level. -/
  | requestSeed
  /-- SEND_KEY (R660). SecurityAccess sendKey compares the key with the CMAC of the seed and unlocks the level. -/
  | sendKey (time : Word)
  /-- SECURITY_DELAY_END (R661). The 10 s security delay ends. -/
  | securityDelayEnd
  /-- COMMUNICATION_CONTROL (R654). Service 0x28 stops or restores host buffer transmission and reception. -/
  | communicationControl
  /-- ROUTINE_JOURNAL_READ (R656). Routine 0xFE10 returns journal entries. -/
  | routineJournalRead
  /-- TAG_REFRESH (R656). Routine 0xFE11 starts a service tag update. -/
  | tagRefresh
  /-- ROUTINE_KEY_PURGE (R656). Routine 0xFE12 raises a firmware alarm that empties the slots. -/
  | routineKeyPurge (time : Word)
  /-- TESTER_PRESENT (R652). Service 0x3E keeps the session alive. -/
  | testerPresent
  /-- CONTROL_DTC_SETTING (R663). Service 0x85 turns the DTC setting on or off and journals a marker. -/
  | controlDtcSetting (fails : Nat := 0)
  /-- UNSUPPORTED_SERVICE (R652). A request for a service not answered or forwarded is answered with 0x11. -/
  | unsupportedService
  /-- FORWARDED_REQUEST (R669). A forwardable request is handed to the host and source 59 is raised. -/
  | forwardedRequest
  /-- FORWARD_TIMEOUT (R669). FWD_TIMEOUT passes without a final SERVICE_PUT and the tester gets generalReject. -/
  | forwardTimeout (ms : Word := 0)
  /-- RESPONSE_PENDING (R650). The supervisor sends responsePending while a response is not ready. -/
  | responsePending
  /-- SESSION_TIMEOUT (R649). The S3 timer expires and the default session returns. -/
  | sessionTimeout
  /-- TAG_PUMP_READY (R685). The charge pump has started and the valid mark drive begins. -/
  | tagPumpReady
  /-- TAG_DRIVE_PHASE_END (R676). A drive phase of T_DRIVE ends and the update moves to its next step. -/
  | tagDrivePhaseEnd
  /-- TAG_JOURNAL_DONE (R686). The TAG_STARTED or TAG_COMPLETE entry has been written. -/
  | tagJournalDone (ok : Bool) (eraseOk : Bool) (fails : Nat := 0)
  /-- TAG_FAILED (R688). The pump leaves its range or a read-back fails and the update fails. -/
  | tagFailed
  /-- TAG_RECOVERY_START (R690). A pending recovery update starts as soon as its conditions allow. -/
  | tagRecoveryStart
  /-- TAG_SKIPPED (R683). The 2 s wait at entry to OFF ends without the start conditions and the update is skipped. -/
  | tagSkipped
  /-- TAG_DUE_RECOMPUTE (R680). The supervisor recomputes TAG_DUE after its inputs change. -/
  | tagDueRecompute
  /-- TAP_RESET (R747). The test access port is reset and IDCODE is selected. -/
  | tapReset
  /-- EXTEST (R749). EXTEST drives output balls with cells from the boundary register. -/
  | extest (scan : Option DrScan)
  /-- IDCODE (R748). IDCODE selects the 32-bit identification register. -/
  | idcode
  /-- SAMPLE_PRELOAD (R749). SAMPLE/PRELOAD samples and loads the boundary register. -/
  | samplePreload (scan : Option DrScan)
  /-- BYPASS (R747). BYPASS selects the one-bit bypass register. -/
  | bypass
  /-- MBX_DOORBELL (R106). A write of 1 to MBX_DOORBELL.RING is judged: refused with MBX_BUSY or NOT_RETURNED, or accepted with BUSY set,
  including a command whose code is unknown and is answered 0x0001. -/
  | mbxDoorbell
  /-- SUPERVISOR_COMMIT_TAKE_IN (R46). The supervisor or block acts on a commit to the cipher, CAN FD, display, power or ring region, up
  to 1 µs, 100 µs or 100 ms after the commit arrived. -/
  | supervisorCommitTakeIn (time : Word) (persists : BitVec 3) (sending : Bool)
  /-- RAIL_IN_REGULATION (R489). VPRE, VCORE or VIO comes back within its window, its OK flag rises and its standing out-of-regulation
  record stops standing. -/
  | railInRegulation (r : Rail)
  /-- CAN_BUS_ERROR (R642). The controller detects a stuff, form, acknowledgement, bit or CRC error, updates TEC, REC and LAST_ERR, and
  may enter error-passive. -/
  | canBusError (kind : CanError) (tec : Byte) (rec : Byte)
  /-- STMIN_ELAPSED (R647). The STmin separation time set by the tester elapses and the supervisor sends the next consecutive frame of a
  segmented response. -/
  | stminElapsed (us : DWord := 0)
  /-- VALVE_OPEN_CLEAR (R347). VALVE_FB_v goes high and OPEN_v clears. -/
  | valveOpenClear (v : Fin 16)
  /-- VALVE_PWM_TRANSITION (R330). A hold PWM period of a valve output reaches its on or off point and the pin switches, restarting the 5
  µs blanking of the short check. -/
  | valvePwmTransition (v : Fin 16) (at' : Fin 403)
  deriving DecidableEq, Repr

end Sys2Proof
end

