-- ==== Sys2Proof/Decode.lean ====
section
/-!
DEFINITION. The decoder of the table's words. The block takes commands from outside and spec/opcode_table.json gives no row any
bits, so no word spells a command.
-/

namespace Sys2Proof

/-- The command that a word of the table spells: none, as the table gives no row any bits. -/
def decodeTableWord (_nbits _w : Nat) : Option Instr := none

end Sys2Proof
end

