-- ==== Sys2Proof/Machine/Bits.lean ====
section
/-!
DEFINITION. Helpers the whole machine uses: bit fields of registers, maps held as canonical sparse lists, fixed arrays,
check sums (R754) and byte strings. Nothing here knows the machine's state.
-/

namespace Sys2Proof.Machine

/-! ## Bit fields -/

/-- Bits `hi` to `lo` of `v`, as a number. -/
def bitsOf (v : Nat) (hi lo : Nat) : Nat := v / 2 ^ lo % 2 ^ (hi + 1 - lo)

/-- `v` with bits `hi` to `lo` replaced by `x` (taken modulo the field's width). -/
def putBits (v : Nat) (hi lo x : Nat) : Nat :=
  v - bitsOf v hi lo * 2 ^ lo + (x % 2 ^ (hi + 1 - lo)) * 2 ^ lo

/-- Bit `i` of `v`. -/
def bitOf (v i : Nat) : Bool := v / 2 ^ i % 2 == 1

/-- A Boolean as a bit. -/
def b2n (b : Bool) : Nat := if b then 1 else 0

/-- A `w`-bit number read as two's complement. -/
def signedOf (w v : Nat) : Int := if v < 2 ^ (w - 1) then (v : Int) else (v : Int) - (2 ^ w : Nat)

/-- An integer stored in `w` bits, two's complement. -/
def unsignedOf (w : Nat) (x : Int) : Nat := (x % ((2 ^ w : Nat) : Int)).toNat

/-- Addition that stops at `top`. -/
def satAdd (top a b : Nat) : Nat := min top (a + b)

/-- An integer held between two bounds. -/
def clampInt (lo hi x : Int) : Int := if x < lo then lo else if hi < x then hi else x

/-- Division of integers rounded to the nearest, halves up. -/
def divRoundHalfUp (a b : Int) : Int := Int.fdiv (2 * a + b) (2 * b)

/-- Division of natural numbers rounded up. -/
def ceilDiv (a b : Nat) : Nat := (a + b - 1) / b

/-! ## Sparse maps in canonical form

A map from addresses to values is a list of pairs with strictly rising addresses, in which no entry equals the value an
unlisted address reads as. -/

namespace Sparse

/-- The listed value at `k`. -/
def find? {V : Type} : List (Nat × V) → Nat → Option V
  | [], _ => none
  | (a, v) :: l, k => if a = k then some v else find? l k

/-- The list without an entry at `k`. -/
def erase {V : Type} : List (Nat × V) → Nat → List (Nat × V)
  | [], _ => []
  | (a, v) :: l, k => if a = k then l else if k < a then (a, v) :: l else (a, v) :: erase l k

/-- The list without any entry at `k`, whatever its order. -/
def drop {V : Type} (l : List (Nat × V)) (k : Nat) : List (Nat × V) := l.filter fun x => x.1 != k

/-- The list with `v` at `k`, in its place. -/
def insert {V : Type} : List (Nat × V) → Nat → V → List (Nat × V)
  | [], k, v => [(k, v)]
  | (a, w) :: l, k, v =>
    if a = k then (k, v) :: l else if k < a then (k, v) :: (a, w) :: l else (a, w) :: insert l k v

/-- Reads `k`; an unlisted address reads as `d k`. -/
def get {V : Type} (d : Nat → V) (l : List (Nat × V)) (k : Nat) : V := (find? l k).getD (d k)

/-- Writes `v` at `k`, keeping the canonical form. -/
def set {V : Type} [DecidableEq V] (d : Nat → V) (l : List (Nat × V)) (k : Nat) (v : V) : List (Nat × V) :=
  if v = d k then erase l k else insert l k v

/-- All addresses of the list lie above `b`. -/
def above {V : Type} (b : Nat) : List (Nat × V) → Bool
  | [] => true
  | (a, _) :: _ => b < a

/-- The canonical form. -/
def wf {V : Type} [DecidableEq V] (d : Nat → V) : List (Nat × V) → Bool
  | [] => true
  | (a, v) :: l => above a l && !(v = d a : Bool) && wf d l

end Sparse

/-! ## Lists and fixed arrays -/

/-- The `i`-th element, or `d`. -/
def at? {α : Type} {n : Nat} (v : Vector α n) (i : Nat) (d : α) : α := (v[i]?).getD d

/-- The array with element `i` passed through `f`; unchanged where there is no such element. -/
def modAt {α : Type} {n : Nat} (v : Vector α n) (i : Nat) (f : α → α) : Vector α n :=
  match v[i]? with
  | some x => v.setIfInBounds i (f x)
  | none => v

/-- The list without its elements equal to `x`. -/
def without {α : Type} [DecidableEq α] (l : List α) (x : α) : List α := l.filter fun y => !(y = x : Bool)

/-- The list without its first element that satisfies `p`. -/
def dropFirst {α : Type} (p : α → Bool) : List α → List α
  | [] => []
  | a :: l => if p a then l else a :: dropFirst p l

/-- The list with its first element that satisfies `p` passed through `f`. -/
def modFirst {α : Type} (p : α → Bool) (f : α → α) : List α → List α
  | [] => []
  | a :: l => if p a then f a :: l else a :: modFirst p f l

/-! ## Byte strings -/

/-- The little-endian value of a byte string. -/
def leValue : List Byte → Nat
  | [] => 0
  | b :: l => b.toNat + 256 * leValue l

/-- The `n` bytes of `v`, least significant first. -/
def leBytes : Nat → Nat → List Byte
  | 0, _ => []
  | n + 1, v => BitVec.ofNat 8 v :: leBytes n (v / 256)

/-- The big-endian value of a byte string. -/
def beValue (l : List Byte) : Nat := leValue l.reverse

/-- The `n` bytes of `v`, most significant first. -/
def beBytes (n v : Nat) : List Byte := (leBytes n v).reverse

/-- The string cut or filled with zeros to `n` bytes. -/
def fitBytes (n : Nat) (l : List Byte) : List Byte := (l ++ List.replicate n 0).take n

/-! ## Check sums (R754) -/

/-- One bit step of the CRC-16 register. -/
def crc16Bit (r : Word) : Word := if r.msb then (r <<< 1) ^^^ 0x1021#16 else r <<< 1

/-- `n` steps of a register. -/
def stepN {α : Type} (f : α → α) : Nat → α → α
  | 0, x => x
  | n + 1, x => stepN f n (f x)

/-- CRC-16 of a byte string: polynomial 0x1021, initial value 0xFFFF, most significant bit first (R754). -/
def crc16 (l : List Byte) : Word :=
  l.foldl (fun r b => stepN crc16Bit 8 (r ^^^ BitVec.ofNat 16 (b.toNat * 256))) 0xFFFF#16

/-- One bit step of the CRC-8 register. -/
def crc8Bit (r : Byte) : Byte := if r.msb then (r <<< 1) ^^^ 0x07#8 else r <<< 1

/-- CRC-8 of a byte string: polynomial 0x07, initial value 0x00 (R754). -/
def crc8 (l : List Byte) : Byte := l.foldl (fun r b => stepN crc8Bit 8 (r ^^^ b)) 0#8

end Sys2Proof.Machine
end

