-- ==== Sys2Proof/Machine/Aes.lean ====
section
/-!
DEFINITION. AES with 128-bit and 256-bit keys (FIPS 197) and the modes of R604: CTR, GCM, CMAC, key derivation and key
unwrapping. Blocks and keys are byte strings, first byte first.
-/

namespace Sys2Proof.Machine

namespace Aes

/-! ## The block cipher -/

/-- The S-box of FIPS 197, entry `i` in bits 8i + 7 to 8i, sixteen entries a line. -/
def sboxBits : Nat :=
  0x76ABD7FE2B670130C56F6BF27B777C63 +
  0xC072A49CAFA2D4ADF04759FA7DC982CA * 2 ^ 128 +
  0x1531D871F1E5A534CCF73F362693FDB7 * 2 ^ 256 +
  0x75B227EBE28012079A059618C323C704 * 2 ^ 384 +
  0x842FE329B3D63B52A05A6E1B1A2C8309 * 2 ^ 512 +
  0xCF584C4A39BECB6A5BB1FC20ED00D153 * 2 ^ 640 +
  0xA89F3C507F02F94585334D43FBAAEFD0 * 2 ^ 768 +
  0xD2F3FF1021DAB6BCF5389D928F40A351 * 2 ^ 896 +
  0x73195D643D7EA7C41744975FEC130CCD * 2 ^ 1024 +
  0xDB0B5EDE14B8EE4688902A22DC4F8160 * 2 ^ 1152 +
  0x79E4959162ACD3C25C2406490A3A32E0 * 2 ^ 1280 +
  0x08AE7A65EAF4566CA94ED58D6D37C8E7 * 2 ^ 1408 +
  0x8A8BBD4B1F74DDE8C6B4A61C2E2578BA * 2 ^ 1536 +
  0x9E1DC186B95735610EF6034866B53E70 * 2 ^ 1664 +
  0xDF2855CEE9871E9B948ED9691198F8E1 * 2 ^ 1792 +
  0x16BB54B00F2D99416842E6BF0D89A18C * 2 ^ 1920

/-- The inverse S-box. -/
def invBits : Nat :=
  0xFBD7F3819EA340BF38A53630D56A0952 +
  0xCBE9DEC444438E3487FF2F9B8239E37C * 2 ^ 128 +
  0x4EC3FA420B954CEE3D23C2A632947B54 * 2 ^ 256 +
  0x25D18B6D49A25B76B224D92866A12E08 * 2 ^ 384 +
  0x92B6655DCC5CA4D41698688664F6F872 * 2 ^ 512 +
  0x849D8DA75746155EDAB9EDFD5048706C * 2 ^ 640 +
  0x0645B3B80558E4F70AD3BC8C00ABD890 * 2 ^ 768 +
  0x6B8A130103BDAFC1020F3FCA8F1E2CD0 * 2 ^ 896 +
  0x73E6B4F0CECFF297EADC674F4111913A * 2 ^ 1024 +
  0x6EDF751CE837F9E28535ADE72274AC96 * 2 ^ 1152 +
  0x1BBE18AA0E62B76F89C5291D711AF147 * 2 ^ 1280 +
  0xF45ACD78FEC0DB9A2079D2C64B3E56FC * 2 ^ 1408 +
  0x5FEC8027591012B131C7078833A8DD1F * 2 ^ 1536 +
  0xEF9CC9939F7AE52D0D4AB519A97F5160 * 2 ^ 1664 +
  0x619953833CBBEBC8B0F52AAE4D3BE0A0 * 2 ^ 1792 +
  0x7D0C2155631469E126D677BA7E042B17 * 2 ^ 1920

/-- The S-box. -/
def sub (b : Byte) : Byte := BitVec.ofNat 8 (sboxBits / 2 ^ (8 * b.toNat))

/-- The inverse S-box. -/
def invSub (b : Byte) : Byte := BitVec.ofNat 8 (invBits / 2 ^ (8 * b.toNat))

/-- Multiplication by x in GF(2^8). -/
def xtime (b : Byte) : Byte := if b.msb then (b <<< 1) ^^^ 0x1B#8 else b <<< 1

/-- Bytewise exclusive or; the longer string is cut. -/
def xor (a b : List Byte) : List Byte := List.zipWith (· ^^^ ·) a b

/-- One column of MixColumns. -/
def mixColumn : List Byte → List Byte
  | [a, b, c, d] =>
    [xtime a ^^^ (xtime b ^^^ b) ^^^ c ^^^ d, a ^^^ xtime b ^^^ (xtime c ^^^ c) ^^^ d,
     a ^^^ b ^^^ xtime c ^^^ (xtime d ^^^ d), (xtime a ^^^ a) ^^^ b ^^^ c ^^^ xtime d]
  | l => l

/-- A byte times 9, 11, 13 or 14 in GF(2^8), from its doublings. -/
def times (k : Nat) (b : Byte) : Byte :=
  let b2 := xtime b
  let b4 := xtime b2
  let b8 := xtime b4
  match k with
  | 9 => b8 ^^^ b
  | 11 => b8 ^^^ b2 ^^^ b
  | 13 => b8 ^^^ b4 ^^^ b
  | _ => b8 ^^^ b4 ^^^ b2

/-- One column of InvMixColumns. -/
def invMixColumn : List Byte → List Byte
  | [a, b, c, d] =>
    [times 14 a ^^^ times 11 b ^^^ times 13 c ^^^ times 9 d, times 9 a ^^^ times 14 b ^^^ times 11 c ^^^ times 13 d,
     times 13 a ^^^ times 9 b ^^^ times 14 c ^^^ times 11 d, times 11 a ^^^ times 13 b ^^^ times 9 c ^^^ times 14 d]
  | l => l

/-- A string cut into pieces of `n` bytes; the last may be shorter. `fuel` bounds the number of pieces. -/
def chunks (n : Nat) : Nat → List Byte → List (List Byte)
  | 0, _ => []
  | _ + 1, [] => []
  | fuel + 1, l => l.take n :: chunks n fuel (l.drop n)

/-- A string cut into blocks of 16 bytes. -/
def blocks (l : List Byte) : List (List Byte) := chunks 16 l.length l

/-- ShiftRows: byte `4c + r` comes from column `c + r`. -/
def shiftRows (s : List Byte) : List Byte := (List.range 16).map fun i => s.getD ((i + 4 * (i % 4)) % 16) 0

/-- InvShiftRows. -/
def invShiftRows (s : List Byte) : List Byte := (List.range 16).map fun i => s.getD ((i + 12 * (i % 4)) % 16) 0

/-- MixColumns. -/
def mixColumns (s : List Byte) : List Byte := (chunks 4 4 s).flatMap mixColumn

/-- InvMixColumns. -/
def invMixColumns (s : List Byte) : List Byte := (chunks 4 4 s).flatMap invMixColumn

/-- The number of words of a key, 4 or 8, from its length in bytes. -/
def keyWords (key : List Byte) : Nat := if key.length = 32 then 8 else 4

/-- The number of rounds: 10 or 14. -/
def rounds (key : List Byte) : Nat := keyWords key + 6

/-- The next word of the key schedule: `ws` are the words so far, newest first, `i` the number of this one. -/
def nextWord (nk i : Nat) (rcon : Byte) (ws : List (List Byte)) : List Byte :=
  let t := ws.headD []
  let t' :=
    if i % nk = 0 then
      match t.map sub with
      | [a, b, c, d] => [b ^^^ rcon, c, d, a]
      | l => l
    else if nk = 8 ∧ i % 8 = 4 then t.map sub
    else t
  xor t' (ws.getD (nk - 1) [])

/-- `n` more words of the key schedule. -/
def expandFrom (nk : Nat) : Nat → Nat → Byte → List (List Byte) → List (List Byte)
  | 0, _, _, ws => ws
  | n + 1, i, rcon, ws =>
    expandFrom nk n (i + 1) (if i % nk = 0 then xtime rcon else rcon) (nextWord nk i rcon ws :: ws)

/-- The round keys, 16 bytes each (KeyExpansion). -/
def roundKeys (key : List Byte) : List (List Byte) :=
  let nk := keyWords key
  let ws := expandFrom nk (4 * (rounds key + 1) - nk) nk 1#8 (chunks 4 nk key).reverse
  blocks ws.reverse.flatten

/-- The rounds after the first key addition. -/
def encRounds : List (List Byte) → List Byte → List Byte
  | [], s => s
  | [k], s => xor (shiftRows (s.map sub)) k
  | k :: ks, s => encRounds ks (xor (mixColumns (shiftRows (s.map sub))) k)

/-- Encryption of one block under round keys. -/
def encWith (ks : List (List Byte)) (b : List Byte) : List Byte :=
  match ks with
  | [] => b
  | k :: rest => encRounds rest (xor b k)

/-- The rounds of decryption: round keys in reverse order. -/
def decRounds : List (List Byte) → List Byte → List Byte
  | [], s => s
  | [k], s => xor ((invShiftRows s).map invSub) k
  | k :: ks, s => decRounds ks (invMixColumns (xor ((invShiftRows s).map invSub) k))

/-- Decryption of one block under round keys. -/
def decWith (ks : List (List Byte)) (b : List Byte) : List Byte :=
  match ks.reverse with
  | [] => b
  | k :: rest => decRounds rest (xor b k)

/-- AES encryption of one block. -/
def encrypt (key b : List Byte) : List Byte := encWith (roundKeys key) b

/-- AES decryption of one block. -/
def decrypt (key b : List Byte) : List Byte := decWith (roundKeys key) b

/-! ## CTR (R604) -/

/-- The counter block `i` places after `iv`: the last 32 bits, big-endian, modulo 2^32. -/
def counterBlock (iv : List Byte) (i : Nat) : List Byte := iv.take 12 ++ beBytes 4 (beValue (iv.drop 12) + i)

/-- CTR mode from counter block `iv` on; it encrypts and decrypts. -/
def ctr (key iv data : List Byte) : List Byte :=
  let ks := roundKeys key
  ((blocks data).zipIdx.map fun p => xor p.1 (encWith ks (counterBlock iv p.2))).flatten

/-! ## CMAC (R604) -/

/-- Doubling in GF(2^128) as SP 800-38B has it: a left shift, reduced with 0x87. -/
def dbl (b : List Byte) : List Byte :=
  let v := beValue b
  beBytes 16 (if 2 ^ 127 ≤ v then (2 * v % 2 ^ 128) ^^^ 0x87 else 2 * v)

/-- CMAC of a message, 16 bytes. -/
def cmac (key msg : List Byte) : List Byte :=
  let ks := roundKeys key
  let k1 := dbl (encWith ks (List.replicate 16 0))
  let bs := blocks msg
  let lastB := bs.getLastD []
  let m := if lastB.length = 16 then xor lastB k1 else xor (fitBytes 16 (lastB ++ [0x80#8])) (dbl k1)
  encWith ks (xor (bs.dropLast.foldl (fun x b => encWith ks (xor x b)) (List.replicate 16 0)) m)

/-! ## GCM (R604) -/

/-- One bit step of the product in GF(2^128): `z` gathers, `v` is the running multiple, bit 0 leftmost. -/
def gfStep (x : Nat) (p : Nat × Nat) (i : Nat) : Nat × Nat :=
  (if x / 2 ^ (127 - i) % 2 = 1 then p.1 ^^^ p.2 else p.1,
   if p.2 % 2 = 1 then p.2 / 2 ^^^ 0xE1 * 2 ^ 120 else p.2 / 2)

/-- The product in GF(2^128) as SP 800-38D has it. -/
def gfMul (x y : Nat) : Nat := ((List.range 128).foldl (gfStep x) (0, y)).1

/-- GHASH of whole blocks under `h`. -/
def ghash (h : Nat) (bs : List (List Byte)) : Nat := bs.foldl (fun y b => gfMul (y ^^^ beValue b) h) 0

/-- The full GCM tag of additional data and ciphertext under a 96-bit IV. -/
def gcmTag (key iv aad ct : List Byte) : List Byte :=
  let ks := roundKeys key
  let pad (l : List Byte) : List (List Byte) := (blocks l).map (fitBytes 16)
  let h := beValue (encWith ks (List.replicate 16 0))
  let s := ghash h (pad aad ++ pad ct ++ [beBytes 8 (8 * aad.length) ++ beBytes 8 (8 * ct.length)])
  xor (beBytes 16 s) (encWith ks (iv.take 12 ++ [0, 0, 0, 1]))

/-- GCM's CTR pass: from counter 2 on. -/
def gcmCtr (key iv data : List Byte) : List Byte := ctr key (iv.take 12 ++ [0, 0, 0, 2]) data

/-! ## Key derivation (R609) -/

/-- K(1) || K(2) as far as `size` bytes go (SP 800-108, counter mode, PRF CMAC). -/
def derive (parent label context : List Byte) (size : Nat) : List Byte :=
  let k (i : Nat) : List Byte := cmac parent (beBytes 4 i ++ label ++ [0] ++ context ++ beBytes 4 (8 * size))
  (k 1 ++ (if size = 32 then k 2 else [])).take size

/-! ## Key unwrapping (R611) -/

/-- One step of the KW unwrap: `a` is the integrity register, `r` the semiblocks, `t` the step number, from 6n down. -/
def unwrapStep (ks : List (List Byte)) (n : Nat) (p : List Byte × List (List Byte)) (t : Nat) :
    List Byte × List (List Byte) :=
  let i := (t - 1) % n
  let b := decWith ks (xor p.1 (beBytes 8 t) ++ p.2.getD i [])
  (b.take 8, p.2.set i (b.drop 8))

/-- The KW unwrap of SP 800-38F with the default initial value; none where the initial value does not check. -/
def unwrap (key blob : List Byte) : Option (List Byte) :=
  let ks := roundKeys key
  let cs := chunks 8 blob.length blob
  let n := cs.length - 1
  let p := ((List.range (6 * n)).reverse.map (· + 1)).foldl (unwrapStep ks n) (cs.headD [], cs.drop 1)
  if p.1 = List.replicate 8 0xA6#8 then some p.2.flatten else none

end Aes

end Sys2Proof.Machine
end

