-- ==== Sys2Proof/Config.lean ====
section
/-!
DEFINITION. What an implementation fixes, and the free values: constants without a body, applied to the counter that State
holds, wherever the spec leaves a value open after which the block goes on (log entries 2 and 3).
-/

namespace Sys2Proof.Config

/-- A free value of any width; `n` is the state's counter of free values used so far. -/
opaque freeNat : Nat → Nat

/-- A free 16-bit word: the data of an aborted read (R719). -/
opaque freeWord : Nat → Word

/-- A free choice where the spec allows two outcomes. -/
opaque freeBool : Nat → Bool

/-- How a VALUE of 24 bits shows a mean that its format does not hold, from 5.0 V to the span limit of 5.25 V (R389). -/
opaque wideValue : Int → Nat

/-- Where the steps of the integrator's residue lie, in tenths of a unit (R398). -/
opaque residueOrigin : Nat → Int

/-- The firmware release: Koanaiz 3.2 in ROM (R2), as the BOOT entry, HELLO and the software version carry it (R465, R588). -/
def firmwareRelease : Word := 0x0302

/-- The 256-bit root key in fuses (R609): each device has its own, and no path reads it. -/
opaque rootKey : Vector Byte 32

/-- DEV_UID in fuses (R609, R634): each device has its own. -/
opaque devUid : BitVec 64

end Sys2Proof.Config
end

