-- ==== Sys2Proof/Machine/Regs.lean ====
section
/-!
DEFINITION. The register file (R81, R90 and the register maps of every chapter): register numbers, the bits of each access
code, reset values, and the fields by the manual's names. A direct register's number is its host byte address
(0x000 to 0x05E), an extended register's number its extended address (0x01_0000 and above): the two ranges do not meet,
because 0x00_0000 to 0x00_FFFF of the extended space is unimplemented (R90).
-/

namespace Sys2Proof.Machine

/-- A field of a register: bits `hi` to `lo` of register `reg`. -/
structure Fld where
  reg : Nat
  hi : Nat
  lo : Nat
  deriving DecidableEq, Repr

/-- The width of a field. -/
def Fld.width (f : Fld) : Nat := f.hi + 1 - f.lo

/-- The largest value of a field. -/
def Fld.top (f : Fld) : Nat := 2 ^ f.width - 1

/-- One row of a register map: `n1` groups of `n2` registers, `s1` and `s2` bytes apart, their reset value and the bits
of each access code of R77. Bits of no code are reserved. -/
structure RegRow where
  base : Nat
  s1 : Nat := 4
  n1 : Nat := 1
  s2 : Nat := 4
  n2 : Nat := 1
  reset : DWord := 0
  rw : DWord := 0
  w1c : DWord := 0
  ro : DWord := 0
  rc : DWord := 0
  wo : DWord := 0
  deriving DecidableEq, Repr

/-- The row names register `a`. -/
def RegRow.covers (r : RegRow) (a : Nat) : Bool :=
  r.base ≤ a && (a - r.base) / r.s1 < r.n1 && (a - r.base) % r.s1 / r.s2 < r.n2 && (a - r.base) % r.s1 % r.s2 == 0

/-! ## Register numbers

An index is taken modulo the number of registers of its name, so that no index names a register of another name. -/

namespace R

def idPart : Nat := 0x0000
def idRev : Nat := 0x0002
def devStatus : Nat := 0x0004
def devControl : Nat := 0x0006
def frameCountL : Nat := 0x0008
def frameCountH : Nat := 0x000A
def ringAddr : Nat := 0x000C
def ltr : Nat := 0x000E
def pwrState : Nat := 0x0010
def supplyStatus : Nat := 0x0012
def faultSummary : Nat := 0x0014
def faultAck : Nat := 0x0016
def irqClaimA : Nat := 0x0018
def irqCompleteA : Nat := 0x001A
def irqClaimB : Nat := 0x001C
def irqCompleteB : Nat := 0x001E
def irqGlobal : Nat := 0x0020
def irqSetPend : Nat := 0x0022
def irqAnomalyCount : Nat := 0x0024
def ownReq : Nat := 0x0026
def ownStatus : Nat := 0x0028
def ownViolCount : Nat := 0x002A
def portAddrL : Nat := 0x002C
def portAddrH : Nat := 0x002E
def portDataL : Nat := 0x0030
def portDataH : Nat := 0x0032
def mbxDoorbell : Nat := 0x0034
def mbxStatus : Nat := 0x0036
def angleL : Nat := 0x0038
def angleH : Nat := 0x003A
def speed : Nat := 0x003C
def syncStatus : Nat := 0x003E
def schedStatus : Nat := 0x0040
def schedControl : Nat := 0x0042
def invalBlock : Nat := 0x0044
def twinStatus : Nat := 0x0046
def twinControl : Nat := 0x0048
def ringStatus : Nat := 0x004A
def ringControl : Nat := 0x004C
def remoteErr : Nat := 0x004E
def safeControl : Nat := 0x0050
def wdtKick : Nat := 0x0052
def timeEpoch : Nat := 0x0054
def timeSnapshot : Nat := 0x0056
def scratchA : Nat := 0x0058
def scratchB : Nat := 0x005A
def resetCause : Nat := 0x005C
def devUnlock : Nat := 0x005E
def tuCfg (i : Nat) : Nat := 0x010000 + 0x80 * (i % 4)
def tuCount (i : Nat) : Nat := 0x010004 + 0x80 * (i % 4)
def tuStatus (i : Nat) : Nat := 0x010008 + 0x80 * (i % 4)
def chCtrl (i : Nat) (j : Nat) : Nat := 0x010010 + 0x80 * (i % 4) + 0x10 * (j % 4)
def chValue (i : Nat) (j : Nat) : Nat := 0x010014 + 0x80 * (i % 4) + 0x10 * (j % 4)
def chInterval (i : Nat) (j : Nat) : Nat := 0x010018 + 0x80 * (i % 4) + 0x10 * (j % 4)
def chStatus (i : Nat) (j : Nat) : Nat := 0x01001C + 0x80 * (i % 4) + 0x10 * (j % 4)
def timerPre : Nat := 0x010200
def timerSnap : Nat := 0x010204
def timerCounts : Nat := 0x010208
def tioLevel : Nat := 0x01020C
def tuSnap (i : Nat) : Nat := 0x010210 + 0x04 * (i % 4)
def convStatus : Nat := 0x020000
def convStart : Nat := 0x020004
def convSync : Nat := 0x020008
def convCounts : Nat := 0x02000C
def coreCfg (i : Nat) : Nat := 0x020010 + 0x04 * (i % 2)
def monCfg : Nat := 0x020018
def monResult (i : Nat) : Nat := 0x020020 + 0x04 * (i % 8)
def reqCfg (i : Nat) : Nat := 0x020100 + 0x08 * (i % 16)
def reqTime (i : Nat) : Nat := 0x020104 + 0x08 * (i % 16)
def resHead (i : Nat) : Nat := 0x020200 + 0x10 * (i % 16)
def resTail (i : Nat) : Nat := 0x020204 + 0x10 * (i % 16)
def resWm (i : Nat) : Nat := 0x020208 + 0x10 * (i % 16)
def resStatus (i : Nat) : Nat := 0x02020C + 0x10 * (i % 16)
def outStatus : Nat := 0x030000
def injEnable : Nat := 0x030004
def injEffective : Nat := 0x030008
def valveStatus : Nat := 0x03000C
def injCh (i : Nat) : Nat := 0x030040 + 0x04 * (i % 24)
def valveCfg (i : Nat) : Nat := 0x030100 + 0x04 * (i % 16)
def vreg (i : Nat) : Nat := 0x030180 + 0x04 * (i % 8)
def profI (i : Nat) : Nat := 0x030200 + 0x10 * (i % 8)
def profT (i : Nat) : Nat := 0x030204 + 0x10 * (i % 8)
def profCtrl (i : Nat) : Nat := 0x030208 + 0x10 * (i % 8)
def bankCfg (i : Nat) : Nat := 0x030400 + 0x20 * (i % 6)
def bankStatus (i : Nat) : Nat := 0x030404 + 0x20 * (i % 6)
def bankCounts (i : Nat) : Nat := 0x030408 + 0x20 * (i % 6)
def injDiag (i : Nat) : Nat := 0x030600 + 0x04 * (i % 24)
def wheelCfg (n : Nat) : Nat := 0x040000 + 0x40 * (n % 4)
def wheelVr (i : Nat) : Nat := 0x040004 + 0x40 * (i % 4)
def wheelFilt (i : Nat) : Nat := 0x040008 + 0x40 * (i % 4)
def wheelVerify (i : Nat) : Nat := 0x04000C + 0x40 * (i % 4)
def wheelStatus (i : Nat) : Nat := 0x040010 + 0x40 * (i % 4)
def wheelCounts (i : Nat) : Nat := 0x040014 + 0x40 * (i % 4)
def wheelEdges (i : Nat) : Nat := 0x040018 + 0x40 * (i % 4)
def wheelSys : Nat := 0x040100
def predStatus : Nat := 0x041000
def predSigma : Nat := 0x041004
def predW : Nat := 0x041008
def predAccel : Nat := 0x04100C
def predCfg : Nat := 0x041010
def predLearn : Nat := 0x041014
def predReverse : Nat := 0x041018
def predCounts : Nat := 0x04101C
def clockMon : Nat := 0x041020
def irqSrc (s : Nat) : Nat := 0x050000 + 0x04 * (s % 64)
def irqPendingL : Nat := 0x050100
def irqPendingH : Nat := 0x050104
def irqActiveL : Nat := 0x050108
def irqActiveH : Nat := 0x05010C
def irqPendClrL : Nat := 0x050110
def irqPendClrH : Nat := 0x050114
def irqThresh : Nat := 0x050120
def faultQueue : Nat := 0x050200
def faultCounts : Nat := 0x050204
def faultCfg : Nat := 0x050208
def faultOrdinal : Nat := 0x05020C
def wdtStatus : Nat := 0x050210
def cipherStatus : Nat := 0x060000
def cipherStart : Nat := 0x060004
def cipherErase : Nat := 0x060008
def cipherAlarm : Nat := 0x06000C
def cipherUidL : Nat := 0x060010
def cipherUidH : Nat := 0x060014
def calFloor : Nat := 0x060018
def cipherCounts : Nat := 0x06001C
def jobResult (i : Nat) : Nat := 0x060020 + 0x04 * (i % 8)
def slotInfo (i : Nat) : Nat := 0x060040 + 0x04 * (i % 16)
def canCfg : Nat := 0x070000
def canNbt : Nat := 0x070004
def canDbt : Nat := 0x070008
def canStatus : Nat := 0x07000C
def canCounts : Nat := 0x070010
def canDiagId : Nat := 0x070014
def canDiagCfg : Nat := 0x070018
def canDiagStatus : Nat := 0x07001C
def mbCfg (b : Nat) : Nat := 0x070100 + 0x80 * (b % 16)
def mbId (b : Nat) : Nat := 0x070104 + 0x80 * (b % 16)
def mbMask (b : Nat) : Nat := 0x070108 + 0x80 * (b % 16)
def mbStatus (b : Nat) : Nat := 0x07010C + 0x80 * (b % 16)
def mbRxid (b : Nat) : Nat := 0x070110 + 0x80 * (b % 16)
def mbStamp (b : Nat) : Nat := 0x070114 + 0x80 * (b % 16)
def mbData (b w : Nat) : Nat := 0x070140 + 0x80 * (b % 16) + 0x04 * (w % 16)
def tagCfg : Nat := 0x080000
def tagHostImage : Nat := 0x080004
def tagStatus : Nat := 0x080008
def tagImage : Nat := 0x08000C
def tagDue : Nat := 0x080010
def tagCounts : Nat := 0x080014
def pwrCfg : Nat := 0x090000
def pwrStatus : Nat := 0x090004
def supplyMeas : Nat := 0x090008
def holdupCfg : Nat := 0x09000C
def holdupStatus : Nat := 0x090010
def boostCtrl : Nat := 0x090020
def boostTiming : Nat := 0x090024
def boostStatus : Nat := 0x090028
def thermalStatus : Nat := 0x090030
def pwrCounts : Nat := 0x090034
def tioSel (i : Nat) : Nat := 0x0A0100 + 0x04 * (i % 8)
def schedCycle : Nat := 0x0B0000
def cacheStatus : Nat := 0x0B0004
def loadPeak : Nat := 0x0B0008
def cntALate : Nat := 0x0B0010
def cntAOver : Nat := 0x0B0014
def cntBDeferred : Nat := 0x0B0018
def cntBExpired : Nat := 0x0B001C
def cntCRefused : Nat := 0x0B0020
def cntGateDeferred : Nat := 0x0B0024
def cntGateRefused : Nat := 0x0B0028
def cntLateFired : Nat := 0x0B002C
def cntLateSkipped : Nat := 0x0B0030
def cntMissed : Nat := 0x0B0034
def cntCacheFull : Nat := 0x0B0038
def cntEcc : Nat := 0x0B003C
def cntOrphaned : Nat := 0x0B0040
def cntInvalid : Nat := 0x0B0044
def cntWithheld : Nat := 0x0B0048
def cntResyncSkip : Nat := 0x0B004C
def ringCfg : Nat := 0x0C0000
def ringJoinStatus : Nat := 0x0C0004
def ringHop : Nat := 0x0C0008
def ringPhase : Nat := 0x0C000C
def ringCapTimeL : Nat := 0x0C0010
def ringCapTimeH : Nat := 0x0C0014
def ringCapEpoch : Nat := 0x0C0018
def ringCapFrame : Nat := 0x0C001C
def ringCycle : Nat := 0x0C0020
def ringSlew : Nat := 0x0C0024
def ringCounts : Nat := 0x0C0028
def ringRxHead : Nat := 0x0C002C
def ringRxTail : Nat := 0x0C0030
def ringErrTail : Nat := 0x0C0034
def ringRemoteCfg : Nat := 0x0C0038
def ringMembers (i : Nat) : Nat := 0x0C0040 + 0x04 * (i % 8)
def twinCfg : Nat := 0x0D0000
def twinPartner : Nat := 0x0D0004
def twinSync : Nat := 0x0D0008
def twinProgress : Nat := 0x0D000C
def twinCounts : Nat := 0x0D0010
def twinLogHead : Nat := 0x0D0014
def twinLogTail : Nat := 0x0D0018

end R

/-! ## Fields, by register and field name -/

namespace F

def idRev_MAJOR : Fld := ⟨R.idRev, 7, 4⟩
def idRev_MINOR : Fld := ⟨R.idRev, 3, 0⟩
def devStatus_PORT_ERR_CAUSE : Fld := ⟨R.devStatus, 10, 8⟩
def devStatus_PORT_ERR : Fld := ⟨R.devStatus, 6, 6⟩
def devStatus_PATCH_OK : Fld := ⟨R.devStatus, 5, 5⟩
def devStatus_RING_LOCK : Fld := ⟨R.devStatus, 4, 4⟩
def devStatus_XTAL_OK : Fld := ⟨R.devStatus, 3, 3⟩
def devStatus_SUP_RUN : Fld := ⟨R.devStatus, 2, 2⟩
def devStatus_ARMED : Fld := ⟨R.devStatus, 1, 1⟩
def devStatus_READY : Fld := ⟨R.devStatus, 0, 0⟩
def devControl_TEST_PORT_DIS : Fld := ⟨R.devControl, 4, 4⟩
def devControl_IRQ_B_OD : Fld := ⟨R.devControl, 2, 2⟩
def devControl_IRQ_A_OD : Fld := ⟨R.devControl, 1, 1⟩
def devControl_SOFT_RESET : Fld := ⟨R.devControl, 0, 0⟩
def ringAddr_CONFIGURED : Fld := ⟨R.ringAddr, 15, 15⟩
def ringAddr_PIN_MASTER : Fld := ⟨R.ringAddr, 10, 10⟩
def ringAddr_POS_MASTER : Fld := ⟨R.ringAddr, 9, 9⟩
def ringAddr_MASTER_CAPABLE : Fld := ⟨R.ringAddr, 8, 8⟩
def ringAddr_NODE : Fld := ⟨R.ringAddr, 7, 0⟩
def pwrState_WAKE_SOURCE : Fld := ⟨R.pwrState, 11, 8⟩
def pwrState_RING_LTR_ACTIVE : Fld := ⟨R.pwrState, 4, 4⟩
def pwrState_ROTATING : Fld := ⟨R.pwrState, 3, 3⟩
def pwrState_STATE : Fld := ⟨R.pwrState, 2, 0⟩
def supplyStatus_HOLDUP_RESERVE : Fld := ⟨R.supplyStatus, 15, 8⟩
def supplyStatus_BOOST_LIMITED : Fld := ⟨R.supplyStatus, 7, 7⟩
def supplyStatus_CRANK_DIP : Fld := ⟨R.supplyStatus, 6, 6⟩
def supplyStatus_VBAT_OV : Fld := ⟨R.supplyStatus, 5, 5⟩
def supplyStatus_VBAT_REDUCED : Fld := ⟨R.supplyStatus, 4, 4⟩
def supplyStatus_VBOOST_OK : Fld := ⟨R.supplyStatus, 3, 3⟩
def supplyStatus_VIO_OK : Fld := ⟨R.supplyStatus, 2, 2⟩
def supplyStatus_VCORE_OK : Fld := ⟨R.supplyStatus, 1, 1⟩
def supplyStatus_VPRE_OK : Fld := ⟨R.supplyStatus, 0, 0⟩
def faultSummary_FAULT_N_LOW : Fld := ⟨R.faultSummary, 11, 11⟩
def faultSummary_WDT_EXPIRED : Fld := ⟨R.faultSummary, 10, 10⟩
def faultSummary_SAFE_N_LOW : Fld := ⟨R.faultSummary, 9, 9⟩
def faultSummary_DROPPED : Fld := ⟨R.faultSummary, 8, 8⟩
def faultSummary_QUEUED : Fld := ⟨R.faultSummary, 7, 3⟩
def faultSummary_MAX_CLASS : Fld := ⟨R.faultSummary, 2, 0⟩
def irqGlobal_PEND_B : Fld := ⟨R.irqGlobal, 9, 9⟩
def irqGlobal_PEND_A : Fld := ⟨R.irqGlobal, 8, 8⟩
def irqGlobal_HOLD_B : Fld := ⟨R.irqGlobal, 1, 1⟩
def irqGlobal_HOLD_A : Fld := ⟨R.irqGlobal, 0, 0⟩
def ownReq_OP : Fld := ⟨R.ownReq, 15, 14⟩
def ownReq_BLOCK : Fld := ⟨R.ownReq, 8, 0⟩
def ownStatus_OWNER : Fld := ⟨R.ownStatus, 12, 12⟩
def ownStatus_RESULT : Fld := ⟨R.ownStatus, 11, 10⟩
def ownStatus_BLOCK : Fld := ⟨R.ownStatus, 8, 0⟩
def portAddrH_REMOTE : Fld := ⟨R.portAddrH, 15, 15⟩
def portAddrH_NODE : Fld := ⟨R.portAddrH, 14, 7⟩
def portAddrH_ADDR_HI : Fld := ⟨R.portAddrH, 6, 0⟩
def portAddrL_ADDR_LO : Fld := ⟨R.portAddrL, 15, 2⟩
def mbxStatus_SEQ : Fld := ⟨R.mbxStatus, 15, 8⟩
def mbxStatus_NOT_RETURNED : Fld := ⟨R.mbxStatus, 3, 3⟩
def mbxStatus_MBX_BUSY : Fld := ⟨R.mbxStatus, 2, 2⟩
def mbxStatus_DONE : Fld := ⟨R.mbxStatus, 1, 1⟩
def mbxStatus_BUSY : Fld := ⟨R.mbxStatus, 0, 0⟩
def angleH_SIGMA : Fld := ⟨R.angleH, 15, 8⟩
def angleH_ANGLE_HI : Fld := ⟨R.angleH, 7, 0⟩
def syncStatus_ANGLE_FROZEN : Fld := ⟨R.syncStatus, 11, 11⟩
def syncStatus_RESYNC : Fld := ⟨R.syncStatus, 10, 10⟩
def syncStatus_BLENDING : Fld := ⟨R.syncStatus, 9, 9⟩
def syncStatus_REF : Fld := ⟨R.syncStatus, 8, 6⟩
def syncStatus_STALL : Fld := ⟨R.syncStatus, 5, 5⟩
def syncStatus_DIR : Fld := ⟨R.syncStatus, 4, 3⟩
def syncStatus_STATE : Fld := ⟨R.syncStatus, 2, 0⟩
def schedStatus_A_OVER : Fld := ⟨R.schedStatus, 5, 5⟩
def schedStatus_ECC_DROP : Fld := ⟨R.schedStatus, 4, 4⟩
def schedStatus_ORPHANED : Fld := ⟨R.schedStatus, 3, 3⟩
def schedStatus_C_REFUSED : Fld := ⟨R.schedStatus, 2, 2⟩
def schedStatus_B_DEFERRED : Fld := ⟨R.schedStatus, 1, 1⟩
def schedStatus_A_LATE : Fld := ⟨R.schedStatus, 0, 0⟩
def schedControl_ENABLE : Fld := ⟨R.schedControl, 15, 15⟩
def schedControl_LOOKAHEAD : Fld := ⟨R.schedControl, 8, 0⟩
def twinStatus_DIGEST_MISMATCH : Fld := ⟨R.twinStatus, 5, 5⟩
def twinStatus_TWIN_ENABLED : Fld := ⟨R.twinStatus, 4, 4⟩
def twinStatus_PARTNER_OWN : Fld := ⟨R.twinStatus, 3, 3⟩
def twinStatus_LINK_UP : Fld := ⟨R.twinStatus, 2, 2⟩
def twinStatus_STATE : Fld := ⟨R.twinStatus, 1, 0⟩
def twinControl_ISOLATE : Fld := ⟨R.twinControl, 3, 3⟩
def twinControl_REJOIN : Fld := ⟨R.twinControl, 2, 2⟩
def twinControl_HANDOVER : Fld := ⟨R.twinControl, 1, 1⟩
def twinControl_TWIN_EN : Fld := ⟨R.twinControl, 0, 0⟩
def ringStatus_MASTER_ADDR : Fld := ⟨R.ringStatus, 15, 8⟩
def ringStatus_SPLICE_PERMITTED : Fld := ⟨R.ringStatus, 4, 4⟩
def ringStatus_LOCKED : Fld := ⟨R.ringStatus, 3, 3⟩
def ringStatus_MASTER : Fld := ⟨R.ringStatus, 2, 2⟩
def ringStatus_LINK : Fld := ⟨R.ringStatus, 1, 0⟩
def ringControl_LEAVE : Fld := ⟨R.ringControl, 2, 2⟩
def ringControl_RING_LTR : Fld := ⟨R.ringControl, 1, 1⟩
def ringControl_INSERT_EN : Fld := ⟨R.ringControl, 0, 0⟩
def remoteErr_LAST_TAG : Fld := ⟨R.remoteErr, 15, 8⟩
def remoteErr_LOG_OVF : Fld := ⟨R.remoteErr, 7, 7⟩
def remoteErr_HEAD : Fld := ⟨R.remoteErr, 3, 0⟩
def safeControl_FORCE_F3 : Fld := ⟨R.safeControl, 10, 10⟩
def safeControl_WDT_WINDOW : Fld := ⟨R.safeControl, 9, 3⟩
def safeControl_WDT_EN : Fld := ⟨R.safeControl, 2, 2⟩
def safeControl_DISARM : Fld := ⟨R.safeControl, 1, 1⟩
def safeControl_ARM : Fld := ⟨R.safeControl, 0, 0⟩
def resetCause_THERMAL : Fld := ⟨R.resetCause, 7, 7⟩
def resetCause_RETAIN_WAKE : Fld := ⟨R.resetCause, 6, 6⟩
def resetCause_CLOCK_LOSS : Fld := ⟨R.resetCause, 5, 5⟩
def resetCause_LOCKSTEP : Fld := ⟨R.resetCause, 4, 4⟩
def resetCause_SOFT : Fld := ⟨R.resetCause, 3, 3⟩
def resetCause_PIN : Fld := ⟨R.resetCause, 2, 2⟩
def resetCause_BROWNOUT : Fld := ⟨R.resetCause, 1, 1⟩
def resetCause_POR : Fld := ⟨R.resetCause, 0, 0⟩
def devUnlock_OPEN : Fld := ⟨R.devUnlock, 15, 15⟩
def devUnlock_REJECT_COUNT : Fld := ⟨R.devUnlock, 7, 0⟩
def wheelCfg_LOG (i : Nat) : Fld := ⟨R.wheelCfg i, 5, 4⟩
def wheelCfg_EDGE_SEL (i : Nat) : Fld := ⟨R.wheelCfg i, 3, 2⟩
def wheelCfg_MODE (i : Nat) : Fld := ⟨R.wheelCfg i, 1, 0⟩
def wheelVr_DISARM (i : Nat) : Fld := ⟨R.wheelVr i, 23, 16⟩
def wheelVr_ARM_FLOOR (i : Nat) : Fld := ⟨R.wheelVr i, 15, 8⟩
def wheelVr_ARM_FRAC (i : Nat) : Fld := ⟨R.wheelVr i, 3, 0⟩
def wheelFilt_HALL_FILT (i : Nat) : Fld := ⟨R.wheelFilt i, 27, 24⟩
def wheelFilt_MIN_FRAC (i : Nat) : Fld := ⟨R.wheelFilt i, 19, 16⟩
def wheelFilt_MIN_ABS (i : Nat) : Fld := ⟨R.wheelFilt i, 15, 0⟩
def wheelVerify_CAM_WINDOW (i : Nat) : Fld := ⟨R.wheelVerify i, 23, 16⟩
def wheelVerify_PHASE_CONFIRM (i : Nat) : Fld := ⟨R.wheelVerify i, 11, 8⟩
def wheelVerify_CONFIRM (i : Nat) : Fld := ⟨R.wheelVerify i, 7, 4⟩
def wheelVerify_BAD_LIMIT (i : Nat) : Fld := ⟨R.wheelVerify i, 3, 0⟩
def wheelStatus_LAST_AMPL (i : Nat) : Fld := ⟨R.wheelStatus i, 31, 24⟩
def wheelStatus_TABLE_ERR (i : Nat) : Fld := ⟨R.wheelStatus i, 23, 20⟩
def wheelStatus_LOW_AMPL (i : Nat) : Fld := ⟨R.wheelStatus i, 17, 17⟩
def wheelStatus_NO_SIGNAL (i : Nat) : Fld := ⟨R.wheelStatus i, 16, 16⟩
def wheelStatus_POSITION (i : Nat) : Fld := ⟨R.wheelStatus i, 9, 2⟩
def wheelStatus_ACQ (i : Nat) : Fld := ⟨R.wheelStatus i, 1, 0⟩
def wheelCounts_CAM_CONFLICTS (i : Nat) : Fld := ⟨R.wheelCounts i, 23, 16⟩
def wheelCounts_MISFITS (i : Nat) : Fld := ⟨R.wheelCounts i, 15, 8⟩
def wheelCounts_GLITCHES (i : Nat) : Fld := ⟨R.wheelCounts i, 7, 0⟩
def wheelSys_PHASE_INPUT : Fld := ⟨R.wheelSys, 3, 2⟩
def wheelSys_QUAD_EN : Fld := ⟨R.wheelSys, 1, 1⟩
def wheelSys_ENGINE : Fld := ⟨R.wheelSys, 0, 0⟩
def predStatus_BLEND_FRAC : Fld := ⟨R.predStatus, 31, 24⟩
def predStatus_TARGET : Fld := ⟨R.predStatus, 23, 21⟩
def predStatus_BLOCKING : Fld := ⟨R.predStatus, 12, 12⟩
def predStatus_FEATURE_SEEN : Fld := ⟨R.predStatus, 11, 11⟩
def predStatus_FWD_EDGES : Fld := ⟨R.predStatus, 10, 8⟩
def predStatus_QUAL_COUNT : Fld := ⟨R.predStatus, 7, 0⟩
def predSigma_SIGMA : Fld := ⟨R.predSigma, 23, 0⟩
def predAccel_S_ALPHA : Fld := ⟨R.predAccel, 31, 16⟩
def predAccel_ALPHA : Fld := ⟨R.predAccel, 15, 0⟩
def predCfg_STALL_TIME : Fld := ⟨R.predCfg, 31, 16⟩
def predCfg_SIGMA_K : Fld := ⟨R.predCfg, 15, 8⟩
def predCfg_ACC_GAIN : Fld := ⟨R.predCfg, 7, 4⟩
def predLearn_LEARN_MIN : Fld := ⟨R.predLearn, 31, 24⟩
def predLearn_LEARN_MAX : Fld := ⟨R.predLearn, 23, 16⟩
def predLearn_LEARN_LIMIT : Fld := ⟨R.predLearn, 15, 8⟩
def predLearn_LEARN_GAIN : Fld := ⟨R.predLearn, 7, 4⟩
def predLearn_COAST : Fld := ⟨R.predLearn, 3, 3⟩
def predLearn_MODE : Fld := ⟨R.predLearn, 1, 0⟩
def predReverse_BLOCK_UNKNOWN : Fld := ⟨R.predReverse, 12, 8⟩
def predReverse_MODE : Fld := ⟨R.predReverse, 4, 0⟩
def predCounts_RESYNCS : Fld := ⟨R.predCounts, 31, 24⟩
def predCounts_FREEZES : Fld := ⟨R.predCounts, 23, 16⟩
def predCounts_REF_SWITCHES : Fld := ⟨R.predCounts, 15, 8⟩
def predCounts_LEARN_REJECTS : Fld := ⟨R.predCounts, 7, 0⟩
def clockMon_QUAL_LEFT : Fld := ⟨R.clockMon, 31, 16⟩
def clockMon_FALLBACKS : Fld := ⟨R.clockMon, 15, 8⟩
def clockMon_SWITCHING : Fld := ⟨R.clockMon, 0, 0⟩
def cacheStatus_PEAK : Fld := ⟨R.cacheStatus, 15, 8⟩
def cacheStatus_OCCUPANCY : Fld := ⟨R.cacheStatus, 7, 0⟩
def loadPeak_EDGE_PEAK : Fld := ⟨R.loadPeak, 15, 8⟩
def loadPeak_EVAL_PEAK : Fld := ⟨R.loadPeak, 7, 0⟩
def outStatus_ARM_EVENT : Fld := ⟨R.outStatus, 19, 16⟩
def outStatus_SAFE_LATCH : Fld := ⟨R.outStatus, 15, 15⟩
def outStatus_ARMED : Fld := ⟨R.outStatus, 14, 14⟩
def outStatus_BANK_TRIPPED : Fld := ⟨R.outStatus, 5, 0⟩
def valveStatus_SHORT_LATCH : Fld := ⟨R.valveStatus, 31, 16⟩
def valveStatus_OPEN : Fld := ⟨R.valveStatus, 15, 0⟩
def valveCfg_DIAG_EN (i : Nat) : Fld := ⟨R.valveCfg i, 16, 16⟩
def valveCfg_OFF_MIN (i : Nat) : Fld := ⟨R.valveCfg i, 15, 0⟩
def vreg_T_PULL (i : Nat) : Fld := ⟨R.vreg i, 31, 24⟩
def vreg_HOLD_DUTY (i : Nat) : Fld := ⟨R.vreg i, 23, 16⟩
def vreg_F_SEL (i : Nat) : Fld := ⟨R.vreg i, 15, 13⟩
def vreg_VCOMP (i : Nat) : Fld := ⟨R.vreg i, 12, 12⟩
def vreg_VNOM (i : Nat) : Fld := ⟨R.vreg i, 7, 0⟩
def profI_I_PEAK (i : Nat) : Fld := ⟨R.profI i, 31, 24⟩
def profI_I_HOLD_HI (i : Nat) : Fld := ⟨R.profI i, 23, 16⟩
def profI_I_HOLD_LO (i : Nat) : Fld := ⟨R.profI i, 15, 8⟩
def profI_I_OPEN (i : Nat) : Fld := ⟨R.profI i, 7, 0⟩
def profT_T_BOOST_MAX (i : Nat) : Fld := ⟨R.profT i, 31, 24⟩
def profT_T_PEAK_MIN (i : Nat) : Fld := ⟨R.profT i, 23, 16⟩
def profT_T_TRANS (i : Nat) : Fld := ⟨R.profT i, 15, 8⟩
def profT_CHOP_MIN (i : Nat) : Fld := ⟨R.profT i, 7, 0⟩
def profCtrl_VALID (i : Nat) : Fld := ⟨R.profCtrl i, 31, 31⟩
def profCtrl_TRANS_DECAY (i : Nat) : Fld := ⟨R.profCtrl i, 30, 30⟩
def profCtrl_LOW_BOOST (i : Nat) : Fld := ⟨R.profCtrl i, 29, 28⟩
def profCtrl_VBOOST_MIN (i : Nat) : Fld := ⟨R.profCtrl i, 23, 16⟩
def bankCfg_I_OC (i : Nat) : Fld := ⟨R.bankCfg i, 31, 24⟩
def bankCfg_MAX_DELAY (i : Nat) : Fld := ⟨R.bankCfg i, 23, 16⟩
def bankCfg_T_REST (i : Nat) : Fld := ⟨R.bankCfg i, 15, 8⟩
def bankStatus_TRIPPED (i : Nat) : Fld := ⟨R.bankStatus i, 31, 31⟩
def bankStatus_PHASE (i : Nat) : Fld := ⟨R.bankStatus i, 30, 28⟩
def bankStatus_PEAK_CH (i : Nat) : Fld := ⟨R.bankStatus i, 27, 26⟩
def bankStatus_HOLDING (i : Nat) : Fld := ⟨R.bankStatus i, 23, 20⟩
def bankStatus_WAITING (i : Nat) : Fld := ⟨R.bankStatus i, 19, 16⟩
def bankStatus_I_NOW (i : Nat) : Fld := ⟨R.bankStatus i, 7, 0⟩
def bankCounts_DELAYED (i : Nat) : Fld := ⟨R.bankCounts i, 31, 24⟩
def bankCounts_REFUSED_DELAY (i : Nat) : Fld := ⟨R.bankCounts i, 23, 16⟩
def bankCounts_REFUSED_ENERGY (i : Nat) : Fld := ⟨R.bankCounts i, 15, 8⟩
def bankCounts_REFUSED_OTHER (i : Nat) : Fld := ⟨R.bankCounts i, 7, 0⟩
def injDiag_RESULT (i : Nat) : Fld := ⟨R.injDiag i, 31, 28⟩
def injDiag_T_PEAK (i : Nat) : Fld := ⟨R.injDiag i, 15, 0⟩
def tuCfg_GATE_INIT (i : Nat) : Fld := ⟨R.tuCfg i, 16, 16⟩
def tuCfg_EVENT (i : Nat) : Fld := ⟨R.tuCfg i, 12, 10⟩
def tuCfg_MASTER (i : Nat) : Fld := ⟨R.tuCfg i, 9, 8⟩
def tuCfg_CHAIN (i : Nat) : Fld := ⟨R.tuCfg i, 5, 4⟩
def tuCfg_PRESCALE (i : Nat) : Fld := ⟨R.tuCfg i, 3, 0⟩
def tuStatus_CHAINED (i : Nat) : Fld := ⟨R.tuStatus i, 2, 2⟩
def tuStatus_GATE_OPEN (i : Nat) : Fld := ⟨R.tuStatus i, 1, 1⟩
def tuStatus_OVF (i : Nat) : Fld := ⟨R.tuStatus i, 0, 0⟩
def chCtrl_WAKE (i : Nat) (j : Nat) : Fld := ⟨R.chCtrl i j, 11, 11⟩
def chCtrl_CAP_SRC (i : Nat) (j : Nat) : Fld := ⟨R.chCtrl i j, 10, 10⟩
def chCtrl_CAP_EDGE (i : Nat) (j : Nat) : Fld := ⟨R.chCtrl i j, 9, 8⟩
def chCtrl_PIN_ACT (i : Nat) (j : Nat) : Fld := ⟨R.chCtrl i j, 6, 4⟩
def chCtrl_AUTO_ADD (i : Nat) (j : Nat) : Fld := ⟨R.chCtrl i j, 3, 3⟩
def chCtrl_WRITE_SEM (i : Nat) (j : Nat) : Fld := ⟨R.chCtrl i j, 2, 2⟩
def chCtrl_MODE (i : Nat) (j : Nat) : Fld := ⟨R.chCtrl i j, 1, 0⟩
def chStatus_WAITING (i : Nat) (j : Nat) : Fld := ⟨R.chStatus i j, 2, 2⟩
def chStatus_OVR (i : Nat) (j : Nat) : Fld := ⟨R.chStatus i j, 1, 1⟩
def chStatus_FLAG (i : Nat) (j : Nat) : Fld := ⟨R.chStatus i j, 0, 0⟩
def tioSel_FILT (i : Nat) : Fld := ⟨R.tioSel i, 11, 8⟩
def tioSel_POL (i : Nat) : Fld := ⟨R.tioSel i, 6, 6⟩
def tioSel_CHANNEL (i : Nat) : Fld := ⟨R.tioSel i, 5, 2⟩
def tioSel_FUNC (i : Nat) : Fld := ⟨R.tioSel i, 1, 0⟩
def convStatus_PEND : Fld := ⟨R.convStatus, 31, 16⟩
def convStatus_OPEN_1 : Fld := ⟨R.convStatus, 15, 15⟩
def convStatus_GATED_1 : Fld := ⟨R.convStatus, 14, 14⟩
def convStatus_REQ_1 : Fld := ⟨R.convStatus, 12, 8⟩
def convStatus_OPEN_0 : Fld := ⟨R.convStatus, 7, 7⟩
def convStatus_GATED_0 : Fld := ⟨R.convStatus, 6, 6⟩
def convStatus_REQ_0 : Fld := ⟨R.convStatus, 4, 0⟩
def convCounts_MISSED : Fld := ⟨R.convCounts, 31, 16⟩
def convCounts_ABORTED : Fld := ⟨R.convCounts, 15, 0⟩
def coreCfg_OSR_LOG (i : Nat) : Fld := ⟨R.coreCfg i, 11, 8⟩
def coreCfg_CONT_REQ (i : Nat) : Fld := ⟨R.coreCfg i, 7, 4⟩
def coreCfg_MODE (i : Nat) : Fld := ⟨R.coreCfg i, 0, 0⟩
def reqCfg_MAX_LAT (i : Nat) : Fld := ⟨R.reqCfg i, 31, 24⟩
def reqCfg_CORE (i : Nat) : Fld := ⟨R.reqCfg i, 16, 16⟩
def reqCfg_INPUT (i : Nat) : Fld := ⟨R.reqCfg i, 3, 0⟩
def resStatus_WM_CROSS_COUNT (i : Nat) : Fld := ⟨R.resStatus i, 31, 24⟩
def resStatus_DROPPED (i : Nat) : Fld := ⟨R.resStatus i, 23, 16⟩
def resStatus_OVF (i : Nat) : Fld := ⟨R.resStatus i, 14, 14⟩
def resStatus_WM_ABOVE (i : Nat) : Fld := ⟨R.resStatus i, 13, 13⟩
def resStatus_WM_HIT (i : Nat) : Fld := ⟨R.resStatus i, 12, 12⟩
def resStatus_FILL (i : Nat) : Fld := ⟨R.resStatus i, 9, 0⟩
def irqSrc_ACTIVE (i : Nat) : Fld := ⟨R.irqSrc i, 17, 17⟩
def irqSrc_PENDING (i : Nat) : Fld := ⟨R.irqSrc i, 16, 16⟩
def irqSrc_TARGET (i : Nat) : Fld := ⟨R.irqSrc i, 9, 8⟩
def irqSrc_MASK (i : Nat) : Fld := ⟨R.irqSrc i, 4, 4⟩
def irqSrc_PRIO (i : Nat) : Fld := ⟨R.irqSrc i, 3, 0⟩
def faultQueue_ACK_RESULT : Fld := ⟨R.faultQueue, 18, 16⟩
def faultQueue_LOST : Fld := ⟨R.faultQueue, 15, 15⟩
def faultQueue_QUEUED : Fld := ⟨R.faultQueue, 12, 8⟩
def faultQueue_NEWEST : Fld := ⟨R.faultQueue, 7, 4⟩
def faultQueue_OLDEST : Fld := ⟨R.faultQueue, 3, 0⟩
def faultCounts_DISCARDED : Fld := ⟨R.faultCounts, 31, 24⟩
def faultCounts_DROPPED : Fld := ⟨R.faultCounts, 23, 16⟩
def faultCounts_ACK_REFUSED : Fld := ⟨R.faultCounts, 15, 8⟩
def pwrCfg_KEYOFF_DELAY : Fld := ⟨R.pwrCfg, 23, 16⟩
def pwrCfg_WAKE_KEY : Fld := ⟨R.pwrCfg, 15, 15⟩
def pwrCfg_WAKE_RING : Fld := ⟨R.pwrCfg, 14, 14⟩
def pwrCfg_WAKE_CAN : Fld := ⟨R.pwrCfg, 13, 13⟩
def pwrCfg_WAKE_WHEEL : Fld := ⟨R.pwrCfg, 12, 12⟩
def pwrCfg_OFF_EN : Fld := ⟨R.pwrCfg, 8, 8⟩
def pwrCfg_DWELL : Fld := ⟨R.pwrCfg, 7, 0⟩
def pwrStatus_LTR_EFF : Fld := ⟨R.pwrStatus, 31, 16⟩
def pwrStatus_KEY : Fld := ⟨R.pwrStatus, 15, 15⟩
def pwrStatus_DEFER : Fld := ⟨R.pwrStatus, 11, 11⟩
def pwrStatus_FLOOR_MASTER : Fld := ⟨R.pwrStatus, 10, 10⟩
def pwrStatus_FLOOR_LINK : Fld := ⟨R.pwrStatus, 9, 9⟩
def pwrStatus_FLOOR_DWELL : Fld := ⟨R.pwrStatus, 8, 8⟩
def pwrStatus_FLOOR_ROTATING : Fld := ⟨R.pwrStatus, 7, 7⟩
def supplyMeas_VPRE_MEAS : Fld := ⟨R.supplyMeas, 31, 22⟩
def supplyMeas_VHOLD_MEAS : Fld := ⟨R.supplyMeas, 21, 12⟩
def supplyMeas_VBAT_Q : Fld := ⟨R.supplyMeas, 8, 0⟩
def holdupCfg_C_HOLD : Fld := ⟨R.holdupCfg, 31, 16⟩
def holdupCfg_P_EXT : Fld := ⟨R.holdupCfg, 15, 8⟩
def holdupCfg_V_DIODE : Fld := ⟨R.holdupCfg, 7, 0⟩
def holdupStatus_TAG_RESERVE : Fld := ⟨R.holdupStatus, 31, 16⟩
def holdupStatus_RESERVE : Fld := ⟨R.holdupStatus, 15, 0⟩
def boostCtrl_EN : Fld := ⟨R.boostCtrl, 31, 31⟩
def boostCtrl_HYST : Fld := ⟨R.boostCtrl, 27, 24⟩
def boostCtrl_VSET : Fld := ⟨R.boostCtrl, 23, 16⟩
def boostCtrl_ILIM : Fld := ⟨R.boostCtrl, 15, 8⟩
def boostCtrl_ILIM_LOW : Fld := ⟨R.boostCtrl, 7, 0⟩
def boostStatus_OV : Fld := ⟨R.boostStatus, 31, 31⟩
def boostStatus_START_TIMEOUT : Fld := ⟨R.boostStatus, 30, 30⟩
def boostStatus_OC : Fld := ⟨R.boostStatus, 29, 29⟩
def boostStatus_SENSE_MISMATCH : Fld := ⟨R.boostStatus, 28, 28⟩
def boostStatus_STATE : Fld := ⟨R.boostStatus, 18, 16⟩
def boostStatus_VBOOST_MEAS : Fld := ⟨R.boostStatus, 9, 0⟩
def pwrCounts_DIPS : Fld := ⟨R.pwrCounts, 31, 24⟩
def pwrCounts_WAKES : Fld := ⟨R.pwrCounts, 23, 16⟩
def pwrCounts_REDUCED : Fld := ⟨R.pwrCounts, 15, 8⟩
def pwrCounts_OV : Fld := ⟨R.pwrCounts, 7, 0⟩
def ringCfg_RX_NOTICE : Fld := ⟨R.ringCfg, 17, 17⟩
def ringCfg_SPLICE_EN : Fld := ⟨R.ringCfg, 16, 16⟩
def ringCfg_POS_SLOT : Fld := ⟨R.ringCfg, 9, 8⟩
def ringCfg_QUOTA_REQ : Fld := ⟨R.ringCfg, 4, 0⟩
def ringJoinStatus_RETRY_IN : Fld := ⟨R.ringJoinStatus, 31, 16⟩
def ringJoinStatus_QUOTA : Fld := ⟨R.ringJoinStatus, 12, 8⟩
def ringJoinStatus_SLOT_HELD : Fld := ⟨R.ringJoinStatus, 6, 6⟩
def ringJoinStatus_SLOT : Fld := ⟨R.ringJoinStatus, 5, 4⟩
def ringJoinStatus_RESULT : Fld := ⟨R.ringJoinStatus, 2, 0⟩
def ringHop_DOWN_RUN : Fld := ⟨R.ringHop, 31, 16⟩
def ringHop_HOP : Fld := ⟨R.ringHop, 15, 0⟩
def ringPhase_LOOP : Fld := ⟨R.ringPhase, 31, 16⟩
def ringPhase_PHASE_ERR : Fld := ⟨R.ringPhase, 15, 0⟩
def ringCounts_BEACONS_MISSED : Fld := ⟨R.ringCounts, 31, 24⟩
def ringCounts_SYMBOL_ERRORS : Fld := ⟨R.ringCounts, 23, 16⟩
def ringCounts_TX_REFUSED : Fld := ⟨R.ringCounts, 15, 8⟩
def ringCounts_JOIN_ATTEMPTS : Fld := ⟨R.ringCounts, 7, 0⟩
def twinCfg_EDGE_TOL : Fld := ⟨R.twinCfg, 23, 16⟩
def twinCfg_DIVERGE_LIMIT : Fld := ⟨R.twinCfg, 15, 8⟩
def twinCfg_F3_RELEASE : Fld := ⟨R.twinCfg, 2, 2⟩
def twinCfg_AUTO_REJOIN : Fld := ⟨R.twinCfg, 1, 1⟩
def twinCfg_SEAT : Fld := ⟨R.twinCfg, 0, 0⟩
def twinPartner_ID_PART : Fld := ⟨R.twinPartner, 31, 16⟩
def twinPartner_NODE : Fld := ⟨R.twinPartner, 15, 8⟩
def twinPartner_SEAT : Fld := ⟨R.twinPartner, 7, 7⟩
def twinPartner_ARMED : Fld := ⟨R.twinPartner, 6, 6⟩
def twinPartner_SAFE_LATCH : Fld := ⟨R.twinPartner, 5, 5⟩
def twinPartner_STATE : Fld := ⟨R.twinPartner, 1, 0⟩
def twinSync_SKEW : Fld := ⟨R.twinSync, 31, 16⟩
def twinSync_DELAY : Fld := ⟨R.twinSync, 15, 0⟩
def twinProgress_MATCH_RUN : Fld := ⟨R.twinProgress, 31, 16⟩
def twinProgress_REJOIN_PHASE : Fld := ⟨R.twinProgress, 15, 14⟩
def twinProgress_WRAPS : Fld := ⟨R.twinProgress, 13, 12⟩
def twinProgress_COPY_LEFT : Fld := ⟨R.twinProgress, 7, 0⟩
def twinCounts_MISMATCHES : Fld := ⟨R.twinCounts, 31, 24⟩
def twinCounts_EDGE_DISAGREE : Fld := ⟨R.twinCounts, 23, 16⟩
def twinCounts_TAKEOVERS : Fld := ⟨R.twinCounts, 15, 8⟩
def twinCounts_LINK_ERRORS : Fld := ⟨R.twinCounts, 7, 0⟩
def cipherStatus_DONE : Fld := ⟨R.cipherStatus, 31, 24⟩
def cipherStatus_QUEUED : Fld := ⟨R.cipherStatus, 23, 16⟩
def cipherStatus_BUSY : Fld := ⟨R.cipherStatus, 15, 15⟩
def cipherStatus_RUNNING : Fld := ⟨R.cipherStatus, 14, 12⟩
def cipherStatus_ALARM : Fld := ⟨R.cipherStatus, 0, 0⟩
def cipherAlarm_LATCH : Fld := ⟨R.cipherAlarm, 31, 31⟩
def cipherAlarm_ALARMS : Fld := ⟨R.cipherAlarm, 23, 16⟩
def cipherAlarm_CAUSE : Fld := ⟨R.cipherAlarm, 3, 0⟩
def cipherCounts_AUTH_FAIL : Fld := ⟨R.cipherCounts, 31, 24⟩
def cipherCounts_REFUSED : Fld := ⟨R.cipherCounts, 23, 16⟩
def cipherCounts_RING_AUTH_FAIL : Fld := ⟨R.cipherCounts, 15, 8⟩
def cipherCounts_ERASURES : Fld := ⟨R.cipherCounts, 7, 0⟩
def jobResult_TIME (i : Nat) : Fld := ⟨R.jobResult i, 31, 16⟩
def jobResult_OP (i : Nat) : Fld := ⟨R.jobResult i, 15, 8⟩
def jobResult_RESULT (i : Nat) : Fld := ⟨R.jobResult i, 7, 0⟩
def slotInfo_GENERATION (i : Nat) : Fld := ⟨R.slotInfo i, 31, 16⟩
def slotInfo_OCCUPIED (i : Nat) : Fld := ⟨R.slotInfo i, 15, 15⟩
def slotInfo_SIZE (i : Nat) : Fld := ⟨R.slotInfo i, 14, 14⟩
def slotInfo_ROLE (i : Nat) : Fld := ⟨R.slotInfo i, 13, 11⟩
def slotInfo_ORIGIN (i : Nat) : Fld := ⟨R.slotInfo i, 10, 8⟩
def slotInfo_USAGE (i : Nat) : Fld := ⟨R.slotInfo i, 7, 0⟩
def canCfg_TDC_OFFSET : Fld := ⟨R.canCfg, 14, 8⟩
def canCfg_BUSOFF_AUTO : Fld := ⟨R.canCfg, 5, 5⟩
def canCfg_LISTEN_ONLY : Fld := ⟨R.canCfg, 4, 4⟩
def canCfg_TDC_EN : Fld := ⟨R.canCfg, 3, 3⟩
def canCfg_BRS_EN : Fld := ⟨R.canCfg, 2, 2⟩
def canCfg_FD_EN : Fld := ⟨R.canCfg, 1, 1⟩
def canCfg_EN : Fld := ⟨R.canCfg, 0, 0⟩
def canStatus_TEC : Fld := ⟨R.canStatus, 23, 16⟩
def canStatus_REC : Fld := ⟨R.canStatus, 15, 8⟩
def canStatus_LAST_ERR : Fld := ⟨R.canStatus, 7, 5⟩
def canStatus_COMM_TX_OFF : Fld := ⟨R.canStatus, 4, 4⟩
def canStatus_STB : Fld := ⟨R.canStatus, 3, 3⟩
def canStatus_STATE : Fld := ⟨R.canStatus, 1, 0⟩
def canCounts_RX_LOST : Fld := ⟨R.canCounts, 31, 24⟩
def canCounts_BUS_OFFS : Fld := ⟨R.canCounts, 23, 16⟩
def canCounts_DIAG_REQUESTS : Fld := ⟨R.canCounts, 15, 8⟩
def canCounts_DIAG_NEGATIVE : Fld := ⟨R.canCounts, 7, 0⟩
def canDiagStatus_FAILS : Fld := ⟨R.canDiagStatus, 15, 8⟩
def canDiagStatus_DELAY : Fld := ⟨R.canDiagStatus, 7, 7⟩
def canDiagStatus_DTC_OFF : Fld := ⟨R.canDiagStatus, 6, 6⟩
def canDiagStatus_FWD_PENDING : Fld := ⟨R.canDiagStatus, 5, 5⟩
def canDiagStatus_LEVEL : Fld := ⟨R.canDiagStatus, 3, 2⟩
def canDiagStatus_SESSION : Fld := ⟨R.canDiagStatus, 1, 0⟩
def mbCfg_IRQ_EN (i : Nat) : Fld := ⟨R.mbCfg i, 17, 17⟩
def mbCfg_TX_REQ (i : Nat) : Fld := ⟨R.mbCfg i, 16, 16⟩
def mbCfg_DLC (i : Nat) : Fld := ⟨R.mbCfg i, 11, 8⟩
def mbCfg_RTR (i : Nat) : Fld := ⟨R.mbCfg i, 5, 5⟩
def mbCfg_BRS (i : Nat) : Fld := ⟨R.mbCfg i, 4, 4⟩
def mbCfg_FDF (i : Nat) : Fld := ⟨R.mbCfg i, 3, 3⟩
def mbCfg_IDE (i : Nat) : Fld := ⟨R.mbCfg i, 2, 2⟩
def mbCfg_DIR (i : Nat) : Fld := ⟨R.mbCfg i, 1, 1⟩
def mbCfg_EN (i : Nat) : Fld := ⟨R.mbCfg i, 0, 0⟩
def mbStatus_RX_IDE (i : Nat) : Fld := ⟨R.mbStatus i, 15, 15⟩
def mbStatus_RX_ESI (i : Nat) : Fld := ⟨R.mbStatus i, 14, 14⟩
def mbStatus_RX_BRS (i : Nat) : Fld := ⟨R.mbStatus i, 13, 13⟩
def mbStatus_RX_FDF (i : Nat) : Fld := ⟨R.mbStatus i, 12, 12⟩
def mbStatus_RX_DLC (i : Nat) : Fld := ⟨R.mbStatus i, 11, 8⟩
def mbStatus_RX_RTR (i : Nat) : Fld := ⟨R.mbStatus i, 4, 4⟩
def mbStatus_TX_ABORTED (i : Nat) : Fld := ⟨R.mbStatus i, 3, 3⟩
def mbStatus_TX_DONE (i : Nat) : Fld := ⟨R.mbStatus i, 2, 2⟩
def mbStatus_OVR (i : Nat) : Fld := ⟨R.mbStatus i, 1, 1⟩
def mbStatus_FULL (i : Nat) : Fld := ⟨R.mbStatus i, 0, 0⟩
def tagCfg_KEYOFF_EN : Fld := ⟨R.tagCfg, 17, 17⟩
def tagCfg_COLD : Fld := ⟨R.tagCfg, 16, 16⟩
def tagCfg_T_DRIVE : Fld := ⟨R.tagCfg, 15, 8⟩
def tagCfg_MIN_CLASS : Fld := ⟨R.tagCfg, 2, 1⟩
def tagCfg_SOURCE : Fld := ⟨R.tagCfg, 0, 0⟩
def tagStatus_RECOVERY_PENDING : Fld := ⟨R.tagStatus, 15, 15⟩
def tagStatus_DUE : Fld := ⟨R.tagStatus, 14, 14⟩
def tagStatus_LAST_RESULT : Fld := ⟨R.tagStatus, 13, 12⟩
def tagStatus_LAST_REASON : Fld := ⟨R.tagStatus, 11, 8⟩
def tagStatus_PHASE : Fld := ⟨R.tagStatus, 2, 0⟩
def irqThresh_THRESH_A : Fld := ⟨R.irqThresh, 3, 0⟩
def irqThresh_THRESH_B : Fld := ⟨R.irqThresh, 7, 4⟩
def irqAnomalyCount_SPURIOUS : Fld := ⟨R.irqAnomalyCount, 15, 8⟩
def irqAnomalyCount_BAD_COMPLETE : Fld := ⟨R.irqAnomalyCount, 7, 0⟩
def faultCfg_JOURNAL_F0 : Fld := ⟨R.faultCfg, 0, 0⟩
def timerPre_PRE : Fld := ⟨R.timerPre, 14, 0⟩
def timerCounts_TRIG_IGNORED : Fld := ⟨R.timerCounts, 15, 0⟩
def tagCounts_UPDATES : Fld := ⟨R.tagCounts, 31, 24⟩
def tagCounts_REFUSED : Fld := ⟨R.tagCounts, 23, 16⟩
def tagCounts_FAILED : Fld := ⟨R.tagCounts, 15, 8⟩
def tagCounts_RECOVERIES : Fld := ⟨R.tagCounts, 7, 0⟩
def canDiagId_RESP_ID : Fld := ⟨R.canDiagId, 26, 16⟩
def canDiagId_REQ_ID : Fld := ⟨R.canDiagId, 10, 0⟩
def canDiagCfg_FUNC_ID : Fld := ⟨R.canDiagCfg, 26, 16⟩
def canDiagCfg_FWD_EN : Fld := ⟨R.canDiagCfg, 8, 8⟩
def canDiagCfg_DID : Fld := ⟨R.canDiagCfg, 9, 9⟩
def thermalStatus_TEMP_1 : Fld := ⟨R.thermalStatus, 31, 16⟩
def thermalStatus_TEMP_0 : Fld := ⟨R.thermalStatus, 15, 0⟩
def boostTiming_START_MAX : Fld := ⟨R.boostTiming, 15, 0⟩

end F

/-! ## Register maps -/

/-- The registers of the direct space. -/
def directRows : List RegRow :=
  [
  { base := 0x0000, reset := 0x8620, ro := 0xFFFF },
  { base := 0x0002, reset := 0x00B0, ro := 0xFFFF },
  { base := 0x0004, reset := 0x0008, ro := 0x073F, w1c := 0x0040 },
  { base := 0x0006, reset := 0x0006, rw := 0x0016, wo := 0x0001 },
  { base := 0x0008, ro := 0xFFFF },
  { base := 0x000A, ro := 0xFFFF },
  { base := 0x000C, ro := 0x8000, rw := 0x07FF },
  { base := 0x000E, rw := 0xFFFF },
  { base := 0x0010, ro := 0x0F1F },
  { base := 0x0012, ro := 0xFFFF },
  { base := 0x0014, ro := 0x0FFF },
  { base := 0x0016, wo := 0xFF0F },
  { base := 0x0018, rc := 0x003F },
  { base := 0x001A, wo := 0x003F },
  { base := 0x001C, rc := 0x003F },
  { base := 0x001E, wo := 0x003F },
  { base := 0x0020, reset := 0x0003, ro := 0x0300, rw := 0x0003 },
  { base := 0x0022, wo := 0x003F },
  { base := 0x0024, rc := 0xFFFF },
  { base := 0x0026, wo := 0xC1FF },
  { base := 0x0028, ro := 0x1DFF },
  { base := 0x002A, rc := 0xFFFF },
  { base := 0x002C, rw := 0xFFFC },
  { base := 0x002E, rw := 0xFFFF }] ++
  [
  { base := 0x0030, rw := 0xFFFF },
  { base := 0x0032 },
  { base := 0x0034, wo := 0x0001 },
  { base := 0x0036, ro := 0xFF01, w1c := 0x000E },
  { base := 0x0038, ro := 0xFFFF },
  { base := 0x003A, ro := 0xFFFF },
  { base := 0x003C, ro := 0xFFFF },
  { base := 0x003E, ro := 0x0FFF },
  { base := 0x0040, w1c := 0x0037, ro := 0x0008 },
  { base := 0x0042, reset := 0x005A, rw := 0x81FF },
  { base := 0x0044, wo := 0x01FF },
  { base := 0x0046, w1c := 0x0020, ro := 0x001F },
  { base := 0x0048, wo := 0x000E, rw := 0x0001 },
  { base := 0x004A, ro := 0xFF1F },
  { base := 0x004C, wo := 0x0004, rw := 0x0003 },
  { base := 0x004E, ro := 0xFF0F, w1c := 0x0080 },
  { base := 0x0050, reset := 0x0320, wo := 0x0403, rw := 0x03FC },
  { base := 0x0052, wo := 0xFFFF },
  { base := 0x0054, reset := 0xFFFF, ro := 0xFFFF },
  { base := 0x0056, wo := 0xFFFF },
  { base := 0x0058, rw := 0xFFFF },
  { base := 0x005A, rw := 0xFFFF },
  { base := 0x005C, w1c := 0x00FF },
  { base := 0x005E, ro := 0x80FF }]

/-- The registers of the timers region. -/
def timersRows : List RegRow :=
  [
  { base := 0x010000, s1 := 0x80, n1 := 4, rw := 0x00011F3F },
  { base := 0x010004, s1 := 0x80, n1 := 4, ro := 0xFFFFFFFF },
  { base := 0x010008, s1 := 0x80, n1 := 4, ro := 0x00000006, w1c := 0x00000001 },
  { base := 0x010010, s1 := 0x80, n1 := 4, s2 := 0x10, n2 := 4, rw := 0x00000F7F },
  { base := 0x010014, s1 := 0x80, n1 := 4, s2 := 0x10, n2 := 4, rw := 0xFFFFFFFF },
  { base := 0x010018, s1 := 0x80, n1 := 4, s2 := 0x10, n2 := 4, rw := 0xFFFFFFFF },
  { base := 0x01001C, s1 := 0x80, n1 := 4, s2 := 0x10, n2 := 4, ro := 0x00000004, w1c := 0x00000003 },
  { base := 0x010200, ro := 0x00007FFF },
  { base := 0x010204, wo := 0xFFFFFFFF },
  { base := 0x010208, rc := 0x0000FFFF },
  { base := 0x01020C, ro := 0x000000FF },
  { base := 0x010210, s1 := 0x04, n1 := 4, ro := 0xFFFFFFFF }]

/-- The registers of the converter region. -/
def converterRows : List RegRow :=
  [
  { base := 0x020000, reset := 0x00001F1F, ro := 0xFFFFDFDF },
  { base := 0x020004, wo := 0x0000FFFF },
  { base := 0x020008, wo := 0x00000003 },
  { base := 0x02000C, rc := 0xFFFFFFFF },
  { base := 0x020010, s1 := 0x04, n1 := 2, reset := 0x00000800, rw := 0x00000FF1 },
  { base := 0x020018, reset := 0x00000001, rw := 0x00000001 },
  { base := 0x020020, s1 := 0x04, n1 := 8, ro := 0xFFFFFFFF },
  { base := 0x020100, s1 := 0x08, n1 := 16, rw := 0xFF01000F },
  { base := 0x020104, s1 := 0x08, n1 := 16, reset := 0x000003E8, rw := 0x000FFFFF },
  { base := 0x020200, s1 := 0x10, n1 := 16, ro := 0x000003FF },
  { base := 0x020204, s1 := 0x10, n1 := 16, rw := 0x000003FF },
  { base := 0x020208, s1 := 0x10, n1 := 16, rw := 0x000003FF },
  { base := 0x02020C, s1 := 0x10, n1 := 16, rc := 0xFFFF0000, w1c := 0x00005000, ro := 0x000023FF }]

/-- The registers of the outputs region. -/
def outputsRows : List RegRow :=
  [
  { base := 0x030000, ro := 0x000FC03F },
  { base := 0x030004, reset := 0x00FFFFFF, rw := 0x00FFFFFF },
  { base := 0x030008, reset := 0x00FFFFFF, ro := 0x00FFFFFF },
  { base := 0x03000C, w1c := 0xFFFF0000, ro := 0x0000FFFF },
  { base := 0x030040, s1 := 0x04, n1 := 24, rw := 0x00FFFFFF },
  { base := 0x030100, s1 := 0x04, n1 := 16, rw := 0x0001FFFF },
  { base := 0x030180, s1 := 0x04, n1 := 8, rw := 0xFFFFF0FF },
  { base := 0x030200, s1 := 0x10, n1 := 8, rw := 0xFFFFFFFF },
  { base := 0x030204, s1 := 0x10, n1 := 8, rw := 0xFFFFFFFF },
  { base := 0x030208, s1 := 0x10, n1 := 8, rw := 0xF0FF0000 },
  { base := 0x030400, s1 := 0x20, n1 := 6, reset := 0xF0140A00, rw := 0xFFFFFF00 },
  { base := 0x030404, s1 := 0x20, n1 := 6, w1c := 0x80000000, ro := 0x7CFF00FF },
  { base := 0x030408, s1 := 0x20, n1 := 6, rc := 0xFFFFFFFF },
  { base := 0x030600, s1 := 0x04, n1 := 24, ro := 0xF000FFFF }]

/-- The registers of the wheels region. -/
def wheelsRows : List RegRow :=
  [
  { base := 0x040000, s1 := 0x40, n1 := 2, reset := 0x00000001, rw := 0x0000003F },
  { base := 0x040080, s1 := 0x40, n1 := 2, reset := 0x00000006, rw := 0x0000003F },
  { base := 0x040004, s1 := 0x40, n1 := 4, reset := 0x00040606, rw := 0x00FFFF0F },
  { base := 0x040008, s1 := 0x40, n1 := 4, reset := 0x04040271, rw := 0x0F0FFFFF },
  { base := 0x04000C, s1 := 0x40, n1 := 4, reset := 0x00140213, rw := 0x00FF0FFF },
  { base := 0x040010, s1 := 0x40, n1 := 4, ro := 0xFFF303FF },
  { base := 0x040014, s1 := 0x40, n1 := 4, rc := 0x00FFFFFF },
  { base := 0x040018, s1 := 0x40, n1 := 4, ro := 0xFFFFFFFF },
  { base := 0x040100, rw := 0x0000000F },
  { base := 0x041000, reset := 0x00E00000, ro := 0xFFE01FFF },
  { base := 0x041004, reset := 0x00FFFFFF, ro := 0x00FFFFFF },
  { base := 0x041008, ro := 0xFFFFFFFF },
  { base := 0x04100C, ro := 0xFFFFFFFF },
  { base := 0x041010, reset := 0x00FA0C40, rw := 0xFFFFFFF0 },
  { base := 0x041014, reset := 0x4BFA8021, rw := 0xFFFFFFFB },
  { base := 0x041018, reset := 0x00000003, rw := 0x00001F1F },
  { base := 0x04101C, rc := 0xFFFFFFFF },
  { base := 0x041020, ro := 0xFFFFFF01 }]

/-- The registers of the interrupts region. -/
def interruptsRows : List RegRow :=
  [
  { base := 0x050004, s1 := 0x04, n1 := 62, ro := 0x00030000, rw := 0x0000031F },
  { base := 0x050100, ro := 0xFFFFFFFE },
  { base := 0x050104, ro := 0x7FFFFFFF },
  { base := 0x050108, ro := 0xFFFFFFFE },
  { base := 0x05010C, ro := 0x7FFFFFFF },
  { base := 0x050110, wo := 0xFFFFFFFE },
  { base := 0x050114, wo := 0x7FFFFFFF },
  { base := 0x050120, rw := 0x000000FF },
  { base := 0x050200, ro := 0x00079FFF },
  { base := 0x050204, rc := 0xFFFFFF00 },
  { base := 0x050208, rw := 0x00000001 },
  { base := 0x05020C, ro := 0x0000FFFF },
  { base := 0x050210, ro := 0x0000FFFF }]

/-- The registers of the cipher region. -/
def cipherRows : List RegRow :=
  [
  { base := 0x060000, w1c := 0xFF000000, ro := 0x00FFF001 },
  { base := 0x060004, wo := 0x000000FF },
  { base := 0x060008, wo := 0x00007FFF },
  { base := 0x06000C, w1c := 0x80000000, ro := 0x00FF000F },
  { base := 0x060010, ro := 0xFFFFFFFF },
  { base := 0x060014, ro := 0xFFFFFFFF },
  { base := 0x060018, ro := 0x0000007F },
  { base := 0x06001C, rc := 0xFFFFFFFF },
  { base := 0x060020, s1 := 0x04, n1 := 8, ro := 0xFFFFFFFF },
  { base := 0x060040, s1 := 0x04, n1 := 16, ro := 0xFFFFFFFF }]

/-- The registers of the canFd region. -/
def canFdRows : List RegRow :=
  [
  { base := 0x070000, reset := 0x0000102F, rw := 0x00007F3F },
  { base := 0x070004, reset := 0x10103F01, rw := 0xFFFFFFFF },
  { base := 0x070008, reset := 0x04040F01, rw := 0xFFFFFFFF },
  { base := 0x07000C, ro := 0x00FFFFFB },
  { base := 0x070010, rc := 0xFFFFFFFF },
  { base := 0x070014, reset := 0x06000500, rw := 0x07FF07FF },
  { base := 0x070018, reset := 0x04FF0000, ro := 0x07FF0300 },
  { base := 0x07001C, reset := 0x00000001, ro := 0x0000FFEF },
  { base := 0x070300, s1 := 0x80, n1 := 12, rw := 0x00030F3F },
  { base := 0x070304, s1 := 0x80, n1 := 12, rw := 0x1FFFFFFF },
  { base := 0x070308, s1 := 0x80, n1 := 12, reset := 0x1FFFFFFF, rw := 0x1FFFFFFF },
  { base := 0x07030C, s1 := 0x80, n1 := 12, ro := 0x0000FF10, w1c := 0x0000000F },
  { base := 0x070310, s1 := 0x80, n1 := 12, ro := 0x1FFFFFFF },
  { base := 0x070314, s1 := 0x80, n1 := 12, ro := 0xFFFFFFFF },
  { base := 0x070340, s1 := 0x80, n1 := 12, s2 := 0x04, n2 := 16, rw := 0xFFFFFFFF }]

/-- The registers of the display region. -/
def displayRows : List RegRow :=
  [
  { base := 0x080000, reset := 0x00031402, rw := 0x0003FF07 },
  { base := 0x080004, rw := 0x07FFFFFF },
  { base := 0x080008, ro := 0x0000FF07 },
  { base := 0x08000C, ro := 0x0FFFFFFF },
  { base := 0x080010, ro := 0x07FFFFFF },
  { base := 0x080014, rc := 0xFFFFFFFF }]

/-- The registers of the power region. -/
def powerRows : List RegRow :=
  [
  { base := 0x090000, reset := 0x0014F164, rw := 0x00FFF1FF },
  { base := 0x090004, reset := 0x00000100, ro := 0xFFFF8F80 },
  { base := 0x090008, ro := 0xFFFFF1FF },
  { base := 0x09000C, rw := 0xFFFFFFFF },
  { base := 0x090010, ro := 0xFFFFFFFF },
  { base := 0x090020, reset := 0x02828020, rw := 0x8FFFFFFF },
  { base := 0x090024, reset := 0x000000C8, rw := 0x0000FFFF },
  { base := 0x090028, w1c := 0xF0000000, ro := 0x000703FF },
  { base := 0x090030, ro := 0xFFFFFFFF },
  { base := 0x090034, rc := 0xFFFFFFFF }]

/-- The registers of the pinMux region. -/
def pinMuxRows : List RegRow :=
  [
  { base := 0x0A0100, s1 := 0x04, n1 := 8, rw := 0x00000F7F }]

/-- The registers of the scheduler region. -/
def schedulerRows : List RegRow :=
  [
  { base := 0x0B0000, ro := 0xFFFFFFFF },
  { base := 0x0B0004, rc := 0x0000FF00, ro := 0x000000FF },
  { base := 0x0B0008, rc := 0x0000FFFF },
  { base := 0x0B0010, s1 := 0x04, n1 := 16, rc := 0xFFFFFFFF }]

/-- The registers of the ring region. -/
def ringRows : List RegRow :=
  [
  { base := 0x0C0000, reset := 0x00010002, rw := 0x0003031F },
  { base := 0x0C0004, ro := 0xFFFF1F77 },
  { base := 0x0C0008, ro := 0xFFFFFFFF },
  { base := 0x0C000C, ro := 0xFFFFFFFF },
  { base := 0x0C0010, ro := 0xFFFFFFFF },
  { base := 0x0C0014, ro := 0xFFFFFFFF },
  { base := 0x0C0018, reset := 0x0000FFFF, ro := 0x0000FFFF },
  { base := 0x0C001C, ro := 0xFFFFFFFF },
  { base := 0x0C0020, ro := 0xFFFFFFFF },
  { base := 0x0C0024, ro := 0xFFFFFFFF },
  { base := 0x0C0028, rc := 0xFFFFFFFF },
  { base := 0x0C002C, ro := 0x000000FF },
  { base := 0x0C0030, rw := 0x000000FF },
  { base := 0x0C0034, rw := 0x0000000F },
  { base := 0x0C0038, reset := 0x00003000, rw := 0x00003FFE },
  { base := 0x0C0040, s1 := 0x04, n1 := 8, ro := 0xFFFFFFFF }]

/-- The registers of the twin region. -/
def twinRows : List RegRow :=
  [
  { base := 0x0D0000, reset := 0x00321006, rw := 0x00FFFF07 },
  { base := 0x0D0004, ro := 0xFFFFFFE3 },
  { base := 0x0D0008, ro := 0xFFFFFFFF },
  { base := 0x0D000C, ro := 0xFFFFF0FF },
  { base := 0x0D0010, rc := 0xFFFFFFFF },
  { base := 0x0D0014, ro := 0x0000003F },
  { base := 0x0D0018, rw := 0x0000003F }]

/-- The map of one region of the extended space (R90), by bits [22:16] of the address; region 0 is the direct space. -/
def regionRows : Nat → List RegRow
  | 0x00 => directRows
  | 0x01 => timersRows
  | 0x02 => converterRows
  | 0x03 => outputsRows
  | 0x04 => wheelsRows
  | 0x05 => interruptsRows
  | 0x06 => cipherRows
  | 0x07 => canFdRows
  | 0x08 => displayRows
  | 0x09 => powerRows
  | 0x0A => pinMuxRows
  | 0x0B => schedulerRows
  | 0x0C => ringRows
  | 0x0D => twinRows
  | _ => []

/-- The region an address lies in (R90). -/
def regionOf (a : Nat) : Nat := a / 0x10000

/-- The row of a register; none where the address is unimplemented (R90). -/
def regRow? (a : Nat) : Option RegRow := (regionRows (regionOf a)).find? fun r => r.covers a

/-- The reset value of a register, as its map gives it. -/
def regReset (a : Nat) : DWord :=
  match regRow? a with
  | some r => r.reset
  | none => 0

end Sys2Proof.Machine
end

