-- ==== Sys2Proof/Machine/State.lean ====
section
/-!
DEFINITION. The state of the block: every register, buffer, counter, mode and pin the spec gives it, and the queue of the
commands that wait. The registers of the register maps live in one canonical map by register number (`Chip.regs`); the
shared window in one canonical map by byte offset (`Window.mem`); what lies behind the registers is typed, chapter by
chapter. A field whose default stands here has that value in `State.reset`.
-/

namespace Sys2Proof.Machine

/-- The two orderable parts (R2). -/
inductive Part where
  | lb8620
  | lb8612
  deriving DecidableEq, Repr

/-! ## Time, the frame and the host bus (01, 02) -/

/-- One angle set as phase A publishes it (R34, R35): angle, σ in units of 4 ad, speed and sync word. -/
structure AngleSet where
  angle : Nat := 0
  sigma : Nat := 0
  speed : Nat := 0
  sync : Nat := 0
  deriving DecidableEq, Repr

/-- A recent tick (R20, R577): its FRAME_COUNT, its local time in 2.5 ns steps, and the ring time and epoch in force at it. -/
structure TickMark where
  frame : BitVec 32
  steps : Nat
  time : QWord
  epoch : Word
  deriving DecidableEq, Repr

/-- The time base (R12, R23) and the frame. `ticks` is the local time of the
last tick in 2.5 ns steps since reset (R25); `now` counts the 2.5 ns steps from the last tick to the present instant, as
the last command that carries an instant left it; `running` says that the first frame tick after reset has come (R75);
`overrunRun` counts the consecutive frames that overran (R50); `length` is the CCLK length of the running frame (R38);
`steer` is how late the tick still comes, in 0.5 ns, and `steerTo` how far it is steered (R534, R576); `switching` counts the
frames in which a switch of REFCLK may still be in progress (R253, R255), `history` holds the recent ticks, newest first (R20, R577). -/
structure TimeBase where
  epoch : Word := 0xFFFF
  time : QWord := 0
  frame : BitVec 32 := 0
  now : Nat := 0
  ticks : Nat := 0
  running : Bool := false
  overrunRun : Nat := 0
  length : Nat := 200
  steer : Int := 0
  steerTo : Nat := 5
  switching : Nat := 0
  qualLeft : Nat := 0
  history : List TickMark := []
  deriving DecidableEq, Repr

/-- A committed write on its way to effect (R43): `wait` is the number of frame ticks until it takes effect. -/
structure Commit where
  addr : Nat
  value : DWord
  wait : Nat
  deriving DecidableEq, Repr

/-- A reply the supervisor has prepared for the outstanding mailbox command (R107): its result and reply data words. -/
structure Reply where
  result : Nat
  data : List Word
  deriving DecidableEq, Repr

/-- The host bus side (02): the unlock sequence (R80), the tag of the next remote write (R98), the committed writes that
wait for a tick (`commits`), for the commit edge of a timer unit (`timerCommits`) or for the supervisor or a block
(`supCommits`), INVAL_BLOCK and SCHED_CONTROL writes among `commits` under their direct register numbers (R43), and the
mailbox reply in preparation. `read` is the data that the last host read returned. -/
structure Bus where
  keyArmed : Bool := false
  openTicks : Nat := 0
  nextTag : BitVec 8 := 0
  commits : List Commit := []
  timerCommits : List (Nat × DWord) := []
  supCommits : List (Nat × DWord) := []
  reply : Option Reply := none
  read : Word := 0
  deriving DecidableEq, Repr

/-! ## The shared window (03) -/

/-- An ECC error of a window word (R134): the wrong bits of its 22 stored bits, data bits 0 to 15 and check bits 16 to 21; of an
error in three or more bits no rule says what a read makes of it; `was` is the word as it was stored. -/
inductive EccErr where
  | single (bit : Fin 22)
  | double (bit1 bit2 : Fin 22)
  | many (was : Word)
  deriving DecidableEq, Repr

/-- An entry of the edge capture log that is made but not yet written (R194): the instant of its edge in local time, and its words 1 to 7 by
number. -/
structure LogRow where
  steps : Nat
  words : List (Nat × Nat)
  deriving DecidableEq, Repr

/-- The shared window (03). `mem` holds the stored bytes by byte offset from 0x2_0000; an unlisted byte reads 0x00, the
contents the spec gives a clearing reset (R116). `ecc` lists the words stored with an error, by word index. `taken` lists
the transferable blocks whose flag is HOST and `returning` the RETURNING blocks with the ticks to their return tick (R118).
`latchTag` and `latch` are the window latch (R125), `rows` the entries of the edge log that wait for edges with earlier instants
(R194). -/
structure Window where
  mem : List Host.Cell := []
  ecc : List (Nat × EccErr) := []
  taken : List Nat := []
  returning : List (Nat × Nat) := []
  latchTag : Option Nat := none
  latch : Word := 0
  rows : List LogRow := []
  deriving DecidableEq, Repr

/-! ## Interrupts, faults and the journal (10) -/

/-- The interrupt controller: pending bits, active bits by the target that claimed the source (R430, R436), and whether each host pin has
been asserted since the last claim of its target (R434). `supEvents` lists the sources with a SOURCE_EVENT entry written in the last
second, with the claims merged since (R439), `atWake` the timer sources that become pending at the end of WATCH or RETAIN (R440). -/
structure Irq where
  pend : BitVec 64 := 0
  actA : BitVec 64 := 0
  actB : BitVec 64 := 0
  actS : BitVec 64 := 0
  seenA : Bool := false
  seenB : Bool := false
  supEvents : List (Nat × Nat) := []
  atWake : BitVec 64 := 0
  deriving DecidableEq, Repr

/-- The fault manager beside its slots, which live in blocks 2 to 9 (R445): the next ORDINAL (R448), the class held by the
queue-loss state and the drops since (R455), FAULT_SUMMARY.DROPPED (R454), FAULT_QUEUE.ACK_RESULT (R452),
the level of SAFE_N (R458), and the watchdog: the value expected, the CCLK cycles left and WDT_EXPIRED (R461 to R463). -/
structure Faults where
  ordinal : Word := 0
  lostClass : Option Nat := none
  lostDrops : Nat := 0
  dropped : Bool := false
  ackResult : Nat := 0
  safeN : Bool := true
  wdtExpect : Word := 0x5AA5
  wdtLeft : Nat := 0
  wdtExpired : Bool := false
  deriving DecidableEq, Repr

/-- An entry of the non-volatile journal (R465); `valid` says whether its CRC passes (R468). -/
structure JEntry where
  number : BitVec 32
  kind : Nat
  cls : Nat
  code : Word
  unit : Word
  rep : Word
  detail : Word
  skipped : Word
  opTime : BitVec 32
  boot : Word
  frame : BitVec 32
  valid : Bool
  deriving DecidableEq, Repr

/-- What calls for a journal entry and waits for the supervisor to write it (R466). -/
structure JCause where
  kind : Nat
  cls : Nat := 0
  code : Word := 0
  unit : Word := 0
  rep : Word := 0
  detail : Word := 0
  frame : BitVec 32 := 0
  deriving DecidableEq, Repr

/-- The journal (R465 to R468): the readable entries, oldest first, the NUMBER of the next entry, operating time in 0.1 h,
boot count, erases of each sector, the rate-limited allowance, the entries skipped since the last written one, and the
causes that wait to be written. Every reset keeps all but the waiting causes. -/
structure Journal where
  entries : List JEntry := []
  next : BitVec 32 := 0
  opTime : BitVec 32 := 0
  boots : Word := 0
  opSub : Nat := 0
  /-- Rotation in CCLK cycles since the later of the last written entry and the last HOURS cause. -/
  hour : Nat := 0
  erases : Vector Nat 16 := Vector.replicate 16 0
  allowance : Nat := 64
  skipped : Nat := 0
  waiting : List JCause := []
  deriving DecidableEq, Repr

/-! ## Wheels and prediction (04, 05) -/

/-- A tooth entry of a tooth table (R162). -/
structure Tooth where
  angle : Nat
  pol : Bool
  noLearn : Bool
  deriving DecidableEq, Repr

/-- An adopted tooth table (R162, R163): SPAN, REF_OFFSET, TOL, MATCH_DEPTH and the entries. -/
structure ToothTable where
  span : Nat
  refOffset : Nat
  tol : Nat
  depth : Nat
  teeth : List Tooth
  deriving DecidableEq, Repr

/-- An edge of an input (R155): its instant in local time (2.5 ns steps since reset) and in ring time, its epoch, polarity and
peak, the arming threshold that was in force, the instant at which the input accepted it (R158), and whether it was rejected
as a glitch and waits only to be logged in its order (R194). -/
structure EdgeIn where
  steps : Nat
  epoch : Word
  time : QWord
  pol : Bool
  peak : Nat
  arm : Nat
  accepted : Nat
  glitch : Bool := false
  deriving DecidableEq, Repr

/-- A candidate position (R169, R170) with the fitting edges still required. -/
structure Candidate where
  pos : Nat
  known : Bool
  rev : Bool
  left : Nat
  deriving DecidableEq, Repr

/-- A learning pass in progress (R214): the times of entry 0, the edges of the first revolution, the speed at the start. -/
structure Pass where
  t0 : Nat
  t1 : Option Nat
  edges : List (Nat × Nat)
  speed : Nat
  deriving DecidableEq, Repr

/-- The last edge of an input that fitted its table (R170, R184): its instant, that of the accepted edge before it, and its entry. -/
structure FitEdge where
  t1 : Nat
  t0 : Nat
  entry : Nat
  deriving DecidableEq, Repr

/-- One wheel input behind its registers (R147 to R189, R211). `hist` holds the edges taken in since acquisition started,
newest first (R166); `corr` and `corrNew` are the internal copy of the learned corrections and the adopted copy that waits
for the next fitting edge (R211), `taken` the accepted edges since acquisition started, at most 255 (R591). `spent` says that a
VR input has used its arming and has not fallen below −DISARM since (R151), `ampl` is the peak of the last accepted VR tooth
(R153), `quiet` how far the published angle has moved since the last accepted edge, in 2^-32 ad (R187). `armed` says that an arming
survived a rejected edge (R155), `fit` is the last fitting edge of the match (R195), `again` that a match ended and the next one
follows a restart (R186). -/
structure Wheel where
  table : Option ToothTable := none
  threshold : Nat := 6
  lastStep : Option Nat := none
  lastInterval : Nat := 0
  queue : List EdgeIn := []
  hist : List (Nat × Bool) := []
  cand : Option Candidate := none
  badRun : Nat := 0
  lowRun : Nat := 0
  highRun : Nat := 0
  glitchAt : List Nat := []
  glitchHigh : Bool := false
  corr : List (Int × Nat) := []
  corrNew : Option (List (Int × Nat)) := none
  pass : Option Pass := none
  taken : Nat := 0
  spent : Bool := false
  ampl : Nat := 0
  quiet : Int := 0
  armed : Bool := false
  fit : Option FitEdge := none
  again : Bool := false
  deriving DecidableEq, Repr

/-- The references (R217). -/
inductive Ref where
  | crankA
  | crankB
  | cam
  | ring
  | dead
  deriving DecidableEq, Repr

/-- A model of the engine (R196) in the units of the CAPTURE record (R591): angle in 2^-32 ad, time in 2^-32 ns of local
time, speeds in 2^-56 ad/ns, intervals in 2^-24 ns, accelerations in 2^-88 ad/ns². `rev` is the direction sign, `left` the
anchors left in the start window of R197, `entry` the tooth entry of the anchor; `clamp` and `sigma` are the clamp angle and
σ that a ring snapshot carries (R234, R235), or the σ of a model made at a blended angle (R231, `whole`); on a crank
model `sigma` is the Table term of its anchor, which dead reckoning keeps (R204). -/
structure Model where
  ref : Ref
  ang : Int
  t : Int
  w : Int
  wPrev : Int
  dPrev : Int
  alpha : Int
  sA : Int
  rev : Bool
  left : Nat
  entry : Nat
  clamp : Option Int
  sigma : Int
  whole : Bool
  deriving DecidableEq, Repr

/-- The qualification state of a reference (R225). -/
structure Qual where
  count : Nat := 0
  qualified : Bool := false
  first : Int := 0
  deriving DecidableEq, Repr

/-- A blend in progress (R228): the target's angle at its first anchor and the blend length, in 2^-32 ad. -/
structure Blend where
  start : Int
  len : Int
  deriving DecidableEq, Repr

/-- The reference configuration in force (R220); the defaults of its table. -/
structure RefConfig where
  rank : Nat := 0x0123
  qGood : Nat := 8
  blendTeeth : Nat := 4
  ringMaster : Nat := 0
  corrPitch : Nat := 7680
  drLimit : Nat := 92160
  baseCrankA : Nat := 64
  baseCrankB : Nat := 64
  baseCam : Nat := 4096
  baseRing : Nat := 336
  baseDr : Nat := 1024
  unlearned : Nat := 1024
  consistTol : Nat := 256
  deriving DecidableEq, Repr

/-- The predictor (05). `th0`, `th1`, `th2` are θ(F), θ(F+1), θ(F+2) in 2^-32 ad and `sg0`, `sg1`, `sg2` their σ in the same unit, none
standing for σ_MAX (R198, R205). `lastRef` is the code SYNC_STATUS.REF keeps (R172), `state` SYNC_STATUS.STATE, `dir` SYNC_STATUS.DIR.
`fresh` asks phase A to compute all three angles (R223, R240); `emptyInterval` marks a resync frame (R240) and `step` the forward
correction of the frame (R239). `reverseOff` and `stallOff` ask the next frame to switch outputs off (R248, R250). `ringFresh`: a snapshot
of the chosen position master has come within the last 4 ring cycles (R218); `missed` counts the frames whose phase A overran; `passed`
says that the last published angle passed forward from C − 1 to 0 (R270), `turned` that DIR changed, a stall or a resync was declared
since the converter last looked (R405). `needConfirm` withholds BLOCK groups until forward rotation is confirmed (R246, R247). `lostRef`
is the reference whose model dead reckoning continues (R186, R224), `ringModel` the RING model of the last snapshot of the chosen position
master (R234), `leap` says that a resync moved the angle between θ(F) and θ(F+1) of the last frame (R270), `crankBTwice` that CRANK_B has
accepted two edges (R180). -/
structure Pred where
  active : Option Ref := none
  lastRef : Nat := 0
  state : Nat := 0
  dir : Nat := 0
  model : Option Model := none
  source : Option Model := none
  blend : Option Blend := none
  target : Option Ref := none
  quals : Vector Qual 4 := Vector.replicate 4 {}
  th0 : Int := 0
  th1 : Int := 0
  th2 : Int := 0
  sg0 : Option Int := none
  sg1 : Option Int := none
  sg2 : Option Int := none
  frozen : Bool := false
  fresh : Bool := false
  emptyInterval : Bool := false
  step : Option Int := none
  stall : Bool := false
  resync : Bool := false
  anchored : Bool := false
  drTravel : Int := 0
  phase : Bool := false
  camChosen : Option Nat := none
  camRun : Nat := 0
  lastCrankA : Option Nat := none
  lastCrankB : Option Nat := none
  needConfirm : Bool := false
  fwdEdges : Nat := 0
  featureSeen : Bool := false
  reverseOff : Bool := false
  stallOff : Bool := false
  ringFresh : Bool := false
  missed : Nat := 0
  passed : Bool := false
  turned : Bool := false
  lostRef : Option Ref := none
  ringModel : Option Model := none
  leap : Bool := false
  crankBTwice : Bool := false
  cfg : RefConfig := {}
  deriving DecidableEq, Repr

/-! ## The event scheduler (06) -/

/-- An event descriptor as the cache holds it (R258). `timeMode`, `fire` and `back` are DUR_MODE, LATE and BACK. -/
structure Desc where
  chan : Nat
  start : Nat
  action : Nat
  timeMode : Bool
  fire : Bool
  cls : Nat
  dur : Nat
  gate : Nat
  mask : Nat
  param : Nat
  seq : Nat
  back : Bool
  deriving DecidableEq, Repr

/-- A cached entry (R282 to R305). `cycle` is the engine cycle of its START, `word` the status word last written for it. `wait` counts the
frames it has been deferred or carried, `reason` is 0, 1 (overload) or 2 (gate), `carried` marks class A work carried over. `late` says
that its start had been passed when it first fell due, `missed` that it had by more than CORR_PITCH (R289, R290). `busy` marks a start
that fell due while the entry was cached and is still to be decided (R284, R297). `started` says that its start has been committed,
`backward` that this was a backward crossing, `hidden` that it was withheld, `endDone` that its end has been committed too. `endAngle` is
its angle-mode end and `endAt` its time-mode end in 2.5 ns steps of local time. `orphan` marks an entry whose block was taken without
INVAL_BLOCK and `fired` a start served since (R302). `barred` says that its channel was off where its start first fell due (R327),
`busyWait` how many frames a busy start has been deferred (R297). `capSeen` and `gateSeen` mark a first deferral already counted. `ecc` is
an error in the cached copy, true for a double one (R304). -/
structure Entry where
  idx : Nat
  d : Desc
  cycle : Nat
  word : Nat
  wait : Nat := 0
  reason : Nat := 0
  carried : Bool := false
  late : Bool := false
  missed : Bool := false
  busy : Bool := false
  started : Bool := false
  backward : Bool := false
  hidden : Bool := false
  endDone : Bool := false
  endAngle : Nat := 0
  endAt : Option Nat := none
  orphan : Bool := false
  fired : Bool := false
  capSeen : Bool := false
  gateSeen : Bool := false
  barred : Bool := false
  busyWait : Nat := 0
  ecc : Option Bool := none
  deriving DecidableEq, Repr

/-- What a placed edge is: the start of an action, its end, or a switch-off under R296 group 1. -/
inductive EdgeKind where
  | start
  | finish
  | off
  deriving DecidableEq, Repr

/-- An edge placed at a vernier step of a frame (R41): the channel and action it serves with DUR_MODE and DURATION, the
descriptor and the status word of its start, whether it is withheld (R305), and whether its entry leaves the cache with it
(R283). -/
structure Edge where
  step : Nat
  chan : Nat
  action : Nat
  param : Nat
  kind : EdgeKind
  idx : Nat
  word : Nat
  hidden : Bool
  last : Bool
  timeMode : Bool := false
  dur : Nat := 0
  deriving DecidableEq, Repr

/-- The scheduler (06). `edges` are placed in the running frame, `next` in the frame after it. `records` is the cycle record of R273 by
descriptor. `scan` is the next descriptor of the rotating scan, `blocks` the event blocks that wait for a priority scan (R281), `dropped`
the descriptors not loaded again after an ECC drop (R304), `orphans` those whose status word reads ORPHANED (R303). `evalTo` is the angle
at which the last evaluation ended and `unserved` the frames without one since (R48), `resyncDue` says that the entries still have to be
settled for a resync (R48, R295), `offs` the channels to be switched off at the next frame, `enabled` the ENABLE in force, `used` the
evaluations that the running frame's phase E has made (R286). -/
structure Sched where
  entries : List Entry := []
  edges : List Edge := []
  next : List Edge := []
  records : List (Nat × Nat) := []
  scan : Nat := 0
  blocks : List Nat := []
  dropped : List Nat := []
  orphans : List Nat := []
  evalTo : Option Int := none
  unserved : Nat := 0
  resyncDue : Bool := false
  offs : List Nat := []
  enabled : Bool := false
  used : Nat := 0
  deriving DecidableEq, Repr

/-! ## The output stage (07) -/

/-- The phase of an injector channel (R314 to R318, R320). -/
inductive InjPhase where
  | idle
  | wait
  | boost
  | transition
  | hold
  deriving DecidableEq, Repr

/-- An injector channel: its phase, the descriptor and status word of the running start, its profile, the local times (2.5 ns
steps) of its start edge, of its grant and of its transition, of the end of its last pulse (R320), whether the peak comes from the battery
(R319), and the diagnostic result of this pulse once it is decided (R344). -/
structure Inj where
  phase : InjPhase := .idle
  idx : Nat := 0
  word : Nat := 0
  profile : Nat := 0
  startAt : Nat := 0
  boostAt : Nat := 0
  transAt : Nat := 0
  endAt : Option Nat := none
  battery : Bool := false
  judged : Option Nat := none
  deriving DecidableEq, Repr

/-- A valve output (R329 to R332): active or not, the pin's level within its PWM, whether the hold PWM runs and since when its present
period, the regulation set, the local times of its last inactive edge and of its last switching on, the running pulse's descriptor and
status word, and a start that waits for OFF_MIN, with its regulation set, descriptor and status word. -/
structure Valve where
  active : Bool := false
  level : Bool := false
  pwm : Bool := false
  periodAt : Nat := 0
  vset : Nat := 0
  offAt : Option Nat := none
  onAt : Nat := 0
  tag : Option (Nat × Nat) := none
  delayed : Option (Nat × Option (Nat × Nat)) := none
  deriving DecidableEq, Repr

/-- A TIO pin as an output: its active level under FUNC 2 with the running pulse's descriptor and status word, and the
internal level L_k of FUNC 3 (R382). -/
structure Tio where
  active : Bool := false
  tag : Option (Nat × Nat) := none
  lk : Bool := false
  deriving DecidableEq, Repr

/-- The output stage beside its registers. `chop` holds BANK_HSV_n as its bank's phases and the hold chopping command it and
`chopAt` when it was last switched (R316, R317), `idleAt` since when every gate of the bank is commanded inactive, none while one is
not (R346), `reenable` the
channels that wait for their cycle wrap (R327), `armWait` and `disarmWait` the frame ticks until each arming or disarming
request acts (R335, R338). -/
structure Outs where
  inj : Vector Inj 24 := Vector.replicate 24 {}
  chop : Vector Bool 6 := Vector.replicate 6 false
  chopAt : Vector Nat 6 := Vector.replicate 6 0
  idleAt : Vector (Option Nat) 6 := Vector.replicate 6 (some 0)
  valves : Vector Valve 16 := Vector.replicate 16 {}
  tio : Vector Tio 8 := Vector.replicate 8 {}
  reenable : List Nat := []
  armWait : List Nat := []
  disarmWait : List Nat := []
  deriving DecidableEq, Repr

/-! ## Timer units (08) -/

/-- A timer channel behind its registers: whether its waiting compare was passed under IMMEDIATE and so matches at the next
BCLK edge (R362), whether it was armed at the present edge (R358), and whether the scheduler has captured since the last edge
(R374). -/
structure TimerCh where
  now : Bool := false
  fresh : Bool := false
  sched : Bool := false
  deriving DecidableEq, Repr

/-- The timer units behind their registers: the channels, and whether the first BCLK edge after reset release has come (R351), `wakeDue`
that a match or capture with WAKE = 1 has come in WATCH or RETAIN (R385). The accepted levels of the TIO pins are in TIO_LEVEL. -/
structure Timers where
  begun : Bool := false
  wakeDue : Bool := false
  ch : Vector TimerCh 16 := Vector.replicate 16 {}
  deriving DecidableEq, Repr

/-! ## The integrating converter (09) -/

/-- An open window: its request (16 for the monitor) with the monitor's channel code, the descriptor that opened it, whether
it is an angle window, the CONV edge at which it opened, the length of a time window in modulator clocks, and whether its
result is SHORT or TRUNCATED (R399). -/
structure ConvWin where
  req : Nat
  code : Nat := 0
  idx : Nat := 0
  angle : Bool
  opened : Nat := 0
  len : Nat := 0
  short : Bool := false
  trunc : Bool := false
  deriving DecidableEq, Repr

/-- What waits for its CONV edge (R396, R400, R404). -/
inductive ConvAct where
  | close (req idx : Nat)
  | sync (core : Nat)
  | open (w : ConvWin)
  deriving DecidableEq, Repr

/-- What an input code selects on a core (R388, R390): an external input, or an internal channel by its code. -/
inductive Analog where
  | ain (n : Nat)
  | internal (code : Nat)
  deriving DecidableEq, Repr

/-- A core (R388): its open window, the CONV edge at which its last window ended (R402), the outputs since the last SYNC and the CONV
edge of that SYNC (R407), the decimator (R408), whether its results are SUSPECT, and the checks passed since (R422). The decimator
holds the last period's part in the next output, in sixths, and the parts of the last two periods in the output after that. -/
structure ConvCore where
  win : Option ConvWin := none
  freed : Nat := 0
  outputs : Nat := 0
  syncAt : Nat := 0
  comb : Int × Int := (0, 0)
  suspect : Bool := false
  passedRef : Bool := false
  passedZero : Bool := false
  deriving DecidableEq, Repr

/-- The converter (09). `inbox` holds the happenings that wait for their CONV edge with that edge's number, `waiting` the pending time
windows in order of arrival with the edge of their open (R402), `tags` the TAG of each request's next result (R412), `base` the number of
the CONV edge at the last tick (R391). `slot` is the monitor's rotation slot, `burst` the edge at which the last burst began, `second` the
channel and core of the burst's second window, `starved` the bursts in a row without a completed VBAT window (R420, R423). -/
structure Conv where
  cores : Vector ConvCore 2 := Vector.replicate 2 {}
  inbox : List (Nat × ConvAct) := []
  waiting : List (Nat × Nat × ConvWin) := []
  tags : Vector Nat 16 := Vector.replicate 16 0
  base : Nat := 0
  slot : Nat := 0
  burst : Option Nat := none
  second : Option (Nat × Nat) := none
  starved : Nat := 0
  deriving DecidableEq, Repr

/-! ## Supply and power states (11) -/

/-- Supply and power behind the registers (11). `isOff` and `offEntry` are the power state OFF and an entry into it before step 4,
`forced` one begun by POWER_OFF while OFF has not been the choice (R506 to R508), `woke` a wake from WATCH whose first frame tick is still
to come (R409, R464, R503); `wakeCode` is a wake event that has been accepted in RETAIN or OFF and waits for its reset (R496, R503);
`keyOff` says that KEY_IN has been low for KEYOFF_DELAY, `ringLtr` is the ring-wide LTR (R501), `permitted` the ring cycles since the
first beacon whose ring-wide LTR permits a state below IDLE (R502). The supply conditions are VBAT in mV, CRANK_DIP, the return of the 4.5
V boundary, VBAT_REDUCED, VBAT_OV, the three rails and THERMAL_WARNING (R477 to R491); `charging`, `reached`, `paused` and `mismatch` are
the boost controller's (R484, R488). `patch` is the verification result of the firmware patch, which the always-on domain keeps over
RETAIN (R496, R511). -/
structure Power where
  isOff : Bool := false
  patch : Option Bool := none
  offEntry : Bool := false
  forced : Bool := false
  woke : Bool := false
  wakeCode : Option Nat := none
  keyOff : Bool := false
  ringLtr : Word := 0
  permitted : Nat := 0
  vbat : Nat := 12000
  dip : Bool := false
  low : Bool := false
  reduced : Bool := false
  ov : Bool := false
  vpreOk : Bool := false
  vcoreOk : Bool := false
  vioOk : Bool := false
  thermal : Bool := false
  charging : Bool := false
  reached : Bool := false
  paused : Bool := false
  mismatch : Nat := 0
  deriving DecidableEq, Repr
/-! ## The Dielm ring (12) -/

/-- A message that waits to be inserted (R551): bytes 1 to 13 of its cell without a MAC, and the outbound entry it came from. -/
structure TxCell where
  bytes : List Byte
  entry : Option Nat
  deriving DecidableEq, Repr

/-- A posted remote write that its initiator still has to judge, or whose UNCONFIRMED entry a late NACK may follow (R554,
R557): whether it has left, the reason of a NACK for it, whether it returned, was counted as covered, was judged, and was sent before
PSEQ for its target restarted (R558). -/
structure RWrite where
  target : Nat
  tag : Nat
  pseq : Nat
  addr : Nat
  data : DWord
  sent : Bool := false
  nack : Option Nat := none
  returned : Bool := false
  counted : Bool := false
  judged : Bool := false
  old : Bool := false
  deriving DecidableEq, Repr

/-- What an initiator keeps for a target (R554, R557): the PSEQ of its next write, the latest report, and the count at the
report used by the last judgement. -/
structure RTarget where
  node : Nat
  next : Nat := 0
  report : Option (Nat × Nat) := none
  prev : Nat := 0
  deriving DecidableEq, Repr

/-- What a target keeps for an initiator (R556): the PSEQ last received, ACC, and whether a change is still to be reported. -/
structure RInit where
  node : Nat
  pseq : Nat
  acc : Nat
  changed : Bool
  deriving DecidableEq, Repr

/-- A member as the ring master holds it (R550, R565): its quota, its slot, its master key if it is master-capable, the status
rounds in a row that read PRESENT 0, and those in a row that read LOCKED 1. -/
structure Member where
  node : Nat
  quota : Nat
  slot : Option Nat
  key : Option Nat
  absent : Nat := 0
  locked : Nat := 0
  deriving DecidableEq, Repr

/-- What a valid beacon said (R523) that later events of its cycle need, and the local time, in 2^-32 ns, of this node's tick that began
the cycle (R544). -/
structure BeaconInfo where
  tick : Int
  epoch : Word
  time : QWord
  cycle : BitVec 32
  posValid : Nat
  owners : List Nat
  deriving DecidableEq, Repr

/-- The ring behind its registers (12). `beacons` counts the consecutive valid beacons while listening, `heard` says that one came since
LINK became 1, `joining` the cycles since JOIN (R563), `closing` the LINK that the next permitted splice gap brings (R563, R564),
`blocked` that a duplicate address waits for a write of NODE (R562). `afterMeasure` and `hopSet` serve R533, `lockRun` counts the beacons
of R535, `slew` is the remaining backward slew in ns (R538), `lag` what remained of it when the lock was lost (R531). `cur` and `last` are
the beacons of this cycle and of the one before; their angle area is ignored where they are none (R525). `missRun` counts the cycles
without a valid beacon since the last, `lost` that four have passed (R528), `foreign` the consecutive beacons of another master (R529),
`masterAt` the MASTER of the last valid beacon. `tx` is the transmit queue, `out` the cells inserted in the running cycle, `left` the
quota left in it, `entry` the status entry last written, `beacon` the beacon last sent, `shot` the snapshot last published, `claimed`
whether the last cell that passed was claimed, `splice` whether the beacon of the running cycle permits splicing, `first` that the next
cycle of a ring master is its first. `writes`, `targets`, `inits` serve posted writes, `hosts` the outbound entries in progress with the
cells sent for them, `unread` the unread entries of the error log, `macs` the secured cells already accepted (R633). `members`,
`rotating`, `handover`, `measure`, `setTime` are the ring master's: its members, the nodes that report ROTATING, the announced hand-over,
a measure cycle due after a JOIN_ACK (R519), and a reference time to load (R539). `takeOver` says that this node originates the next cycle
(R530), `pairLocked` what LOCKED the status entry of the twin partner last showed (R522, R576). `heir` is the NEXT_MASTER last announced,
`due` the FRAME_COUNT of the tick that starts the next cycle (R520, R530), `mute` that the angle area of the running cycle is ignored
(R525), `back` what has returned to the ring master and `body` what it forwards in the running cycle (R521). `regain` counts the rounds in
a row in which the twin partner was absent while this node waits to regain its slot (R600). -/
structure Ring where
  beacons : Nat := 0
  heard : Bool := false
  joinDue : Bool := false
  joining : Option Nat := none
  closing : Option Nat := none
  blocked : Bool := false
  afterMeasure : Bool := false
  hopSet : Bool := false
  lockRun : Nat := 0
  slew : Nat := 0
  lag : Nat := 0
  cur : Option BeaconInfo := none
  last : Option BeaconInfo := none
  missRun : Nat := 0
  lost : Bool := false
  foreign : Nat := 0
  masterAt : Option Nat := none
  tx : List TxCell := []
  out : List (List Byte) := []
  left : Nat := 0
  entry : List Byte := []
  beacon : List Byte := []
  shot : List Byte := []
  claimed : Bool := false
  splice : Bool := false
  first : Bool := false
  writes : List RWrite := []
  targets : List RTarget := []
  inits : List RInit := []
  hosts : List (Nat × List Byte) := []
  unread : Nat := 0
  macs : List (Nat × List Byte × Word × BitVec 32) := []
  heir : Option Nat := none
  due : BitVec 32 := 0
  mute : Bool := false
  back : CycleAreas := {}
  body : CycleAreas := {}
  members : List Member := []
  rotating : List Nat := []
  handover : Option (Nat × Nat) := none
  measure : Bool := false
  setTime : Option QWord := none
  takeOver : Bool := false
  pairLocked : Bool := false
  regain : Option Nat := none
  deriving DecidableEq, Repr

/-! ## Twin pairs (13) -/

/-- A change that a mirror group carries (R586): a block with its contents, a commit, a direct write. -/
inductive Mirror where
  | block (n : Nat) (bytes : List Byte)
  | commit (addr : Nat) (value : DWord)
  | direct (addr : Nat) (value : Word)
  deriving DecidableEq, Repr

/-- A packet of the mirror stream that waits to be sent (R586). The contents of a `block`, of the copy of a rejoin, are read when
it begins; a `mirror` carries those that took effect with its group (R585). -/
inductive Packet where
  | block (n : Nat)
  | mirror (n : Nat) (bytes : List Byte)
  | commit (addr : Nat) (value : DWord)
  | direct (addr : Nat) (value : Word)
  | apply (mcount : Nat)
  | capture (bytes : List Byte)
  | hello
  deriving DecidableEq, Repr

/-- A digest of the running or a recent frame: the FRAME_COUNT of the frame, its MCOUNT, the digest (R582, R583). -/
structure Digest where
  frame : BitVec 32
  mcount : Nat
  value : BitVec 64
  deriving DecidableEq, Repr

/-- An edge of the running frame or one to be compared (R574, R579): input, polarity, time in 2.5 ns steps. -/
structure PairEdge where
  input : Nat
  pol : Bool
  steps : Nat
  deriving DecidableEq, Repr

/-- The twin side (13). `sel` is the level of TWIN_SEL (R569). `validRun` counts the valid twin frames in a row, `missRun` the
frame ticks since the last valid one (R575).
`mcount` is the MCOUNT in force, `pMcount`, `pHand`, `pCapOk` what the partner's last valid frame said, `wrong` the valid frames in
a row that showed a partner other than OWNER (R580), `arrival` the ARRIVAL last measured (R576). `offset` is PFN minus
FRAME_COUNT (R577). `digests` are the own digests, newest first, `matched` and `badRun` the outcome of the last comparison and
the mismatches in a row (R584). `stream` holds received mirror bytes with the
FRAME_COUNT at their receipt, `group` the changes received since the last APPLY, `due` the
MCOUNT and the number of changes of what is complete, `capture` a received CAPTURE (R590), `capOk`
CAPTURE_OK, `refused` a partner mismatch (R588). `send` and `sending` are the packets and bytes to be sent, `copyDue` that the
copy of a rejoin is to be sent (R589), `capturing` that CAPTUREs follow it, `anchorAt` the time of the last anchor seen.
`hand` counts the ticks to H of an accepted hand-over and `handBad` cancels it (R594). `edges` are the edges accepted in the
running frame, `mine` and `theirs` edges that wait for their counterpart, `seen` the owner edges by input, `bad` the
disagreements by input and owner edge (R579), `lastEdge` the pair frame number of the last owner edge of each input, `wrote`
the blocks 26 to 29 that the device has written since the last tick (R585). `frame` is the twin frame last sent. -/
structure Twin where
  sel : Bool := false
  validRun : Nat := 0
  missRun : Nat := 0
  mcount : Nat := 0
  pMcount : Nat := 0
  pHand : Bool := false
  pCapOk : Bool := false
  wrong : Nat := 0
  arrival : Nat := 0
  offset : Option (BitVec 32) := none
  digests : List Digest := []
  matched : Bool := false
  badRun : Nat := 0
  stream : List (Byte × BitVec 32) := []
  group : List Mirror := []
  due : Option (Nat × Nat) := none
  capture : Option (List Byte) := none
  capOk : Bool := false
  refused : Bool := false
  send : List Packet := []
  sending : List Byte := []
  copyDue : Bool := false
  capturing : Bool := false
  anchorAt : Int := 0
  hand : Option Nat := none
  handBad : Bool := false
  edges : List PairEdge := []
  mine : List PairEdge := []
  theirs : List PairEdge := []
  seen : Vector Nat 4 := Vector.replicate 4 0
  bad : List (Nat × Nat) := []
  frame : List Byte := []
  lastEdge : Vector (Option (BitVec 32)) 4 := Vector.replicate 4 none
  wrote : List Nat := []
  deriving DecidableEq, Repr

/-! ## The cipher engine (14) -/

/-- A key in a slot with its attributes (R605); its KEYSIZE is the length of `bytes`. -/
structure Key where
  bytes : List Byte
  role : Nat
  usage : Nat
  origin : Nat
  deriving DecidableEq, Repr

/-- A queued job (R615): its number and the copy of its descriptor; `bad` says that the descriptor held a double-bit error. -/
structure Job where
  num : Nat
  desc : List Byte
  bad : Bool
  deriving DecidableEq, Repr

/-- A calibration package that waits for its apply tick (R627, R629): PACKAGE_ID, the named blocks, the committed values. -/
structure Staged where
  id : Nat
  blocks : List Nat
  commits : List (Nat × DWord)
  deriving DecidableEq, Repr

/-- The cipher engine behind its registers: the key slots, the queued jobs (the first one runs), the fuses of CAL_FLOOR
(R630), and the package that waits for its apply tick with the blocks it names. -/
structure Cipher where
  slots : Vector (Option Key) 16 := Vector.replicate 16 none
  queue : List Job := []
  calFloor : Nat := 0
  staged : Option Staged := none
  deriving DecidableEq, Repr


/-! ## The service port (15) -/

/-- A diagnostic request as the transport delivered it (R647, R648): its bytes, whether it was functional, and the format its
response takes. `handle` is that of a forwarded one (R669). -/
structure DiagReq where
  data : List Byte
  functional : Bool
  fdf : Bool
  brs : Bool
  handle : Option Nat := none
  deriving DecidableEq, Repr

/-- A segmented request in reception (R647): its length, the bytes so far, the next sequence number and its format. -/
structure DiagRx where
  total : Nat
  got : List Byte
  sn : Nat
  fdf : Bool
  brs : Bool
  deriving DecidableEq, Repr

/-- A segmented response in transmission (R647): the bytes to come, the next sequence number and the format; `go` says that a
flow control lets it run, `block` the frames left of a limited block, `st` the STmin received, `waits` the WAIT flow controls in
a row, `due` that the separation time must pass before the next frame. -/
structure DiagTx where
  rest : List Byte
  sn : Nat
  fdf : Bool
  brs : Bool
  go : Bool := false
  block : Option Nat := none
  st : Nat := 0
  waits : Nat := 0
  due : Bool := false
  deriving DecidableEq, Repr

/-- The service port behind its registers (15). `idSet` says that CAN_DIAG_ID has been committed since reset (R672), `busOff` that the
controller went bus-off and has not recovered, `recovering` that its recovery runs (R642), `rxOff` that reception on host buffers is
stopped (R654). `sent` is the frame that the controller sent last (R646). `frames` are the frames in buffers 0 and 1 that the supervisor
has still to take, with a mark for a functional one, `out` the frames queued in buffer 2. `rx`, `req`, `tx` are the transport's transfers
and the request in service, `seed` the last seed of each level that is outstanding (R660), `seeds` the seeds issued since boot, `fails`
the consecutive failed keys (R661). `frozen` holds trouble codes and status bytes as they stood when the DTC setting was turned off
(R666). `handle` is the handle last given, `put` the gathered response, `fwdTime` FWD_TIMEOUT in ms (R669, R670; log entry 61).
`resetAfter` says that the device resets when the response has been sent (R653). -/
structure Can where
  idSet : Bool := false
  busOff : Bool := false
  recovering : Bool := false
  rxOff : Bool := false
  frames : List (Bool × CanFrame) := []
  out : List CanFrame := []
  sent : Option CanFrame := none
  rx : Option DiagRx := none
  req : Option DiagReq := none
  tx : Option DiagTx := none
  seed : List (Nat × List Byte) := []
  seeds : Nat := 0
  fails : Nat := 0
  frozen : List (Nat × Nat) := []
  handle : Nat := 0
  put : List Byte := []
  fwdTime : Nat := 100
  resetAfter : Bool := false
  deriving DecidableEq, Repr

/-! ## The service tag and the test port (16, 19) -/

/-- The service tag behind its registers (16): the reason and the announced image of the running update, whether its first phase
clears every segment, the drive phase in ms that was in force at its start (R676, R693), and whether the running step has ended
while the supervisor is halted, so that the next begins when it resumes (R676). -/
structure Tag where
  reason : Nat := 0
  image : Nat := 0
  clear : Bool := false
  drive : Nat := 0
  ended : Bool := false
  deriving DecidableEq, Repr

/-- The instruction that the test access port holds (R747). -/
inductive TapInstr where
  | idcode
  | bypass
  | samplePreload
  | extest
  deriving DecidableEq, Repr

/-- The test access port (R747 to R749): its instruction, the boundary register's update cells (in the order of the BSDL
description, which the spec leaves to Halanatum), and the data register as last captured, first bit out first. -/
structure Tap where
  instr : TapInstr := .idcode
  boundary : List Bool := []
  data : List Bool := []
  deriving DecidableEq, Repr

/-! ## The block -/

/-- The whole block, without its queue of commands. `pub` is the published angle set, `pubOld` the one of the frame before, which
stands until the end of phase A (R34); `free` counts the free values
used so far (a field of the model, not of the spec: log entry 2). -/
structure Chip where
  part : Part := .lb8620
  regs : List (Nat × DWord) := []
  win : Window := {}
  tb : TimeBase := {}
  bus : Bus := {}
  pub : AngleSet := {}
  pubOld : AngleSet := {}
  irq : Irq := {}
  flt : Faults := {}
  jnl : Journal := {}
  wheels : Vector Wheel 4 := Vector.replicate 4 {}
  pred : Pred := {}
  free : Nat := 0
  sched : Sched := {}
  outs : Outs := {}
  timers : Timers := {}
  conv : Conv := {}
  power : Power := {}
  cipher : Cipher := {}
  ring : Ring := {}
  twin : Twin := {}
  can : Can := {}
  tag : Tag := {}
  tap : Tap := {}
  deriving DecidableEq, Repr

/-- The state of the model: the block and the commands that wait, first in, first out. -/
structure State where
  chip : Chip
  pending : List Instr
  deriving DecidableEq, Repr

/-- Why the machine may stop. No command of this block stops the machine: every command has an effect that the spec gives
or leaves the state as it is, so no meaning raises a fault. -/
inductive Fault where
  /-- Raised by no meaning of this model. Safe: it stands only so that the interface has a fault reason. -/
  | none
  deriving DecidableEq, Repr

/-- Why a command may have no meaning. -/
inductive Refusal where
  /-- Raised by an arm of `exec` whose command has no meaning yet. Safe: nothing is claimed of it. -/
  | notModelled (mnemonic : String)
  deriving DecidableEq, Repr

/-- The block right after a power-on reset, before the internal reset is released (R75): every field at its default, the
POR bit set in RESET_CAUSE (R85, R509). -/
def Chip.reset : Chip := { regs := [(R.resetCause, 1#32)] }

/-- The machine right after reset: the block after a power-on reset and an empty queue. -/
def State.reset : State := { chip := Chip.reset, pending := [] }

end Sys2Proof.Machine
end

