-- ==== Sys2Proof/Machine/Ops.lean ====
section
/-!
DEFINITION. The named operations over the block: registers and their fields, the shared window with its ECC and ownership,
the instant of an event, interrupt sources (R428 to R438), the journal's queue and fault records (R445 to R456).
-/

namespace Sys2Proof.Machine

/-- The outcome of a command that has an effect on the block and leaves the queue alone. -/
def State.run (s : State) (f : Chip → Chip) : Host.Outcome State Fault Refusal :=
  .next { s with chip := f s.chip }

namespace Chip

/-! ## Registers -/

/-- The value register `a` holds. -/
def get (c : Chip) (a : Nat) : DWord := Sparse.get regReset c.regs a

/-- Register `a` with the value `v`. -/
def put (a : Nat) (v : DWord) (c : Chip) : Chip := { c with regs := Sparse.set regReset c.regs a v }

/-- The value of a field. -/
def fld (c : Chip) (f : Fld) : Nat := bitsOf (c.get f.reg).toNat f.hi f.lo

/-- A field with the value `n`, modulo its width. -/
def setFld (f : Fld) (n : Nat) (c : Chip) : Chip :=
  c.put f.reg (BitVec.ofNat 32 (putBits (c.get f.reg).toNat f.hi f.lo n))

/-- A one-bit field, or any field, is not 0. -/
def flag (c : Chip) (f : Fld) : Bool := c.fld f != 0

/-- A one-bit field set or cleared. -/
def setFlag (f : Fld) (b : Bool) (c : Chip) : Chip := c.setFld f (b2n b)

/-- A counter field raised by `n`, saturating at its width. -/
def addFld (f : Fld) (n : Nat) (c : Chip) : Chip := c.setFld f (satAdd f.top (c.fld f) n)

/-- A counter field raised by one, saturating. -/
def incFld (f : Fld) (c : Chip) : Chip := c.addFld f 1

/-- A whole 32-bit counter register raised by `n`, saturating. -/
def addReg (a n : Nat) (c : Chip) : Chip := c.put a (BitVec.ofNat 32 (satAdd (2 ^ 32 - 1) (c.get a).toNat n))

/-- Bit `i` of register `a`. -/
def bit (c : Chip) (a i : Nat) : Bool := bitOf (c.get a).toNat i

/-- Bit `i` of register `a` set or cleared. -/
def setBit (a i : Nat) (b : Bool) (c : Chip) : Chip := c.setFld ⟨a, i, i⟩ (b2n b)

/-- `f` when `b` holds. -/
def doIf (b : Bool) (f : Chip → Chip) (c : Chip) : Chip := if b then f c else c

/-- A write of `v` to register `a`: its RW bits take the value, its W1C bits written 1 are cleared (R77, R78). -/
def storeMasked (a : Nat) (v : DWord) (c : Chip) : Chip :=
  match regRow? a with
  | some r => c.put a (((c.get a &&& ~~~ r.rw) ||| (v &&& r.rw)) &&& ~~~ (v &&& r.w1c))
  | none => c

/-- The port refuses an access with a cause (R95). -/
def portErr (cause : Nat) (c : Chip) : Chip :=
  (c.setFlag F.devStatus_PORT_ERR true).setFld F.devStatus_PORT_ERR_CAUSE cause

/-- A write reaches a protected field (R79, R80): an open window closes and the write acts; with a closed window the write
is counted in REJECT_COUNT. Answers whether it acts. -/
def useUnlock (c : Chip) : Bool × Chip :=
  if 0 < c.bus.openTicks then (true, { c with bus := { c.bus with openTicks := 0 } })
  else (false, c.incFld F.devUnlock_REJECT_COUNT)

/-- A host read returned `v`. -/
def answer (v : Word) (c : Chip) : Chip := { c with bus := { c.bus with read := v } }

/-- The host bus serves accesses: from the first frame tick on, and not in RETAIN or OFF (R75, R76). -/
def busOpen (c : Chip) : Bool := c.tb.running && decide (c.fld F.pwrState_STATE < 3) && !c.power.isOff

/-- The frame tick runs: in RUN and IDLE, from the first tick after reset on (R58, R62, R159). -/
def frameRuns (c : Chip) : Bool := c.tb.running && decide (c.fld F.pwrState_STATE < 2) && !c.power.isOff

/-- CCLK runs: out of reset, and not in RETAIN or OFF (R53, R494). -/
def cclkRuns (c : Chip) : Bool := c.tb.running && decide (c.fld F.pwrState_STATE < 3) && !c.power.isOff

/-- A host write, where the bus serves it. -/
def hostWrite (f : Chip → Chip) (c : Chip) : Chip := if c.busOpen then f c else c

/-- A host read answers the first part of `f`'s result with its effect; where the bus does not serve it, 0x0000 (R75, R76). -/
def hostRead (f : Chip → Nat × Chip) (c : Chip) : Chip :=
  if c.busOpen then (f c).2.answer (BitVec.ofNat 16 (f c).1) else c.answer 0

/-- The supervisor executes (R56). In RETAIN, where it is off, it runs for an entry to OFF alone, which has work for it (R494, R506; log
entry 88). -/
def supRuns (c : Chip) : Bool := c.flag F.devStatus_SUP_RUN || (c.power.offEntry && c.fld F.pwrState_STATE == 3)

/-- The next free value's index, used up (log entry 2). -/
def useFree (c : Chip) : Chip := { c with free := c.free + 1 }

/-- The first committed write to register `a` that still waits is taken off the queue of commits. -/
def takeCommit (a : Nat) (c : Chip) : Chip :=
  { c with bus := { c.bus with commits := dropFirst (fun x => x.addr == a) c.bus.commits } }

/-- The first commit to register `a` that waits for the supervisor or a block is taken off its queue. -/
def takeSup (a : Nat) (c : Chip) : Chip :=
  { c with bus := { c.bus with supCommits := dropFirst (fun x => x.1 == a) c.bus.supCommits } }

/-! ## Time -/

/-- The running frame's tick as the time base has it. -/
def thisTick (c : Chip) : TickMark := { frame := c.tb.frame, steps := c.tb.ticks, time := c.tb.time, epoch := c.tb.epoch }

/-- The last tick, with the ring time and the epoch that were in force at it (R20); while no tick comes, the time base itself, which counts
on in WATCH (R494). -/
def lastTick (c : Chip) : TickMark := if c.frameRuns then (c.tb.history.head?).getD c.thisTick else c.thisTick

/-- The last tick at or before a local instant; the oldest one kept where none is (R20). -/
def markBefore (c : Chip) (steps : Int) : TickMark :=
  (c.tb.history.find? fun x => decide ((x.steps : Int) ≤ steps)).getD ((c.tb.history.getLast?).getD c.thisTick)

/-- The timestamp of the present instant: the ring time of the last tick plus the vernier offset, rounded down to a nanosecond
(R20). -/
def now64 (c : Chip) : QWord := c.lastTick.time + BitVec.ofNat 64 (c.tb.now * 5 / 2)

/-- The epoch of a timestamp of the present instant (R20). -/
def nowEpoch (c : Chip) : Word := c.lastTick.epoch

/-- Ring time at the present instant (R22). -/
def ringNow (c : Chip) : QWord := c.tb.time + BitVec.ofNat 64 (c.tb.now * 5 / 2)

/-- The device is ready (R511). -/
def ready (c : Chip) : Bool := c.flag F.devStatus_READY

/-- The engine cycle length C in ad (R28). -/
def cycleLen (c : Chip) : Nat := if c.flag F.wheelSys_ENGINE then 368640 else 737280

/-! ## The shared window -/

/-- The stored byte at an offset. -/
def winByte (c : Chip) (off : Nat) : Byte := Sparse.get (fun _ => 0#8) c.win.mem off

/-- One byte stored; its word's check bits are made valid. -/
def putWinByte (off : Nat) (b : Byte) (c : Chip) : Chip :=
  { c with win := { c.win with mem := Sparse.set (fun _ => 0#8) c.win.mem off b
                               ecc := Sparse.drop c.win.ecc (off / 2) } }

/-- The stored 16-bit word at an even offset, little end first (R162). -/
def win16 (c : Chip) (off : Nat) : Nat := (c.winByte off).toNat + 256 * (c.winByte (off + 1)).toNat

/-- A 16-bit word stored with valid check bits. -/
def putWin16 (off v : Nat) (c : Chip) : Chip :=
  (c.putWinByte off (BitVec.ofNat 8 v)).putWinByte (off + 1) (BitVec.ofNat 8 (v / 256))

/-- A 32-bit entry at an offset that is a multiple of 4 (R124). -/
def win32 (c : Chip) (off : Nat) : Nat := c.win16 off + 65536 * c.win16 (off + 2)

/-- A 32-bit entry stored. -/
def putWin32 (off v : Nat) (c : Chip) : Chip := (c.putWin16 off (v % 65536)).putWin16 (off + 2) (v / 65536)

/-- The word `i` as it was stored: the device knows the words that only it writes, and reads none of them back (log entry 95). -/
def ownWord (c : Chip) (i : Nat) : Nat :=
  let flip (b : Fin 22) : Nat := if b.val < 16 then 2 ^ b.val else 0
  match Sparse.find? c.win.ecc i with
  | none => c.win16 (2 * i)
  | some (.single b) => c.win16 (2 * i) ^^^ flip b
  | some (.double b d) => c.win16 (2 * i) ^^^ flip b ^^^ flip d
  | some (.many w) => w.toNat

/-- A 32-bit entry as the device stored it (log entry 95). -/
def ownWord32 (c : Chip) (off : Nat) : Nat := c.ownWord (off / 2) + 65536 * c.ownWord (off / 2 + 1)

/-- Words stored one after the other. -/
def putWords (off : Nat) : List Nat → Chip → Chip
  | [], c => c
  | w :: ws, c => putWords (off + 2) ws (c.putWin16 off w)

/-- Bytes stored one after the other. -/
def putBytes (off : Nat) : List Byte → Chip → Chip
  | [], c => c
  | b :: bs, c => putBytes (off + 1) bs (c.putWinByte off b)

/-- `n` stored words from an offset. -/
def words (c : Chip) (off n : Nat) : List Nat := (List.range n).map fun i => c.win16 (off + 2 * i)

/-- `n` stored bytes from an offset. -/
def bytes (c : Chip) (off n : Nat) : List Byte := (List.range n).map fun i => c.winByte (off + i)

/-- A record under R128: SEQ in its word 0 goes up by two, the other words listed by number are stored (R129). -/
def putRecord (off : Nat) (ws : List (Nat × Nat)) (c : Chip) : Chip :=
  let c1 := ws.foldl (fun d x => d.putWin16 (off + 2 * x.1) x.2) c
  c1.putWin16 off ((c.ownWord (off / 2) + 2) % 65536)

/-- A block of R109 that requests can transfer. -/
def transferable (b : Nat) : Bool := b == 0 || (10 ≤ b && b ≤ 159) || (384 ≤ b && b ≤ 455)

/-- The flag of block `b` is HOST (R109, R112). -/
def hostOwned (c : Chip) (b : Nat) : Bool := 496 ≤ b || c.win.taken.contains b

/-- Block `b` is RETURNING. -/
def isReturning (c : Chip) (b : Nat) : Bool := c.win.returning.any fun r => r.1 == b

/-- The device acts on block `b`: DEVICE-owned and not RETURNING (R114, R118). -/
def deviceHeld (c : Chip) (b : Nat) : Bool := !c.hostOwned b && !c.isReturning b

/-- The stored word with a single error taken out. -/
def corrected (c : Chip) (i : Nat) (bit : Fin 22) : Nat :=
  (c.win16 (2 * i)) ^^^ (if bit.val < 16 then 2 ^ bit.val else 0)

/-! ## Interrupt sources -/

/-- Bit `s` of a 64-bit map of sources. -/
def srcBit (m : BitVec 64) (s : Nat) : Bool := m.getLsbD s

/-- A map of sources with bit `s` set or cleared. -/
def withSrc (m : BitVec 64) (s : Nat) (b : Bool) : BitVec 64 :=
  if b then m ||| BitVec.ofNat 64 (2 ^ s) else m &&& ~~~ (BitVec.ofNat 64 (2 ^ s))

/-- Source `s` is active for some target (R436). -/
def isActive (c : Chip) (s : Nat) : Bool := srcBit c.irq.actA s || srcBit c.irq.actB s || srcBit c.irq.actS s

/-- The target a source is routed to: 0 HOST_A, 1 HOST_B, 2 SUP; 3 acts as 0 (R429). -/
def srcTarget (c : Chip) (s : Nat) : Nat := if c.fld (F.irqSrc_TARGET s) = 3 then 0 else c.fld (F.irqSrc_TARGET s)

/-- The threshold of a target; SUP has none (R431). -/
def threshold (c : Chip) (x : Nat) : Nat :=
  if x = 0 then c.fld F.irqThresh_THRESH_A else if x = 1 then c.fld F.irqThresh_THRESH_B else 0

/-- Source `s` is eligible for target `x` (R431). -/
def eligible (c : Chip) (x s : Nat) : Bool :=
  srcBit c.irq.pend s && !c.isActive s && decide (1 ≤ c.fld (F.irqSrc_PRIO s)) &&
    decide (c.threshold x < c.fld (F.irqSrc_PRIO s)) && !c.flag (F.irqSrc_MASK s) && c.srcTarget s == x

/-- The sources 1 to 62. -/
def sources : List Nat := (List.range 62).map (· + 1)

/-- The eligible source a claim returns: highest PRIO, then lowest number (R433). -/
def bestSource (c : Chip) (x : Nat) : Option Nat :=
  (sources.filter (c.eligible x)).foldl
    (fun b s => match b with
      | none => some s
      | some t => if c.fld (F.irqSrc_PRIO t) < c.fld (F.irqSrc_PRIO s) then some s else some t) none

/-- IRQ_GLOBAL.PEND_x: some source is eligible for the target (R431). -/
def anyEligible (c : Chip) (x : Nat) : Bool := (c.bestSource x).isSome

/-- IRQ_A_N is asserted (R432), in a model whose pin follows without delay; in reset and in RETAIN the pin is high-impedance. -/
def pinA (c : Chip) : Bool := c.busOpen && c.anyEligible 0 && !c.flag F.irqGlobal_HOLD_A

/-- IRQ_B_N is asserted (R432). -/
def pinB (c : Chip) : Bool := c.busOpen && c.anyEligible 1 && !c.flag F.irqGlobal_HOLD_B

/-- Notes a pin that is asserted now as asserted since the last claim (R434). -/
def samplePins (c : Chip) : Chip :=
  { c with irq := { c.irq with seenA := c.irq.seenA || c.pinA, seenB := c.irq.seenB || c.pinB } }

/-- Raises source `s`: its pending bit is set whatever its configuration (R430). -/
def raise (s : Nat) (c : Chip) : Chip :=
  samplePins { c with irq := { c.irq with pend := withSrc c.irq.pend s true } }

/-! ## Journal causes -/

/-- An entry the supervisor has to write (R466). -/
def journal (x : JCause) (c : Chip) : Chip := { c with jnl := { c.jnl with waiting := c.jnl.waiting ++ [x] } }

/-! ## Fault records -/

/-- The byte offset of slot `k` in the window (R445). -/
def slotOff (k : Nat) : Nat := 0x200 + 128 * k

/-- Word `w` of the record in slot `k`, as the fault manager made it (log entry 95). -/
def slotWord (c : Chip) (k w : Nat) : Nat := c.ownWord (slotOff k / 2 + w)

/-- Slot `k` holds a record (R445). -/
def slotUsed (c : Chip) (k : Nat) : Bool := c.slotWord k 1 != 0

/-- CLASS of the record in slot `k`. -/
def slotClass (c : Chip) (k : Nat) : Nat := c.slotWord k 3 % 4

/-- STANDING of the record in slot `k`. -/
def slotStanding (c : Chip) (k : Nat) : Bool := bitOf (c.slotWord k 3) 2

/-- The slots 0 to 15. -/
def slots : List Nat := List.range 16

/-- The occupied slots. -/
def usedSlots (c : Chip) : List Nat := slots.filter c.slotUsed

/-- How many records were made since the record of slot `k`, so that the oldest has the largest age (R448). -/
def slotAge (c : Chip) (k : Nat) : Nat := (c.flt.ordinal.toNat + 65536 - c.slotWord k 5) % 65536

/-- The slot of a list with the greatest age. -/
def oldestOf (c : Chip) (l : List Nat) : Option Nat :=
  l.foldl (fun b k => match b with
    | none => some k
    | some j => if c.slotAge j < c.slotAge k then some k else some j) none

/-- The slot of a list with the least age. -/
def newestOf (c : Chip) (l : List Nat) : Option Nat :=
  l.foldl (fun b k => match b with
    | none => some k
    | some j => if c.slotAge k < c.slotAge j then some k else some j) none

/-- FAULT_SUMMARY.MAX_CLASS (R444). -/
def maxClass (c : Chip) : Nat :=
  let held := match c.flt.lostClass with
    | some x => x + 1
    | none => 0
  c.usedSlots.foldl (fun m k => max m (c.slotClass k + 1)) held

/-- FAULT_N is driven low (R460); an unpowered device drives nothing. -/
def faultNLow (c : Chip) : Bool := !c.power.isOff && (!c.ready || decide (3 ≤ c.maxClass))

/-- What the device does to a pin it drives. -/
inductive Drive where
  | low
  | high
  | highZ
  deriving DecidableEq, Repr

/-- FAULT_N is push-pull, and high-impedance while the device is unpowered (R460). -/
def faultNPin (c : Chip) : Drive := if c.power.isOff then .highZ else if c.faultNLow then .low else .high

/-- IRQ_A_N: asserted low; not asserted it is released where IRQ_A_OD selects open drain and driven high otherwise; in reset, in
RETAIN and in OFF it is high-impedance (R432). -/
def irqAPin (c : Chip) : Drive :=
  if !c.busOpen then .highZ else if c.pinA then .low else if c.flag F.devControl_IRQ_A_OD then .highZ else .high

/-- IRQ_B_N likewise (R432). -/
def irqBPin (c : Chip) : Drive :=
  if !c.busOpen then .highZ else if c.pinB then .low else if c.flag F.devControl_IRQ_B_OD then .highZ else .high

/-- FAULT_SUMMARY as read (R454, R458, R460, R463). -/
def faultSummary (c : Chip) : Nat :=
  c.maxClass + c.usedSlots.length * 8 + b2n c.flt.dropped * 256 + b2n (!c.flt.safeN) * 512 +
    b2n c.flt.wdtExpired * 1024 + b2n c.faultNLow * 2048

/-- FAULT_QUEUE as read (R452, R448). -/
def faultQueue (c : Chip) : Nat :=
  (c.oldestOf c.usedSlots).getD 0 + (c.newestOf c.usedSlots).getD 0 * 16 + c.usedSlots.length * 256 +
    b2n c.flt.lostClass.isSome * 32768 + c.flt.ackResult * 65536

/-- The class of a fault code: 0 F0, 1 F1, 2 F2, 3 F3 (the fault code tables of the chapters). -/
def faultClass : Nat → Nat
  | 0x0101 => 2 | 0x0102 => 3 | 0x0103 => 0 | 0x0104 => 1 | 0x0105 => 3 | 0x0106 => 3 | 0x0107 => 3 | 0x0108 => 0
  | 0x0109 => 2 | 0x0110 => 1 | 0x0111 => 0 | 0x0112 => 0
  | 0x0201 => 1 | 0x0202 => 1 | 0x0203 => 0 | 0x0204 => 0 | 0x0205 => 0 | 0x0206 => 1 | 0x0207 => 1 | 0x0208 => 1
  | 0x0209 => 0 | 0x020A => 1 | 0x020B => 1 | 0x020C => 0
  | 0x0301 => 1 | 0x0302 => 1 | 0x0303 => 0 | 0x0304 => 1 | 0x0305 => 0
  | 0x0401 => 1 | 0x0402 => 1 | 0x0403 => 1 | 0x0404 => 1 | 0x0405 => 2 | 0x0406 => 2 | 0x0407 => 0 | 0x0408 => 1
  | 0x0409 => 1 | 0x040A => 1 | 0x040B => 0
  | 0x0501 => 1 | 0x0502 => 1 | 0x0503 => 0 | 0x0504 => 0
  | 0x0601 => 0 | 0x0602 => 0 | 0x0603 => 1 | 0x0604 => 1 | 0x0605 => 2 | 0x0606 => 2 | 0x0607 => 2 | 0x0608 => 2
  | 0x0609 => 1 | 0x060A => 1 | 0x060B => 1
  | 0x0701 => 1 | 0x0702 => 0 | 0x0703 => 1 | 0x0704 => 1 | 0x0705 => 0 | 0x0706 => 1 | 0x0707 => 1 | 0x0708 => 0
  | 0x0709 => 0
  | 0x0801 => 1 | 0x0802 => 1 | 0x0803 => 0 | 0x0804 => 1 | 0x0805 => 1 | 0x0806 => 0 | 0x0807 => 1 | 0x0808 => 1
  | 0x0809 => 0
  | 0x0901 => 1 | 0x0902 => 0 | 0x0903 => 1 | 0x0904 => 1 | 0x0905 => 0
  | 0x0A01 => 1 | 0x0A02 => 0 | 0x0A03 => 0 | 0x0A04 => 1 | 0x0A05 => 0
  | 0x0B01 => 0 | 0x0B02 => 0 | 0x0B03 => 1
  | 0x0C01 => 1 | 0x0C02 => 0 | 0x0C03 => 0
  | _ => 0

/-- The codes whose entry says that a repeat updates DETAIL. -/
def detailUpdates (code : Nat) : Bool := code == 0x0109

/-- The words 1 to 31 of a new record (R445). -/
def recordWords (c : Chip) (code unit cls detail : Nat) (standing : Bool) : List (Nat × Nat) :=
  let t := c.now64.toNat
  let f := c.tb.frame.toNat
  let out := (c.get R.outStatus).toNat
  let cyc := (c.get R.schedCycle).toNat
  [(1, code), (2, unit % 65536), (3, cls + b2n standing * 4), (4, 0), (5, c.flt.ordinal.toNat), (6, c.nowEpoch.toNat),
   (7, t % 65536), (8, t / 65536 % 65536), (9, t / 2 ^ 32 % 65536), (10, t / 2 ^ 48),
   (11, f % 65536), (12, f / 65536), (13, f % 65536), (14, f / 65536), (15, detail % 65536),
   (16, c.pub.angle % 65536), (17, c.pub.sigma * 256 + c.pub.angle / 65536), (18, c.pub.speed), (19, c.pub.sync),
   (20, (c.get R.schedStatus).toNat), (21, (c.get R.supplyStatus).toNat), (22, (c.get R.pwrState).toNat),
   (23, (c.get R.devStatus).toNat), (24, putBits (c.get R.twinStatus).toNat 4 4 (b2n (c.flag F.twinControl_TWIN_EN))), (25, (c.get R.ringStatus).toNat),
   (26, out % 65536), (27, out / 65536), (28, cyc % 65536), (29, cyc / 65536), (30, c.faultSummary), (31, 0)]

/-- The journal entry of a new record, where its class calls for one; JOURNAL_WRITE_FAIL never has one (R442, R468). -/
def journalRaised (code unit cls detail : Nat) (c : Chip) : Chip :=
  if (cls != 0 || c.flag F.faultCfg_JOURNAL_F0) && code != 0x0C01 then
    c.journal { kind := 1, cls := cls, code := BitVec.ofNat 16 code, unit := BitVec.ofNat 16 unit,
                detail := BitVec.ofNat 16 detail, frame := c.tb.frame }
  else c

/-- A new record written into slot `k`: the next ORDINAL, its journal entry and source 62 (R447 to R449). -/
def makeRecord (k code unit cls detail : Nat) (standing : Bool) (c : Chip) : Chip :=
  let c1 := c.putRecord (slotOff k) (c.recordWords code unit cls detail standing)
  ({ c1 with flt := { c1.flt with ordinal := c1.flt.ordinal + 1 } }.journalRaised code unit cls detail).raise 62

/-- A repeat of the fault whose record is in slot `k` (R447). -/
def repeatRecord (k detail : Nat) (standing upd : Bool) (c : Chip) : Chip :=
  let f := c.tb.frame.toNat
  c.putRecord (slotOff k)
    ([(3, if standing then c.slotWord k 3 % 4 + 4 else c.slotWord k 3), (4, satAdd 0xFFFF (c.slotWord k 4) 1),
      (13, f % 65536), (14, f / 65536)] ++ (if upd then [(15, detail % 65536)] else []))

/-- A record that finds no free slot (R455): the oldest F0 record is discarded for it, or it is dropped and the queue-loss
state holds its class. -/
def recordFull (code unit cls detail : Nat) (standing : Bool) (c : Chip) : Chip :=
  match c.oldestOf (c.usedSlots.filter fun k => c.slotClass k == 0) with
  | some k =>
    makeRecord k code unit cls detail standing
      { c.incFld F.faultCounts_DISCARDED with flt := { c.flt with dropped := true } }
  | none =>
    { c.incFld F.faultCounts_DROPPED with
      flt := { c.flt with dropped := true
                          lostClass := some (max (max 2 cls) (c.flt.lostClass.getD 0))
                          lostDrops := c.flt.lostDrops + 1 } }

/-- A fault of class `cls`: a repeat of the record in the queue, a new record in the lowest free slot, or the full-queue
rule (R447, R455). -/
def faultOf (code unit cls detail : Nat) (standing : Bool) (c : Chip) : Chip :=
  match slots.find? fun k => c.slotWord k 1 == code && c.slotWord k 2 == unit % 65536 with
  | some k => c.repeatRecord k detail standing (detailUpdates code)
  | none =>
    match slots.find? fun k => !c.slotUsed k with
    | some k => c.makeRecord k code unit cls detail standing
    | none => c.recordFull code unit cls detail standing

/-- A fault of the class its code table gives. -/
def fault (code unit detail : Nat) (c : Chip) : Chip := c.faultOf code unit (faultClass code) detail false

/-- A standing fault (R450). -/
def faultStanding (code unit detail : Nat) (c : Chip) : Chip := c.faultOf code unit (faultClass code) detail true

/-- The condition behind a standing record ends: STANDING is cleared by rewriting the record (R450). -/
def endStanding (code unit : Nat) (c : Chip) : Chip :=
  match slots.find? fun k => c.slotWord k 1 == code && c.slotWord k 2 == unit % 65536 with
  | some k => if c.slotStanding k then c.putRecord (slotOff k) [(3, c.slotWord k 3 % 4)] else c
  | none => c

/-- The queue-loss state ends (R456). -/
def clearLost (c : Chip) : Chip := { c with flt := { c.flt with lostClass := none, lostDrops := 0 } }

/-- After a drop, the record of the losses once a slot is free; LOST then returns to 0 (R456). -/
def settleLost (c : Chip) : Chip :=
  match c.flt.lostClass with
  | none => c
  | some cls =>
    match slots.find? fun k => !c.slotUsed k with
    | none => c
    | some k =>
      let d := min 0xFFFF c.flt.lostDrops
      match slots.find? fun j => c.slotWord j 1 == 0x0109 with
      | some j =>
        let c1 := c.repeatRecord j (satAdd 0xFFFF (c.slotWord j 15) d) false true
        (if c.slotClass j < cls then c1.putWin16 (slotOff j + 6) cls else c1).clearLost
      | none => (c.makeRecord k 0x0109 0 cls d false).clearLost

/-! ## ECC of the shared window -/

/-- WINDOW_ECC_SINGLE for word `i` (R136). -/
def eccSingle (i : Nat) (c : Chip) : Chip := c.fault 0x0103 i 0

/-- WINDOW_ECC_DOUBLE for word `i`, with the reader that met it (R137 to R140). -/
def eccDouble (i detail : Nat) (c : Chip) : Chip := c.fault 0x0104 i detail

/-- What a read makes of a word with three or more wrong bits is open (R134): it reports a double error, or takes the word for one
with a single error, whose free correction it writes back, or finds none. Answers the data read, and whether it may be used. -/
def readMany (i detail : Nat) (c : Chip) : Nat × Bool × Chip :=
  let c1 := c.useFree
  let v := (Config.freeWord c.free).toNat
  match Config.freeNat c.free % 3 with
  | 0 => (c.win16 (2 * i), false, c1.eccDouble i detail)
  | 1 => (v, true, (if i / 128 < 496 then c1.putWin16 (2 * i) v else c1).eccSingle i)
  | _ => (c.win16 (2 * i), true, c1)

/-- A single error found in word `i` by a read: reported, and outside host scratch written back corrected (R136). -/
def repair (i : Nat) (b : Fin 22) (c : Chip) : Chip :=
  let c1 := if i / 128 < 496 then c.putWin16 (2 * i) (c.corrected i b) else c
  c1.eccSingle i

/-- A device engine reads `n` words from offset `off`: every single error is repaired and reported, and a double error makes
the answer none and is reported with DETAIL 3 (R136, R139). -/
def engineCheck (off n : Nat) (c : Chip) : Bool × Chip :=
  (c.win.ecc.filter fun e => decide (off / 2 ≤ e.1) && decide (e.1 < off / 2 + n)).foldl
    (fun p e => match e.2 with
      | .single b => (p.1, p.2.repair e.1 b)
      | .double _ _ => (false, p.2.eccDouble e.1 3)
      | .many _ =>
        let q := p.2.readMany e.1 3
        (p.1 && q.2.1, q.2.2)) (true, c)

/-- The stored word `i` as an engine reads it where it has at most one wrong bit (R136). -/
def soundWord (c : Chip) (i : Nat) : Nat :=
  match Sparse.find? c.win.ecc i with
  | some (.single b) => c.corrected i b
  | _ => c.win16 (2 * i)

/-- The stored word `i` has more than one wrong bit. -/
def damagedWord (c : Chip) (i : Nat) : Bool :=
  match Sparse.find? c.win.ecc i with
  | some (.double _ _) | some (.many _) => true
  | _ => false

/-- A device engine that writes a part of a word reads and corrects it first: the words at the ends of `n` bytes from offset `off`
(R135, R136, R139). -/
def checkEnds (off n : Nat) (c : Chip) : Chip :=
  let c1 := c.doIf (decide (0 < n) && off % 2 == 1) fun d => (d.engineCheck (off - 1) 1).2
  c1.doIf (decide (0 < n) && (off + n) % 2 == 1) fun d => (d.engineCheck (off + n - 1) 1).2

end Chip

end Sys2Proof.Machine
end

