-- ==== Sys2Proof/Machine/TwinCore.lean ====
section
/-!
DEFINITION. What other chapters need of the twin pair (13): its state and duties (R571, R581), pair frame numbers (R577), the
twin log (R602), a change of state (R580), the changes that the owner mirrors (R585).
-/

namespace Sys2Proof.Machine

namespace Chip

/-- The twin side passed through `f`. -/
def modTwin (f : Twin → Twin) (c : Chip) : Chip := { c with twin := f c.twin }

/-- TWIN_STATUS.STATE: 0 ISOLATED, 1 SHADOW, 2 READY, 3 OWNER. -/
def twinState (c : Chip) : Nat := c.fld F.twinStatus_STATE

/-- The device is OWNER. -/
def isOwner (c : Chip) : Bool := c.twinState == 3

/-- The device has the duties of a non-owner: SHADOW or READY (R581). -/
def shadows (c : Chip) : Bool := c.twinState == 1 || c.twinState == 2

/-- The gate balls carry only the weak pull-down: the device is unpowered, or TWIN_SEL is tied high and it is not OWNER (R4, R569,
R571). -/
def weakGates (c : Chip) : Bool := c.power.isOff || (c.twin.sel && !c.isOwner)

/-- TWIN_EN. -/
def twinEn (c : Chip) : Bool := c.flag F.twinControl_TWIN_EN

/-- The twin link is up. -/
def linkUp (c : Chip) : Bool := c.flag F.twinStatus_LINK_UP

/-- The partner's STATE in its last valid twin frame. -/
def partnerState (c : Chip) : Nat := c.fld F.twinPartner_STATE

/-- Both members measure in pair time (R577). -/
def paired (c : Chip) : Bool := c.twinEn && c.linkUp

/-- The device takes its edges from the owner's EDGE items: it holds the PFN offset and its partner is OWNER (R577, R578). -/
def follows (c : Chip) : Bool := c.paired && c.twin.offset.isSome && c.partnerState == 3 && !c.isOwner

/-- The pair frame number of the running frame: the owner's FRAME_COUNT (R577). -/
def pfn (c : Chip) : BitVec 32 := if c.isOwner then c.tb.frame else c.tb.frame + c.twin.offset.getD 0

/-- BST_GATE falls where the balls carry only the weak pull-down, and on a non-owner (R569, R581). -/
def settleCharge (c : Chip) : Chip :=
  { c with power := { c.power with charging := c.power.charging && !c.weakGates && !c.shadows } }

/-- L_k is inactive on a non-owner (R571, R581). -/
def settleLatches (c : Chip) : Chip :=
  { c with outs := { c.outs with tio := if c.shadows then c.outs.tio.map fun x => { x with lk := false } else c.outs.tio } }

/-- What a change of STATE does to the outputs. -/
def settleGates (c : Chip) : Chip := c.settleCharge.settleLatches

/-- A twin log entry (R602): `words` are its words 11 to 19 by number. -/
def twinLog (kind new old detail : Nat) (words : List (Nat × Nat)) (c : Chip) : Chip :=
  let k := (c.get R.twinLogHead).toNat % 64
  let t := c.now64.toNat
  let p := c.pfn.toNat
  let c1 := c.putRecord (480 * 256 + 64 * k)
    ([(1, kind * 256 + new * 16 + old), (2, detail), (3, c.twin.mcount * 256 + c.twin.pMcount), (4, p % 65536), (5, p / 65536),
      (6, c.nowEpoch.toNat), (7, t % 65536), (8, t / 65536 % 65536), (9, t / 2 ^ 32 % 65536), (10, t / 2 ^ 48)] ++
      ((List.range 9).map fun i => (11 + i, 0)) ++ words)
  c1.put R.twinLogHead (BitVec.ofNat 32 ((k + 1) % 64))

/-- Bit n of GATES: a channel of bank n is in a profile phase (R602). -/
def gatesInUse (c : Chip) : Nat :=
  (List.range 6).foldl (fun m n =>
    if (List.range 4).any fun i => (at? c.outs.inj (4 * n + i) {}).phase != .idle then m + 2 ^ n else m) 0

/-- STATE becomes `new` with a log entry of a kind, and source 56 is raised (R580); nothing happens where STATE is `new`. -/
def twinMove (kind new detail : Nat) (words : List (Nat × Nat)) (c : Chip) : Chip :=
  if c.twinState = new then c
  else (((c.setFld F.twinStatus_STATE new).settleGates).twinLog kind new c.twinState detail words).raise 56

/-- The device becomes ISOLATED: a rejoin or a hand-over in progress ends (R580, R589). -/
def isolate (kind detail : Nat) (c : Chip) : Chip :=
  let c1 := c.twinMove kind 0 detail []
  ((c1.setFld F.twinProgress_REJOIN_PHASE 0).setFld F.twinProgress_COPY_LEFT 0).modTwin fun t =>
    { t with capOk := false, capture := none, copyDue := false, capturing := false, hand := none, handBad := false
             group := [], due := none, send := t.send.filter fun p => p = .hello }

/-- An internal safe stop releases ownership while F3_RELEASE is 1 (R595). -/
def f3Release (c : Chip) : Chip := if c.isOwner && c.flag F.twinCfg_F3_RELEASE then c.isolate 1 0 else c

/-- A twin fault with source 56 (R603). -/
def twinFault (code unit detail : Nat) (c : Chip) : Chip := (c.raise 56).fault code unit detail

/-! ## The changes that the owner mirrors (R585) -/

/-- The owner mirrors its changes now (R585). -/
def mirrors (c : Chip) : Bool := c.isOwner && c.paired && (c.partnerState == 1 || c.partnerState == 2)

/-- The packet of a committed write that is mirrored (R585). -/
def mirrored (x : Nat × DWord) : Option Packet :=
  if x.1 = R.schedControl ∨ x.1 = R.invalBlock then some (.direct x.1 (x.2.setWidth 16))
  else if regionOf x.1 = 3 ∨ regionOf x.1 = 4 ∨ regionOf x.1 = 10 then some (.commit x.1 x.2) else none

/-- The packet of a returned or written block that is mirrored, its contents still to be read (R585). -/
def mirroredBlock (b : Nat) : Option Packet := if 10 ≤ b ∧ b ≤ 159 then some (.block b) else none

/-- The contents of block `n` as the twin engine reads them: none where a word is damaged (R136, R139). -/
def readBlock (n : Nat) (c : Chip) : Option (List Byte) × Chip :=
  let p := c.engineCheck (256 * n) 128
  (if p.1 then some (p.2.bytes (256 * n) 256) else none, p.2)

/-- The packets of a group with the contents of their blocks as they take effect; a block with a damaged word is not sent (R139,
R585; log entry 79). -/
def readGroup (ps : List Packet) (c : Chip) : List Packet × Chip :=
  ps.foldl (fun q x => match x with
    | .block n =>
      let r := q.2.readBlock n
      (q.1 ++ (r.1.map fun bs => Packet.mirror n bs).toList, r.2)
    | y => (q.1 ++ [y], q.2)) ([], c)

/-- The changes of one tick become a mirror group, and MCOUNT goes up (R585). -/
def mirrorGroup (ps : List Packet) (c : Chip) : Chip :=
  if !c.mirrors || ps.isEmpty then c
  else
    let m := (c.twin.mcount + 1) % 64
    let q := c.readGroup ps
    q.2.modTwin fun t => { t with mcount := m, send := t.send ++ q.1 ++ [.apply m] }

/-- The changes `ps` take effect as `f` at a tick of their own, and the owner mirrors them (R585). -/
def mirrorsOf (ps : List Packet) (f : Chip → Chip) (c : Chip) : Chip := (f c).mirrorGroup ps

end Chip

end Sys2Proof.Machine
end

