-- ==== Sys2Proof/Machine/Predictor.lean ====
section
/-!
DEFINITION. Angle prediction, uncertainty and references (05): the model and its anchors (R195 to R203), σ (R204 to R207),
references, qualification, blends and corrections (R217 to R242), direction and stall (R243 to R252), phase A of a frame.
Angles are in 2^-32 ad and local times in 2^-32 ns, as R196 and R591 fix them.
-/

namespace Sys2Proof.Machine

/-- The code of a reference (R217). -/
def Ref.code : Ref → Nat
  | .crankA => 0
  | .crankB => 1
  | .cam => 2
  | .ring => 3
  | .dead => 4

/-- The reference of a code 0 to 3. -/
def Ref.ofCode : Nat → Option Ref
  | 0 => some .crankA
  | 1 => some .crankB
  | 2 => some .cam
  | 3 => some .ring
  | _ => none

/-- One angle digit, and one nanosecond, in the units of R196. -/
def oneFx : Int := 4294967296

/-- Local time in 2.5 ns steps as 2^-32 ns. -/
def stepsFx (n : Nat) : Int := (n : Int) * 5 * 2147483648

/-- The forward distance from `a` to `b` modulo `m` (R32). -/
def fwdDist (m a b : Int) : Int := (b - a) % m

/-- The signed difference `b − a` modulo `m`: exactly half the cycle counts as backward (R32). -/
def sgnDiff (m a b : Int) : Int := if 2 * fwdDist m a b < m then fwdDist m a b else fwdDist m a b - m

/-- Rounds a quotient up. -/
def ceilDivI (a b : Int) : Int := -Int.fdiv (-a) b

/-- The direction sign s of a model (R196). -/
def Model.sign (m : Model) : Int := if m.rev then -1 else 1

/-- The anchor update of R196, for an anchor at angle `a` and local time `t` with ACC_GAIN `g`, angles modulo `mod`. -/
def Model.anchor (m : Model) (mod a t : Int) (g : Nat) (entry : Nat) : Model :=
  let d := Int.fdiv (t - m.t) 256
  let dist := if m.rev then fwdDist mod a m.ang else fwdDist mod m.ang a
  let wAvg := if d ≤ 0 then m.w else Int.fdiv (dist * 2 ^ 48) d
  let aRaw := if d + m.dPrev ≤ 0 then 0 else Int.fdiv (2 * (wAvg - m.wPrev) * 2 ^ 56) (d + m.dPrev)
  let alpha := Int.fdiv (16 * m.alpha + (aRaw - m.alpha) * g) 16
  let sA := Int.fdiv (16 * m.sA + (((aRaw - alpha).natAbs : Int) - m.sA) * g) 16
  let w := max 0 (Int.fdiv (wAvg * 2 ^ 57 + alpha * d) (2 ^ 57))
  { m with ang := a % mod, t := t, w := w, wPrev := wAvg, dPrev := d, alpha := alpha, sA := sA, left := m.left - 1
           entry := entry }

/-- The angle a model gives at local time `t` (extrapolate of R196): the speed never passes zero. -/
def Model.extrapolate (m : Model) (mod t : Int) : Int :=
  let tau := t - m.t
  if m.alpha < 0 && decide (m.w * 2 ^ 64 + m.alpha * tau < 0) then
    (m.ang + Int.fdiv (m.sign * (m.w * m.w * 256)) (-(2 * m.alpha))) % mod
  else
    (m.ang + Int.fdiv (m.sign * (m.w * tau * 2 ^ 65 + m.alpha * tau * tau)) (2 ^ 121)) % mod

/-- The speed of a model at local time `t`, in 2^-120 ad/ns, never below zero. -/
def Model.speedAt (m : Model) (t : Int) : Int := max 0 (m.w * 2 ^ 64 + m.alpha * (t - m.t))

/-- s_a of R197: at least 16 ad/ms² in the start window. -/
def Model.scatter (m : Model) : Int := if 0 < m.left then max m.sA (Int.fdiv (16 * 2 ^ 88) (10 ^ 12)) else m.sA

/-- The Dynamics term of σ (R204) for SIGMA_K `k`, in 2^-32 ad, rounded up. -/
def Model.dynamics (m : Model) (k : Nat) (t : Int) : Int :=
  ceilDivI (m.scatter * k * (t - m.t) * (t - m.t)) (2 ^ 123)

/-- The entry after (forward) or before (reverse) entry `j` (R166, R182). -/
def nextEntry (tb : ToothTable) (j : Nat) (rev : Bool) : Nat :=
  let n := tb.teeth.length
  if rev then (j + n - 1) % n else (j + 1) % n

namespace Chip

/-- The modulus of the engine angle: one revolution while STATE is CRANK_SYNC, else the engine cycle (R31). A phase assigned
while dead reckoning keeps STATE (R173, R177) is held on the engine cycle. -/
def modulus (c : Chip) : Int :=
  if c.pred.state = 1 && !c.pred.phase then 368640 * oneFx else (c.cycleLen : Int) * oneFx

/-- The local time of the present tick. -/
def tickFx (c : Chip) : Int := stepsFx c.tb.ticks

/-- The local time of the next tick: the length of the running frame is settled (R25, R38). -/
def nextTick (c : Chip) : Nat := c.tb.ticks + 2 * c.tb.length

/-- The order of RANK, highest first; empty places are left out (R217, R220). -/
def rankList (c : Chip) : List Ref :=
  let r := c.pred.cfg.rank
  [bitsOf r 15 12, bitsOf r 11 8, bitsOf r 7 4, bitsOf r 3 0].filterMap Ref.ofCode

/-- The place of a reference in RANK, lower is better; dead reckoning and references absent from RANK rank last. -/
def rankPos (c : Chip) (r : Ref) : Nat := (c.rankList.idxOf r)

/-- A reference that RANK holds (R217). -/
def ranked (c : Chip) (r : Ref) : Bool := c.rankList.contains r

/-- The cam input chosen under PHASE_INPUT (R176, R218): 0 and 3 CAM_A, 1 CAM_B, 2 the first to match. -/
def camInput (c : Chip) : Option Nat :=
  match c.fld F.wheelSys_PHASE_INPUT with
  | 1 => some 3
  | 2 => c.pred.camChosen
  | _ => some 2

/-- The wheel input of a reference. -/
def refInput (c : Chip) : Ref → Option Nat
  | .crankA => some 0
  | .crankB => some 1
  | .cam => c.camInput
  | _ => none

/-- The input is matched (ACQ = 2). -/
def matched (c : Chip) (n : Nat) : Bool := c.fld (F.wheelStatus_ACQ n) == 2

/-- Wheel input `n`. -/
def wheel (c : Chip) (n : Nat) : Wheel := at? c.wheels n {}

/-- Wheel input `n` passed through `f`. -/
def modWheel (n : Nat) (f : Wheel → Wheel) (c : Chip) : Chip := { c with wheels := modAt c.wheels n f }

/-- The predictor passed through `f`. -/
def modPred (f : Pred → Pred) (c : Chip) : Chip := { c with pred := f c.pred }

/-- Availability of a reference (R218). -/
def available (c : Chip) : Ref → Bool
  | .crankA => c.matched 0
  | .crankB => c.matched 1
  | .cam => match c.camInput with
    | some n => c.matched n
    | none => false
  | .ring => c.flag F.ringStatus_LOCKED && c.pred.ringFresh
  | .dead => c.pred.anchored && decide (c.pred.drTravel < (c.pred.cfg.drLimit : Int) * oneFx)

/-! ## Angles of tooth entries -/

/-- The correction of entry `j` of input `n` in 1/16 ad; entry 0 has none (R209). -/
def corrOf (c : Chip) (n j : Nat) : Int := if j = 0 then 0 else ((c.wheel n).corr.getD j (0, 0)).1

/-- CONF of entry `j` of input `n`. -/
def confOf (c : Chip) (n j : Nat) : Nat := ((c.wheel n).corr.getD j (0, 0)).2

/-- The corrected engine angle of entry `j` (R171, R209), modulo the span of the wheel. -/
def entryAngle (c : Chip) (n : Nat) (tb : ToothTable) (j : Nat) : Int :=
  let a := (tb.teeth.getD j ⟨0, false, false⟩).angle
  ((((tb.refOffset + a) % tb.span : Nat) : Int) * oneFx + c.corrOf n j * 268435456) % ((tb.span : Int) * oneFx)

/-- The forward angle between two entries' corrected angles; a table of one entry spans a revolution. -/
def entryGap (c : Chip) (n : Nat) (tb : ToothTable) (i j : Nat) : Int :=
  let d := fwdDist ((tb.span : Int) * oneFx) (c.entryAngle n tb i) (c.entryAngle n tb j)
  if d = 0 then (tb.span : Int) * oneFx else d

/-- An angle known modulo a revolution, placed nearest to `near` on the engine cycle (R219). -/
def placeNear (c : Chip) (a near : Int) : Int :=
  let m := c.modulus
  let r := 368640 * oneFx
  if m = r then a % r
  else if (sgnDiff m near a).natAbs ≤ (sgnDiff m near (a + r)).natAbs then a % m else (a + r) % m

/-- The angle of an edge of reference `r` on the engine cycle: a cam entry's is known there, a crank entry's is placed nearest
to `near` (R171, R219). -/
def placeRef (c : Chip) (r : Ref) (a near : Int) : Int := if r = .cam then a % c.modulus else c.placeNear a near

/-- How far the corrected angle of entry `j` lies ahead of the angle `ang` in the direction of rotation: less than nothing where the
angle has passed it by less than half of the shorter interval beside it. A table of one entry spans a revolution. -/
def nextDist (c : Chip) (n : Nat) (tb : ToothTable) (j : Nat) (ang : Int) (rev : Bool) : Int :=
  let s := (tb.span : Int) * oneFx
  let a := c.entryAngle n tb j
  let d := if rev then fwdDist s a ang else fwdDist s ang a
  let beside := min (c.entryGap n tb (nextEntry tb j true) j) (c.entryGap n tb j (nextEntry tb j false))
  if tb.teeth.length ≤ 1 then (if d = 0 then s else d) else if 2 * s < 2 * d + beside then d - s else d

/-- How far the clamp angle A_next of a model lies ahead of its anchor (R199): the corrected angle of the next edge of its anchoring
input, or the clamp of the snapshot, which holds until the next snapshot comes (R234; log entry 101). The next edge is the one after
POSITION, which a misfit advances too (R184). -/
def clampDist (c : Chip) (m : Model) : Option Int :=
  match m.ref with
  | .ring => m.clamp.map fun k => if m.rev then fwdDist c.modulus k m.ang else fwdDist c.modulus m.ang k
  | .dead => none
  | r => match c.refInput r with
    | none => none
    | some n => match (c.wheel n).table with
      | none => none
      | some tb =>
        let j := nextEntry tb (if c.matched n then c.fld (F.wheelStatus_POSITION n) else m.entry) m.rev
        some (c.nextDist n tb j m.ang m.rev)

/-- The clamp angle of a model (R199, R543). -/
def clampOf (c : Chip) (m : Model) : Option Int := (c.clampDist m).map fun k => (m.ang + m.sign * k) % c.modulus

/-- A model's angle at local time `t`, held at its clamp (steps 1 and 2 of R199). An instant before the anchor lies behind
it, where the clamp holds nothing. -/
def clampedAngle (c : Chip) (m : Model) (t : Int) : Int :=
  let raw := m.extrapolate c.modulus t
  if t < m.t then raw else
  match c.clampDist m with
  | none => raw
  | some k =>
    if k < (if m.rev then fwdDist c.modulus raw m.ang else fwdDist c.modulus m.ang raw) then (m.ang + m.sign * k) % c.modulus
    else raw

/-! ## σ (R204, R205) -/

/-- SIGMA_K, 0 acting as 1. -/
def sigmaK (c : Chip) : Nat := max 1 (c.fld F.predCfg_SIGMA_K)

/-- The Table term of a crank model: E_UNLEARNED over 2^CONF, the larger of the anchor entry and the next. -/
def tableTerm (c : Chip) (m : Model) : Int :=
  let term (n : Nat) : Int :=
    match (c.wheel n).table with
    | none => (c.pred.cfg.unlearned : Int) * 268435456
    | some tb =>
      let k := min (c.confOf n m.entry) (c.confOf n (nextEntry tb m.entry m.rev))
      Int.fdiv ((c.pred.cfg.unlearned : Int) * 268435456) (2 ^ k)
  match m.ref with
  | .crankA => term 0
  | .crankB => term 1
  | .dead => m.sigma
  | _ => 0

/-- A model with the Table term of its anchor noted, which dead reckoning keeps after a loss (R204). -/
def noteTable (c : Chip) (m : Model) : Model :=
  match m.ref with
  | .crankA => { m with sigma := c.tableTerm m }
  | .crankB => { m with sigma := c.tableTerm m }
  | _ => m

/-- The Table term of a model's last anchor (R204). -/
def heldTable (m : Model) : Int :=
  match m.ref with
  | .cam => 0
  | .ring => 0
  | _ => m.sigma

/-- The Base term: SIGMA_BASE of the model's reference; under RING with the snapshot's σ (R235). -/
def baseTerm (c : Chip) (m : Model) : Int :=
  match m.ref with
  | .crankA => (c.pred.cfg.baseCrankA : Int) * 268435456
  | .crankB => (c.pred.cfg.baseCrankB : Int) * 268435456
  | .cam => (c.pred.cfg.baseCam : Int) * 268435456
  | .ring => (c.pred.cfg.baseRing : Int) * 268435456 + m.sigma
  | .dead => (c.pred.cfg.baseDr : Int) * 268435456

/-- Base, Table and Dynamics of a model at local time `t`. -/
def modelSigma (c : Chip) (m : Model) (t : Int) : Int :=
  (if m.whole then m.sigma else c.baseTerm m + c.tableTerm m) + m.dynamics c.sigmaK t

/-- The Fallback term: 0.001 × |w| × τ while REFCLK is fed from the fallback oscillator. -/
def fallbackTerm (c : Chip) (m : Model) (t : Int) : Int :=
  if c.flag F.devStatus_XTAL_OK then 0 else ceilDivI (m.w * (t - m.t)) (1000 * 2 ^ 56)

/-- The angle at local time `t` before the freeze rule, its σ without the Freeze term, and the blend fraction in 1/2^32
(R199, R228). -/
def rawAt (c : Chip) (m : Model) (t : Int) : Int × Int × Int :=
  match c.pred.source, c.pred.blend with
  | some src, some b =>
    let a := c.clampedAngle m t
    let s := c.clampedAngle src t
    let dist := if m.rev then fwdDist c.modulus a b.start else fwdDist c.modulus b.start a
    let f := if b.len ≤ 0 then oneFx else min oneFx (Int.fdiv (dist * oneFx) b.len)
    let delta := sgnDiff c.modulus s a
    ((s + Int.fdiv (f * delta) oneFx) % c.modulus,
      max (c.modelSigma src t) (c.modelSigma m t) + ceilDivI ((delta.natAbs : Int) * (oneFx - f)) oneFx + c.fallbackTerm m t,
      f)
  | _, _ => (c.clampedAngle m t, c.modelSigma m t + c.fallbackTerm m t, oneFx)

/-- σ as published: none, σ_MAX, from 65 536 ad on (R205). -/
def capSigma (x : Int) : Option Int := if x < 65536 * oneFx then some x else none

/-- The published model's angle at a local time (R225). -/
def angleAt (c : Chip) (t : Int) : Int :=
  match c.pred.model with
  | some m => (c.rawAt m t).1
  | none => c.pred.th0

/-! ## Sync state (R172 to R175) -/

/-- STATE as the active reference and the phase give it. -/
def stateOf (c : Chip) : Nat :=
  match c.pred.active with
  | none => 0
  | some .dead => c.pred.state
  | some .cam => 3
  | some .ring => 4
  | some _ => if c.flag F.wheelSys_ENGINE || c.pred.phase then 2 else 1

/-- STATE and REF brought up to date: a change of STATE raises source 4, a change of REF source 5 (R175, R233). -/
def refreshSync (c : Chip) : Chip :=
  let st := c.stateOf
  let c1 := if st = c.pred.state then c else (c.modPred fun p => { p with state := st }).raise 4
  match c1.pred.active with
  | none => c1
  | some r =>
    if r.code = c1.pred.lastRef then c1
    else ((c1.modPred fun p => { p with lastRef := r.code }).raise 5).incFld F.predCounts_REF_SWITCHES

/-- DIR set; a change raises source 6 (R183), and from reverse on BLOCK groups are withheld until forward rotation is
confirmed (R246 to R248). -/
def setDir (d : Nat) (c : Chip) : Chip :=
  if c.pred.dir = d then c
  else (c.modPred fun p =>
    { p with dir := d, turned := true, fwdEdges := 0, featureSeen := false
             needConfirm := p.needConfirm || d == 2, reverseOff := p.reverseOff || d == 2 }).raise 6

/-- The live SYNC_STATUS word (R81). -/
def syncWord (c : Chip) : Nat :=
  c.pred.state + c.pred.dir * 8 + b2n c.pred.stall * 32 + c.pred.lastRef * 64 + b2n c.pred.blend.isSome * 512 +
    b2n c.pred.resync * 1024 + b2n c.pred.frozen * 2048

/-- BLOCK group `g` is withheld now (R246). -/
def groupWithheld (c : Chip) (g : Nat) : Bool :=
  bitOf (c.fld F.predReverse_MODE) g &&
    (c.pred.needConfirm || c.pred.dir == 2 || (c.pred.dir == 0 && bitOf (c.fld F.predReverse_BLOCK_UNKNOWN) g))

/-- Some group is withheld (PRED_STATUS.BLOCKING). -/
def blocking (c : Chip) : Bool := (List.range 5).any c.groupWithheld

/-! ## Stall and restart (R249 to R252, R161, R174) -/

/-- Input `n` is without a match: where it was the cam input chosen under PHASE_INPUT 2, the next cam match chooses again
(R176, R218). -/
def dropChoice (n : Nat) (c : Chip) : Chip :=
  if c.pred.camChosen = some n then c.modPred fun p => { p with camChosen := none } else c

/-- Acquisition restarts on input `n`: an input with a table acquires from its next edge (R161, R163, R174); the match that ends is
noted for R186. -/
def restartInput (n : Nat) (c : Chip) : Chip :=
  ((c.dropChoice n).modWheel n fun w =>
    { w with hist := [], cand := none, badRun := 0, pass := none, taken := 0, fit := none, again := w.again || c.matched n }).setFld
    (F.wheelStatus_ACQ n) (if (c.wheel n).table.isSome && decide (1 ≤ c.fld (F.wheelCfg_MODE n) ∧ c.fld (F.wheelCfg_MODE n) ≤ 2)
      then 1 else 0)

/-- Acquisition restarts on every input and the predictor drops every model (R161, R174). -/
def restartAll (c : Chip) : Chip :=
  let c1 := (List.range 4).foldl (fun d n => (d.restartInput n).modWheel n fun w => { w with again := false }) c
  ((c1.modPred fun p =>
    { p with active := none, model := none, source := none, blend := none, target := none, phase := false, camRun := 0
             camChosen := none, quals := Vector.replicate 4 {}, lostRef := none, frozen := false, drTravel := 0 }).setDir 0).refreshSync

/-- The predictor declares stall (R250): STALL, source 7, PRED_STALL, the effects of R174, ROTATING cleared (R252), and the
thresholds fall to ARM_FLOOR (R152). -/
def declareStall (c : Chip) : Chip :=
  if c.pred.stall then c else
  let c1 := c.modPred fun p => { p with stall := true, turned := true, anchored := false, stallOff := true }
  let c2 := (List.range 4).foldl (fun d n => d.modWheel n fun w => { w with threshold := d.fld (F.wheelVr_ARM_FLOOR n) }) c1
  (((c2.restartAll.setFlag F.pwrState_ROTATING false).raise 7).fault 0x0209 c.pred.lastRef 0)

/-! ## Starting, switching and losing references -/

/-- Where the engine stands at local time `t` by the matched cam input alone, no model running: the angle of its last edge, moved on
at the mean speed `w` that a crank input has measured (R176; log entry 100). -/
def camPlace (c : Chip) (w t : Int) (rev : Bool) : Int :=
  match c.camInput with
  | none => c.pred.th0
  | some k => match (c.wheel k).table, (c.wheel k).hist with
    | some tb, (s, _) :: _ =>
      if c.matched k then
        c.entryAngle k tb (c.fld (F.wheelStatus_POSITION k)) + (if rev then -1 else 1) * Int.fdiv (w * (t - stepsFx s)) (2 ^ 56)
      else c.pred.th0
    | _, _ => c.pred.th0

/-- The model of input `n`'s reference at its last fitting edge (R195, R197, R223): w_avg is the table interval over the measured
interval, alpha is 0, s_a that of the running model or 0 (log entry 68). -/
def modelFromInput (c : Chip) (r : Ref) (n : Nat) : Option Model :=
  match (c.wheel n).table, (c.wheel n).fit with
  | some tb, some ⟨s1, s0, j⟩ =>
    let rev := c.pred.dir == 2
    let i := nextEntry tb j (!rev)
    let gap := if rev then c.entryGap n tb j i else c.entryGap n tb i j
    let d := Int.fdiv (stepsFx s1 - stepsFx s0) 256
    let wAvg := if d ≤ 0 then 0 else Int.fdiv (gap * 2 ^ 48) d
    let near := match c.pred.model with
      | some m => (c.rawAt m (stepsFx s1)).1
      | none => c.camPlace wAvg (stepsFx s1) rev
    let a := c.entryAngle n tb j
    let a := if tb.span = c.cycleLen then a else if c.pred.phase then c.placeNear a near else a
    some <| c.noteTable
         { ref := r, ang := a, t := stepsFx s1, w := max 0 wAvg, wPrev := wAvg, dPrev := d, alpha := 0
           sA := match c.pred.model with
             | some m => m.sA
             | none => 0
           rev := rev, left := 0, entry := j, clamp := none, sigma := 0, whole := false }
  | _, _ => none

/-- A reference becomes active from NO_SYNC with its first model, with alpha 0 and the start window of s_a (R197, R223): phase A
then computes all three angles. -/
def startWith (r : Ref) (m : Model) (c : Chip) : Chip :=
  (c.modPred fun p =>
    { p with active := some r, model := some { m with alpha := 0, left := 4 }, source := none, blend := none, target := none
             fresh := true, stall := false, lostRef := none, anchored := true, frozen := false, drTravel := 0, phase := p.phase || r == .ring || r == .cam }).refreshSync

/-- The blend length of R229, in 2^-32 ad. -/
def blendLen (c : Chip) (r : Ref) : Int :=
  let k : Int := max 1 c.pred.cfg.blendTeeth
  match c.refInput r with
  | some n => match (c.wheel n).table with
    | some tb => Int.fdiv (k * tb.span * oneFx) (max 1 tb.teeth.length)
    | none => k * c.pred.cfg.corrPitch * oneFx
  | none => k * c.pred.cfg.corrPitch * oneFx

/-- The model of R231, anchored at the current blended angle, speed and acceleration with the σ of the present tick: speed and
acceleration lie between those of source and target as the angle does. -/
def blendedModel (c : Chip) (m : Model) : Model :=
  let t := c.tickFx
  let r := c.rawAt m t
  let src := c.pred.source.getD m
  let mix (a b : Int) : Int := a + Int.fdiv (r.2.2 * (b - a)) oneFx
  { m with ref := .dead, ang := r.1, t := t, w := mix (Int.fdiv (src.speedAt t) (2 ^ 64)) (Int.fdiv (m.speedAt t) (2 ^ 64))
           alpha := mix src.alpha m.alpha, clamp := none, sigma := r.2.1, whole := true, left := 0 }

/-- The source of a new blend: the running model, or the blended model of R231 while a blend runs. -/
def sourceModel (c : Chip) (m : Model) : Model := if c.pred.blend.isSome then c.blendedModel m else m

/-- A blend to reference `r` begins with its model `tm`, which stands at the angle `start` (R227, R228). -/
def beginBlend (r : Ref) (tm : Model) (start : Int) (c : Chip) : Chip :=
  (c.modPred fun p =>
    { p with source := p.model.map c.sourceModel, model := some tm, active := some r
             blend := some { start := start, len := c.blendLen r }, target := some r, drTravel := 0, anchored := true
             lostRef := none
             phase := p.phase || r == .ring || r == .cam }).refreshSync

/-- The target of a running blend changes to `r`: the new blend begins at once, where its target stands at the present tick, so that
the published angle makes no step (R231). -/
def nextBlend (r : Ref) (tm : Model) (c : Chip) : Chip := c.beginBlend r tm (c.clampedAngle tm c.tickFx)

/-- Every model in use moved by `d` (R237). -/
def shiftModels (d : Int) (c : Chip) : Chip :=
  let f (m : Model) : Model := { m with ang := (m.ang + d) % c.modulus, clamp := m.clamp.map fun k => (k + d) % c.modulus }
  c.modPred fun p =>
    { p with model := p.model.map f, source := p.source.map f
             blend := p.blend.map fun b => { b with start := (b.start + d) % c.modulus } }

/-- The angle runs backward (R245): DIR is reverse, or the model of RING, which takes its direction from the snapshot, or of dead
reckoning runs so (log entry 72). -/
def reversing (c : Chip) : Bool :=
  match c.pred.active, c.pred.model with
  | some .ring, some m => m.rev
  | some .dead, some m => m.rev
  | _, _ => c.pred.dir == 2

/-- How far the model, moved by a forward correction of `d`, lies ahead of the held angle at tick F+1: all of `d` but the lag
that it makes up (R242). -/
def gainOver (c : Chip) (d : Int) : Int :=
  match c.pred.model with
  | some m =>
    let g := sgnDiff c.modulus c.pred.th2 (c.rawAt m (c.tickFx + 1000 * oneFx)).1
    if c.pred.frozen then min d (if m.rev then -g else g) else d
  | none => d

/-- What a correction of signed amount `d` does once the models are moved: freeze, forward step or resync (R238 to R240). The
freeze of a backward correction begins in the phase A that finds the model behind the held angle. -/
def correctionEffect (d : Int) (c : Chip) : Chip :=
  let along := if c.reversing then -d else d
  if (c.pred.cfg.corrPitch : Int) * oneFx < (d.natAbs : Int) then
    (((c.modPred fun p => { p with fresh := true, emptyInterval := true, resync := true, turned := true, frozen := false }).raise 4).fault
      0x020A c.pred.lastRef 0).incFld F.predCounts_RESYNCS
  else if 0 < along && decide (0 < c.gainOver along) then
    c.modPred fun p => { p with step := some (c.gainOver along + p.step.getD 0) }
  else c

/-- A correction of the model's angle by `d` (R237). -/
def correct (d : Int) (c : Chip) : Chip := (c.shiftModels d).correctionEffect d

/-- A switch to `r` without a blend: `d` is a correction (R226). -/
def switchAtOnce (r : Ref) (tm : Model) (d : Int) (c : Chip) : Chip :=
  ((c.modPred fun p =>
    { p with active := some r, model := some tm, source := none, blend := none, target := none, drTravel := 0, lostRef := none
             anchored := true, phase := p.phase || r == .ring || r == .cam }).refreshSync).correctionEffect d

/-- The qualification state of a reference. -/
def qual (c : Chip) (r : Ref) : Qual := at? c.pred.quals r.code {}

/-- A reference's qualification restarts at 0 (R225). -/
def clearQual (r : Ref) (c : Chip) : Chip :=
  c.modPred fun p => { p with quals := modAt p.quals r.code fun _ => {} }

/-- A misfit restarts the count of a reference at 0 (R225). -/
def clearQualCount (r : Ref) (c : Chip) : Chip :=
  c.modPred fun p => { p with quals := modAt p.quals r.code fun q => { q with count := 0 } }

/-- The highest-ranked available, qualified reference other than the active one (R224). -/
def bestQualified (c : Chip) : Option Ref :=
  c.rankList.find? fun r => c.available r && (c.qual r).qualified && !(some r = c.pred.active : Bool)

/-- Dead reckoning takes over the lost model, its anchor kept, with alpha 0; the target is the best qualified reference
(R224). -/
def loseActive (r : Ref) (c : Chip) : Chip :=
  let c1 := c.modPred fun p =>
    { p with
      active := some .dead
      model := p.model.map fun m =>
        let src := if p.blend.isSome then c.blendedModel m else m
        { src with ref := .dead, alpha := 0, left := 0, sigma := heldTable m, whole := false }
      source := none, blend := none, drTravel := 0, lostRef := some r }
  let c2 := (c1.modPred fun p => { p with target := c1.bestQualified }).refreshSync
  if r = .cam then c2 else c2.fault 0x0208 r.code 0

/-- A reference that RANK holds and that is available (R217, R218). -/
def usable (c : Chip) (r : Ref) : Bool := c.available r && c.ranked r

/-- The best qualified reference that ranks above `act` (R226). -/
def bestAbove (c : Chip) (act : Ref) : Option Ref := c.bestQualified.filter fun r => decide (c.rankPos r < c.rankPos act)

/-- The present model of a reference that is to be blended to at once (R231): of its input's last edges, or of the last
snapshot. -/
def presentModel (c : Chip) (r : Ref) : Option Model :=
  match c.refInput r with
  | some n => c.modelFromInput r n
  | none => if r = .ring then c.pred.ringModel else none

/-- The target changes to `r` during a blend: a new blend begins at once (R231). -/
def turnBlend (r : Ref) (c : Chip) : Chip :=
  match c.presentModel r with
  | some m => c.nextBlend r m
  | none => c.modPred fun p => { p with target := some r }

/-- The active reference `r` is lost during a blend: the blend turns to the best qualified reference, or dead reckoning goes on
from the blended angle (R224, R231). -/
def loseTarget (r : Ref) (c : Chip) : Chip :=
  match c.bestQualified.filter fun x => (c.presentModel x).isSome with
  | some x => if r = .cam then c.turnBlend x else (c.turnBlend x).fault 0x0208 r.code 0
  | none => c.loseActive r

/-- Phase A's check that the active reference is still available (R224, R231); a waiting target that is lost is replaced by
the best qualified reference, if one still ranks above the active one. -/
def checkLoss (c : Chip) : Chip :=
  let c0 := [Ref.crankA, Ref.crankB, Ref.cam, Ref.ring].foldl
    (fun d r => if d.usable r then d else d.clearQual r) c
  match c0.pred.active with
  | none => c0
  | some r =>
    if r != .dead && !c0.usable r then (if c0.pred.blend.isSome then c0.loseTarget r else c0.loseActive r)
    else if c0.pred.blend.isSome then c0
    else match c0.pred.target with
      | some t => if c0.usable t then c0 else c0.modPred fun p => { p with target := c0.bestAbove r }
      | none => c0

/-! ## Qualification and anchors -/

/-- An edge or snapshot of reference `r` that fits, whose angle is `a` at local time `t` and whose model would be `tm`: it
counts toward qualification (R225), and the reference that qualifies becomes the target or is switched to (R226, R232). -/
def qualify (r : Ref) (a t : Int) (tm : Option Model) (c : Chip) : Chip :=
  let delta := sgnDiff c.modulus (c.angleAt t) a
  let tol := (c.pred.cfg.consistTol : Int) * 268435456
  let q := c.qual r
  let q1 : Qual :=
    if q.count = 0 || decide (tol < ((delta - q.first).natAbs : Int)) then
      { count := 1, qualified := q.qualified, first := delta }
    else { q with count := q.count + 1 }
  let q2 : Qual := { q1 with qualified := q1.qualified || decide (max 1 c.pred.cfg.qGood ≤ q1.count) }
  let c1 := c.modPred fun p => { p with quals := modAt p.quals r.code fun _ => q2 }
  if q2.qualified && !q.qualified then
    let better := match c1.pred.active with
      | some x => decide (c1.rankPos r < c1.rankPos x)
      | none => false
    let aboveTarget := match c1.pred.target with
      | some x => decide (c1.rankPos r < c1.rankPos x)
      | none => true
    if better && aboveTarget then
      let sAct := match c1.pred.model with
        | some m => (c1.rawAt m t).2.1
        | none => 0
      if ((delta.natAbs : Int) ≤ tol + sAct) then
        if c1.pred.blend.isSome then
          match tm with
          | some m => c1.nextBlend r m
          | none => c1.modPred fun p => { p with target := some r }
        else c1.modPred fun p => { p with target := some r }
      else
        match tm with
        | some m => c1.switchAtOnce r m delta
        | none => c1
    else c1
  else c1

/-- ACC_GAIN, 0 acting as 1. -/
def accGain (c : Chip) : Nat := max 1 (c.fld F.predCfg_ACC_GAIN)

/-- A fitting edge of the active reference anchors the model; during a blend an edge of the source's reference anchors the
source (R195, R228). The edge that decided a change of direction has anchored it already (R244). -/
def anchorActive (r : Ref) (a t : Int) (entry : Nat) (c : Chip) : Chip :=
  let upd (m : Model) : Model :=
    if m.ref = r && decide (m.t < t) then c.noteTable (m.anchor c.modulus (c.placeRef r a (c.clampedAngle m t)) t c.accGain entry) else m
  c.modPred fun p => { p with model := p.model.map upd, source := p.source.map upd, anchored := true }

/-- One more forward edge toward confirmation (R247); `feature` says that its entry is a coded feature. FWD_EDGES and FEATURE_SEEN read
0 from the confirming edge on, and no edge counts while nothing is to be confirmed (log entry 102). -/
def countForward (feature : Bool) (c : Chip) : Chip :=
  if c.pred.needConfirm && c.pred.dir == 1 then
    let c1 := c.modPred fun p => { p with fwdEdges := min 4 (p.fwdEdges + 1), featureSeen := p.featureSeen || feature }
    if c1.pred.fwdEdges == 4 && c1.pred.featureSeen then
      c1.modPred fun p => { p with needConfirm := false, fwdEdges := 0, featureSeen := false }
    else c1
  else c

/-- A misfit of the active reference ends the run of consecutive forward edges (R247). -/
def endForwardRun (r : Ref) (c : Chip) : Chip :=
  if c.pred.active = some r then c.modPred fun p => { p with fwdEdges := 0, featureSeen := false } else c

/-- The reference of input `n`; a cam input that is not chosen has none. -/
def inputRef (c : Chip) (n : Nat) : Option Ref :=
  if n = 0 then some .crankA else if n = 1 then some .crankB else if c.camInput = some n then some .cam else none

/-- The predictor's part of a fitting accepted edge of input `n` (R195, R223 to R232): it starts the predictor, begins the
waiting blend, anchors, or counts toward qualification. -/
def edgeToPredictor (n : Nat) (t : Int) (feature : Bool) (c : Chip) : Chip :=
  match c.inputRef n, (c.wheel n).table with
  | some r, some tb =>
    if !c.ranked r then c else
    let j := c.fld (F.wheelStatus_POSITION n)
    let a := c.entryAngle n tb j
    let placed := c.placeRef r a (c.angleAt t)
    match c.pred.active with
    | none =>
      match c.modelFromInput r n with
      | some m => c.startWith r m
      | none => c
    | some act =>
      if act = r then (c.anchorActive r a t j).countForward feature
      else if c.pred.target = some r && !c.pred.blend.isSome then
        match c.modelFromInput r n with
        | some m => c.beginBlend r m m.ang
        | none => c
      else
        let c1 := if c.pred.source.any fun m => m.ref = r then c.anchorActive r a t j else c
        c1.qualify r placed t (c1.modelFromInput r n)
  | _, _ => c

/-- Every model in use takes the direction of DIR at local time `t`, with alpha 0 (R244), where the edge that decided the
change gives no anchor. -/
def turnModels (t : Int) (c : Chip) : Chip :=
  let rev := c.pred.dir == 2
  let f (m : Model) : Model :=
    if m.rev = rev then { m with alpha := 0 }
    else { m with ang := m.extrapolate c.modulus t, t := t, w := Int.fdiv (m.speedAt t) (2 ^ 64), rev := rev, alpha := 0 }
  c.modPred fun p => { p with model := p.model.map f, source := p.source.map f }

/-- A change of direction anchors the model at the edge that decided it (R244); a model of another reference takes the
direction and alpha 0 there. -/
def turnAbout (r : Ref) (a t d dist : Int) (entry : Nat) (c : Chip) : Chip :=
  let rev := c.pred.dir == 2
  let f (m : Model) : Model :=
    if m.ref = r then
      let w := if d ≤ 0 then 0 else Int.fdiv (dist * 2 ^ 48) d
      c.noteTable { m with ang := c.placeRef r a m.ang, t := t, w := max 0 w, wPrev := w, dPrev := d, alpha := 0, rev := rev, entry := entry }
    else if m.rev = rev then { m with alpha := 0 }
    else { m with ang := m.extrapolate c.modulus t, t := t, w := Int.fdiv (m.speedAt t) (2 ^ 64), rev := rev, alpha := 0 }
  c.modPred fun p => { p with model := p.model.map f, source := p.source.map f }

/-! ## Phase A of a frame (R198 to R206) -/

/-- One angle more: θ and σ move down one place and θ(F+2) is computed for local time `t` (R198, R199). A model that lies
behind the held angle freezes it. -/
def advanceTheta (t : Int) (c : Chip) : Chip :=
  match c.pred.model with
  | none => c.modPred fun p => { p with th1 := p.th0, th2 := p.th0, sg0 := none, sg1 := none, sg2 := none }
  | some m =>
    let r := c.rawAt m t
    let prev := c.pred.th2
    let ahead := if m.rev then sgnDiff c.modulus r.1 prev else sgnDiff c.modulus prev r.1
    if ahead < 0 then
      let c1 := if c.pred.frozen then c else c.incFld F.predCounts_FREEZES
      c1.modPred fun p =>
        { p with th0 := p.th1, th1 := p.th2, th2 := prev, sg0 := p.sg1, sg1 := p.sg2, frozen := true
                 sg2 := capSigma (r.2.1 - ahead) }
    else
      c.modPred fun p =>
        { p with th0 := p.th1, th1 := p.th2, th2 := r.1, sg0 := p.sg1, sg1 := p.sg2, sg2 := capSigma r.2.1, frozen := false }

/-- All three angles from the model (R223, R240). -/
def freshTheta (c : Chip) : Chip :=
  match c.pred.model with
  | none => c.advanceTheta 0
  | some m =>
    let t := c.tickFx
    let us := 1000 * oneFx
    let r0 := c.rawAt m t
    let r1 := c.rawAt m (t + us)
    let r2 := c.rawAt m (t + 2 * us)
    c.modPred fun p =>
      { p with th0 := if p.emptyInterval then p.th1 else r0.1, th1 := r1.1, th2 := r2.1, sg0 := capSigma r0.2.1, sg1 := capSigma r1.2.1
               sg2 := capSigma r2.2.1, fresh := false, frozen := false, leap := p.emptyInterval }

/-- A blend whose fraction has reached 1 ends (R230). -/
def endBlend (c : Chip) : Chip :=
  match c.pred.model, c.pred.blend with
  | some m, some _ =>
    if (c.rawAt m (c.tickFx + 2000 * oneFx)).2.2 = oneFx then
      c.modPred fun p => { p with blend := none, source := none, target := none }
    else c
  | _, _ => c

/-- Dead-reckoning travel since the loss (R249): what the model moves in the running frame and in the `k` frames before it whose phase A
did not finish. A correction of its angle is no travel. -/
def countTravel (k : Nat) (c : Chip) : Chip :=
  match c.pred.active, c.pred.model with
  | some .dead, some m =>
    let a := c.clampedAngle m (c.tickFx - 1000 * oneFx * (k : Int))
    let b := c.clampedAngle m (c.tickFx + 1000 * oneFx)
    c.modPred fun p => { p with drTravel := p.drTravel + ((sgnDiff c.modulus a b).natAbs : Int) }
  | _, _ => c

/-- σ in units of 1/256 ad, rounded up; σ_MAX is 0xFF_FFFF (R206). -/
def sigma256 : Option Int → Nat
  | none => 0xFFFFFF
  | some x => min 0xFFFFFE (ceilDivI x 16777216).toNat

/-- σ in units of 4 ad, rounded up, 255 for 1020 ad or more and for σ_MAX (R206). -/
def sigma4 : Option Int → Nat
  | none => 255
  | some x => min 255 (ceilDivI x (4 * oneFx)).toNat

/-- The signed value of a register of `w` bits, saturating. -/
def satSigned (w : Nat) (x : Int) : Nat := unsignedOf w (clampInt (-(2 ^ (w - 1) : Nat)) ((2 ^ (w - 1) : Nat) - 1) x)

/-- SPEED at the present tick (R202), 0 while STATE is NO_SYNC. -/
def speedReading (c : Chip) : Nat :=
  match c.pred.model with
  | none => 0
  | some m =>
    if c.pred.state = 0 then 0
    else min 0xFFFF (Int.fdiv (m.speedAt c.tickFx * 4000000000) (6144 * 2 ^ 120)).toNat

/-- QUAL_COUNT: the count of the highest-ranked reference that counts edges and is not active. -/
def qualCount (c : Chip) : Nat :=
  match c.rankList.find? fun r => 0 < (c.qual r).count && !(some r = c.pred.active : Bool) with
  | some r => min 255 (c.qual r).count
  | none => 0

/-- The predictor's read-only registers (R206, R256). -/
def publishRegs (c : Chip) : Chip :=
  let frac := match c.pred.model, c.pred.blend with
    | some m, some _ => (Int.fdiv ((c.rawAt m c.tickFx).2.2) 16777216).toNat
    | _, _ => 0
  let target := match c.pred.target with
    | some r => r.code
    | none => 7
  let c1 := c.put R.predStatus (BitVec.ofNat 32 (min 255 frac * 2 ^ 24 + target * 2 ^ 21 + b2n c.blocking * 4096 +
    b2n c.pred.featureSeen * 2048 + c.pred.fwdEdges * 256 + c.qualCount))
  let c2 := c1.put R.predSigma (BitVec.ofNat 32 (sigma256 (if c.pred.state = 0 || c.pred.stall then none else c.pred.sg0)))
  match c.pred.model with
  | none => (c2.put R.predW 0).put R.predAccel 0
  | some m =>
    let v := Int.fdiv (m.sign * m.speedAt c.tickFx * 65536000) (2 ^ 120)
    let acc (x : Int) : Int := Int.fdiv (x * 64 * 10 ^ 12) (2 ^ 88)
    (c2.put R.predW (BitVec.ofNat 32 (satSigned 32 v))).put R.predAccel
      (BitVec.ofNat 32 (min 0xFFFF (acc m.sA).toNat * 65536 + satSigned 16 (acc m.alpha)))

/-- The angle set published at the end of phase A (R34, R35); the angle holds while STATE is NO_SYNC (R203). -/
def publish (c : Chip) : Chip :=
  let shown := (Int.fdiv c.pred.th0 oneFx).toNat
  let angle := if c.pred.state = 0 then c.pub.angle else if c.pred.state = 1 then shown % 368640 else shown
  { c with pub := { angle := angle
                    sigma := sigma4 (if c.pred.state = 0 || c.pred.stall then none else c.pred.sg0)
                    speed := c.speedReading, sync := c.syncWord } }

/-- The published angle passes forward from C − 1 to 0 (R241, R270): the angle is known on the whole engine cycle, and neither
the step of a resync nor the start of a model counts (log entry 21). -/
def wrapped (c : Chip) (before : Int) : Bool :=
  c.modulus == (c.cycleLen : Int) * oneFx && !c.reversing && decide (c.pred.th0 < before) &&
    decide (sgnDiff c.modulus before c.pred.th0 > 0)

/-- The published angle has moved on from `before`: every input waits that much longer for its next edge (R187). -/
def countQuiet (before : Int) (c : Chip) : Chip :=
  let d := ((sgnDiff c.modulus before c.pred.th0).natAbs : Int)
  (List.range 4).foldl (fun e n => e.modWheel n fun w => { w with quiet := w.quiet + d }) c

/-- Phase A (R198 to R203): losses, θ(F+2), travel, and the published set with its registers. -/
def phaseA (c : Chip) : Chip :=
  let before := c.pred.th0
  let c1 := (c.modPred fun p => { p with emptyInterval := p.emptyInterval && p.fresh }).checkLoss
  let us := 1000 * oneFx
  let c2 := if c1.pred.fresh then c1.freshTheta
    else (List.range (c1.pred.missed + 1)).foldl
      (fun d (i : Nat) => d.advanceTheta (c1.tickFx + us * (2 - (c1.pred.missed : Int) + (i : Int)))) c1
  let late := if c.pred.active = some .dead then c1.pred.missed else 0
  let c3 := ((c2.modPred fun p => { p with missed := 0 }).countTravel late).endBlend
  let regular := !c1.pred.leap && (!c1.pred.fresh || c1.pred.emptyInterval)
  let moved := regular && c3.wrapped before
  let c4 := c3.modPred fun p =>
    { p with passed := moved, resync := p.resync && (!moved || p.emptyInterval), leap := p.leap && p.emptyInterval }
  ((c4.doIf regular (countQuiet before)).publish).publishRegs

end Chip

end Sys2Proof.Machine
end

