-- ==== Sys2Proof/Machine/Scheduler.lean ====
section
/-!
DEFINITION. The event scheduler (06): descriptors and status words (R258 to R269), the cycle record (R270 to R275), the cache
and its loader (R276 to R284), evaluation, late policy, gate and overload (R285 to R299), edits, orphans and ECC (R300 to
R304), withheld edges (R305).
-/

namespace Sys2Proof.Machine

/-! ## Descriptors -/

/-- The byte offset of descriptor `i` (R110, R258). -/
def descOff (i : Nat) : Nat := 0x2000 + 16 * i

/-- The byte offset of status word `i` (R110, R265). -/
def statusOff (i : Nat) : Nat := 0xA000 + 4 * i

/-- The reverse group of a channel by its bit in PRED_REVERSE (R243, R259): 0 INJ, 1 VALVE, 2 CONV, 3 TIMER, 4 NOTICE. -/
def groupOf (chan : Nat) : Nat :=
  if chan < 0x18 then 0 else if chan < 0x30 then 1 else if chan < 0x60 then 3 else if chan < 0x70 then 2 else 4

/-- A listed channel code (R259). -/
def chanListed (chan : Nat) : Bool :=
  chan < 0x18 || (0x20 ≤ chan && chan < 0x30) || (0x40 ≤ chan && chan < 0x48) || (0x50 ≤ chan && chan ≤ 0x70)

/-- The action is permitted for the channel (R259, R260). -/
def actionPermitted (chan act : Nat) : Bool :=
  if chan < 0x18 then act == 1 || act == 3
  else if chan < 0x48 then 1 ≤ act && act ≤ 3
  else if chan < 0x60 then act == 5
  else if chan < 0x70 then act == 4 || act == 5
  else act == 6

/-- An action with two edges (R260). -/
def hasEnd (act : Nat) : Bool := act == 1 || act == 4

/-- A status word (R265). -/
def mkStatus (code detail count seq cycle : Nat) : Nat :=
  code % 16 * 2 ^ 28 + detail % 16 * 2 ^ 24 + min 255 count * 2 ^ 16 + seq % 256 * 256 + cycle % 256

/-- A status word with flag bits added (R267). -/
def withFlags (w flags : Nat) : Nat := w ||| (flags * 2 ^ 24)

/-- The flags of R267. -/
def flagWithheld : Nat := 8
def flagFiredLate : Nat := 4
def flagBackward : Nat := 2
def flagCut : Nat := 1

/-- A code decides a forward start (R273); ORPHANED does when LAST_FIRED is 1. -/
def decides (code detail : Nat) : Bool :=
  code == 2 || code == 3 || (5 ≤ code && code ≤ 8) || (10 ≤ code && code ≤ 14) || (code == 9 && detail % 2 == 1)

namespace Chip

/-- The scheduler passed through `f`. -/
def modSched (f : Sched → Sched) (c : Chip) : Chip := { c with sched := f c.sched }

/-- Descriptor `i` as stored. -/
def readDesc (c : Chip) (i : Nat) : Desc :=
  let d0 := c.win32 (descOff i)
  let d1 := c.win32 (descOff i + 4)
  let d2 := c.win32 (descOff i + 8)
  let d3 := c.win32 (descOff i + 12)
  { chan := d0 / 2 ^ 24, start := d0 % 2 ^ 24, action := d1 / 2 ^ 28, timeMode := bitOf d1 27, fire := bitOf d1 26
    cls := bitsOf d1 25 24, dur := d1 % 2 ^ 24, gate := d2 / 2 ^ 16, mask := bitsOf d2 15 8, param := d2 % 256
    seq := d3 / 2 ^ 16, back := bitOf d3 14 }

/-- VALID of descriptor `i`. -/
def descValid (c : Chip) (i : Nat) : Bool := bitOf (c.win16 (descOff i + 12)) 15

/-- The lowest-numbered cause that makes descriptor `i` invalid, 0 for none (R263). -/
def descCause (c : Chip) (i : Nat) (d : Desc) : Nat :=
  if !chanListed d.chan then 1
  else if !actionPermitted d.chan d.action then 2
  else if c.cycleLen ≤ d.start then 3
  else if (if hasEnd d.action then
      d.dur == 0 || (!d.timeMode && decide ((if d.action = 1 then c.cycleLen - 1 else c.cycleLen) < d.dur))
    else d.dur != 0) then 4
  else if d.cls = 3 then 5
  else if c.win16 (descOff i + 12) % 2 ^ 14 != 0 then 6
  else if c.part = .lb8612 && 12 ≤ d.chan && decide (d.chan < 24) then 7
  else if d.action = 6 && (d.param == 0 || decide (62 < d.param)) then 8
  else 0

/-! ## The cache -/

/-- Occupancy and its peak, after the cache has changed (R306): the occupancy that held since a read counts too. -/
def showCache (c : Chip) : Chip :=
  let n := c.sched.entries.length
  (c.setFld F.cacheStatus_OCCUPANCY n).setFld F.cacheStatus_PEAK
    (max n (max (c.fld F.cacheStatus_OCCUPANCY) (c.fld F.cacheStatus_PEAK)))

/-- The cached entry of descriptor `i`. -/
def entry? (c : Chip) (i : Nat) : Option Entry := c.sched.entries.find? fun e => e.idx == i

/-- The entry of descriptor `i` passed through `f`. -/
def modEntry (i : Nat) (f : Entry → Entry) (c : Chip) : Chip :=
  c.modSched fun s => { s with entries := modFirst (fun e => e.idx == i) f s.entries }

/-- SCHED_STATUS.ORPHANED follows the status words (R303). -/
def showOrphans (c : Chip) : Chip := c.setFlag F.schedStatus_ORPHANED (!c.sched.orphans.isEmpty)

/-- A status word is written (R265, R269), but not while ENABLE is 0 (R276). An ORPHANED word raises source 3 and is counted
(R302). -/
def writeStatus (i w : Nat) (c : Chip) : Chip :=
  if !c.sched.enabled then c else
  let c1 := c.putWin32 (statusOff i) w
  if w / 2 ^ 28 = 9 then
    (((c1.modSched fun s => { s with orphans := i :: without s.orphans i }).showOrphans).raise 3).addReg R.cntOrphaned 1
  else (c1.modSched fun s => { s with orphans := without s.orphans i }).showOrphans

/-- The cycle record of descriptor `i` (R273). -/
def record? (c : Chip) (i : Nat) : Option Nat := Sparse.find? c.sched.records i

/-- The cycle record set or made NONE. -/
def setRecord (i : Nat) (r : Option Nat) (c : Chip) : Chip :=
  c.modSched fun s => { s with records := match r with
    | some v => Sparse.insert s.records i (v % 256)
    | none => Sparse.erase s.records i }

/-- An outcome of an entry: its status word is written, and a decided forward start is recorded (R269, R273). -/
def outcome (e : Entry) (code detail count : Nat) (c : Chip) : Chip :=
  let w := mkStatus code detail count e.d.seq e.cycle
  let c1 := (c.writeStatus e.idx w).modEntry e.idx fun x => { x with word := w }
  if decides code detail && !e.backward then c1.setRecord e.idx (some e.cycle) else c1

/-- An entry leaves the cache; one whose block was taken leaves as ORPHANED (R283, R302). -/
def leaveCache (i : Nat) (c : Chip) : Chip :=
  match c.entry? i with
  | none => c
  | some e =>
    let c1 := (c.modSched fun s => { s with entries := dropFirst (fun x => x.idx == i) s.entries }).showCache
    if e.orphan then c1.outcome e 9 (b2n e.fired) 0 else c1

/-- A start is decided without an edge, and its entry leaves (R283). -/
def decideOut (e : Entry) (code detail count : Nat) (c : Chip) : Chip :=
  (c.outcome e code detail count).leaveCache e.idx

/-- An entry that is not started leaves the cache with NONE or HELD, without a decision (R269); one whose block was taken
leaves as ORPHANED (R302). -/
def dropOut (code : Nat) (e : Entry) (c : Chip) : Chip :=
  let c1 := (c.modSched fun s => { s with entries := dropFirst (fun x => x.idx == e.idx) s.entries }).showCache
  if e.orphan then c1.outcome e 9 (b2n e.fired) 0 else c1.outcome e code 0 0

/-! ## Angles and cycles (R270, R271, R278) -/

/-- The engine angle of a descriptor's START or end on the cycle in force (R31). -/
def angleFx (c : Chip) (x : Nat) : Int := (x : Int) * oneFx % c.modulus

/-- The cycle in which θ(F+1) lies. -/
def baseCycle (c : Chip) : Nat :=
  let m := c.modulus
  (c.get R.schedCycle).toNat +
    b2n (m == (c.cycleLen : Int) * oneFx && !c.reversing && !c.pred.emptyInterval && decide (c.pred.th1 < c.pred.th0) &&
      decide (0 < sgnDiff m c.pred.th0 c.pred.th1))

/-- The engine cycle of an angle evaluated or loaded now (R271). -/
def cycleOf (c : Chip) (x : Nat) : Nat :=
  let m := c.modulus
  let a := c.angleFx x
  let n := c.baseCycle
  let d := sgnDiff m c.pred.th1 a
  (if 0 < d && a < c.pred.th1 then n + 1 else if d < 0 && c.pred.th1 < a then n + 2 ^ 32 - 1 else n) % 2 ^ 32

/-- CORR_PITCH in 2^-32 ad. -/
def corrPitchFx (c : Chip) : Int := (c.pred.cfg.corrPitch : Int) * oneFx

/-- The effective lookahead L (R278), with the limits of its field. -/
def lookahead (c : Chip) : Int :=
  let la := max 30 (min 360 (c.fld F.schedControl_LOOKAHEAD))
  max 0 (min ((la * 1024 : Nat) * oneFx) ((c.cycleLen : Int) * oneFx / 2 - c.corrPitchFx))

/-- START lies in the load range of R279, or in its mirror image in reverse rotation. -/
def inLoadRange (c : Chip) (x : Nat) : Bool :=
  let m := c.modulus
  let a := c.angleFx x
  let w := c.corrPitchFx + c.lookahead
  if c.reversing then fwdDist m a (c.pred.th2 + c.corrPitchFx) < w
  else fwdDist m (c.pred.th2 - c.corrPitchFx) a < w

/-- The length of the frame's interval (R40, R245); 0 when it is empty (R238, R240). -/
def spanFx (c : Chip) : Int :=
  if c.pred.emptyInterval then 0
  else if c.reversing then fwdDist c.modulus c.pred.th2 c.pred.th1 else fwdDist c.modulus c.pred.th1 c.pred.th2

/-- Where an angle lies along the rotation from θ(F+1): negative behind it. Where the angle is known modulo one revolution of a longer
cycle, what the lookahead reaches lies ahead (R31, R278; log entry 112). -/
def relTo (c : Chip) (x : Nat) : Int :=
  let m := c.modulus
  let d := sgnDiff m c.pred.th1 (c.angleFx x)
  let s := if c.reversing then -d else d
  if m != (c.cycleLen : Int) * oneFx && decide (s < 0) && decide (s + m ≤ c.lookahead + c.spanFx) then s + m else s

/-- How far behind θ(F+1) the part of the cycle begins that overrun frames left unevaluated (R48); the frame that declares a resync
takes up none (R240, R295). -/
def backlog (c : Chip) : Int :=
  match c.sched.evalTo with
  | none => 0
  | some a => if c.pred.emptyInterval then 0 else if c.reversing then fwdDist c.modulus c.pred.th1 a else fwdDist c.modulus a c.pred.th1

/-- The vernier step of an angle `r` beyond θ(F+1) (R41, R201). -/
def stepOf (c : Chip) (r : Int) : Nat :=
  if c.spanFx ≤ 0 then 0 else (divRoundHalfUp (max 0 r * 400) c.spanFx).toNat

/-! ## Pins and enables -/

/-- The channel is a pin of the output stage now (R59, R262). -/
def stagePin (c : Chip) (chan : Nat) : Bool :=
  chan < 0x30 || (decide (0x40 ≤ chan) && decide (chan < 0x48) && decide (2 ≤ c.fld (F.tioSel_FUNC (chan - 0x40))))

/-- An edge on the channel would be withheld now (R305, R343, R347, R378). -/
def withheldNow (c : Chip) (chan : Nat) : Bool :=
  if 0x48 ≤ chan then false
  else
    !c.flag F.outStatus_ARMED || c.flag F.outStatus_SAFE_LATCH ||
    (decide (0x20 ≤ chan) && decide (chan < 0x30) && bitOf (c.fld F.valveStatus_SHORT_LATCH) (chan - 0x20)) ||
    (decide (0x40 ≤ chan) && c.fld (F.tioSel_FUNC (chan - 0x40)) != 2)

/-- WRAP_c of channel `k`, which waits for its re-enable, lies in this frame's forward interval (R327), or in one that overrun
frames left (R48); answers its place. -/
def wrapAt (c : Chip) (k : Nat) : Option Int :=
  let r := c.relTo ((c.get (R.injCh k)).toNat % 2 ^ 24)
  if c.outs.reenable.contains k && !c.reversing && !c.pred.emptyInterval && decide (-c.backlog ≤ r) && decide (r < c.spanFx) then some r else none

/-- A start on injector channel `k` at place `r` is CHANNEL_OFF (R326, R327). -/
def injOff (c : Chip) (k : Nat) (r : Int) : Bool :=
  !c.bit R.injEffective k && (match c.wrapAt k with
    | some w => decide (r < w)
    | none => true)

/-- The channels whose wrap has come are enabled again (R327). -/
def reenable (c : Chip) : Chip :=
  c.outs.reenable.foldl (fun d k => match c.wrapAt k with
    | some _ =>
      let d1 := d.setBit R.injEffective k true
      { d1 with outs := { d1.outs with reenable := without d1.outs.reenable k } }
    | none => d) c

/-- A new status word for the output that descriptor `i` drives. -/
def retag (i w : Nat) (c : Chip) : Chip :=
  let f (t : Option (Nat × Nat)) : Option (Nat × Nat) := t.map fun p => if p.1 = i then (i, w) else p
  { c with outs := { c.outs with
      inj := c.outs.inj.map fun x => if x.idx = i then { x with word := w } else x
      valves := c.outs.valves.map fun v => { v with tag := f v.tag }
      tio := c.outs.tio.map fun v => { v with tag := f v.tag } } }

/-- Channel `chan` is to be switched off at the next frame (R296 group 1). -/
def requestOff (chan : Nat) (c : Chip) : Chip :=
  c.modSched fun s => { s with offs := if s.offs.contains chan then s.offs else s.offs ++ [chan] }

/-! ## ECC (R304) -/

/-- The entry has switched its output on, or will by an edge that is already placed: a start that this frame's phase C would commit
is not (R304). -/
def onByEntry (c : Chip) (e : Entry) : Bool :=
  e.started && e.d.action != 3 && c.stagePin e.d.chan && !(c.sched.next.any fun x => x.kind = .start && x.idx == e.idx)

/-- Descriptor `i` is dropped for a double error: its status, flag, counter and fault, and its output off; the edges of it that
this frame would commit are dropped with it. -/
def eccDrop (i : Nat) (c : Chip) : Chip :=
  let seq := match c.entry? i with
    | some e => e.d.seq
    | none => (c.readDesc i).seq
  let cyc := match c.entry? i with
    | some e => e.cycle
    | none => c.cycleOf (c.readDesc i).start
  let w := mkStatus 10 0 0 seq cyc
  let c1 := match c.entry? i with
    | some e => c.doIf (c.onByEntry e) (requestOff e.d.chan)
    | none => c
  let c2 := (c1.modSched fun s =>
    { s with entries := dropFirst (fun x => x.idx == i) s.entries, dropped := i :: without s.dropped i
             next := s.next.filter fun x => x.kind = .off || x.idx != i }).showCache
  let c3 := ((c2.writeStatus i w).setRecord i (some cyc)).retag i w
  ((c3.setFlag F.schedStatus_ECC_DROP true).addFld ⟨R.cntEcc, 31, 16⟩ 1).fault 0x0302 i 0

/-- The cache's own check of its entries: a single error is corrected and counted, a double error drops the entry. -/
def checkCache (c : Chip) : Chip :=
  c.sched.entries.foldl (fun d e => match e.ecc with
    | none => d
    | some false => (d.modEntry e.idx fun x => { x with ecc := none }).addFld ⟨R.cntEcc, 15, 0⟩ 1
    | some true => d.eccDrop e.idx) c

/-! ## The loader (R276 to R284) -/

/-- The loader may load now (R276, R279). -/
def loaderOn (c : Chip) : Bool :=
  c.sched.enabled && c.pred.state != 0 && !c.pred.stall && c.pred.model.isSome

/-- The not yet started entry that a class A descriptor displaces: class C before class B, the start farthest ahead; of equal ones the
one that the cache took first (R282; log entry 110). -/
def displaced (c : Chip) : Option Entry :=
  let pick (k : Nat) : Option Entry :=
    (c.sched.entries.filter fun e => !e.started && e.d.cls == k).foldl (fun b e => match b with
      | none => some e
      | some x => if c.relTo x.d.start < c.relTo e.d.start then some e else some x) none
  match pick 2 with
  | some e => some e
  | none => pick 1

/-- A new entry in the cache, with CACHED written (R269). -/
def enterCache (i : Nat) (d : Desc) (cyc : Nat) (c : Chip) : Chip :=
  let w := mkStatus 1 0 0 d.seq cyc
  ((c.modSched fun s => { s with entries := s.entries ++ [{ idx := i, d := d, cycle := cyc, word := w }] }).showCache).writeStatus i w

/-- A loadable, valid descriptor enters the cache if there is room or a class A descriptor displaces an entry (R282). -/
def admitEntry (i : Nat) (d : Desc) (cyc : Nat) (c : Chip) : Chip :=
  if c.sched.entries.length < 128 then c.enterCache i d cyc
  else if d.cls = 0 then
    match c.displaced with
    | some e => (c.dropOut 0 e).enterCache i d cyc
    | none => (c.addReg R.cntCacheFull 1).fault 0x0304 i 0
  else c.addReg R.cntCacheFull 1

/-- A loadable descriptor (R279) is tested, masked, skipped after a resync, or admitted (R263, R272, R295). -/
def loadTested (i : Nat) (d : Desc) (c : Chip) : Chip :=
  let cyc := c.cycleOf d.start
  let e : Entry := { idx := i, d := d, cycle := cyc, word := 0 }
  if c.record? i = some (cyc % 256) then c
  else if c.pred.resync then
    if cyc = (c.get R.schedCycle).toNat then (c.outcome e 7 0 0).addReg R.cntResyncSkip 1 else c
  else
    let cause := c.descCause i d
    if cause != 0 then ((c.outcome e 11 cause 0).addReg R.cntInvalid 1).fault 0x0303 i cause
    else if !bitOf d.mask (cyc % 8) then c.outcome e 6 3 0
    else c.admitEntry i d cyc

/-- The loader reads descriptor `i`, the word with VALID first (R264, R275, R279, R280). -/
def loadOne (i : Nat) (c : Chip) : Chip :=
  if !c.deviceHeld (32 + i / 16) || c.sched.dropped.contains i then c else
  let v := c.engineCheck (descOff i + 12) 1
  if v.1 && !v.2.descValid i then v.2.setRecord i none else
  let p := c.engineCheck (descOff i) 8
  if !p.1 then p.2.eccDrop i
  else if (p.2.entry? i).isSome || !p.2.loaderOn then p.2
  else
    let d := p.2.readDesc i
    if p.2.inLoadRange d.start &&
        (!p.2.reversing || (d.back && !bitOf (p.2.fld F.predReverse_MODE) (groupOf d.chan))) then p.2.loadTested i d
    else p.2

/-- Sixteen descriptors from `i` on. -/
def loadSixteen (i : Nat) (c : Chip) : Chip := (List.range 16).foldl (fun d k => d.loadOne (i + k)) c

/-- The rotating scan (R280). -/
def rotatingScan (c : Chip) : Chip :=
  (c.loadSixteen c.sched.scan).modSched fun s => { s with scan := (s.scan + 16) % 2048 }

/-- An event block waits for its priority scan, in ascending order (R281). -/
def queueScan (b : Nat) (c : Chip) : Chip :=
  c.modSched fun s => { s with blocks := s.blocks.filter (· < b) ++ [b] ++ s.blocks.filter (b < ·) }

end Chip

/-! ## Evaluation (R285 to R298) -/

/-- One due entry (R285, R296): its group, the frames it has been deferred (in group 4), its place and its descriptor. -/
structure DueItem where
  grp : Nat
  age : Nat
  key : Int
  idx : Nat
  deriving DecidableEq, Repr

/-- The service order of R296: group, oldest deferral, then place, then descriptor index. -/
def DueItem.before (a b : DueItem) : Bool :=
  a.grp < b.grp || (a.grp == b.grp && (b.age < a.age || (a.age == b.age &&
    (decide (a.key < b.key) || (decide (a.key = b.key) && a.idx < b.idx)))))

/-- A due entry put into its place. -/
def DueItem.insert (x : DueItem) : List DueItem → List DueItem
  | [] => [x]
  | y :: l => if x.before y then x :: y :: l else y :: DueItem.insert x l

namespace Chip

/-- The uncertainty gate bears on the start of the entry (R262, R291). -/
def gated (c : Chip) (d : Desc) : Bool := !(d.action == 3 && c.stagePin d.chan)

/-- The gate is met by the σ of θ(F+2) (R291). -/
def gateMet (c : Chip) (d : Desc) : Bool :=
  d.gate == 0xFFFF || (match (if c.pred.stall then none else c.pred.sg2) with
    | some s => decide (s ≤ (d.gate : Int) * 268435456)
    | none => false)

/-- The distance along the rotation from θ(F+1) to an angle, on the whole cycle. -/
def aheadOf (c : Chip) (x : Nat) : Int := c.relTo x % c.modulus

/-- The vernier step in frame F+1 of a time-mode end, if it falls there or has gone by (R25, R285). The length of frame F+1 is
not yet set: an end within its longest length is placed, and executes at its own instant. -/
def timeEndStep (c : Chip) (at' : Nat) : Option Nat :=
  if at' < c.nextTick + 402 then some (at' - c.nextTick) else none

/-- The end of a started entry falls due in this frame; answers its step (R285, R287). -/
def endDue (c : Chip) (e : Entry) : Option Nat :=
  if !e.started || e.endDone || !hasEnd e.d.action then none
  else match e.endAt with
    | some t => c.timeEndStep t
    | none =>
      let r := c.relTo e.endAngle
      if -c.backlog ≤ r && r < c.spanFx then some (c.stepOf r) else if e.carried then some 0 else none

/-- The end of a started entry is served in a later frame than the one it fell due in: carried over (R297), or left by an
overrun frame (R48). -/
def endLate (c : Chip) (e : Entry) : Bool :=
  e.carried || (match e.endAt with
    | some t => decide (t < c.nextTick)
    | none => decide (c.relTo e.endAngle < 0))

/-- A start of a later cycle falls due while the entry is still in the cache (R284). -/
def startAgain (c : Chip) (e : Entry) : Bool :=
  let r := c.relTo e.d.start
  let n := (c.cycleOf e.d.start + 2 ^ 32 - e.cycle) % 2 ^ 32
  e.started && c.sched.enabled && !c.reversing && !(e.orphan && e.fired) && decide (0 < n) && decide (n < 2 ^ 31) &&
    (e.busy || (decide (-c.backlog ≤ r) && decide (r < c.spanFx)))

/-- The entry waits for its service: deferred or carried over. -/
def waits (e : Entry) : Bool := e.reason != 0 || e.carried

/-- The start of an entry that is not started is due (R285). In reverse rotation a start that lies behind θ(F+1) is due where overrun
frames left it; one that was loaded there has been crossed before, which a backward crossing does not record (R273, R293; log entry
113). -/
def startDue (c : Chip) (e : Entry) : Bool :=
  let r := c.relTo e.d.start
  if e.started then false
  else if waits e then true
  else decide (r < c.spanFx) && (!c.reversing || decide (-c.backlog ≤ r))

/-- The entry is served as class A (R262): by its CLASS, for an end edge, or for a CLEAR on a pin of the output stage. -/
def servedAsA (c : Chip) (e : Entry) : Bool :=
  (c.endDue e).isSome || e.d.cls == 0 || (e.d.action == 3 && c.stagePin e.d.chan)

/-- The place of an entry's end or start in the frame, along the rotation. -/
def placeOf (c : Chip) (e : Entry) : Int :=
  if (c.endDue e).isSome then match e.endAt with
    | some t => Int.fdiv (((t : Int) - c.nextTick) * c.spanFx) 400
    | none => c.aheadOf e.endAngle
  else c.aheadOf e.d.start

/-- The entry as a due item, if it is due. -/
def dueItem (c : Chip) (e : Entry) : Option DueItem :=
  if (c.endDue e).isSome || c.startAgain e || c.startDue e then
    let grp :=
      if e.carried || (e.busy && e.d.cls == 0) then 2
      else if c.servedAsA e then 3
      else if e.reason != 0 || e.busy then 4
      else if e.d.cls = 1 then 5 else 6
    some { grp := grp, age := if grp = 4 then e.wait else 0, key := c.placeOf e, idx := e.idx }
  else none

/-- The due entries in the order of R296. -/
def dueList (c : Chip) : List DueItem :=
  (c.sched.entries.filterMap c.dueItem).foldl (fun l x => x.insert l) []

/-- An edge is placed in the next frame (R286); a withheld one is counted (R305). -/
def place (x : Edge) (c : Chip) : Chip :=
  let c1 := c.modSched fun s => { s with next := s.next ++ [x] }
  if x.hidden then c1.addReg R.cntWithheld 1 else c1

/-- An entry is deferred by one frame more (R291, R292, R297). -/
def deferEntry (e : Entry) (reason : Nat) (c : Chip) : Chip :=
  let c1 := (c.modEntry e.idx fun x =>
    { x with wait := e.wait + 1, reason := reason, late := e.late, missed := e.missed, barred := e.barred, capSeen := e.capSeen || reason == 1
             gateSeen := e.gateSeen || reason == 2 })
  let c2 := c1.outcome { e with wait := e.wait + 1 } 4 reason (e.wait + 1)
  let c3 := if reason = 2 then (if e.gateSeen then c2 else c2.addReg R.cntGateDeferred 1)
    else if e.capSeen then c2 else c2.addReg R.cntBDeferred 1
  if e.d.cls = 1 then c3.setFlag F.schedStatus_B_DEFERRED true else c3

/-- The gate has not been met by the eighth frame (R292). -/
def gateExpires (e : Entry) (c : Chip) : Chip :=
  let c1 := (c.decideOut e 5 2 8).addReg R.cntGateRefused 1
  if e.d.cls = 0 then c1.fault 0x0305 e.idx 0 else c1

/-- A class B start has found no capacity by the eighth frame (R297). -/
def capExpires (e : Entry) (c : Chip) : Chip := (c.decideOut e 5 3 8).addReg R.cntBExpired 1

/-- The gate is not met (R291, R292). -/
def gateFails (e : Entry) (c : Chip) : Chip :=
  if e.d.cls = 2 && !c.servedAsA e then (c.decideOut e 5 2 0).addReg R.cntGateRefused 1
  else if 8 ≤ e.wait then c.gateExpires e
  else c.deferEntry e 2

/-- The start is served at vernier step `st` (R261, R286 to R289, R292, R297, R305). `q` is how far START lies behind
θ(F+1). -/
def commitStart (e : Entry) (st : Nat) (q : Int) (c : Chip) : Chip :=
  let d := e.d
  let late := 0 < e.wait
  let hid := c.withheldNow d.chan
  let flags := (if hid then flagWithheld else 0) + (if e.late then flagFiredLate else 0) +
    (if c.reversing then flagBackward else 0)
  let e1 := { e with backward := c.reversing }
  let w := mkStatus (if late then 3 else 2) flags (if late then e.wait else 0) d.seq e.cycle
  let c1 := c.outcome e1 (if late then 3 else 2) flags (if late then e.wait else 0)
  let c2 := if late && c.servedAsA e then (c1.setFlag F.schedStatus_A_LATE true).addReg R.cntALate 1 else c1
  let c3 := if e.late then c2.addReg R.cntLateFired 1 else c2
  let endStep : Option Nat :=
    if !hasEnd d.action then none
    else if d.timeMode then if st + d.dur * 40 < 402 then some (st + d.dur * 40) else none
    else
      let r := (d.dur : Int) * oneFx - q
      if r < c.spanFx then some (c.stepOf r) else none
  let len := c.cycleLen
  let endAngle := if c.reversing then (d.start + len - d.dur % len) % len else (d.start + d.dur) % len
  let mk (k : EdgeKind) (s : Nat) (last : Bool) : Edge :=
    { step := s, chan := d.chan, action := d.action, param := d.param, kind := k, idx := e.idx, word := w, hidden := hid
      last := last, timeMode := d.timeMode, dur := d.dur }
  let c4 := c3.modEntry e.idx fun x =>
    { x with started := true, backward := c.reversing, hidden := hid, carried := false, reason := 0, wait := 0, word := w
             endDone := endStep.isSome, endAngle := endAngle
             endAt := if d.timeMode && hasEnd d.action then some (c.nextTick + st + d.dur * 40) else none
             fired := x.orphan }
  let c5 := c4.place (mk .start st (!hasEnd d.action))
  match endStep with
  | some s => c5.place (mk .finish s true)
  | none => c5

/-- How far beyond θ(F+1) the frame's forward correction carries the angle (R239). -/
def passedTo (c : Chip) : Int := max 0 (c.pred.step.getD 0)

/-- An entry that falls due for the first time, with what has become of its start: passed, by whatever distance (log entry 111), or
passed by more than CORR_PITCH, or due on a channel that is off (R289, R290, R326, R327). -/
def noteLate (c : Chip) (e : Entry) : Entry :=
  if waits e then e
  else
    let r := c.relTo e.d.start
    { e with late := decide (r < c.passedTo), missed := decide (c.corrPitchFx < -r)
             barred := decide (e.d.chan < 24) && e.d.action == 1 && c.injOff e.d.chan r }

/-- One evaluation of a start that is not yet committed (R288 to R294, R326). Answers none where its edges exceed the
budget `room`, else the edges used. -/
def evalStart (e : Entry) (room : Nat) (c : Chip) : Option (Nat × Chip) :=
  let d := e.d
  let r := c.relTo d.start
  let e1 := c.noteLate { e with backward := c.reversing }
  if c.groupWithheld (groupOf d.chan) then some (0, c.decideOut e1 8 0 0)
  else if c.reversing && !d.back then some (0, c)
  else if c.pred.stall && c.servedAsA e && groupOf d.chan == 0 then some (0, c.decideOut e1 5 4 e.wait)
  else if e1.barred || (decide (d.chan < 24) && d.action == 1 && c.injOff d.chan r) then some (0, c.decideOut e1 14 0 0)
  else if e1.missed then some (0, (c.decideOut e1 6 2 0).addReg R.cntMissed 1)
  else if e1.late && !d.fire then some (0, (c.decideOut e1 6 1 0).addReg R.cntLateSkipped 1)
  else if decide (8 < e.wait) && e.reason == 2 then some (0, c.gateExpires e1)
  else if decide (8 < e.wait) && e.reason == 1 then some (0, c.capExpires e1)
  else if c.gated d && !c.gateMet d then some (0, c.gateFails e1)
  else
    let atOnce := waits e || e1.late
    if atOnce && hasEnd d.action && !d.timeMode && decide (r + (d.dur : Int) * oneFx ≤ c.passedTo) then
      some (0, c.decideOut e1 6 4 0)
    else
      let c1 := c.commitStart e1 (if atOnce then 0 else c.stepOf r) (-r)
      let used := c1.sched.next.length - c.sched.next.length
      if room < used then none else some (used, c1)

/-- The status word of a start whose end is served `n` frames late (R297): SERVED_LATE, keeping the flags of a served start. -/
def lateWord (w n : Nat) : Nat :=
  let code := w / 2 ^ 28
  if code == 2 || code == 3 || code == 12 then 3 * 2 ^ 28 + bitsOf w 27 24 * 2 ^ 24 + min 255 n * 2 ^ 16 + w % 65536 else w

/-- The end of a started entry is committed at vernier step `st` (R261, R262, R287, R297, R305); `last` says that the entry
leaves with it. An end that is served late counts the frames it was carried and those that overran. -/
def commitEnd (e : Entry) (st : Nat) (last : Bool) (c : Chip) : Chip :=
  let hid := e.hidden || c.withheldNow e.d.chan
  let late := c.endLate e
  let w1 := if late then lateWord e.word (max 1 (if e.carried then e.wait else c.sched.unserved)) else e.word
  let w := if hid then withFlags w1 flagWithheld else w1
  let c1 := if late || (hid && !e.hidden) then (c.writeStatus e.idx w).retag e.idx w else c
  let c2 := if late then (c1.setFlag F.schedStatus_A_LATE true).addReg R.cntALate 1 else c1
  (c2.modEntry e.idx fun x => { x with endDone := true, carried := false, wait := 0, word := w }).place
    { step := if late then 0 else st, chan := e.d.chan, action := e.d.action, param := e.d.param, kind := .finish
      idx := e.idx, word := w, hidden := hid, last := last, timeMode := e.d.timeMode, dur := e.d.dur }

/-- The start of a later cycle finds the entry busy (R284). -/
def busyStart (e : Entry) (c : Chip) : Chip :=
  let cyc := c.cycleOf e.d.start
  ((c.writeStatus e.idx (mkStatus 6 5 0 e.d.seq cyc)).setRecord e.idx (some cyc)).modEntry e.idx fun x => { x with busy := false, busyWait := 0 }

/-- The window of a whole cycle whose close and next open are taken in one evaluation (R284), unless the mask leaves that cycle
out (R272). -/
def reopens (c : Chip) (e : Entry) : Bool :=
  e.d.action == 4 && !e.d.timeMode && e.d.dur == c.cycleLen && bitOf e.d.mask (c.cycleOf e.d.start % 8)

/-- An entry whose window closes becomes one whose start in the next cycle is to be evaluated (R284). -/
def reopened (cyc : Nat) (e : Entry) : Entry :=
  { e with cycle := cyc, wait := 0, reason := 0, carried := false, late := false, missed := false, busy := false, barred := false, busyWait := 0, started := false
           backward := false, hidden := false, endDone := false, capSeen := false, gateSeen := false }

/-- One evaluation of a started entry: its end, and a start of a later cycle that falls due (R284, R287). -/
def evalRunning (e : Entry) (room : Nat) (c : Chip) : Option (Nat × Chip) :=
  let again := c.startAgain e
  match c.endDue e with
  | none => some (0, if again then c.busyStart e else c)
  | some st =>
    if room = 0 then none
    else if again && c.reopens e then
      let cyc := c.cycleOf e.d.start
      (((c.commitEnd e st false).modEntry e.idx (reopened cyc)).evalStart (reopened cyc e) (room - 1)).map fun p => (p.1 + 1, p.2)
    else
      let c1 := c.commitEnd e st true
      some (1, if again then c1.busyStart e else c1)

/-- One evaluation of a due entry (R286). -/
def evalEntry (e : Entry) (room : Nat) (c : Chip) : Option (Nat × Chip) :=
  if e.started then c.evalRunning e room else c.evalStart e room

/-- The edges that the service of descriptor `i`'s due entry demands (R286, R306): none for one that is decided without an
edge. -/
def edgesOf (c : Chip) (i : Nat) : Nat :=
  match c.entry? i with
  | none => 0
  | some e => match c.evalEntry e 48 with
    | some (used, _) => used
    | none => 0

/-- Class A work is carried over by one frame more (R297). -/
def carryOver (e : Entry) (c : Chip) : Chip :=
  c.modEntry e.idx fun x => { x with carried := true, wait := x.wait + 1, late := e.late, missed := e.missed, barred := e.barred }

/-- A class C start is refused for capacity (R297, R307). -/
def noteRefused (c : Chip) : Chip := (c.setFlag F.schedStatus_C_REFUSED true).addReg R.cntCRefused 1

/-- A class B start that finds its entry running is over capacity: it is deferred as any other, and its outcome is that of the start
(R284, R297, R307). -/
def deferBusy (e : Entry) (c : Chip) : Chip :=
  let cyc := c.cycleOf e.d.start
  if 8 ≤ e.busyWait then
    (((c.writeStatus e.idx (mkStatus 5 3 8 e.d.seq cyc)).setRecord e.idx (some cyc)).modEntry e.idx fun x =>
      { x with busy := false, busyWait := 0 }).addReg R.cntBExpired 1
  else
    let c1 := (c.writeStatus e.idx (mkStatus 4 1 (e.busyWait + 1) e.d.seq cyc)).modEntry e.idx fun x =>
      { x with busy := true, busyWait := x.busyWait + 1 }
    (if e.busy then c1 else c1.addReg R.cntBDeferred 1).setFlag F.schedStatus_B_DEFERRED true

/-- An entry over capacity (R297); in reverse rotation a TRACK entry without BACK keeps its status word (R293). -/
def overCapacity (x : Entry) (c : Chip) : Chip :=
  let e := if x.started then x else { x with backward := c.reversing }
  if e.started then
    let c1 := if (c.endDue e).isSome then c.carryOver e else c
    if !c.startAgain e then c1
    else if e.d.cls = 2 then
      let cyc := c.cycleOf e.d.start
      ((c1.writeStatus e.idx (mkStatus 5 1 0 e.d.seq cyc)).setRecord e.idx (some cyc)).noteRefused
    else if e.d.cls = 1 then c1.deferBusy e
    else c1.modEntry e.idx fun x => { x with busy := true }
  else if c.reversing && !e.d.back && !c.groupWithheld (groupOf e.d.chan) then c
  else if c.servedAsA e then c.carryOver (c.noteLate e)
  else if e.d.cls = 1 then
    if 8 ≤ e.wait then c.capExpires e else c.deferEntry (c.noteLate e) 1
  else (c.decideOut e 5 1 0).noteRefused

/-- Phase C of the frame is abandoned, or hands nothing over (R47, R48): an entry whose edges it would have placed keeps them
for the next frame. -/
def notPlaced (e : Entry) (c : Chip) : Chip :=
  if (c.endDue e).isSome then c.carryOver e
  else if waits e then c.modEntry e.idx fun x => { x with wait := x.wait + 1 }
  else c.modEntry e.idx fun x => { x with barred := (c.noteLate e).barred }

/-- The state of a frame's service: evaluations left, edges left, the first class A descriptor over capacity, the block.
`places` says whether the frame's phase C places edges. -/
def serveOne (places : Bool) (p : Nat × Nat × Option Nat × Chip) (x : DueItem) : Nat × Nat × Option Nat × Chip :=
  let c := p.2.2.2
  match c.entry? x.idx with
  | none => p
  | some e =>
    let beyond : Nat × Nat × Option Nat × Chip :=
      (p.1, p.2.1, if c.servedAsA e then (match p.2.2.1 with
        | some i => some i
        | none => some e.idx) else p.2.2.1, c.overCapacity e)
    if p.1 = 0 then beyond
    else
      match c.evalEntry e p.2.1 with
      | some (used, d) => (p.1 - 1, p.2.1 - used, p.2.2.1, if places || used == 0 then d else c.notPlaced e)
      | none => beyond

/-! ## Switch-offs (R248, R250, R295, R296 group 1) -/

/-- The entries whose output is on: started, on a pin of the output stage, with their end to come. -/
def running (c : Chip) (e : Entry) : Bool := e.started && !e.endDone && c.stagePin e.d.chan && hasEnd e.d.action

/-- Requests for every running entry that satisfies `p`. -/
def requestOffs (p : Entry → Bool) (c : Chip) : Chip :=
  c.sched.entries.foldl (fun d e => if c.running e && p e then d.requestOff e.d.chan else d) c

/-- The channels of the output stage that are on. -/
def onChannels (c : Chip) : List Nat :=
  (List.range 24).filter (fun k => (at? c.outs.inj k {}).phase != .idle) ++
  ((List.range 16).filter (fun k => (at? c.outs.valves k {}).active)).map (· + 0x20) ++
  ((List.range 8).filter (fun k => (at? c.outs.tio k {}).active)).map (· + 0x40)

/-- The switch-offs that a change to reverse or a stall asks for (R248, R250). -/
def turnOffs (c : Chip) : Chip :=
  let c1 := if c.pred.reverseOff then
      let m := c.fld F.predReverse_MODE
      (c.onChannels.filter fun k => bitOf m (groupOf k)).foldl (fun d k => d.requestOff k)
        (c.requestOffs fun e => bitOf m (groupOf e.d.chan))
    else c
  let c2 := if c.pred.stallOff then c1.requestOffs fun e => !e.d.timeMode else c1
  c2.modPred fun p => { p with reverseOff := false, stallOff := false }

/-- The frame that declares a resync (R295). -/
def resyncEntries (c : Chip) : Chip :=
  let c1 := c.requestOffs fun e => !e.d.timeMode
  (c.sched.entries.filter fun e => !e.started).foldl
    (fun d e => if e.cycle = (c.get R.schedCycle).toNat then (d.decideOut e 7 0 0).addReg R.cntResyncSkip 1
      else d.dropOut 0 e) c1

/-- The switch-offs are committed first, within the frame's 48 edges (R286, R296); one on a TIO pin that the scheduler does not drive is
withheld (R305, R378). -/
def placeOffs (c : Chip) : Chip :=
  let room := 48 - c.sched.next.length
  ((c.sched.offs.take room).foldl (fun d k =>
    d.place { step := 0, chan := k, action := 0, param := 0, kind := .off, idx := 0, word := 0
              hidden := decide (0x40 ≤ k) && decide (k < 0x48) && d.fld (F.tioSel_FUNC (k - 0x40)) != 2, last := false }) c).modSched fun s => { s with offs := s.offs.drop room }

/-! ## Phase E of a frame -/

/-- The published angle has passed from C − 1 to 0: SCHED_CYCLE counts it, and the records of held blocks are cleared
(R270, R275). -/
def countCycle (c : Chip) : Chip :=
  if c.pred.passed then
    (c.put R.schedCycle (c.get R.schedCycle + 1)).modSched fun s =>
      { s with records := s.records.filter fun r => !c.hostOwned (32 + r.1 / 16) }
  else c

/-- The flags whose change from 0 to 1 raises source 2 (R299). -/
def overloadFlags (c : Chip) : List Bool :=
  [c.flag F.schedStatus_A_LATE, c.flag F.schedStatus_B_DEFERRED, c.flag F.schedStatus_C_REFUSED, c.flag F.schedStatus_A_OVER]

/-- A_OVER (R298): more than 32 class A entries are due in the frame; the record names the first one over capacity. -/
def noteOverrun (n : Nat) (first : Option Nat) (c : Chip) : Chip :=
  if 32 < n then ((c.setFlag F.schedStatus_A_OVER true).addReg R.cntAOver 1).fault 0x0301 (first.getD 0) 0 else c

/-- The edges that the frame's phase E demands, switch-offs that found no room among them (R306). -/
def edgeDemand (c : Chip) : Nat := (c.dueList.map fun x => c.edgesOf x.idx).sum + c.sched.next.length + c.sched.offs.length

/-- EDGE_PEAK at a frame that has demanded `n` edges (R306). -/
def peakEdges (n : Nat) (c : Chip) : Chip :=
  c.setFld F.loadPeak_EDGE_PEAK (max (min 255 n) (c.fld F.loadPeak_EDGE_PEAK))

/-- Due entries are served until 32 evaluations or 48 edges are used (R286, R296). -/
def evaluate (places : Bool) (c : Chip) : Chip :=
  let due := c.dueList
  let offs := c.sched.next.length
  let classA := (due.filter fun x => x.grp == 2 || x.grp == 3).length
  let p := due.foldl (serveOne places) (32, 48 - offs, none, c)
  let c1 := (p.2.2.2.noteOverrun classA p.2.2.1).modSched fun s => { s with used := if places then 32 - p.1 else 32 }
  (c1.setFld F.loadPeak_EVAL_PEAK (max (min 255 due.length) (c1.fld F.loadPeak_EVAL_PEAK))).peakEdges c.edgeDemand

/-- Source 2 when one of the flags of R299 has become 1 since they read `before`. -/
def noteOverload (before : List Bool) (c : Chip) : Chip :=
  if (before.zip c.overloadFlags).any fun x => !x.1 && x.2 then c.raise 2 else c

/-- The entries are settled for a resync in the frame that declares it, or in the first frame after overruns (R48, R295). -/
def settleResync (c : Chip) : Chip :=
  if c.pred.emptyInterval || c.sched.resyncDue then c.resyncEntries.modSched fun s => { s with resyncDue := false } else c

/-- The evaluation has come to the end of the frame's interval. -/
def closeEval (c : Chip) : Chip :=
  (c.modSched fun s => { s with evalTo := none, unserved := 0 }).modPred fun p => { p with step := none }

/-- The scans of phase E read the descriptors of a returned block, else the next of the rotation (R280, R281). -/
def priorityScan (c : Chip) : Chip :=
  match c.sched.blocks with
  | b :: rest =>
    let d := c.modSched fun s => { s with blocks := rest }
    if d.sched.enabled then d.loadSixteen (16 * (b - 32)) else d
  | [] => c

/-- The rotating scan after the evaluation `c` has made, with the switch-offs it asks for (R280, R296, R304, R306); it stands still
while ENABLE is 0 (log entry 109). -/
def scanOn (demand : Nat) (c : Chip) : Chip :=
  let c1 := c.rotatingScan
  c1.placeOffs.peakEdges (demand + c1.sched.offs.length)

/-- Phase E and phase C of a frame: switch-offs, scans, evaluation and the placing of edges (R280 to R299). -/
def phaseE (c : Chip) : Chip :=
  let c1 := c.countCycle.checkCache.settleResync.turnOffs
  let c0 := c1.priorityScan.placeOffs
  let c2 := c0.evaluate true
  let c3 := if c1.sched.blocks.isEmpty && c2.sched.enabled then c2.scanOn c0.edgeDemand else c2
  (c3.reenable.closeEval).noteOverload c.overloadFlags

/-- Phase E of a frame whose edges are not placed, since its phase C or G overran (R47, R48): all that needs no edge is
decided, and the next frame takes the edges up. -/
def phaseEOnly (c : Chip) : Chip :=
  let c1 := (c.countCycle.checkCache.settleResync.turnOffs).priorityScan.evaluate false
  let c2 := if c.sched.blocks.isEmpty && c1.sched.enabled then c1.rotatingScan else c1
  (c2.reenable.closeEval).noteOverload c.overloadFlags

/-- The frame's evaluation did not run (R48): the part of the cycle it leaves, and a resync, are taken up in the next frame; what waits
waits a frame longer (R292, R297), and a start that a forward correction has passed lies behind θ(F+1) from then on (R239). -/
def skipE (phaseARan : Bool) (c : Chip) : Chip :=
  let resync := phaseARan && c.pred.emptyInterval
  (c.modSched fun s => { s with
    unserved := s.unserved + 1, resyncDue := s.resyncDue || resync, used := 32
    entries := s.entries.map fun e =>
      { e with wait := if waits e then e.wait + 1 else e.wait, busyWait := if e.busy then e.busyWait + 1 else e.busyWait }
    evalTo := if resync then some c.pred.th2 else match s.evalTo with
      | some a => some a
      | none => some (if phaseARan then c.pred.th1 else c.pred.th2) }).modPred fun p => { p with step := none }

/-! ## Edits and ownership (R276, R277, R300 to R303) -/

/-- The descriptors of event block `b`. -/
def ofBlock (b i : Nat) : Bool := 32 + i / 16 == b

/-- The ORPHANED and HELD status words of block `b` change to NONE or HELD (R303). -/
def settleWords (b code : Nat) (c : Chip) : Chip :=
  (List.range 16).foldl (fun d k =>
    let i := 16 * (b - 32) + k
    let w := d.ownWord32 (statusOff i)
    if w / 2 ^ 28 = 9 || w / 2 ^ 28 = 15 then d.writeStatus i (code * 2 ^ 28 + w % 65536) else d) c

/-- The not started entries of block `b` leave with NONE or HELD; started ones complete as they are (R300, R301). -/
def invalidate (b code : Nat) (c : Chip) : Chip :=
  let c1 := ((c.sched.entries.filter fun e => ofBlock b e.idx && !e.started).map fun e => { e with orphan := false }).foldl
    (fun d e => d.dropOut code e) c
  c1.modSched fun s =>
    { s with entries := s.entries.map fun e => if ofBlock b e.idx then { e with orphan := false } else e
             dropped := s.dropped.filter fun i => !ofBlock b i }

/-- The return tick of event block `b` (R281, R300, R303, R304). -/
def returnEvents (b : Nat) (c : Chip) : Chip := ((c.invalidate b 0).settleWords b 0).queueScan b

/-- INVAL_BLOCK takes effect for event block `b` (R301, R303). -/
def invalEvents (b : Nat) (c : Chip) : Chip :=
  if c.hostOwned b then
    let c1 := c.invalidate b 15
    (List.range 16).foldl (fun d k =>
      let i := 16 * (b - 32) + k
      d.writeStatus i (15 * 2 ^ 28 + d.ownWord32 (statusOff i) % 65536)) c1
  else c.returnEvents b

/-- Event block `b` is taken without INVAL_BLOCK: its entries fire at most once more (R302). A block taken while RETURNING
counts as never returned (R118). -/
def takeEvents (b : Nat) (c : Chip) : Chip :=
  c.modSched fun s =>
    { s with entries := s.entries.map fun e =>
        if ofBlock b e.idx then { e with orphan := true, fired := e.orphan && e.fired } else e }

/-- SCHED_CONTROL takes effect (R276, R277). -/
def commitSchedControl (v : Nat) (c : Chip) : Chip :=
  let c1 := c.put R.schedControl (BitVec.ofNat 32 v)
  let on := c1.flag F.schedControl_ENABLE
  let c2 := if c.sched.enabled && !on then
      ((c1.sched.entries.filter fun e => !e.started).map fun e => { e with orphan := false }).foldl (fun d e => d.dropOut 15 e) c1
    else c1
  c2.modSched fun s => { s with enabled := on, blocks := if on then s.blocks else [] }

/-- The end of entry `i` is evaluated and committed for the next frame once its time has come (R261, R285): the row
TIME_MODE_END_DUE. It is one of the frame's 32 evaluations and 48 edges, and beyond them it is carried over (R286, R297). -/
def commitTimeEnd (i : Nat) (c : Chip) : Chip :=
  match c.entry? i with
  | some e => match e.endAt, c.endDue e with
    | some _, some st =>
      if e.carried then c
      else if 32 ≤ c.sched.used || 48 ≤ c.sched.next.length then c.carryOver e
      else ((c.commitEnd e st true).modSched fun s => { s with used := s.used + 1 }).noteOverload c.overloadFlags
    | _, _ => c
  | none => c

/-- The edges committed for the frame that begins are handed over. -/
def handOver (c : Chip) : Chip := c.modSched fun s => { s with edges := s.next, next := [] }

/-- The start of descriptor `i` executes one step later than placed: so does a time-mode end that counts from it (R261, R334). -/
def shiftEnd (i : Nat) (c : Chip) : Chip :=
  let f (x : Edge) : Edge := if x.kind = .finish && x.timeMode && x.idx == i then { x with step := x.step + 1 } else x
  (c.modEntry i fun e => { e with endAt := e.endAt.map (· + 1) }).modSched fun s =>
    { s with edges := s.edges.map f, next := s.next.map f }

end Chip

end Sys2Proof.Machine
end

