-- ==== Sys2Proof/Machine/Outputs.lean ====
section
/-!
DEFINITION. The output stage (07): the injector profile engine and bank arbitration (R312 to R328), valve outputs (R329 to
R332), arming, disarming and the safe stop (R335 to R343), diagnostics (R344 to R347), and their commands. Local times are
in 2.5 ns steps; 400 steps are 1 µs.
-/

namespace Sys2Proof.Machine

namespace Chip

/-! ## Shared -/

/-- The output stage passed through `f`. -/
def modOuts (f : Outs → Outs) (c : Chip) : Chip := { c with outs := f c.outs }

/-- The present instant is `at'` steps after the last tick. -/
def atStep (at' : Nat) (c : Chip) : Chip := { c with tb := { c.tb with now := at' } }

/-- The local time of the present instant. -/
def local' (c : Chip) : Nat := c.tb.ticks + c.tb.now

/-- Injector channel `k`. -/
def injOf (c : Chip) (k : Nat) : Inj := at? c.outs.inj k {}

/-- Injector channel `k` passed through `f`. -/
def modInj (k : Nat) (f : Inj → Inj) (c : Chip) : Chip := c.modOuts fun o => { o with inj := modAt o.inj k f }

/-- The bank of a channel (R309). -/
def bankOf (k : Nat) : Nat := k / 4

/-- The channels of bank `n`. -/
def bankChannels (n : Nat) : List Nat := [4 * n, 4 * n + 1, 4 * n + 2, 4 * n + 3]

/-- UNIT of a fault of channel `k` (R446). -/
def injUnit (k : Nat) : Nat := bankOf k * 256 + k

/-- A new status word for the start that descriptor `i` made: written, and kept with the entry and the output (R269). -/
def rewrite (i w : Nat) (c : Chip) : Chip :=
  ((c.writeStatus i w).modEntry i fun e => { e with word := w }).retag i w

/-- CUT added to a status word (R267). -/
def cutStatus (i w : Nat) (c : Chip) : Chip := c.rewrite i (withFlags w flagCut)

/-! ## Banks -/

/-- Channel `k` is in its peak section. -/
def inPeak (c : Chip) (k : Nat) : Bool := (c.injOf k).phase == .boost || (c.injOf k).phase == .transition

/-- Channel `k` is in HOLD. -/
def inHold (c : Chip) (k : Nat) : Bool := (c.injOf k).phase == .hold

/-- The low side of channel `k` is commanded on (the table "Gate states by phase"). -/
def lowCommand (c : Chip) (k : Nat) : Bool :=
  match (c.injOf k).phase with
  | .boost => true
  | .hold => true
  | .transition => !c.flag (F.profCtrl_TRANS_DECAY (c.injOf k).profile)
  | _ => false

/-- BANK_HSB_n is commanded on: a channel of the bank boosts from VBOOST. -/
def boostCommand (c : Chip) (n : Nat) : Bool :=
  (bankChannels n).any fun k => (c.injOf k).phase == .boost && !(c.injOf k).battery

/-- BANK_HSV_n is commanded on: a battery peak, or the chopping of the hold (R316, R317, R319). -/
def batteryCommand (c : Chip) (n : Nat) : Bool :=
  ((bankChannels n).any fun k => (c.injOf k).phase == .boost && (c.injOf k).battery) ||
    (!(bankChannels n).any c.inPeak && (bankChannels n).any c.inHold && at? c.outs.chop n false)

/-- BANK_HSV_n is switched to `on`, and the instant is noted where that changes it (R317). -/
def switchHsv (n : Nat) (on : Bool) (c : Chip) : Chip :=
  if at? c.outs.chop n false = on then c
  else c.modOuts fun o => { o with chop := modAt o.chop n fun _ => on, chopAt := modAt o.chopAt n fun _ => c.local' }

/-- Notes since when every gate of bank `n` is commanded inactive (R346). -/
def noteIdle (n : Nat) (c : Chip) : Chip :=
  let on := (bankChannels n).any c.lowCommand || c.boostCommand n || c.batteryCommand n
  c.modOuts fun o => { o with idleAt := modAt o.idleAt n fun t => if on then none else some (t.getD c.local') }

/-- The bank's gates and BANK_STATUS_n as the channels' phases give them. -/
def showBank (n : Nat) (c : Chip) : Chip :=
  let c := (c.switchHsv n (c.batteryCommand n)).noteIdle n
  let ks := bankChannels n
  let bits (p : Nat → Bool) : Nat := ks.foldl (fun a k => a + b2n (p k) * 2 ^ (k % 4)) 0
  let peak := ks.find? c.inPeak
  let phase := match peak with
    | some k => if (c.injOf k).phase == .boost then 1 else 2
    | none => if ks.any c.inHold then 3 else 0
  (((c.setFld (F.bankStatus_PHASE n) phase).setFld (F.bankStatus_PEAK_CH n) (peak.getD 0 % 4)).setFld
    (F.bankStatus_HOLDING n) (bits c.inHold)).setFld (F.bankStatus_WAITING n) (bits fun k => (c.injOf k).phase == .wait)

/-- The sum of a hold threshold over the holding channels of channel `k`'s bank but `k`; above 255 it acts as 255 (R311). -/
def holdSum (c : Chip) (f : Nat → Fld) (k : Nat) : Nat :=
  min 255 (((bankChannels (bankOf k)).filter fun j => j != k && c.inHold j).map fun j => c.fld (f (c.injOf j).profile)).sum

/-- The boost threshold of channel `k` (R314). -/
def boostThreshold (c : Chip) (k : Nat) : Nat :=
  min 255 (c.fld (F.profI_I_PEAK (c.injOf k).profile) + c.holdSum F.profI_I_HOLD_HI k)

/-- Profile `p` is usable in bank `n` (R313). -/
def profileUsable (c : Chip) (n p : Nat) : Bool :=
  c.flag (F.profCtrl_VALID p) && decide (c.fld (F.profI_I_OPEN p) < c.fld (F.profI_I_PEAK p)) &&
    decide (c.fld (F.profI_I_HOLD_LO p) < c.fld (F.profI_I_HOLD_HI p)) &&
    decide (c.fld (F.profI_I_HOLD_HI p) < c.fld (F.profI_I_PEAK p)) &&
    decide (c.fld (F.profI_I_PEAK p) < c.fld (F.bankCfg_I_OC n))

/-- VBOOST_MEAS, in units of 0.1 V, reaches VBOOST_MIN of profile `p`, in units of 0.5 V (R319, R485). -/
def boostEnough (c : Chip) (p : Nat) : Bool := decide (c.fld (F.profCtrl_VBOOST_MIN p) * 5 ≤ c.fld F.boostStatus_VBOOST_MEAS)

/-- An output fault record; a non-owner raises none (R581). -/
def outFault (code unit detail : Nat) (c : Chip) : Chip := if c.shadows then c else c.fault code unit detail

/-- The diagnostic result of channel `k`, with source 9 + n for the results 1 to 4 and 7 (R344). -/
def judge (k result : Nat) (c : Chip) : Chip :=
  let c1 := (c.setFld (F.injDiag_RESULT k) result).modInj k fun x => { x with judged := some result }
  if (1 ≤ result && result ≤ 4) || result == 7 then c1.raise (9 + bankOf k) else c1

/-- A refusal of the start of descriptor `i` with status word `w` on channel `k` (R321, R322, R324, R325): `cause` is the
fault's DETAIL. The refused pulse reached no threshold, so T_PEAK becomes 0xFFFF unless the channel's own pulse is in flight
(R344). -/
def refuseStart (k i w cause : Nat) (c : Chip) : Chip :=
  let n := bankOf k
  let cnt := if cause ≤ 2 then F.bankCounts_REFUSED_DELAY n
    else if cause = 3 then F.bankCounts_REFUSED_ENERGY n else F.bankCounts_REFUSED_OTHER n
  let c1 := ((c.rewrite i (13 * 2 ^ 28 + w % 65536)).incFld cnt).setFld (F.injDiag_RESULT k) 6
  let c2 := if (c1.injOf k).phase == .idle then c1.setFld (F.injDiag_T_PEAK k) 0xFFFF else c1
  (c2.raise (9 + n)).outFault 0x0407 (injUnit k) cause

/-- The waiting injection of channel `k` is refused and leaves the bank. -/
def refuseWaiting (k cause : Nat) (c : Chip) : Chip :=
  let x := c.injOf k
  ((c.modInj k fun y => { y with phase := .idle }).refuseStart k x.idx x.word cause).showBank (bankOf k)

/-- Channel `k` is granted (R314, R320, R324): it enters BOOST, and after a wait the start's status word becomes
BANK_DELAYED. -/
def grant (k : Nat) (battery : Bool) (c : Chip) : Chip :=
  let x := c.injOf k
  let n := bankOf k
  let waited := c.local' - x.startAt
  let c1 := c.modInj k fun y => { y with phase := .boost, boostAt := c.local', battery := battery, judged := none }
  let c2 := c1.setFld (F.injDiag_T_PEAK k) 0xFFFF
  let c3 := if 0 < waited then
      (c2.rewrite x.idx (12 * 2 ^ 28 + bitsOf x.word 27 24 * 2 ^ 24 + min 255 (ceilDiv waited 400) * 2 ^ 16 + x.word % 65536)).incFld
        (F.bankCounts_DELAYED n)
    else c2
  c3.showBank n

/-- What keeps the waiting channel `k` from its grant at the present instant apart from R319 (R320). -/
def mayGrant (c : Chip) (k : Nat) : Bool :=
  let n := bankOf k
  !(bankChannels n).any c.inPeak && !c.flag (F.bankStatus_TRIPPED n) &&
    (match (c.injOf k).endAt with
      | none => true
      | some t => decide (t + c.fld (F.bankCfg_T_REST n) * 400 ≤ c.local'))

/-- The grant of channel `k` as its profile and VBOOST allow it (R313, R319). -/
def tryGrant (k : Nat) (c : Chip) : Chip :=
  let p := (c.injOf k).profile
  if !c.mayGrant k then c
  else if !c.profileUsable (bankOf k) p then (c.refuseWaiting k 4).outFault 0x0408 (injUnit k) p
  else if c.boostEnough p then c.grant k false
  else match c.fld (F.profCtrl_LOW_BOOST p) with
    | 1 => c.grant k true
    | 2 => c
    | _ => c.refuseWaiting k 3

/-- The waiting channel of bank `n` whose start edge executed first; a tie goes to the lower number (R320). -/
def firstWaiting (c : Chip) (n : Nat) : Option Nat :=
  ((bankChannels n).filter fun k => (c.injOf k).phase == .wait).foldl (fun b k => match b with
    | none => some k
    | some j => if (c.injOf k).startAt < (c.injOf j).startAt then some k else some j) none

/-- Bank `n` grants what it can at the present instant: four rounds settle four channels. -/
def settleBank (n : Nat) (c : Chip) : Chip :=
  stepN (fun d => match d.firstWaiting n with
    | some k => d.tryGrant k
    | none => d) 4 c

/-- The start edge of an injector PULSE executes (R320 to R322). -/
def injStart (k i w param : Nat) (c : Chip) : Chip :=
  let n := bankOf k
  if (c.injOf k).phase != .idle then c.refuseStart k i w 5
  else if c.flag (F.bankStatus_TRIPPED n) then c.refuseStart k i w 6
  else
    let c1 := (c.modInj k fun y =>
      { y with phase := .wait, idx := i, word := w, profile := param % 8, startAt := c.local' }).settleBank n
    if (c1.injOf k).phase == .wait && c1.fld (F.bankCfg_MAX_DELAY n) == 0 then c1.refuseWaiting k 1 else c1.showBank n

/-- The diagnostic result of a pulse that ends: the one decided, else OK or BATTERY_PEAK (R344). -/
def closeDiag (k : Nat) (c : Chip) : Chip :=
  c.setFld (F.injDiag_RESULT k) ((c.injOf k).judged.getD (if (c.injOf k).battery then 5 else 0))

/-- The pulse of channel `k` ends: its low side turns off, its diagnostic result stands, and the bank grants what it can
(R318, R344). -/
def injStop (k : Nat) (c : Chip) : Chip :=
  (((c.closeDiag k).modInj k fun y => { y with phase := .idle, endAt := some c.local' }).settleBank (bankOf k)).showBank (bankOf k)

/-- An edge that ends whatever channel `k` does: a waiting injection is refused, a running one stopped (R318, R321). -/
def injEnd (k : Nat) (c : Chip) : Chip :=
  match (c.injOf k).phase with
  | .idle => c
  | .wait => c.refuseWaiting k 2
  | _ => c.injStop k

/-- The end edge of descriptor `i`'s pulse: without effect on another start's pulse (R321, R322). -/
def injFinish (k i : Nat) (c : Chip) : Chip := if (c.injOf k).idx = i then c.injEnd k else c

/-- A running pulse is switched off early, with CUT (R248, R326, R339, R344). -/
def injCut (k : Nat) (c : Chip) : Chip :=
  match (c.injOf k).phase with
  | .idle => c
  | .wait => c.refuseWaiting k 2
  | _ => (c.cutStatus (c.injOf k).idx (c.injOf k).word).injStop k

/-- Channel `k` leaves its boost: transition, or hold at once when T_TRANS is 0 (R315). -/
def endBoost (k : Nat) (c : Chip) : Chip :=
  let hold := c.fld (F.profT_T_TRANS (c.injOf k).profile) == 0
  let c1 := c.modInj k fun y => { y with phase := if hold then .hold else .transition, transAt := c.local' }
  (if hold then c1.settleBank (bankOf k) else c1).showBank (bankOf k)

/-- The boost threshold is reached (R314, R344): before T_PEAK_MIN the pulse is SHORT and is cut. -/
def reachPeak (k : Nat) (c : Chip) : Chip :=
  let x := c.injOf k
  let t := (c.local' - x.boostAt) / 10
  let c1 := c.setFld (F.injDiag_T_PEAK k) (min 0xFFFE t)
  if c.local' - x.boostAt < c.fld (F.profT_T_PEAK_MIN x.profile) * 40 then
    ((c1.judge k 3).outFault 0x0403 (injUnit k) (min 0xFFFE t)).injCut k
  else c1.endBoost k

/-- T_BOOST_MAX of channel `k`'s profile in steps; 0 acts as 1 µs. -/
def boostMax (c : Chip) (k : Nat) : Nat := max 1 (c.fld (F.profT_T_BOOST_MAX (c.injOf k).profile)) * 400

/-- T_BOOST_MAX elapses with bank current code `code` (R314, R344). -/
def boostLimit (k code : Nat) (c : Chip) : Chip :=
  let l := c.holdSum F.profI_I_HOLD_LO k
  if code < min 255 (c.fld (F.profI_I_OPEN (c.injOf k).profile) + l) then
    ((c.judge k 1).outFault 0x0401 (injUnit k) code).injCut k
  else if code < c.boostThreshold k then ((c.judge k 2).outFault 0x0402 (injUnit k) code).endBoost k
  else c.reachPeak k

/-- The channel that a trip's record names: the one in its peak section, else a free one of the bank (log entry 33). -/
def tripChannel (c : Chip) (n : Nat) : Nat :=
  match (bankChannels n).find? c.inPeak with
  | some k => k
  | none => 4 * n + Config.freeNat c.free % 4

/-- Bank `n` trips (R345, R346), its record before those of the starts it refuses (R448): every pulse in flight is cut with RESULT 7,
every waiting start is refused. A non-owner's bank never trips (R581). -/
def tripBank (n code detail : Nat) (c : Chip) : Chip :=
  if c.shadows then c else
  let unit := injUnit (c.tripChannel n)
  let c0 := (c.useFree.setFlag (F.bankStatus_TRIPPED n) true).setBit R.outStatus n true
  let c1 := (c0.raise (9 + n)).fault code unit detail
  let c2 := (bankChannels n).foldl (fun d k => match (d.injOf k).phase with
    | .idle => d
    | .wait => d.refuseWaiting k 6
    | _ => (d.judge k 7).injCut k) c1
  c2.showBank n

/-- TRIPPED is cleared (R345): the bank trips again at once while the current is still at I_OC. -/
def clearTrip (n : Nat) (still : Bool) (c : Chip) : Chip :=
  let c1 := (c.setFlag (F.bankStatus_TRIPPED n) false).setBit R.outStatus n false
  if still then c1.tripBank n 0x0405 (c.fld (F.bankCfg_I_OC n)) else c1

/-! ## Channel enable (R326 to R328) -/

/-- Channel `k` is disabled at a tick: out of force, and out of its bank where it waits (R326, R328). -/
def disableInj (k : Nat) (c : Chip) : Chip :=
  let x := c.injOf k
  let c1 := (c.setBit R.injEffective k false).modOuts fun o => { o with reenable := without o.reenable k }
  if x.phase == .wait then (c1.modInj k fun y => { y with phase := .idle }).rewrite x.idx (14 * 2 ^ 28 + x.word % 65536) else c1

/-- INJ_ENABLE takes effect (R326 to R328): the cleared bits disable at once, first all of them and then the pulses in flight, so
that no channel of the same commit is granted; set bits wait for their wrap. -/
def commitInjEnable (v : Nat) (c : Chip) : Chip :=
  let chans := List.range (if c.part = .lb8612 then 12 else 24)
  let v := v % 2 ^ chans.length
  let old := (c.get R.injEnable).toNat
  let cleared := chans.filter fun k => bitOf old k && !bitOf v k
  let set := chans.filter fun k => !bitOf old k && bitOf v k
  let c1 := cleared.foldl (fun d k => d.disableInj k) (c.put R.injEnable (BitVec.ofNat 32 v))
  let c2 := cleared.foldl (fun d k => d.injCut k) c1
  let c3 := (List.range 6).foldl (fun d n => if cleared.any fun k => bankOf k == n then (d.settleBank n).showBank n else d) c2
  set.foldl (fun d k => d.modOuts fun o => { o with reenable := without o.reenable k ++ [k] }) c3

/-! ## Valves (R329 to R332, R347) -/

/-- Valve `v`. -/
def valveOf (c : Chip) (v : Nat) : Valve := at? c.outs.valves v {}

/-- Valve `v` passed through `f`. -/
def modValve (v : Nat) (f : Valve → Valve) (c : Chip) : Chip := c.modOuts fun o => { o with valves := modAt o.valves v f }

/-- The period of the hold PWM of regulation set `s` in steps: 1, 2, 5, 10 or 20 kHz (R330). -/
def pwmPeriod (c : Chip) (s : Nat) : Nat :=
  match c.fld (F.vreg_F_SEL s) with
  | 0 => 400000
  | 1 => 200000
  | 2 => 80000
  | 3 => 40000
  | _ => 20000

/-- How long regulation set `s` keeps the pin on in each period, in steps, rounded up: the duty d of R331 of the period. Without a
duty, or with d = 1, that is the whole period (R330; log entry 76). -/
def pwmOn (c : Chip) (s : Nat) : Nat :=
  let p := c.pwmPeriod s
  let duty := c.fld (F.vreg_HOLD_DUTY s)
  let vnom := c.fld (F.vreg_VNOM s)
  let vbat := c.fld F.supplyMeas_VBAT_Q
  if duty = 0 then p
  else if !c.flag (F.vreg_VCOMP s) || vnom == 0 then ceilDiv (p * duty) 256
  else if vbat = 0 then p
  else min p (ceilDiv (p * duty * vnom) (256 * vbat))

/-- The hold of regulation set `s` is a PWM (R330). -/
def holdsPwm (c : Chip) (s : Nat) : Bool := c.fld (F.vreg_HOLD_DUTY s) != 0

/-- The active edge of valve `v` with regulation set `s` (R330). -/
def valveOn (v s : Nat) (tag : Option (Nat × Nat)) (c : Chip) : Chip :=
  c.modValve v fun x =>
    { x with active := true, level := true, pwm := c.fld (F.vreg_T_PULL s) == 0 && c.holdsPwm s, periodAt := c.local', vset := s
             onAt := c.local', tag := tag, delayed := none }

/-- The pull of valve `v` is over at the present instant: the hold PWM begins, its first period on (R330). -/
def pullEnd (v : Nat) (c : Chip) : Chip :=
  let x := c.valveOf v
  let t := x.onAt + c.fld (F.vreg_T_PULL x.vset) * 4000
  if x.active && !x.pwm && decide (t ≤ c.local') && c.holdsPwm x.vset then
    c.modValve v fun y => { y with pwm := true, level := true, periodAt := t }
  else c

/-- The hold PWM of valve `v` at the present instant (R330, R331, R347): past its on time the pin switches off, with the period
over the next one begins on. -/
def pwmTurn (v : Nat) (c : Chip) : Chip :=
  let x := c.valveOf v
  let p := c.pwmPeriod x.vset
  let past := c.local' - x.periodAt
  if !x.pwm then c
  else if p ≤ past then
    c.modValve v fun y => { y with level := true, periodAt := y.periodAt + past / p * p, onAt := if y.level then y.onAt else c.local' }
  else if x.level && decide (c.pwmOn x.vset ≤ past) then c.modValve v fun y => { y with level := false }
  else c

/-- A PULSE or SET starts on valve `v` (R329, R332, R334). -/
def valveStart (v s : Nat) (tag : Option (Nat × Nat)) (c : Chip) : Chip :=
  let x := c.valveOf v
  if x.active then c.modValve v fun y => { y with tag := match tag with
    | some t => some t
    | none => y.tag }
  else match x.offAt with
    | some t =>
      if c.local' < t + c.fld (F.valveCfg_OFF_MIN v) * 40 then c.modValve v fun y => { y with delayed := some (s, tag) }
      else c.valveOn v s tag
    | none => c.valveOn v s tag

/-- An inactive edge of valve `v`; a start that waits for OFF_MIN is withdrawn (R329, R332). -/
def valveStop (v : Nat) (c : Chip) : Chip :=
  c.modValve v fun x =>
    { x with active := false, level := false, pwm := false, tag := none, delayed := none
             offAt := if x.active then some c.local' else x.offAt }

/-- Valve `v` is switched off early; the running pulse is marked CUT. -/
def valveCut (v : Nat) (c : Chip) : Chip :=
  let x := c.valveOf v
  match x.tag with
  | some t => if x.active then (c.cutStatus t.1 t.2).valveStop v else c.valveStop v
  | none => c.valveStop v

/-! ## TIO pins as scheduler outputs (R378) -/

/-- TIO pin `k`. -/
def tioOf (c : Chip) (k : Nat) : Tio := at? c.outs.tio k {}

/-- TIO pin `k` passed through `f`. -/
def modTio (k : Nat) (f : Tio → Tio) (c : Chip) : Chip := c.modOuts fun o => { o with tio := modAt o.tio k f }

/-- A scheduler edge switches TIO pin `k` off early; L_k is none of its concern (R378, R382). -/
def tioOff (k : Nat) (c : Chip) : Chip :=
  let c1 := match (c.tioOf k).tag with
    | some t => if (c.tioOf k).active then c.cutStatus t.1 t.2 else c
    | none => c
  c1.modTio k fun x => { x with active := false, tag := none }

/-- TIO pin `k` becomes inactive at a disarm or a latch, L_k with it (R339, R342, R382). -/
def tioCut (k : Nat) (c : Chip) : Chip := (c.tioOff k).modTio k fun x => { x with lk := false }

/-! ## The pins -/

/-- The gate balls are driven strongly: no safe stop latch, and no weak pull-down of a twin member (R342, R569, R571). -/
def gatesDriven (c : Chip) : Bool := !c.flag F.outStatus_SAFE_LATCH && !c.weakGates

/-- A gate of the output stage follows its command: the stage is armed, and its balls are driven (R59, R340). -/
def stageOn (c : Chip) : Bool := c.flag F.outStatus_ARMED && c.gatesDriven

/-- INJ_LS_k is on. -/
def lowSideOn (c : Chip) (k : Nat) : Bool := c.stageOn && c.lowCommand k

/-- BANK_HSB_n is on. -/
def boostSwitchOn (c : Chip) (n : Nat) : Bool := c.stageOn && c.boostCommand n

/-- BANK_HSV_n is on. -/
def batterySwitchOn (c : Chip) (n : Nat) : Bool := c.stageOn && c.batteryCommand n

/-- VALVE_v is at its active level. -/
def valvePin (c : Chip) (v : Nat) : Bool := c.stageOn && (c.valveOf v).level

/-- TIO_k is driven to its active level (R378, R381, R382, R581). -/
def tioPin (c : Chip) (k : Nat) : Bool :=
  c.stageOn &&
    (if c.fld (F.tioSel_FUNC k) = 2 then (c.tioOf k).active else if c.fld (F.tioSel_FUNC k) = 3 then (c.tioOf k).lk && !c.shadows else false)

/-- The ball TIO_k as an output is high: its active level is high where POL is 0 and low where POL is 1 (R381). -/
def tioHigh (c : Chip) (k : Nat) : Bool := c.tioPin k != c.flag (F.tioSel_POL k)

/-! ## Arming and safe stop (R335 to R342) -/

/-- A placed edge of the output stage is withheld after all: its status word gains WITHHELD, and a start's entry is marked,
so that its end is withheld too (R305, R339). -/
def hideEdge (x : Edge) (c : Chip) : Chip :=
  if x.hidden || 0x48 ≤ x.chan || x.kind = .off then c else
  let w := match c.entry? x.idx with
    | some e => withFlags e.word flagWithheld
    | none => withFlags x.word flagWithheld
  ((c.rewrite x.idx w).modEntry x.idx fun e => { e with hidden := e.hidden || x.kind = .start }).addReg R.cntWithheld 1

/-- The stage is disarmed (R338, R339): every output goes inactive with CUT, every bank drops its phases and waiting channels,
and the edges placed in this frame, and in the next where its edges are committed already, do not move their pins. -/
def disarm (event : Nat) (c : Chip) : Chip :=
  let was := c.flag F.outStatus_ARMED
  let c1 := ((c.setFlag F.outStatus_ARMED false).setFlag F.devStatus_ARMED false).doIf was fun d =>
    d.setFld F.outStatus_ARM_EVENT event
  let hide (x : Edge) : Edge := { x with hidden := x.hidden || decide (x.chan < 0x48) }
  let c2 := ((c1.sched.edges ++ c1.sched.next).foldl (fun d x => d.hideEdge x) c1).modSched fun s =>
    { s with edges := s.edges.map hide, next := s.next.map hide }
  let c3 := (List.range 24).foldl (fun d k => match (d.injOf k).phase with
    | .idle => d
    | .wait => d.modInj k fun y => { y with phase := .idle }
    | _ => ((d.cutStatus (d.injOf k).idx (d.injOf k).word).closeDiag k).modInj k fun y =>
      { y with phase := .idle, endAt := some d.local' }) c2
  let c4 := (List.range 16).foldl (fun d v => d.valveCut v) c3
  let c5 := (List.range 8).foldl (fun d k => d.tioCut k) c4
  (List.range 6).foldl (fun d n => d.showBank n) c5

/-- A safe stop (R341, R342): the latch is set, every gate goes inactive, the stage is disarmed. -/
def safeStop (c : Chip) : Chip := (c.disarm 6).setFlag F.outStatus_SAFE_LATCH true

/-- The safe stop latch clears at the first tick at which SAFE_N is high and MAX_CLASS is below 4 (R342). -/
def clearLatch (c : Chip) : Chip :=
  if c.flt.safeN && decide (c.maxClass < 4) then c.setFlag F.outStatus_SAFE_LATCH false else c

/-- The arming request is taken at its tick (R335, R336). -/
def takeArm (c : Chip) : Chip :=
  let refuse (k : Nat) : Chip := (c.setFld F.outStatus_ARM_EVENT k).fault 0x040B 0 k
  if !c.ready then refuse 2
  else if !c.flt.safeN || c.flag F.outStatus_SAFE_LATCH then refuse 3
  else if !c.flag F.safeControl_WDT_EN then refuse 4
  else ((c.setFlag F.outStatus_ARMED true).setFlag F.devStatus_ARMED true).setFld F.outStatus_ARM_EVENT 1

/-- The arming and disarming requests at a frame tick; a disarm wins (R335, R338). -/
def armTick (c : Chip) : Chip :=
  let arms := (c.outs.armWait.filter (· ≤ 1)).length
  let dis := c.outs.disarmWait.any (· ≤ 1)
  let later (l : List Nat) : List Nat := (l.filter (1 < ·)).map (· - 1)
  let c1 := c.modOuts fun o => { o with armWait := later o.armWait, disarmWait := later o.disarmWait }
  if dis then c1.disarm 5 else stepN takeArm arms c1

/-- An arming request reaches the CCLK domain (R335); in phase G it waits for the tick after next (R43). -/
def requestArm (phaseG : Bool) (c : Chip) : Chip :=
  c.modOuts fun o => { o with armWait := o.armWait ++ [if phaseG && c.frameRuns then 2 else 1] }

/-- A disarming request reaches the CCLK domain (R338). -/
def requestDisarm (phaseG : Bool) (c : Chip) : Chip :=
  c.modOuts fun o => { o with disarmWait := o.disarmWait ++ [if phaseG && c.frameRuns then 2 else 1] }

/-! ## Diagnostics of valves (R347) -/

/-- The short check of valve `v` acts (R347). -/
def valveShort (v : Nat) (c : Chip) : Chip :=
  ((((c.valveStop v).setFld F.valveStatus_SHORT_LATCH (c.fld F.valveStatus_SHORT_LATCH ||| 2 ^ v))).raise 15).fault 0x040A (0x1000 + v) 0

/-- SHORT_LATCH bits are cleared by writing 1 (R347). -/
def clearShort (mask : Nat) (c : Chip) : Chip :=
  let l := c.fld F.valveStatus_SHORT_LATCH
  c.setFld F.valveStatus_SHORT_LATCH (l - (l &&& mask))

end Chip

/-! ## Commands -/

/-- BANK_GRANT (R320): at step `at'` bank
arbitration grants channel `k` if it is the first waiting channel of its bank and nothing holds it. -/
def execBankGrant (k : Fin 24) (at' : Fin 403) (s : State) : Host.Outcome State Fault Refusal :=
  s.run fun c =>
    let d := c.atStep at'
    if d.firstWaiting (Chip.bankOf k) = some k.val then (d.tryGrant k).showBank (Chip.bankOf k) else d

/-- BANK_WAIT_TIMEOUT (R321): the wait of channel `k` has reached MAX_DELAY at step `at'`. -/
def execBankWaitTimeout (k : Fin 24) (at' : Fin 403) (s : State) : Host.Outcome State Fault Refusal :=
  s.run fun c =>
    let d := c.atStep at'
    if (d.injOf k).phase == .wait &&
        decide ((d.injOf k).startAt + d.fld (F.bankCfg_MAX_DELAY (Chip.bankOf k)) * 400 ≤ d.local') then
      ((d.refuseWaiting k 1).settleBank (Chip.bankOf k)).showBank (Chip.bankOf k)
    else d

/-- BOOST_THRESHOLD_REACHED (R314): the bank current reaches the boost threshold of channel `k` at step `at'`. -/
def execBoostThresholdReached (k : Fin 24) (at' : Fin 403) (s : State) : Host.Outcome State Fault Refusal :=
  s.run fun c =>
    let d := c.atStep at'
    if (d.injOf k).phase == .boost then d.reachPeak k else d

/-- BOOST_TIME_LIMIT (R344): T_BOOST_MAX of channel `k` has elapsed with the bank current at code `code`. -/
def execBoostTimeLimit (k : Fin 24) (code : Byte) (at' : Fin 403) (s : State) : Host.Outcome State Fault Refusal :=
  s.run fun c =>
    let d := c.atStep at'
    if (d.injOf k).phase == .boost && decide ((d.injOf k).boostAt + d.boostMax k ≤ d.local') then d.boostLimit k code.toNat
    else d

/-- TRANSITION_END (R315): the transition of channel `k` ends, by T_TRANS or, under SLOW decay, because the current has
fallen to the hold sum (`fell`). -/
def execTransitionEnd (k : Fin 24) (fell : Bool) (at' : Fin 403) (s : State) : Host.Outcome State Fault Refusal :=
  s.run fun c =>
    let d := c.atStep at'
    let x := d.injOf k
    if x.phase == .transition &&
        (decide (x.transAt + d.fld (F.profT_T_TRANS x.profile) * 40 ≤ d.local') ||
          (fell && !d.flag (F.profCtrl_TRANS_DECAY x.profile))) then
      ((d.modInj k fun y => { y with phase := .hold }).settleBank (Chip.bankOf k)).showBank (Chip.bankOf k)
    else d

/-- HOLD_CHOP (R317): the current of bank `n` falls to LO (`on` true) or reaches HI at step `at'`; the battery switch follows
once the present state has lasted the largest CHOP_MIN of the holding channels. -/
def execHoldChop (n : Fin 6) (on : Bool) (at' : Fin 403) (s : State) : Host.Outcome State Fault Refusal :=
  s.run fun c =>
    let d := c.atStep at'
    let ks := Chip.bankChannels n
    let least := ((ks.filter d.inHold).map fun k => max 1 (d.fld (F.profT_CHOP_MIN (d.injOf k).profile))).foldl max 0 * 40
    if !ks.any d.inPeak && ks.any d.inHold && decide (at? d.outs.chopAt n 0 + least ≤ d.local') then
      (d.switchHsv n on).noteIdle n
    else d

/-- INJ_HOLD_LOST (R344): the battery switch of bank `n` has been on for 20 µs with the current, code `code`, below LO. -/
def execInjHoldLost (n : Fin 6) (code : Byte) (s : State) : Host.Outcome State Fault Refusal :=
  s.run fun c =>
    let ks := (Chip.bankChannels n).filter c.inHold
    let lo := min 255 ((ks.map fun k => c.fld (F.profI_I_HOLD_LO (c.injOf k).profile)).sum)
    if at? c.outs.chop n false && !(Chip.bankChannels n).any c.inPeak && decide (code.toNat < lo) &&
        decide (at? c.outs.chopAt n 0 + 8000 ≤ c.nextTick) then
      ks.foldl (fun d k => (d.judge k 4).outFault 0x0404 (Chip.injUnit k) code.toNat) c
    else c

/-- The part has bank `n`: the current-sense balls of the others are high-impedance (R2, R4). -/
def Chip.hasBank (c : Chip) (n : Nat) : Bool := c.part = .lb8620 || n < 3

/-- INJ_OVERCURRENT (R345): the current of bank `n` reaches I_OC. -/
def execInjOvercurrent (n : Fin 6) (s : State) : Host.Outcome State Fault Refusal :=
  s.run fun c => if c.cclkRuns && c.hasBank n then c.tripBank n 0x0405 (c.fld (F.bankCfg_I_OC n)) else c

/-- INJ_IDLE_CURRENT (R346): with every gate of bank `n` inactive for 10 µs the current stays at `code`, 16 or above, for
10 µs more. -/
def execInjIdleCurrent (n : Fin 6) (code : Byte) (s : State) : Host.Outcome State Fault Refusal :=
  s.run fun c =>
    if c.cclkRuns && c.hasBank n && decide (16 ≤ code.toNat) && (match at? c.outs.idleAt n none with
        | some t => decide (t + 8000 ≤ c.nextTick)
        | none => false) then
      c.tripBank n 0x0406 code.toNat
    else c

/-- BANK_TRIP_CLEAR (R345): a commit clears TRIPPED of bank `n`; `still` says that the current is still at I_OC. -/
def execBankTripClear (n : Fin 6) (still : Bool) (s : State) : Host.Outcome State Fault Refusal :=
  s.run fun c =>
    if !c.frameRuns then c
    else c.mirrorsOf [.commit (R.bankStatus n) (BitVec.ofNat 32 (2 ^ (F.bankStatus_TRIPPED n).lo))] fun x =>
      let d := x.takeCommit (R.bankStatus n)
      if c.hasBank n && d.flag (F.bankStatus_TRIPPED n) then d.clearTrip n still else d

/-- INJ_ENABLE_COMMIT (R326, R327): a commit of INJ_ENABLE takes effect. -/
def execInjEnableCommit (v : DWord) (s : State) : Host.Outcome State Fault Refusal :=
  s.run fun c => if c.frameRuns then c.mirrorsOf [.commit R.injEnable v] fun d => (d.takeCommit R.injEnable).commitInjEnable v.toNat else c

/-- VALVE_PULL_END (R330): T_PULL of valve `v` has elapsed and the hold PWM begins, its first period on. -/
def execValvePullEnd (v : Fin 16) (at' : Fin 403) (s : State) : Host.Outcome State Fault Refusal :=
  s.run fun c => (c.atStep at').pullEnd v

/-- VALVE_START_DELAY_END (R332): OFF_MIN has elapsed since the last inactive edge, and the delayed start executes. -/
def execValveStartDelayEnd (v : Fin 16) (at' : Fin 403) (s : State) : Host.Outcome State Fault Refusal :=
  s.run fun c =>
    let d := c.atStep at'
    let x := d.valveOf v
    match x.delayed with
    | some (r, tag) =>
      if x.offAt.getD 0 + d.fld (F.valveCfg_OFF_MIN v) * 40 ≤ d.local' then d.valveOn v r tag else d
    | none => d

/-- VALVE_OPEN (R347): VALVE_FB_v has stayed low for 50 µs while the pin was inactive. -/
def execValveOpen (v : Fin 16) (s : State) : Host.Outcome State Fault Refusal :=
  s.run fun c =>
    if c.cclkRuns && !c.shadows && c.flag (F.valveCfg_DIAG_EN v) && !(c.valveOf v).active &&
        decide ((c.valveOf v).offAt.getD 0 + 20000 ≤ c.nextTick) && !bitOf (c.fld F.valveStatus_OPEN) v then
      ((c.setFld F.valveStatus_OPEN (c.fld F.valveStatus_OPEN ||| 2 ^ v.val)).raise 15).fault 0x0409 (0x1000 + v.val) 0
    else c

/-- VALVE_OPEN_CLEAR (R347): VALVE_FB_v goes high. -/
def execValveOpenClear (v : Fin 16) (s : State) : Host.Outcome State Fault Refusal :=
  s.run fun c => c.setBit F.valveStatus_OPEN.reg v false

/-- VALVE_SHORT (R347): VALVE_FB_v is high for 5 µs while the pin is on, more than 5 µs after it last switched on. -/
def execValveShort (v : Fin 16) (at' : Fin 403) (s : State) : Host.Outcome State Fault Refusal :=
  s.run fun c =>
    let d := c.atStep at'
    if !d.shadows && d.flag (F.valveCfg_DIAG_EN v) && (d.valveOf v).level && decide ((d.valveOf v).onAt + 2000 < d.local') then d.valveShort v
    else d

/-- SHORT_LATCH_CLEAR (R347): a commit clears SHORT_LATCH bits by writing 1. -/
def execShortLatchClear (mask : Word) (s : State) : Host.Outcome State Fault Refusal :=
  s.run fun c =>
    if c.frameRuns then
      c.mirrorsOf [.commit R.valveStatus (mask.setWidth 32)] fun d => (d.takeCommit R.valveStatus).clearShort mask.toNat
    else c

/-- VALVE_PWM_TRANSITION (R330, R347): the hold PWM of valve `v` reaches its on or off point. -/
def execValvePwmTransition (v : Fin 16) (at' : Fin 403) (s : State) : Host.Outcome State Fault Refusal :=
  s.run fun c => (c.atStep at').pwmTurn v

end Sys2Proof.Machine
end

