-- ==== Sys2Proof/Machine/Faults.lean ====
section
/-!
DEFINITION. Interrupt delivery, acknowledgement of faults, safe stops, the host watchdog and the journal (R428 to R472).
-/

namespace Sys2Proof.Machine

namespace Chip

/-! ## Claim and complete (R433 to R439) -/

/-- The interrupt controller passed through `f`. -/
def modIrq (f : Irq → Irq) (c : Chip) : Chip := { c with irq := f c.irq }

/-- The number of a host target. -/
def targetNo : HostTarget → Nat
  | .a => 0
  | .b => 1

/-- The active bits of a host target. -/
def activeOf (c : Chip) : HostTarget → BitVec 64
  | .a => c.irq.actA
  | .b => c.irq.actB

/-- Source `s` becomes active for a host target, or stops being so. -/
def setActive (x : HostTarget) (s : Nat) (b : Bool) (c : Chip) : Chip :=
  match x with
  | .a => c.modIrq fun q => { q with actA := withSrc q.actA s b }
  | .b => c.modIrq fun q => { q with actB := withSrc q.actB s b }

/-- The pin of a host target has been asserted since the last claim of the target (R434). -/
def pinSeen (c : Chip) : HostTarget → Bool
  | .a => c.irq.seenA || c.pinA
  | .b => c.irq.seenB || c.pinB

/-- After a claim the record of the pin starts anew with its present level. -/
def restartSeen (x : HostTarget) (c : Chip) : Chip :=
  match x with
  | .a => c.modIrq fun q => { q with seenA := c.pinA }
  | .b => c.modIrq fun q => { q with seenB := c.pinB }

/-- A pending bit is cleared. -/
def clearPend (s : Nat) (c : Chip) : Chip := c.modIrq fun q => { q with pend := withSrc q.pend s false }

/-- A claim (R433, R434): the source it returns, and its effect. -/
def claim (x : HostTarget) (c : Chip) : Nat × Chip :=
  match c.bestSource (targetNo x) with
  | some s => (s, ((c.clearPend s).setActive x s true).restartSeen x)
  | none =>
    if c.pinSeen x then (63, (c.incFld F.irqAnomalyCount_SPURIOUS).restartSeen x) else (0, c.restartSeen x)

/-- A completion (R435). -/
def complete (x : HostTarget) (s : Nat) (c : Chip) : Chip :=
  if s = 0 ∨ s = 63 then c
  else if srcBit (c.activeOf x) s then samplePins (c.setActive x s false)
  else c.incFld F.irqAnomalyCount_BAD_COMPLETE

/-- A write of IRQ_SET_PEND (R6, R83, R437). -/
def setPend (s : Nat) (c : Chip) : Chip :=
  if s = 0 ∨ s = 63 then c
  else if c.part = .lb8612 ∧ 12 ≤ s ∧ s ≤ 14 then c
  else c.raise s

/-- A commit of IRQ_PEND_CLR_L or _H (R437); bit 0 of _L and bit 31 of _H are reserved. -/
def clearPends (high : Bool) (mask : Nat) (c : Chip) : Chip :=
  let m := if high then mask % 2 ^ 31 * 2 ^ 32 else mask % 2 ^ 32 - mask % 2
  c.modIrq fun q => { q with pend := q.pend &&& ~~~ (BitVec.ofNat 64 m) }

/-- The supervisor claims source `s`, journals or merges the claim, and completes the source (R439). -/
def supClaim (s : Nat) (c : Chip) : Chip :=
  let c1 := c.clearPend s
  if c.irq.supEvents.any (fun e => e.1 == s) then
    c1.modIrq fun q => { q with supEvents := modFirst (fun e => e.1 == s) (fun e => (e.1, e.2 + 1)) q.supEvents }
  else
    (c1.modIrq fun q => { q with supEvents := q.supEvents ++ [(s, 0)] }).journal
      { kind := 6, code := BitVec.ofNat 16 s, detail := 1, frame := c.tb.frame }

/-- One second after the last SOURCE_EVENT entry of source `s`: the merged claims are journaled, and a further second
begins; with none merged the source is free again (R439). -/
def flushSource (s : Nat) (c : Chip) : Chip :=
  match c.irq.supEvents.find? fun e => e.1 == s with
  | none => c
  | some (_, 0) => c.modIrq fun q => { q with supEvents := dropFirst (fun e => e.1 == s) q.supEvents }
  | some (_, n + 1) =>
    (c.modIrq fun q => { q with supEvents := modFirst (fun e => e.1 == s) (fun e => (e.1, 0)) q.supEvents }).journal
      { kind := 6, code := BitVec.ofNat 16 s, detail := BitVec.ofNat 16 (min 0xFFFF (n + 1)), frame := c.tb.frame }

/-! ## Acknowledgement (R451, R452) -/

/-- The fault manager passed through `f`. -/
def modFlt (f : Faults → Faults) (c : Chip) : Chip := { c with flt := f c.flt }

/-- A refused acknowledgement. -/
def refuseAck (r : Nat) (c : Chip) : Chip :=
  (c.modFlt fun q => { q with ackResult := r }).incFld F.faultCounts_ACK_REFUSED

/-- The REPEAT_SUMMARY entry of slot `k` (R451, R468). -/
def journalRepeats (k : Nat) (c : Chip) : Chip :=
  if c.slotWord k 4 != 0 && c.slotWord k 1 != 0x0C01 then
    c.journal { kind := 2, cls := c.slotClass k, code := BitVec.ofNat 16 (c.slotWord k 1),
                unit := BitVec.ofNat 16 (c.slotWord k 2), rep := BitVec.ofNat 16 (c.slotWord k 4),
                detail := BitVec.ofNat 16 (c.slotWord k 15), frame := c.tb.frame }
  else c

/-- Slot `k` is freed: bytes 2 to 127 are zeroed under SEQ. -/
def freeSlot (k : Nat) (c : Chip) : Chip := c.putRecord (slotOff k) ((List.range 63).map fun i => (i + 1, 0))

/-- A write to FAULT_ACK. -/
def ackFault (data : Nat) (c : Chip) : Chip :=
  let k := data % 16
  if !c.slotUsed k then c.refuseAck 2
  else if c.slotWord k 0 % 256 != data / 256 % 256 then c.refuseAck 3
  else if c.slotStanding k then c.refuseAck 4
  else (((c.journalRepeats k).freeSlot k).modFlt fun q => { q with ackResult := 1, dropped := false }).settleLost

/-! ## Safe stops (R457 to R459) -/

/-- An internal fault of class F3: the safe stop acts, then its record is made (R457); an owner may release ownership (R595). -/
def faultF3 (code unit detail : Nat) (c : Chip) : Chip := c.safeStop.f3Release.fault code unit detail

/-- SAFE_N falls (R341, R458). -/
def safeNFell (c : Chip) : Chip := ((c.modFlt fun q => { q with safeN := false }).safeStop).faultStanding 0x0105 0 0

/-- SAFE_N rises (R458). -/
def safeNRose (c : Chip) : Chip := (c.modFlt fun q => { q with safeN := true }).endStanding 0x0105 0

/-! ## Host watchdog (R461 to R464) -/

/-- The watchdog's window in CCLK cycles: eight to a REFCLK cycle (R461). -/
def wdtWindow (c : Chip) : Nat := min 100 (max 1 (c.fld F.safeControl_WDT_WINDOW)) * 200000

/-- The watchdog starts or restarts: a full window, and 0x5AA5 is expected. -/
def wdtStart (c : Chip) : Chip := c.modFlt fun q => { q with wdtExpect := 0x5AA5, wdtLeft := c.wdtWindow }

/-- The watchdog expires (R463); service forwarding ends (R668). -/
def wdtExpire (detail : Nat) (c : Chip) : Chip :=
  ((c.faultF3 0x0106 0 detail).wdtStart.setFlag F.canDiagCfg_FWD_EN false).modFlt fun q => { q with wdtExpired := true }

/-- A write to WDT_KICK (R462). -/
def wdtKicked (data : Word) (c : Chip) : Chip :=
  if !c.flag F.safeControl_WDT_EN then c
  else if data = c.flt.wdtExpect then
    c.modFlt fun q => { q with wdtExpect := if data = 0x5AA5 then 0xA55A else 0x5AA5, wdtLeft := c.wdtWindow }
  else c.wdtExpire 2

/-- The window of a running watchdog passes within the running frame (R461). -/
def wdtOver (c : Chip) : Bool := decide (c.flt.wdtLeft ≤ c.tb.length)

/-- The watchdog runs: it pauses in WATCH and RETAIN, and until the first frame tick after the wake (R464). -/
def wdtRuns (c : Chip) : Bool := c.flag F.safeControl_WDT_EN && decide (c.fld F.pwrState_STATE < 2) && !c.power.woke

/-- The watchdog counts a frame of `n` CCLK cycles (R461); its expiry is WATCHDOG_EXPIRED. -/
def wdtCount (n : Nat) (c : Chip) : Chip :=
  if c.wdtRuns then c.modFlt fun q => { q with wdtLeft := q.wdtLeft - n } else c

/-- WDT_EN and WDT_WINDOW as a write reaches them (R79): the new window, and whether the watchdog is to start. -/
def writeWdt (window : Nat) (en : Bool) (c : Chip) : Chip :=
  if c.flag F.safeControl_WDT_EN then c
  else (c.setFld F.safeControl_WDT_WINDOW window).doIf en fun d => (d.setFlag F.safeControl_WDT_EN true).wdtStart

/-- A write of SAFE_CONTROL (R79, R335, R338, R459, R461). -/
def writeSafeControl (v : Nat) (phaseG : Bool) (c : Chip) : Chip :=
  let en := c.flag F.safeControl_WDT_EN
  let reaches := bitOf v 0 || (bitOf v 2 && !en) || (!en && bitsOf v 9 3 != c.fld F.safeControl_WDT_WINDOW)
  let p := if reaches then c.useUnlock else (false, c)
  let c1 := p.2.doIf p.1 fun d => (d.writeWdt (bitsOf v 9 3) (bitOf v 2)).doIf (bitOf v 0) fun e => e.requestArm phaseG
  (c1.doIf (bitOf v 1) fun d => d.requestDisarm phaseG).doIf (bitOf v 10) fun d => d.faultF3 0x0107 0 0

/-! ## The journal (R465 to R469) -/

/-- The journal passed through `f`. -/
def modJnl (f : Journal → Journal) (c : Chip) : Chip := { c with jnl := f c.jnl }

/-- Kinds that draw on the allowance (R467). -/
def rateLimited (kind : Nat) : Bool := kind == 1 || kind == 2 || kind == 6 || kind == 7 || kind == 8

/-- The sector of an entry number (R465). -/
def sectorOf (n : Nat) : Nat := n / 128 % 16

/-- The sector that the next entry needs still holds old entries (R465). -/
def needsErase (j : Journal) : Bool :=
  j.entries.any fun e => sectorOf e.number.toNat == sectorOf j.next.toNat &&
    decide (e.number.toNat / 128 < j.next.toNat / 128)

/-- The sector of the next entry erased: its old entries are gone, and an erase more is counted (R465, R468). -/
def eraseSector (c : Chip) : Chip :=
  let k := sectorOf c.jnl.next.toNat
  let c1 := c.modJnl fun j => { j with
    entries := j.entries.filter fun e => !(sectorOf e.number.toNat == k && decide (e.number.toNat / 128 < j.next.toNat / 128))
    erases := modAt j.erases k (· + 1) }
  if at? c1.jnl.erases k 0 = 100000 then c1.fault 0x0C02 k 0 else c1

/-- The entry of a cause, under the next NUMBER. -/
def entryFor (c : Chip) (x : JCause) (valid : Bool) : JEntry :=
  { number := c.jnl.next, kind := x.kind, cls := x.cls, code := x.code, unit := x.unit, rep := x.rep, detail := x.detail,
    skipped := BitVec.ofNat 16 (min 0xFFFF c.jnl.skipped), opTime := c.jnl.opTime, boot := c.jnl.boots, frame := x.frame,
    valid := valid }

/-- A SOURCE_EVENT entry of source `s` has not been written: none of the source stands in the last second, and the claims merged
since are due at once (R439). -/
def sourceUnwritten (s : Nat) (c : Chip) : Chip :=
  match c.irq.supEvents.find? fun e => e.1 == s with
  | some (_, 0) => c.modIrq fun q => { q with supEvents := dropFirst (fun e => e.1 == s) q.supEvents }
  | _ => c.flushSource s

/-- An entry that its cause called for has not been written (R439, R467, R468). -/
def unwritten (x : JCause) (c : Chip) : Chip := c.doIf (x.kind == 6) (sourceUnwritten x.code.toNat)

/-- An entry takes the next NUMBER; one that failed leaves SKIPPED to the next written entry (R467, R468). -/
def storeEntry (x : JCause) (ok : Bool) (c : Chip) : Chip :=
  let k := sectorOf c.jnl.next.toNat
  let n := c.jnl.next.toNat % 65536
  let c1 := c.modJnl fun j => { j with
    entries := (j.entries.filter fun e => e.number.toNat + 2048 != j.next.toNat) ++ [c.entryFor x ok]
    next := j.next + 1
    skipped := if ok then 0 else j.skipped
    hour := if ok then 0 else j.hour
    allowance := if rateLimited x.kind then j.allowance - 1 else j.allowance }
  if ok then c1 else (c1.fault 0x0C01 k n).unwritten x

/-- The supervisor deals with the oldest waiting cause (R466 to R468). -/
def journalNext (ok eraseOk : Bool) (c : Chip) : Chip :=
  match c.jnl.waiting with
  | [] => c
  | x :: rest =>
    let c1 := c.modJnl fun j => { j with waiting := rest }
    if rateLimited x.kind && c.jnl.allowance == 0 then (c1.modJnl fun j => { j with skipped := j.skipped + 1 }).unwritten x
    else if needsErase c1.jnl then
      if eraseOk then c1.eraseSector.storeEntry x ok else c1.storeEntry x false
    else c1.storeEntry x ok

/-- One hour of rotation in CCLK cycles (R465). -/
def hourCycles : Nat := 720000000000

/-- The cause of an HOURS entry; the hour begins anew (R465). -/
def hoursCause (c : Chip) : JCause := { kind := 8, frame := c.tb.frame }

/-- Words 0 to 14 of an entry as stored (R465). -/
def entryWords (e : JEntry) : List Word :=
  [BitVec.ofNat 16 e.number.toNat, BitVec.ofNat 16 (e.number.toNat / 65536), BitVec.ofNat 16 (e.kind + e.cls * 256),
   e.code, e.unit, e.rep, e.detail, e.skipped, BitVec.ofNat 16 e.opTime.toNat, BitVec.ofNat 16 (e.opTime.toNat / 65536),
   e.boot, BitVec.ofNat 16 e.frame.toNat, BitVec.ofNat 16 (e.frame.toNat / 65536), 0, 0]

/-- Words as bytes, little end first. -/
def wordBytes (l : List Word) : List Byte := l.flatMap fun w => leBytes 2 w.toNat

/-- An entry with its CRC in word 15 (R754). -/
def entryWithCrc (e : JEntry) : List Word := entryWords e ++ [crc16 (wordBytes (entryWords e))]

/-- The 16 words of an entry that fails its CRC: KIND reads 0, every other bit is free (R469). -/
def corruptWords (n : Nat) : List Word :=
  (List.range 16).map fun i =>
    if i = 2 then Config.freeWord (n + i) &&& 0xFF00 else Config.freeWord (n + i)

/-- One entry read for a command: a failing one is reported and its words use 16 free values (R468, R469). -/
def readEntry (p : List Word × Chip) (e : JEntry) : List Word × Chip :=
  if e.valid then (p.1 ++ entryWithCrc e, p.2)
  else (p.1 ++ corruptWords p.2.free,
    { p.2 with free := p.2.free + 16 }.fault 0x0C03 (sectorOf e.number.toNat) (e.number.toNat % 65536))

/-- The entries NUMBER `first` to `first + count − 1`, as far as they are there. -/
def entriesFrom (c : Chip) (first count : Nat) : List JEntry :=
  c.jnl.entries.filter fun e => decide (first ≤ e.number.toNat) && decide (e.number.toNat < first + count)

/-- NUMBER of the oldest entry held, and of the newest. -/
def journalRange (c : Chip) : Option (Nat × Nat) :=
  match c.jnl.entries.head?, c.jnl.entries.getLast? with
  | some a, some b => some (a.number.toNat, b.number.toNat)
  | _, _ => none

/-! ## Mailbox commands in progress (R104 to R107) -/

/-- A command is outstanding and has no reply yet, the supervisor runs, and block 0 has passed its return tick (R106, R118). -/
def commandWaits (c : Chip) : Bool := c.flag F.mbxStatus_BUSY && c.bus.reply.isNone && c.supRuns && c.deviceHeld 0

/-- Parameter word `i` of the outstanding command. -/
def param (c : Chip) (i : Nat) : Nat := c.win16 (2 * i)

/-- A reply is prepared: its result and its words 3 and up (R104, R107). -/
def setReply (result : Nat) (data : List Word) (c : Chip) : Chip :=
  { c with bus := { c.bus with reply := some { result := result, data := data } } }

/-- The supervisor reads block 0 and executes the outstanding command with `f`; a double-bit error in the block is answered with bad
parameter (R104, R106, R755). -/
def onCommand (f : Chip → Chip) (c : Chip) : Chip :=
  if !c.commandWaits then c
  else
    let p := c.engineCheck 0 128
    if p.1 then f p.2 else p.2.setReply 2 []

/-- The outstanding command is executed with `f` when its code, as the supervisor reads it, is `code`. -/
def withCommand (code : Nat) (f : Chip → Chip) (c : Chip) : Chip :=
  if c.soundWord 0 = code || c.damagedWord 0 then c.onCommand fun d => if d.win16 0 = code then f d else d else c

/-- A 32-bit value as two words, low word first. -/
def twoWords (n : Nat) : List Word := [BitVec.ofNat 16 n, BitVec.ofNat 16 (n / 65536)]

/-- JOURNAL_INFO (R469). An empty journal has no range: its two numbers are free. -/
def replyJournalInfo (c : Chip) : Chip :=
  let top := c.jnl.erases.toList.foldl max 0 / 1000
  let rest := twoWords c.jnl.opTime.toNat ++ [c.jnl.boots, BitVec.ofNat 16 top]
  match c.journalRange with
  | some (a, b) => c.setReply 0 (twoWords a ++ twoWords b ++ rest)
  | none => ({ c with free := c.free + 4 }).setReply 0 ((List.range 4).map (fun i => Config.freeWord (c.free + i)) ++ rest)

/-- JOURNAL_READ (R469). -/
def replyJournalRead (c : Chip) : Chip :=
  let first := c.param 2 + 65536 * c.param 3
  let count := c.param 4
  if count = 0 ∨ 7 < count then c.setReply 2 []
  else match c.journalRange with
    | none => c.setReply 0x0100 []
    | some (a, b) =>
      if first < a ∨ b < first then c.setReply 0x0100 []
      else
        let es := c.entriesFrom first count
        let p := es.foldl readEntry ([], c)
        p.2.setReply 0 (BitVec.ofNat 16 es.length :: p.1)

/-- JOURNAL_NOTE (R469). -/
def replyJournalNote (c : Chip) : Chip :=
  (c.journal { kind := 7, code := BitVec.ofNat 16 (c.param 2), detail := BitVec.ofNat 16 (c.param 3),
               frame := c.tb.frame }).setReply 0 []

end Chip

open Chip

/-- IRQ_CLAIM (R433, R434): a read of IRQ_CLAIM_x. -/
def execIrqClaim (x : HostTarget) (s : State) : Host.Outcome State Fault Refusal :=
  s.run (hostRead (claim x))

/-- IRQ_COMPLETE (R435): a 16-bit write of IRQ_COMPLETE_x names a source in bits 5 to 0. -/
def execIrqComplete (x : HostTarget) (data : Word) (s : State) : Host.Outcome State Fault Refusal :=
  s.run (hostWrite (complete x (data.toNat % 64)))

/-- IRQ_SET_PEND (R437): a 16-bit write of IRQ_SET_PEND. -/
def execIrqSetPend (data : Word) (s : State) : Host.Outcome State Fault Refusal :=
  s.run (hostWrite (setPend (data.toNat % 64)))

/-- IRQ_PEND_CLR (R437): a commit of IRQ_PEND_CLR_L or IRQ_PEND_CLR_H takes effect. -/
def execIrqPendClr (high : Bool) (mask : DWord) (s : State) : Host.Outcome State Fault Refusal :=
  s.run fun c => c.clearPends high mask.toNat

/-- SUP_SOURCE_CLAIM (R439): the supervisor claims the source of R433 among those routed to it. -/
def execSupSourceClaim (s : State) : Host.Outcome State Fault Refusal :=
  s.run fun c => match c.bestSource 2 with
    | some x => if c.supRuns then c.supClaim x else c
    | none => c

/-- SOURCE_EVENT_FLUSH (R439): 1 s has passed since the last SOURCE_EVENT entry of source `x`. -/
def execSourceEventFlush (x : Fin 64) (s : State) : Host.Outcome State Fault Refusal :=
  s.run fun c => if c.supRuns then c.flushSource x.val else c

/-- FAULT_ACK (R451, R452): a 16-bit write of FAULT_ACK. -/
def execFaultAck (data : Word) (s : State) : Host.Outcome State Fault Refusal :=
  s.run (hostWrite (ackFault data.toNat))

/-- SAFE_N_FALL (R341, R458): SAFE_N, high until now, is accepted as low. OFF has no fault manager, and every gate is off there. -/
def execSafeNFall (s : State) : Host.Outcome State Fault Refusal :=
  s.run fun c => if c.power.isOff then c.modFlt fun q => { q with safeN := false } else if c.flt.safeN then c.safeNFell else c

/-- SAFE_N_RISE (R458): SAFE_N, low until now, is high. -/
def execSafeNRise (s : State) : Host.Outcome State Fault Refusal :=
  s.run fun c => if c.power.isOff then c.modFlt fun q => { q with safeN := true } else if c.flt.safeN then c else c.safeNRose

/-- FORCE_F3 (R459): SAFE_CONTROL is written with FORCE_F3 = 1. -/
def execForceF3 (s : State) : Host.Outcome State Fault Refusal := s.run (hostWrite (faultF3 0x0107 0 0))

/-- WATCHDOG_ENABLE (R79, R461): SAFE_CONTROL is written with WDT_EN = 1, the given WDT_WINDOW and no other bit. -/
def execWatchdogEnable (window : BitVec 7) (s : State) : Host.Outcome State Fault Refusal :=
  s.run (hostWrite (writeSafeControl (4 + 8 * window.toNat) false))

/-- WDT_KICK (R462): a 16-bit write of WDT_KICK. -/
def execWdtKick (data : Word) (s : State) : Host.Outcome State Fault Refusal := s.run (hostWrite (wdtKicked data))

/-- WATCHDOG_EXPIRED (R463): the window of a running watchdog passes without a kick in the running frame. -/
def execWatchdogExpired (s : State) : Host.Outcome State Fault Refusal :=
  s.run fun c => if c.wdtRuns && c.wdtOver then c.wdtExpire 1 else c

/-- ARM_REQUEST (R79, R335): SAFE_CONTROL is written with ARM = 1 and the present WDT_WINDOW. -/
def execArmRequest (phaseG : Bool) (s : State) : Host.Outcome State Fault Refusal :=
  s.run (hostWrite fun c => c.writeSafeControl (1 + 8 * c.fld F.safeControl_WDT_WINDOW) phaseG)

/-- DISARM_REQUEST (R338): SAFE_CONTROL is written with DISARM = 1 and the present WDT_WINDOW. -/
def execDisarmRequest (phaseG : Bool) (s : State) : Host.Outcome State Fault Refusal :=
  s.run (hostWrite fun c => c.writeSafeControl (2 + 8 * c.fld F.safeControl_WDT_WINDOW) phaseG)

/-- JOURNAL_WRITE (R466 to R468): the supervisor deals with the oldest waiting cause once READY is set; `ok` and `eraseOk` say
whether the write and the erase it may need succeed. -/
def execJournalWrite (ok eraseOk : Bool) (s : State) : Host.Outcome State Fault Refusal :=
  s.run fun c => if c.supRuns && c.ready then c.journalNext ok eraseOk else c

/-- JOURNAL_ALLOWANCE_REGAIN (R467): 4 s have passed. -/
def execJournalAllowanceRegain (s : State) : Host.Outcome State Fault Refusal :=
  s.run fun c => if c.power.isOff then c else c.modJnl fun j => { j with allowance := min 64 (j.allowance + 1) }

/-- HOURS (R465): an hour of rotation has passed since the later of the last written entry and the last HOURS cause. -/
def execHours (s : State) : Host.Outcome State Fault Refusal :=
  s.run fun c => if hourCycles ≤ c.jnl.hour then (c.modJnl fun j => { j with hour := 0 }).journal c.hoursCause else c

/-- JOURNAL_INFO (R469): the outstanding mailbox command 0x0C01. -/
def execJournalInfo (s : State) : Host.Outcome State Fault Refusal :=
  s.run (withCommand 0x0C01 replyJournalInfo)

/-- JOURNAL_READ (R469): the outstanding mailbox command 0x0C02. -/
def execJournalRead (s : State) : Host.Outcome State Fault Refusal :=
  s.run (withCommand 0x0C02 replyJournalRead)

/-- JOURNAL_NOTE (R469): the outstanding mailbox command 0x0C03. -/
def execJournalNote (s : State) : Host.Outcome State Fault Refusal :=
  s.run (withCommand 0x0C03 replyJournalNote)

end Sys2Proof.Machine
end

