-- ==== Sys2Proof/Machine/Cipher.lean ====
section
/-!
DEFINITION. The cipher engine (14): key slots (R605 to R608), derivation and unwrapping (R609 to R612), jobs (R613 to R620),
alarms (R621 to R624), calibration packages up to their apply tick (R625 to R630), and the keys the supervisor uses.
-/

namespace Sys2Proof.Machine

namespace Chip

/-- The cipher engine passed through `f`. -/
def modCipher (f : Cipher → Cipher) (c : Chip) : Chip := { c with cipher := f c.cipher }

/-! ## Key slots (R605 to R608) -/

/-- The key in slot `k`. -/
def keyAt (c : Chip) (k : Nat) : Option Key := at? c.cipher.slots k none

/-- The low half of SLOT_INFO. -/
def slotLow : Option Key → Nat
  | none => 0
  | some k => 0x8000 + (if k.bytes.length = 32 then 0x4000 else 0) + k.role % 8 * 2048 + k.origin % 8 * 256 + k.usage % 256

/-- Slot `k` as SLOT_INFO shows it; GENERATION is kept. -/
def showSlot (k : Nat) (c : Chip) : Chip := c.setFld ⟨R.slotInfo k, 15, 0⟩ (slotLow (c.keyAt k))

/-- A key placed in slot `k`: GENERATION goes up (R612, R634). -/
def placeKey (k : Nat) (key : Key) (c : Chip) : Chip :=
  let c1 := c.modCipher fun q => { q with slots := modAt q.slots k fun _ => some key }
  (c1.setFld (F.slotInfo_GENERATION k) (c.fld (F.slotInfo_GENERATION k) + 1)).showSlot k

/-- Slot `k` emptied (R608). -/
def emptySlot (k : Nat) (c : Chip) : Chip :=
  (c.modCipher fun q => { q with slots := modAt q.slots k fun _ => none }).showSlot k

/-- Every slot emptied (R608). -/
def emptyAll (c : Chip) : Chip := (List.range 16).foldl (fun d k => d.emptySlot k) c

/-- The lowest-numbered key of a role (R606). -/
def roleKey (c : Chip) (role : Nat) : Option Key :=
  c.cipher.slots.toList.findSome? fun o => match o with
    | some k => if k.role = role then some k else none
    | none => none

/-- The supervisor derives KEK_PROV into slot 15 from the root key (R607, R609). -/
def deriveKekProv (c : Chip) : Chip :=
  let label : List Byte := [0x4C, 0x42, 0x4B, 0x44, 0x01, 0x20, 0x01, 0x30]
  c.placeKey 15 { bytes := Aes.derive Config.rootKey.toList label (leBytes 8 Config.devUid.toNat) 32,
                  role := 1, usage := 0x30, origin := 3 }

/-- The alarm latch. -/
def latched (c : Chip) : Bool := c.flag F.cipherAlarm_LATCH

/-! ## Descriptors (R613, R614) -/

/-- The byte offset of the data area. -/
def dataArea : Nat := 0x18100

/-- Byte `i` of a descriptor. -/
def d8 (d : List Byte) (i : Nat) : Nat := (d.getD i 0).toNat

/-- The 16-bit field at byte `i` of a descriptor. -/
def d16 (d : List Byte) (i : Nat) : Nat := d8 d i + 256 * d8 d (i + 1)

/-- OP is a GCM operation. -/
def isGcm (d : List Byte) : Bool := d8 d 0 == 1 || d8 d 0 == 2

/-- OP is a CMAC operation. -/
def isCmac (d : List Byte) : Bool := d8 d 0 == 4 || d8 d 0 == 5

/-- The operation has an output region. -/
def hasOut (d : List Byte) : Bool := d8 d 0 == 1 || d8 d 0 == 2 || d8 d 0 == 3

/-- The input, additional data, output and tag regions: offset and length. -/
def regions (d : List Byte) : List (Nat × Nat) :=
  [(d16 d 4, d16 d 6), (d16 d 8, d16 d 10), (d16 d 12, if hasOut d then d16 d 6 else 0), (d16 d 14, d8 d 3)]

/-- Two regions share a byte. -/
def overlap (a b : Nat × Nat) : Bool :=
  decide (0 < a.2) && decide (0 < b.2) && decide (a.1 < b.1 + b.2) && decide (b.1 < a.1 + a.2)

/-- Bytes `i` to 31 of a descriptor are zero. -/
def zeroFrom (d : List Byte) (i : Nat) : Bool := (d.drop i).all (· == 0)

/-- A descriptor is malformed (R604, R614); a DST_SLOT of 15 or a wrong label MAGIC counts as malformed (log entries 51, 52). -/
def malformed (d : List Byte) : Bool :=
  let op := d8 d 0
  let inR := (d16 d 4, d16 d 6)
  let outR := (d16 d 12, if hasOut d then d16 d 6 else 0)
  let tagR := (d16 d 14, d8 d 3)
  op == 0 || decide (7 < op) ||
  !(decide (d8 d 1 ≤ 15) || (d8 d 1 == 0xFF && op == 6)) ||
  !(if 6 ≤ op then decide (d8 d 2 ≤ 14) else d8 d 2 == 0) ||
  !(if isGcm d then decide (12 ≤ d8 d 3) && decide (d8 d 3 ≤ 16)
    else if isCmac d then decide (4 ≤ d8 d 3) && decide (d8 d 3 ≤ 16) else d8 d 3 == 0) ||
  (op == 7 && !(d16 d 6 == 32 || d16 d 6 == 48)) ||
  (!isGcm d && !(d16 d 8 == 0 && d16 d 10 == 0)) ||
  (!hasOut d && d16 d 12 != 0) || (!(isGcm d || isCmac d) && d16 d 14 != 0) ||
  !(if isGcm d then zeroFrom d 28 else if op = 3 then true
    else if op = 6 then zeroFrom d 24 && (d.drop 16).take 4 == [0x4C, 0x42, 0x4B, 0x44] else zeroFrom d 16) ||
  (regions d).any (fun r => decide (16128 < r.1 + r.2)) ||
  (overlap inR outR && inR != outR) || overlap tagR inR || overlap tagR outR

/-- The blocks of a region. -/
def regionBlocks (r : Nat × Nat) : List Nat :=
  if r.2 = 0 then []
  else (List.range ((r.1 + r.2 - 1) / 256 + 1 - r.1 / 256)).filterMap fun i =>
    if r.1 / 256 + i < 63 then some (385 + r.1 / 256 + i) else none

/-- Block 384 and the blocks that a descriptor's regions touch (R615, R616). -/
def descBlocks (d : List Byte) : List Nat := 384 :: (regions d).flatMap regionBlocks

/-- The package that the outstanding CAL_APPLY names in the data area: offset and length (R616, R627). -/
def packageOf (c : Chip) : Option (Nat × Nat) :=
  if c.flag F.mbxStatus_BUSY && c.soundWord 0 == 0x0901 then some (c.param 2, c.param 3) else none

/-- Block `b` is named by a started job, or by an outstanding CAL_APPLY (R616, R627). -/
def jobNames (c : Chip) (b : Nat) : Bool :=
  c.cipher.queue.any (fun j => (descBlocks j.desc).contains b) ||
    match c.packageOf with
    | some r => (regionBlocks r).contains b
    | none => false

/-- Bytes of the data area. -/
def dataBytes (c : Chip) (r : Nat × Nat) : List Byte := c.bytes (dataArea + r.1) r.2

/-- Bytes written into the data area; a word written in part is read first (R136, R139). -/
def putData (off : Nat) (l : List Byte) (c : Chip) : Chip :=
  (c.checkEnds (dataArea + off) l.length).putBytes (dataArea + off) l

/-! ## Completion (R617, R620) -/

/-- CIPHER_STATUS.QUEUED, BUSY and RUNNING as the queue gives them. -/
def showCipher (c : Chip) : Chip :=
  let q := c.cipher.queue
  let c1 := c.setFld F.cipherStatus_QUEUED (q.foldl (fun m j => m ||| 2 ^ j.num) 0)
  match q with
  | [] => (c1.setFlag F.cipherStatus_BUSY false).setFld F.cipherStatus_RUNNING 0
  | j :: _ => (c1.setFlag F.cipherStatus_BUSY true).setFld F.cipherStatus_RUNNING j.num

/-- A job whose start was refused or that ends leaves its result in JOB_RESULT. -/
def setResult (j op result time : Nat) (c : Chip) : Chip :=
  c.put (R.jobResult j) (BitVec.ofNat 32 (min 0xFFFF time * 65536 + op % 256 * 256 + result))

/-- The counters of R634 for a result. -/
def countResult (result : Nat) (c : Chip) : Chip :=
  match result with
  | 3 => c.incFld F.cipherCounts_AUTH_FAIL
  | 4 | 5 | 6 | 7 | 8 => c.incFld F.cipherCounts_REFUSED
  | _ => c

/-- Job `j` ends: its result, DONE and source 57; it leaves the queue (R617). -/
def endJob (j op result time : Nat) (c : Chip) : Chip :=
  let c1 := (c.setResult j op result time).countResult result
  let c2 := c1.setFld F.cipherStatus_DONE (c1.fld F.cipherStatus_DONE ||| 2 ^ j)
  ((c2.modCipher fun q => { q with queue := q.queue.filter fun x => x.num != j }).showCipher).raise 57

/-- The output region of a GCM or CTR job zeroed; of an aborted GCM_ENCRYPT or CMAC_GENERATE the tag region too (R620). -/
def zeroOut (d : List Byte) (aborted : Bool) (c : Chip) : Chip :=
  let c1 := c.doIf (hasOut d && !malformed d) fun x => x.putData (d16 d 12) (List.replicate (d16 d 6) 0)
  c1.doIf (aborted && (d8 d 0 == 1 || d8 d 0 == 4) && !malformed d) fun x => x.putData (d16 d 14) (List.replicate (d8 d 3) 0)

/-- Time of a job in units of 0.1 µs from its CCLK cycles (R617, R634). -/
def jobTime (cycles : Nat) : Nat := cycles / 20

/-- Cycles of one AES block under a key (R617). -/
def blockCost (key : List Byte) : Nat := if key.length = 32 then 16 else 12

/-- Whole or part blocks of 16 bytes. -/
def blockCount (n : Nat) : Nat := ceilDiv n 16

/-! ## Running a job (R606, R609 to R612, R617 to R620) -/

/-- The result of a descriptor that is refused before it runs: malformed, empty slot, wrong use (R606, R610, R614). -/
def refusal (c : Chip) (d : List Byte) : Option Nat :=
  if malformed d then some 4
  else
    let label := d.drop 16
    let derives := d8 d 0 == 6 &&
      (decide (d8 label 4 < 0x10) || decide (1 < d8 label 6) || !(d8 label 5 == 0x10 || d8 label 5 == 0x20) ||
        decide (64 ≤ d8 label 7) || decide (32 < d16 d 6))
    if d8 d 1 = 0xFF then (if derives then some 7 else none)
    else match c.keyAt (d8 d 1) with
      | none => some 5
      | some k =>
        let need := match d8 d 0 with
          | 1 | 3 => 0
          | 2 => 1
          | 4 => 2
          | 5 => 3
          | 7 => 4
          | _ => 5
        let roleOk := k.role == 0 || (k.role == 1 && decide (6 ≤ d8 d 0))
        if !bitOf k.usage need || !roleOk || derives then some 7 else none

/-- The key of a job. -/
def jobKey (c : Chip) (d : List Byte) : List Byte :=
  if d8 d 1 = 0xFF then Config.rootKey.toList
  else match c.keyAt (d8 d 1) with
    | some k => k.bytes
    | none => []

/-- The bytes of a region whose words it covers in part. -/
def partWords (r : Nat × Nat) : List (Nat × Nat) :=
  if r.2 = 0 then [] else
    (if r.1 % 2 = 1 then [(r.1, 1)] else []) ++ (if (r.1 + r.2) % 2 = 1 then [(r.1 + r.2 - 1, 1)] else [])

/-- The job's regions that it reads, and the words that it writes in part, hold no double-bit error; single errors are repaired
(R136, R139, R755). -/
def readRegions (d : List Byte) (c : Chip) : Bool × Chip :=
  let op := d8 d 0
  let tag := (d16 d 14, d8 d 3)
  let ends := (if hasOut d then partWords (d16 d 12, d16 d 6) else []) ++ (if op == 1 || op == 4 then partWords tag else [])
  ([(d16 d 4, d16 d 6), (d16 d 8, d16 d 10)] ++ (if op == 2 || op == 5 then [tag] else []) ++ ends).foldl
    (fun p r => if r.2 = 0 then p else
      let q := p.2.engineCheck ((dataArea + r.1) / 2 * 2) ((r.2 + r.1 % 2 + 1) / 2)
      (p.1 && q.1, q.2)) (true, c)

/-- The attribute block of an unwrapped blob and its key (R611, R612). -/
def blobKey (p : List Byte) : Option Key :=
  let a := p.take 8
  let k := p.drop 8
  if d8 a 0 == 0x4C && d8 a 1 == 0x42 && d8 a 2 == 1 && d8 a 3 == k.length && decide (d8 a 4 ≤ 4) && decide (d8 a 5 < 64) &&
      d8 a 6 == 0 && d8 a 7 == 0
  then some { bytes := k, role := d8 a 4, usage := d8 a 5, origin := 2 } else none

/-- A job that is not refused runs: its effect before completion, its result and its cycles. -/
def runDesc (d : List Byte) (c : Chip) : Chip × Nat × Nat :=
  let key := c.jobKey d
  let n := d16 d 6
  let input := c.dataBytes (d16 d 4, n)
  let aad := c.dataBytes (d16 d 8, d16 d 10)
  let tag := c.dataBytes (d16 d 14, d8 d 3)
  let iv := d.drop 16
  let cost := blockCost key
  let hash := 4 * (blockCount (d16 d 10) + blockCount n + 1)
  match d8 d 0 with
  | 1 =>
    let ct := Aes.gcmCtr key iv input
    ((c.putData (d16 d 12) ct).putData (d16 d 14) ((Aes.gcmTag key iv aad ct).take (d8 d 3)), 2,
      200 + hash + cost * (blockCount n + 1))
  | 2 =>
    if (Aes.gcmTag key iv aad input).take (d8 d 3) = tag then
      (c.putData (d16 d 12) (Aes.gcmCtr key iv input), 2, 200 + hash + cost * (blockCount n + 1))
    else (c, 3, 200 + hash + cost)
  | 3 => (c.putData (d16 d 12) (Aes.ctr key iv input), 2, 200 + cost * blockCount n)
  | 4 => (c.putData (d16 d 14) ((Aes.cmac key input).take (d8 d 3)), 2, 200 + cost * max 1 (blockCount n))
  | 5 => (c, if (Aes.cmac key input).take (d8 d 3) = tag then 2 else 3, 200 + cost * max 1 (blockCount n))
  | 6 =>
    let label := iv.take 8
    let size := d8 label 5
    (c.placeKey (d8 d 2) { bytes := Aes.derive key label input size, role := d8 label 6, usage := d8 label 7, origin := 1 },
      2, 200 + cost * (size / 16 * blockCount (17 + n)))
  | _ =>
    let cycles := 200 + cost * (6 * (n / 8 - 1))
    match (Aes.unwrap key input).bind blobKey with
    | some k => (c.placeKey (d8 d 2) k, 2, cycles)
    | none => (c.fault 0x0902 (d8 d 2) 0, 3, cycles)

/-- The running job runs to its end; `wait` counts the CCLK cycles it waited for bursts on the shared port (R617). One whose
descriptor is damaged ends BAD_DESC with its output zeroed (R620, R755). -/
def runJob (x : Job) (wait : Nat) (c : Chip) : Chip :=
  let op := d8 x.desc 0
  if x.bad then (c.zeroOut x.desc false).endJob x.num op 4 (jobTime (200 + wait))
  else match c.refusal x.desc with
    | some r => (c.doIf (r == 7) fun q => q.zeroOut x.desc false).endJob x.num op r (jobTime (200 + wait))
    | none =>
      let p := c.readRegions x.desc
      if !p.1 then (p.2.zeroOut x.desc false).endJob x.num op 4 (jobTime (200 + wait))
      else
        let q := p.2.runDesc x.desc
        (if q.2.1 = 2 then q.1 else q.1.zeroOut x.desc false).endJob x.num op q.2.1 (jobTime (q.2.2 + wait))

/-- A running job whose OP is not listed ends at once: no operation of it can take time (R614). -/
def settleQueue : Nat → Chip → Chip
  | 0, c => c
  | n + 1, c => match c.cipher.queue with
    | j :: _ => if d8 j.desc 0 = 0 ∨ 7 < d8 j.desc 0 then settleQueue n (c.runJob j 0) else c
    | [] => c

/-- The job that runs is of operation `op`: it runs to its end (R617). -/
def runOp (op wait : Nat) (c : Chip) : Chip :=
  match c.cipher.queue with
  | j :: _ => if d8 j.desc 0 = op then settleQueue 8 (c.runJob j wait) else c
  | [] => c

/-- The start of job `j` (R615, R623). -/
def startJob (j : Nat) (c : Chip) : Chip :=
  if c.cipher.queue.any fun x => x.num == j then c
  else
    let p := c.engineCheck (0x18000 + 32 * j) 16
    let d := p.2.bytes (0x18000 + 32 * j) 32
    if p.2.latched then p.2.endJob j (d8 d 0) 9 0
    else if (descBlocks d).any fun b => p.2.hostOwned b || p.2.isReturning b then
      (p.2.setResult j (d8 d 0) 8 0).countResult 8
    else
      ((p.2.modCipher fun q => { q with queue := q.queue ++ [{ num := j, desc := d, bad := !p.1 }] }).setResult
        j (d8 d 0) 1 0).showCipher

/-- A commit to CIPHER_START: jobs start in ascending order (R615, R617). -/
def startJobs (mask : Nat) (c : Chip) : Chip :=
  settleQueue 8 ((List.range 8).foldl (fun d j => d.doIf (bitOf mask j) fun e => e.startJob j) c)

/-- A job is aborted with a result and zeroed; `time` is the time it ran (R620, R622, R624). -/
def abortJob (x : Job) (result time : Nat) (c : Chip) : Chip :=
  (c.zeroOut x.desc true).endJob x.num (d8 x.desc 0) result time

/-- A commit to CIPHER_ERASE (R608, R624); `time` is the time that the running job has run. -/
def commitErase (mask time : Nat) (c : Chip) : Chip :=
  let hit := (List.range 15).filter fun k => bitOf mask k && (c.keyAt k).isSome
  let c1 := hit.foldl (fun d k => (d.emptySlot k).incFld F.cipherCounts_ERASURES) c
  match c1.cipher.queue with
  | j :: _ => if hit.contains (d8 j.desc 1) then settleQueue 8 (c1.abortJob j 10 time) else c1
  | [] => c1

/-! ## Alarms (R621 to R623) -/

/-- An alarm of a cause: the slots are emptied, every job ends with ALARM, source 58 and the standing fault are raised (R622);
`time` is the time that the running job has run. -/
def keyAlarm (cause time : Nat) (c : Chip) : Chip :=
  let c1 := c.emptyAll.setFld F.cipherAlarm_CAUSE (c.fld F.cipherAlarm_CAUSE ||| 2 ^ cause)
  let c2 := (c1.setFlag F.cipherAlarm_LATCH true).setFlag F.cipherStatus_ALARM true
  let c3 := c2.incFld F.cipherAlarm_ALARMS
  let c4 := c.cipher.queue.zipIdx.foldl (fun d x =>
    if x.2 = 0 then d.abortJob x.1 9 time else (d.zeroOut x.1.desc false).endJob x.1.num (d8 x.1.desc 0) 9 0) c3
  (c4.raise 58).faultStanding 0x0901 0 (c4.fld F.cipherAlarm_CAUSE)

/-- The running supervisor derives slot 15 again after a clearing of the latch (R56, R607, R623). -/
def restoreKek (c : Chip) : Chip :=
  c.doIf (c.supRuns && c.ready && !c.latched && (c.keyAt 15).isNone) deriveKekProv

/-- A write of 1 to LATCH while the conditions `persists` of causes 0 to 2 hold (R623). -/
def clearAlarm (persists : Nat) (c : Chip) : Chip :=
  if persists != 0 || !c.latched then c
  else
    let c1 := ((c.setFlag F.cipherAlarm_LATCH false).setFld F.cipherAlarm_CAUSE 0).setFlag F.cipherStatus_ALARM false
    (c1.endStanding 0x0901 0).restoreKek

/-! ## Calibration packages (R625 to R630) -/

/-- One record of a package, decoded; the rest of the bytes with it (R625). -/
def nextRecord (l : List Byte) : Option ((Nat × List Byte ⊕ Nat × DWord) × List Byte) :=
  match l with
  | t :: r1 :: r2 :: r3 :: rest =>
    if t = 1 then
      let b := r2.toNat + 256 * r3.toNat
      if r1 == 0 && decide (10 ≤ b) && decide (b ≤ 159) && decide (256 ≤ rest.length)
      then some (.inl (b, rest.take 256), rest.drop 256) else none
    else if t = 2 then
      let a := leValue (rest.take 4)
      let region := a / 65536
      if r1 == 0 && r2 == 0 && r3 == 0 && (region == 3 || region == 4 || region == 10) && a % 4 == 0 && decide (8 ≤ rest.length)
      then some (.inr (a, BitVec.ofNat 32 (leValue ((rest.drop 4).take 4))), rest.drop 8) else none
    else none
  | _ => none

/-- `n` records that fill the bytes exactly (R627, step 7). -/
def parseRecords : Nat → List Byte → Option (List (Nat × List Byte ⊕ Nat × DWord))
  | 0, [] => some []
  | 0, _ :: _ => none
  | n + 1, l =>
    match nextRecord l with
    | none => none
    | some (r, rest) => (parseRecords n rest).map (r :: ·)

/-- The blocks of a package's records. -/
def recordBlocks (rs : List (Nat × List Byte ⊕ Nat × DWord)) : List (Nat × List Byte) :=
  rs.filterMap fun r => match r with
    | .inl x => some x
    | .inr _ => none

/-- The commits of a package's records. -/
def recordCommits (rs : List (Nat × List Byte ⊕ Nat × DWord)) : List (Nat × DWord) :=
  rs.filterMap fun r => match r with
    | .inl _ => none
    | .inr x => some x

/-- A package is rejected with a result (R627). -/
def calReject (r : Nat) (c : Chip) : Chip := (c.fault 0x0903 0 r).setReply r []

/-- Step 9: a named block becomes RETURNING until the apply tick, and holds its record's contents. -/
def stageBlock (x : Nat × List Byte) (c : Chip) : Chip :=
  let c1 := c.putBytes (256 * x.1) x.2
  { c1 with win := { c1.win with returning := c1.win.returning ++ [(x.1, 0)] } }

/-- Steps 7 to 9 of R627 on an authenticated package: `h` is its header, `recs` its records. -/
def calStage (h recs : List Byte) (c : Chip) : Chip :=
  match parseRecords (d16 h 24) recs with
  | none => c.calReject 0x0103
  | some rs =>
    let bs := recordBlocks rs
    if d16 h 24 = 0 ∨ 61 < d16 h 24 ∨ ¬ (bs.map (·.1)).Nodup then c.calReject 0x0103
    else if bs.any fun x => !c.deviceHeld x.1 then c.calReject 0x0104
    else
      (bs.foldl (fun d x => d.stageBlock x) c).modCipher fun q =>
        { q with staged := some { id := leValue ((h.drop 20).take 4), blocks := bs.map (·.1), commits := recordCommits rs } }

/-- Steps 5 and 6 of R627. -/
def calHeader (h recs : List Byte) (c : Chip) : Chip :=
  let uid := leValue ((h.drop 12).take 8)
  if !((d16 h 10 == 0 || d16 h 10 == (if c.part = .lb8620 then 0x8620 else 0x8612)) &&
      (uid == 0 || uid == Config.devUid.toNat)) then c.calReject 0x0102
  else if d16 h 8 < c.cipher.calFloor then c.calReject 0x0101
  else c.calStage h recs

/-- Steps 3 and 4 of R627 under the CAL key. -/
def calVerify (key : List Byte) (off len : Nat) (c : Chip) : Chip :=
  let p := c.engineCheck ((dataArea + off) / 2 * 2) ((len + off % 2 + 1) / 2)
  let h := p.2.dataBytes (off, 64)
  let n := d16 h 26
  if !p.1 || decide (len < 80) || h.take 4 != [0x4C, 0x42, 0x43, 0x50] || d16 h 4 != 1 || decide (1 < d16 h 6) || len != 80 + n
  then p.2.calReject 0x0103
  else
    let enc := d16 h 6 == 1
    let recs := p.2.dataBytes (off + 64, n)
    let tag := p.2.dataBytes (off + 64 + n, 16)
    let iv := (h.drop 28).take 12
    if (if enc then Aes.gcmTag key iv h recs else Aes.gcmTag key iv (h ++ recs) []) != tag then
      (p.2.putData (off + 64) (List.replicate n 0)).calReject 0x0100
    else if enc then
      let plain := Aes.gcmCtr key iv recs
      (p.2.putData (off + 64) plain).calHeader h plain
    else p.2.calHeader h recs

/-- CAL_APPLY (R627): a package outside the data area is a bad parameter, one in a block that the device does not hold is not
permitted now (log entry 53). -/
def calApply (c : Chip) : Chip :=
  let off := c.param 2
  let len := c.param 3
  if c.latched then c.calReject 0x0106
  else match c.roleKey 2 with
    | none => c.calReject 0x0105
    | some k =>
      if k.bytes.length != 16 || !bitOf k.usage 1 then c.calReject 0x0105
      else if 16128 < off + len then c.setReply 2 []
      else if (regionBlocks (off, len)).any fun b => !c.deviceHeld b then c.setReply 3 []
      else c.calVerify k.bytes off len

/-- CAL_RAISE_FLOOR (R630). -/
def raiseFloor (c : Chip) : Chip :=
  let n := c.param 2
  if 64 < n then c.setReply 2 []
  else if n ≤ c.cipher.calFloor then c.setReply 0 []
  else if c.flag F.supplyStatus_VBAT_REDUCED || c.flag F.supplyStatus_CRANK_DIP then c.setReply 0x0100 []
  else (c.modCipher fun q => { q with calFloor := n }).setReply 0 []

/-- CAL_APPLY (R627), unless its package is staged already and waits for its tick. -/
def calCommand (c : Chip) : Chip := if c.cipher.staged.isSome then c else c.calApply

end Chip

open Chip

/-- CIPHER_START (R615): a commit to CIPHER_START is acted on. -/
def execCipherStart (mask : Byte) (s : State) : Host.Outcome State Fault Refusal := s.run fun c => (c.takeSup R.cipherStart).startJobs mask.toNat

/-- GCM_ENCRYPT (R617): the running GCM_ENCRYPT job ends; `wait` counts its CCLK cycles of waiting for bursts. -/
def execGcmEncrypt (wait : Word) (s : State) : Host.Outcome State Fault Refusal := s.run (runOp 1 wait.toNat)

/-- GCM_DECRYPT (R618, R619): the running GCM_DECRYPT job ends. -/
def execGcmDecrypt (wait : Word) (s : State) : Host.Outcome State Fault Refusal := s.run (runOp 2 wait.toNat)

/-- CTR (R604): the running CTR job ends. -/
def execCtr (wait : Word) (s : State) : Host.Outcome State Fault Refusal := s.run (runOp 3 wait.toNat)

/-- CMAC_GENERATE (R604): the running CMAC_GENERATE job ends. -/
def execCmacGenerate (wait : Word) (s : State) : Host.Outcome State Fault Refusal := s.run (runOp 4 wait.toNat)

/-- CMAC_VERIFY (R618, R619): the running CMAC_VERIFY job ends. -/
def execCmacVerify (wait : Word) (s : State) : Host.Outcome State Fault Refusal := s.run (runOp 5 wait.toNat)

/-- DERIVE (R609, R610): the running DERIVE job ends. -/
def execDerive (wait : Word) (s : State) : Host.Outcome State Fault Refusal := s.run (runOp 6 wait.toNat)

/-- UNWRAP (R611, R612): the running UNWRAP job ends. -/
def execUnwrap (wait : Word) (s : State) : Host.Outcome State Fault Refusal := s.run (runOp 7 wait.toNat)

/-- CIPHER_ERASE (R608, R624): a commit to CIPHER_ERASE acts; `time` is the time the running job has run, in 0.1 µs. -/
def execCipherErase (mask time : Word) (s : State) : Host.Outcome State Fault Refusal :=
  s.run fun c => (c.takeSup R.cipherErase).commitErase mask.toNat time.toNat

/-- KEY_ALARM (R621, R622): the detector of a cause fires; the detectors do not run in RETAIN. -/
def execKeyAlarm (cause : Fin 4) (time : Word) (s : State) : Host.Outcome State Fault Refusal :=
  s.run fun c => if c.fld F.pwrState_STATE < 3 then c.keyAlarm cause.val time.toNat else c

/-- ALARM_LATCH_CLEAR (R623): a commit writes 1 to LATCH while the conditions of causes 0 to 2 in `persists` hold. -/
def execAlarmLatchClear (persists : BitVec 3) (s : State) : Host.Outcome State Fault Refusal :=
  s.run fun c => (c.takeSup R.cipherAlarm).clearAlarm persists.toNat

/-- CAL_APPLY (R627): the outstanding mailbox command 0x0901, steps 1 to 9. -/
def execCalApply (s : State) : Host.Outcome State Fault Refusal :=
  s.run (withCommand 0x0901 calCommand)

/-- CAL_RAISE_FLOOR (R630): the outstanding mailbox command 0x0902. -/
def execCalRaiseFloor (s : State) : Host.Outcome State Fault Refusal := s.run (withCommand 0x0902 raiseFloor)

/-- KEY_PURGE (R635): the outstanding mailbox command 0x0903 raises a firmware alarm; `time` as for KEY_ALARM. -/
def execKeyPurge (time : Word) (s : State) : Host.Outcome State Fault Refusal :=
  s.run (withCommand 0x0903 fun c => (c.keyAlarm 3 time.toNat).setReply 0 [])

end Sys2Proof.Machine
end

