-- ==== Sys2Proof/Machine/Port.lean ====
section
/-!
DEFINITION. Local commits (R91 to R96): which are refused and with what cause, and where an accepted one waits for its effect
(R43, R46).
-/

namespace Sys2Proof.Machine

namespace Chip

/-! ## Refusals (R5, R95, R96) -/

/-- A region whose commits wait for READY (R96). -/
def lateRegion (a : Nat) : Bool :=
  regionOf a == 6 || regionOf a == 7 || regionOf a == 8 || regionOf a == 9 || regionOf a == 12 || regionOf a == 13

/-- The row of an implemented extended register: region 0 of the extended space is unimplemented (R90). -/
def extRow? (a : Nat) : Option RegRow := if regionOf a = 0 then none else regRow? a

/-- `a` is register `f i` for an `i` from `lo` to `hi − 1`. -/
def amongRegs (f : Nat → Nat) (lo hi a : Nat) : Bool := (List.range (hi - lo)).any fun i => f (lo + i) == a

/-- A register that the LB8612 does not have: banks 3 to 5, channels 12 to 23, sources 12 to 14 (R5, R349, R441). -/
def absent (c : Chip) (a : Nat) : Bool :=
  decide (c.part = .lb8612) &&
    (amongRegs R.injCh 12 24 a || amongRegs R.injDiag 12 24 a || amongRegs R.bankCfg 3 6 a || amongRegs R.bankStatus 3 6 a ||
      amongRegs R.bankCounts 3 6 a || amongRegs R.irqSrc 12 15 a)

/-- A value of CAN_NBT or CAN_DBT lies within the limits of R638. -/
def canTimingOk (data : Bool) (v : Nat) : Bool :=
  let brp := bitsOf v 7 0
  let t1 := bitsOf v 15 8
  let t2 := bitsOf v 23 16
  let sjw := bitsOf v 31 24
  decide (1 ≤ brp) && decide (brp ≤ 32) && decide ((if data then 1 else 2) ≤ t1) && decide (t1 ≤ if data then 31 else 255) &&
    decide (1 ≤ t2) && decide (t2 ≤ if data then 16 else 128) && decide (1 ≤ sjw) && decide (sjw ≤ t2)

/-- A commit to MB_CFG_b that R646 refuses. -/
def mbCfgRefused (c : Chip) (b v : Nat) : Bool :=
  bitOf v 16 &&
    ((bitOf v 5 && bitOf v 3) || (bitOf v 4 && !bitOf v 3) || (decide (8 < bitsOf v 11 8) && !bitOf v 3) ||
      (c.flag (F.mbCfg_TX_REQ b) && (c.get (R.mbCfg b)).toNat % 2 ^ 18 != v % 2 ^ 18))

/-- A commit that an own rule of its register refuses as a read-only target: CH_VALUE in CAPTURE (R369), RING_TAIL beyond
the ring (R414), RING_RX_TAIL likewise (R553), WRAP beyond the cycle (R349), CAN timing (R639), CAN identifiers (R672), MB_CFG (R646). -/
def ruleRefuses (c : Chip) (a v : Nat) : Bool :=
  ((List.range 4).any fun u => (List.range 4).any fun j => R.chValue u j == a && c.fld (F.chCtrl_MODE u j) == 2) ||
  ((List.range 16).any fun r => R.resTail r == a && decide (512 < ((c.get (R.resHead r)).toNat + 1024 - v % 1024) % 1024)) ||
  (a == R.ringRxTail && decide (128 < ((c.get R.ringRxHead).toNat + 256 - v % 256) % 256)) ||
  (amongRegs R.injCh 0 24 a && decide (c.cycleLen ≤ v % 2 ^ 24)) ||
  (a == R.canNbt && (c.flag F.canCfg_EN || !canTimingOk false v)) ||
  (a == R.canDbt && (c.flag F.canCfg_EN || !canTimingOk true v)) ||
  (a == R.canDiagId &&
    (let req := bitsOf v 10 0
     let resp := bitsOf v 26 16
     req == resp || req == c.fld F.canDiagCfg_FUNC_ID || resp == c.fld F.canDiagCfg_FUNC_ID)) ||
  ((List.range 12).any fun i => R.mbCfg (4 + i) == a && c.mbCfgRefused (4 + i) v)

/-- A commit of `v` to extended address `a`: the cause of its refusal, if it is refused, and whether it still acts on the
register's writable fields (R95, R96). -/
def judgeCommit (c : Chip) (a : Nat) (v : DWord) : Option Nat × Bool :=
  if lateRegion a && !c.ready then (some 4, false)
  else match extRow? a with
    | none => (some 1, false)
    | some r =>
      if c.absent a then (none, false)
      else if r.rw ||| r.w1c ||| r.wo = 0 then (some 2, false)
      else if c.ruleRefuses a v.toNat then (some 2, false)
      else if v &&& (r.ro ||| r.rc) = 0 then (none, true)
      else (some 2, true)

/-! ## Effect (R43, R46) -/

/-- A commit to the interrupt configuration region acts at once (R441, R437, R432). -/
def commitIrq (a : Nat) (v : DWord) (c : Chip) : Chip :=
  if a = R.irqPendClrL then c.clearPends false v.toNat
  else if a = R.irqPendClrH then c.clearPends true v.toNat
  else samplePins (c.storeMasked a v)

/-- The ticks until a change that reaches the CCLK domain now is read by the pipeline: one, or two in phase G of a frame that runs
(R43); while the frame tick is stopped it waits for the first one (R123, R377). -/
def tickWait (c : Chip) (phaseG : Bool) : Nat := if phaseG && c.frameRuns then 2 else 1

/-- A write that the pipeline reads at a frame tick is queued (R43). -/
def queueTick (a : Nat) (v : DWord) (phaseG : Bool) (c : Chip) : Chip :=
  { c with bus := { c.bus with commits := c.bus.commits ++ [{ addr := a, value := v, wait := c.tickWait phaseG }] } }

/-- An accepted commit waits where R46 says, or acts at once. -/
def queueCommit (a : Nat) (v : DWord) (phaseG : Bool) (c : Chip) : Chip :=
  match regionOf a with
  | 1 => { c with bus := { c.bus with timerCommits := c.bus.timerCommits ++ [(a, v)] } }
  | 2 | 3 | 4 | 10 | 13 => c.queueTick a v phaseG
  | 5 => c.commitIrq a v
  | 11 => c.storeMasked a v
  | _ =>
    if a = R.boostCtrl ∨ a = R.boostStatus then c.queueTick a v phaseG
    else { c with bus := { c.bus with supCommits := c.bus.supCommits ++ [(a, v)] } }

/-- A local commit of the port (R92, R95). -/
def localCommit (a : Nat) (v : DWord) (phaseG : Bool) (c : Chip) : Chip :=
  let j := c.judgeCommit a v
  let c1 := match j.1 with
    | some k => c.portErr k
    | none => c
  if j.2 then c1.queueCommit a v phaseG else c1

end Chip

end Sys2Proof.Machine
end

