-- ==== Sys2Proof/Machine/Supply.lean ====
section
/-!
DEFINITION. Supplies (11): battery bands (R477 to R479), hold-up reserve (R480), the boost controller (R484 to R488), rails and
temperature (R489 to R491), the refresh of SUPPLY_STATUS (R84, R493), and their commands. Voltages of the battery are in mV.
-/

namespace Sys2Proof.Machine

namespace Chip

/-- Supply and power passed through `f`. -/
def modPower (f : Power → Power) (c : Chip) : Chip := { c with power := f c.power }

/-! ## SUPPLY_STATUS (R84, R487, R493) -/

/-- BOOST_LIMITED (R487). -/
def boostLimited (c : Chip) : Bool := c.power.dip || c.power.ov || c.power.reduced || c.power.thermal

/-- The active limit of the current through R_B, as a code (R484). -/
def activeLimit (c : Chip) : Nat := if c.boostLimited then c.fld F.boostCtrl_ILIM_LOW else c.fld F.boostCtrl_ILIM

/-- VSET in units of 0.1 V, within its limits (R484). -/
def boostSet (c : Chip) : Nat := 5 * max 48 (min 144 (c.fld F.boostCtrl_VSET))

/-- VBOOST_OK (R487): EN is 1 and VBOOST_MEAS lies within 5 % of VSET. -/
def boostOk (c : Chip) : Bool :=
  let d := ((c.fld F.boostStatus_VBOOST_MEAS : Int) - (c.boostSet : Int)).natAbs
  c.flag F.boostCtrl_EN && decide (20 * d ≤ c.boostSet)

/-- SUPPLY_STATUS as the conditions give it, with the reserve's present field. -/
def supplyWord (c : Chip) : Nat :=
  b2n c.power.vpreOk + b2n c.power.vcoreOk * 2 + b2n c.power.vioOk * 4 + b2n c.boostOk * 8 + b2n c.power.reduced * 16 +
    b2n c.power.ov * 32 + b2n c.power.dip * 64 + b2n c.boostLimited * 128 +
    min 255 (c.fld F.holdupStatus_RESERVE / 10) * 256

/-- The refresh of SUPPLY_STATUS, from READY on; source 61 at a change of bits [7:4] or a fall of bits [3:0] (R84, R493). -/
def refreshSupply (c : Chip) : Chip :=
  if !c.ready then c else
  let old := (c.get R.supplyStatus).toNat
  let new := c.supplyWord
  let c1 := c.put R.supplyStatus (BitVec.ofNat 32 new)
  if bitsOf old 7 4 != bitsOf new 7 4 || (List.range 4).any (fun i => bitOf old i && !bitOf new i) then c1.raise 61 else c1

/-! ## Battery bands (R477, R479) -/

/-- A condition's standing fault at its rise, and the end of it at its fall (R450, R513). -/
def standing (was now : Bool) (code : Nat) (c : Chip) : Chip :=
  if now && !was then c.faultStanding code 0 0 else if was && !now then c.endStanding code 0 else c

/-- The boost controller is stopped (R486). -/
def boostStopped (c : Chip) : Bool :=
  c.power.dip || c.power.ov || c.flag F.outStatus_SAFE_LATCH || decide (2 ≤ c.fld F.pwrState_STATE) || c.power.isOff ||
    c.flag F.boostStatus_OV || c.flag F.boostStatus_SENSE_MISMATCH

/-- BOOST_STATUS.STATE (R484, R486, R488). -/
def showBoost (c : Chip) : Chip :=
  c.setFld F.boostStatus_STATE
    (if !c.flag F.boostCtrl_EN then 0
    else if c.boostStopped then 4
    else if c.power.paused then 5
    else if c.power.charging then (if c.boostLimited then 3 else 1)
    else 2)

/-- The bands of R477 for the present VBAT, each boundary with 0.25 V of hysteresis on the return, below 3.0 V too; CRANK_DIP ends
only with VPRE in regulation (R479). -/
def updateBands (c : Chip) : Chip :=
  let p := c.power
  let v := p.vbat
  let dip := if p.dip then decide (v < 3250) || !p.vpreOk else decide (v < 3000)
  let low := decide (v < (if p.low then 4750 else 4500))
  let reduced := !dip && low
  let ov := decide ((if p.ov then 57750 else 58000) < v)
  let c1 := c.modPower fun q => { q with dip := dip, low := low, reduced := reduced, ov := ov, reached := q.reached && !p.dip && !p.ov }
  let c2 := c1.doIf (dip && !p.dip) fun d => d.incFld F.pwrCounts_DIPS
  let c3 := c2.doIf (reduced && !p.reduced) fun d => d.incFld F.pwrCounts_REDUCED
  let c4 := c3.doIf (ov && !p.ov) fun d => d.incFld F.pwrCounts_OV
  (((c4.standing p.reduced reduced 0x0601).standing p.dip dip 0x0602).standing p.ov ov 0x0603).showBoost

/-! ## Hold-up (R480) -/

/-- P_DEV of the present state, in mW. -/
def devPower (c : Chip) : Nat :=
  match c.fld F.pwrState_STATE with
  | 0 => 1900
  | 1 => 900
  | 2 => 120
  | _ => 6

/-- A reserve in ms for a load in mW: C_H in 0.1 mF, voltages in 10 mV. -/
def reserve (c : Chip) (load : Nat) : Nat :=
  let vh := c.fld F.supplyMeas_VHOLD_MEAS
  let ve := 400 + c.fld F.holdupCfg_V_DIODE
  if vh ≤ ve || c.fld F.holdupCfg_C_HOLD = 0 then 0
  else min 0xFFFF (c.fld F.holdupCfg_C_HOLD * (vh * vh - ve * ve) / (200 * load))

/-- HOLDUP_STATUS from the latest HOLD_SENSE measurement (R480). -/
def updateHoldup (c : Chip) : Chip :=
  let p := c.devPower + 10 * c.fld F.holdupCfg_P_EXT
  (c.setFld F.holdupStatus_RESERVE (c.reserve p)).setFld F.holdupStatus_TAG_RESERVE (c.reserve (p + 60))

/-! ## Boost controller (R484 to R488) -/

/-- A boost fault with source 16 (R488). -/
def boostFault (code : Nat) (c : Chip) : Chip := (c.raise 16).fault code 0 0

/-- VBOOST_MEAS is sampled and the hysteresis decides (R484, R485, R488); a device that does not drive BST_GATE only measures
(R569, R581). -/
def boostSample (meas : Nat) (c : Chip) : Chip :=
  if !c.frameRuns then c else
  let c1 := c.setFld F.boostStatus_VBOOST_MEAS meas
  let low := c1.boostSet - 5 * max 1 (c1.fld F.boostCtrl_HYST)
  let c2 := if (c1.boostSet + 40 < meas || 750 < meas) && !c1.flag F.boostStatus_OV then
      (c1.setFlag F.boostStatus_OV true).boostFault 0x0607 else c1
  let run := c2.flag F.boostCtrl_EN && !c2.boostStopped
  (c2.modPower fun p =>
    { p with charging := run && !c2.weakGates && !c2.shadows && (if meas < low then true else if c2.boostSet ≤ meas then false else p.charging)
             reached := run && (p.reached || decide (low ≤ meas)) }).showBoost

/-- A commit of BOOST_CTRL, or of W1C bits of BOOST_STATUS, acts at its tick (R484, R486, R512). -/
def commitBoost (a : Nat) (v : DWord) (c : Chip) : Chip :=
  let c1 := c.storeMasked a v
  let was := c.flag F.boostCtrl_EN && !c.boostStopped
  let now := c1.flag F.boostCtrl_EN && !c1.boostStopped
  (c1.modPower fun p => { p with charging := p.charging && now, reached := p.reached && was }).showBoost

/-- A VBOOST_DIV32 monitor reading, in units of 0.1 V, is compared with VBOOST_MEAS (R488). -/
def senseCheck (reading : Int) (c : Chip) : Chip :=
  let n := if 20 < (reading - (c.fld F.boostStatus_VBOOST_MEAS : Int)).natAbs then c.power.mismatch + 1 else 0
  let c1 := c.modPower fun p => { p with mismatch := min 3 n }
  if 3 ≤ n && !c1.flag F.boostStatus_SENSE_MISMATCH then
    ((c1.setFlag F.boostStatus_SENSE_MISMATCH true).boostFault 0x0608).showBoost
  else c1

/-! ## Rails and temperature (R489 to R491) -/

/-- The fault of a rail (R513). -/
def railFault : Rail → Nat
  | .vpre => 0x0604
  | .vcore => 0x0605
  | .vio => 0x0606

/-- A rail is in regulation or not; VPRE raises no fault while CRANK_DIP is 1 (R489, R490). -/
def railIs (r : Rail) (ok : Bool) (c : Chip) : Chip :=
  let p := c.power
  let was := match r with
    | .vpre => p.vpreOk
    | .vcore => p.vcoreOk
    | .vio => p.vioOk
  let c1 := c.modPower fun q => match r with
    | .vpre => { q with vpreOk := ok }
    | .vcore => { q with vcoreOk := ok }
    | .vio => { q with vioOk := ok }
  let c2 := if was && !ok && !(r = .vpre && p.dip) then c1.faultStanding (railFault r) 0 0
    else if !was && ok then c1.endStanding (railFault r) 0 else c1
  if r = .vpre then c2.updateBands else c2

/-- Something watches a rail: the comparators of the powered device VPRE and VCORE, the running supervisor VIO (R56, R489). -/
def watchesRail (c : Chip) (r : Rail) : Bool := !c.power.isOff && (r != .vio || c.supRuns)

/-- A die temperature in units of 0.1 °C (R390, R491). -/
def updateTemp (f : Fld) (t : Int) (c : Chip) : Chip :=
  let c1 := c.setFld f (unsignedOf 16 (clampInt (-32768) 32767 t))
  let t0 := signedOf 16 (c1.fld F.thermalStatus_TEMP_0)
  let t1 := signedOf 16 (c1.fld F.thermalStatus_TEMP_1)
  let hot := if c.power.thermal then decide (1350 ≤ t0) || decide (1350 ≤ t1) else decide (1450 ≤ t0) || decide (1450 ≤ t1)
  ((c1.modPower fun p => { p with thermal := hot }).standing c.power.thermal hot 0x060B).showBoost

/-- What follows from a monitor reading of channel `code` whose VALUE is `v`: the bands, and what the supervisor does with the
others unless it is halted (R56, R390, R477, R488, R489, R491). -/
def supplyReading (code : Nat) (v : Int) (c : Chip) : Chip :=
  if code != 9 && !c.supRuns then c
  else match code with
  | 9 =>
    let q := c.fld F.supplyMeas_VBAT_Q
    if c.power.dip then c else (c.modPower fun p => { p with vbat := max 3000 (250 * q) }).updateBands
  | 11 => c.railIs .vio (decide (297 * 2 ^ 23 ≤ v * 1000) && decide (v * 1000 ≤ 363 * 2 ^ 23))
  | 12 => c.senseCheck (divRoundHalfUp (v * 1600) (2 ^ 23))
  | 13 => c.updateTemp F.thermalStatus_TEMP_0 (divRoundHalfUp (v * 10000) (2 ^ 23) - 1750)
  | 14 => c.updateTemp F.thermalStatus_TEMP_1 (divRoundHalfUp (v * 10000) (2 ^ 23) - 1750)
  | _ => c

end Chip

/-! ## Commands -/

/-- VBAT_BAND_CHANGE (R477): VBAT is now `mv` millivolts. -/
def execVbatBandChange (mv : Nat) (s : State) : Host.Outcome State Fault Refusal :=
  s.run fun c => if c.power.isOff then c.modPower fun p => { p with vbat := mv } else (c.modPower fun p => { p with vbat := mv }).updateBands

/-- HOLDUP_UPDATE (R480): the 100 µs update of the reserves with new measurements of HOLD_SENSE and VPRE, in 10 mV. -/
def execHoldupUpdate (vhold vpre : BitVec 10) (s : State) : Host.Outcome State Fault Refusal :=
  s.run fun c =>
    if c.power.isOff then c
    else ((c.setFld F.supplyMeas_VHOLD_MEAS vhold.toNat).setFld F.supplyMeas_VPRE_MEAS vpre.toNat).updateHoldup

/-- BOOST_CHARGE_CONTROL (R484, R485): VBOOST_MEAS is sampled, in units of 0.1 V, and the hysteresis decides. -/
def execBoostChargeControl (meas : BitVec 10) (s : State) : Host.Outcome State Fault Refusal :=
  s.run fun c => c.boostSample meas.toNat

/-- BOOST_START_TIMEOUT (R488): `ms` milliseconds have passed since EN became 1 or a stop ended; the start has timed out where that
is START_MAX or more. -/
def execBoostStartTimeout (s : State) (ms : Nat := 0) : Host.Outcome State Fault Refusal :=
  s.run fun c =>
    if decide (max 1 (c.fld F.boostTiming_START_MAX) ≤ ms) && c.flag F.boostCtrl_EN && !c.boostStopped && !c.power.reached then
      (c.setFlag F.boostStatus_START_TIMEOUT true).boostFault 0x0609
    else c

/-- BOOST_OVERCURRENT (R488): the current through R_B stands at `code`, in codes of the limits; from twice the active limit on,
switching stops for 1 ms. -/
def execBoostOvercurrent (s : State) (code : BitVec 10 := 0) : Host.Outcome State Fault Refusal :=
  s.run fun c =>
    if c.power.charging && !c.boostStopped && !c.power.paused && decide (2 * c.activeLimit ≤ code.toNat) then
      (((c.modPower fun p => { p with paused := true }).setFlag F.boostStatus_OC true).boostFault 0x060A).showBoost
    else c

/-- BOOST_OC_PAUSE_END (R488): the 1 ms pause is over. -/
def execBoostOcPauseEnd (s : State) : Host.Outcome State Fault Refusal :=
  s.run fun c => (c.modPower fun p => { p with paused := false }).showBoost

/-- RAIL_OUT_OF_REG (R490): a rail leaves its window. -/
def execRailOutOfReg (r : Rail) (s : State) : Host.Outcome State Fault Refusal :=
  s.run fun c => if c.watchesRail r then c.railIs r false else c

/-- RAIL_IN_REGULATION (R489, R479): a rail is back in its window. -/
def execRailInRegulation (r : Rail) (s : State) : Host.Outcome State Fault Refusal :=
  s.run fun c => if c.watchesRail r then c.railIs r true else c

end Sys2Proof.Machine
end

