-- ==== Sys2Proof/Machine/Timers.lean ====
section
/-!
DEFINITION. The timer units (08): one BCLK edge with its commits, gates, counts, arming tests, matches and captures (R350 to
R376), the TIO pins (R377 to R384), and their commands. BCLK edges come with the timer commands and with each frame tick
(log entry 36).
-/

namespace Sys2Proof.Machine

namespace Chip

/-! ## Channels -/

/-- The timer units passed through `f`. -/
def modTimers (f : Timers → Timers) (c : Chip) : Chip := { c with timers := f c.timers }

/-- Channel `j` of unit `u` behind its registers. -/
def chOf (c : Chip) (u j : Nat) : TimerCh := at? c.timers.ch (4 * u + j) {}

/-- Channel `j` of unit `u` passed through `f`. -/
def modCh (u j : Nat) (f : TimerCh → TimerCh) (c : Chip) : Chip :=
  c.modTimers fun t => { t with ch := modAt t.ch (4 * u + j) f }

/-- MODE of a channel; 3 acts as 0. -/
def chMode (c : Chip) (u j : Nat) : Nat := if c.fld (F.chCtrl_MODE u j) = 3 then 0 else c.fld (F.chCtrl_MODE u j)

/-- A timer source is raised; in WATCH and RETAIN it becomes pending at wake (R385, R440). -/
def timerRaise (s : Nat) (c : Chip) : Chip :=
  if c.fld F.pwrState_STATE < 2 then c.raise s
  else { c with irq := { c.irq with atWake := withSrc c.irq.atWake s true } }

/-- A match or a capture flags and raises its source (R364, R369); in WATCH and RETAIN it wakes where CH_CTRL.WAKE is 1 (R385). -/
def flagCh (u j : Nat) (c : Chip) : Chip :=
  let c1 := if c.flag (F.chStatus_FLAG u j) then c.setFlag (F.chStatus_OVR u j) true else c
  let c2 := (c1.setFlag (F.chStatus_FLAG u j) true).timerRaise (17 + 4 * u + j)
  c2.doIf (c.flag (F.chCtrl_WAKE u j) && decide (2 ≤ c.fld F.pwrState_STATE)) (modTimers fun t => { t with wakeDue := true })

/-- PIN_ACT of a match on the pins that the channel drives (R378, R382). -/
def pinAction (u j : Nat) (c : Chip) : Chip :=
  let act := c.fld (F.chCtrl_PIN_ACT u j)
  let live := c.flag F.outStatus_ARMED && !c.flag F.outStatus_SAFE_LATCH && !c.shadows
  (List.range 8).foldl (fun d k =>
    if live && d.fld (F.tioSel_FUNC k) == 3 && d.fld (F.tioSel_CHANNEL k) == 4 * u + j then
      d.modTio k fun x => { x with lk := match act with
        | 1 => true
        | 2 => false
        | 3 => !x.lk
        | _ => x.lk }
    else d) c

/-- A match of channel `j` of unit `u` (R364 to R366). -/
def matchCh (u j : Nat) (c : Chip) : Chip :=
  let c1 := ((c.flagCh u j).pinAction u j).modCh u j fun x => { x with now := false }
  if c.flag (F.chCtrl_AUTO_ADD u j) then c1.put (R.chValue u j) (c.get (R.chValue u j) + c.get (R.chInterval u j))
  else c1.setFlag (F.chStatus_WAITING u j) false

/-- A capture of channel `j` of unit `u`: the newest count is kept (R369). -/
def captureCh (u j : Nat) (c : Chip) : Chip := (c.put (R.chValue u j) (c.get (R.tuCount u))).flagCh u j

/-- The execution of a TRIGGER descriptor that names a timer channel (R370, R371). As a master event (R374), which happens at
a BCLK edge, its capture acts at the next edge. -/
def triggerTimer (u j : Nat) (c : Chip) : Chip :=
  if c.chMode u j == 2 && c.flag (F.chCtrl_CAP_SRC u j) then (c.captureCh u j).modCh u j fun x => { x with sched := true }
  else c.incFld F.timerCounts_TRIG_IGNORED

/-! ## Chaining (R373 to R375) -/

/-- CHAIN as it acts: INDEPENDENT on TU_0 and under a master that is not below (R375). -/
def chainOf (c : Chip) (u : Nat) : Nat :=
  if u = 0 || decide (u ≤ c.fld (F.tuCfg_MASTER u)) then 0 else c.fld (F.tuCfg_CHAIN u)

/-- What happened on the units at this edge: for each unit its channels' matches and captures, and its overflow. -/
def masterEvent (c : Chip) (u : Nat) (ev : List (List Bool)) : Bool :=
  ((ev.getD (c.fld (F.tuCfg_MASTER u)) []).getD (min 4 (c.fld (F.tuCfg_EVENT u))) false)

/-! ## Commits at their commit edge (R356 to R361, R367, R368, R373) -/

/-- Channel `j` of unit `u` is armed at this edge. -/
def armCh (u j : Nat) (c : Chip) : Chip := c.modCh u j fun x => { x with fresh := true, now := false }

/-- A commit of CH_CTRL: a change of MODE to COMPARE arms, a change away ends the wait. -/
def commitChCtrl (u j : Nat) (v : DWord) (c : Chip) : Chip :=
  let old := c.chMode u j
  let c1 := c.storeMasked (R.chCtrl u j) v
  let new := c1.chMode u j
  if new == 1 && old != 1 then c1.armCh u j
  else if old == 1 && new != 1 then
    (c1.setFlag (F.chStatus_WAITING u j) false).modCh u j fun x => { x with now := false, fresh := false }
  else c1

/-- A commit of CH_VALUE: refused in CAPTURE, else it arms a compare (R360, R367, R369). -/
def commitChValue (u j : Nat) (v : DWord) (c : Chip) : Chip :=
  if c.chMode u j == 2 then c.portErr 2
  else
    let c1 := c.put (R.chValue u j) v
    if c1.chMode u j == 1 then c1.armCh u j else c1

/-- A commit of TU_CFG (R353, R373, R375). -/
def commitTuCfg (u : Nat) (v : DWord) (c : Chip) : Chip :=
  let old := c.fld (F.tuCfg_CHAIN u)
  let c1 := c.storeMasked (R.tuCfg u) v
  let c2 := if c1.fld (F.tuCfg_CHAIN u) == 1 && old != 1 then
      c1.setFld (F.tuStatus_GATE_OPEN u) (c1.fld (F.tuCfg_GATE_INIT u)) else c1
  c2.setFlag (F.tuStatus_CHAINED u) (c2.chainOf u != 0)

/-- A commit to register `a` of the timers region acts on unit `u`; another unit's register is left alone. -/
def commitTimer (u a : Nat) (v : DWord) (c : Chip) : Chip :=
  let o := a - R.tuCfg u
  if a < R.tuCfg u || 0x50 ≤ o then c
  else if o = 0 then c.commitTuCfg u v
  else if o < 0x10 then c.storeMasked a v
  else
    let j := (o - 0x10) / 0x10
    match o % 0x10 with
    | 0x0 => c.commitChCtrl u j v
    | 0x4 => c.commitChValue u j v
    | _ => c.storeMasked a v

/-! ## One BCLK edge (R357) -/

/-- Steps 2 and 3: the gate toggles, the count is updated. Answers whether the count was updated, and overflowed. -/
def countUnit (u pre : Nat) (ev : Bool) (c : Chip) : Bool × Bool × Chip :=
  let c1 := if c.chainOf u == 1 && ev then c.setFlag (F.tuStatus_GATE_OPEN u) (!c.flag (F.tuStatus_GATE_OPEN u)) else c
  let tick := c.timers.begun && pre % 2 ^ c.fld (F.tuCfg_PRESCALE u) == 0
  let step := match c1.chainOf u with
    | 1 => tick && c1.flag (F.tuStatus_GATE_OPEN u)
    | 3 => ev
    | _ => tick
  if c1.chainOf u == 2 && ev then (true, false, c1.put (R.tuCount u) 0)
  else if step then
    let n := c1.get (R.tuCount u) + 1
    let c2 := c1.put (R.tuCount u) n
    if n = 0 then (true, true, (c2.setFlag (F.tuStatus_OVF u) true).timerRaise (33 + u)) else (true, false, c2)
  else (false, false, c1)

/-- Step 4: the passed test of a channel armed at this edge (R361, R362). -/
def armTest (u j : Nat) (c : Chip) : Chip :=
  if (c.chOf u j).fresh then
    let d := (c.get (R.chValue u j) - c.get (R.tuCount u)).toNat
    (c.setFlag (F.chStatus_WAITING u j) true).modCh u j fun x =>
      { x with now := (d == 0 || decide (2 ^ 31 ≤ d)) && !c.flag (F.chCtrl_WRITE_SEM u j) }
  else c

/-- The accepted edge of a pin selects a capture of the channel (R370). -/
def pinCaptures (c : Chip) (u j : Nat) (pins : List (Nat × Bool)) : Bool :=
  c.chMode u j == 2 && !c.flag (F.chCtrl_CAP_SRC u j) && pins.any fun p =>
    c.fld (F.tioSel_FUNC p.1) == 1 && c.fld (F.tioSel_CHANNEL p.1) == 4 * u + j &&
      (match c.fld (F.chCtrl_CAP_EDGE u j) with
        | 0 => p.2
        | 1 => !p.2
        | _ => true)

/-- Step 5 for one channel: a match or a capture; answers whether there was one, which a scheduler capture since the last
edge is too (R374). -/
def serveCh (u : Nat) (updated : Bool) (pins : List (Nat × Bool)) (p : List Bool × Chip) (j : Nat) : List Bool × Chip :=
  let x := p.2.chOf u j
  let c := p.2.modCh u j fun y => { y with fresh := false, sched := false }
  if x.fresh then (p.1 ++ [x.sched], c)
  else if c.chMode u j == 1 && c.flag (F.chStatus_WAITING u j) &&
      (x.now || (updated && c.get (R.chValue u j) = c.get (R.tuCount u))) then (p.1 ++ [true], c.matchCh u j)
  else if c.pinCaptures u j pins then (p.1 ++ [true], c.captureCh u j)
  else (p.1 ++ [x.sched], c)

/-- One unit at a BCLK edge (R357). -/
def unitEdge (commits : List (Nat × DWord)) (pins : List (Nat × Bool)) (pre : Nat) (p : List (List Bool) × Chip) (u : Nat) :
    List (List Bool) × Chip :=
  let c1 := commits.foldl (fun d x => d.commitTimer u x.1 x.2) p.2
  let q := c1.countUnit u pre (c1.masterEvent u p.1)
  let c2 := (List.range 4).foldl (fun d j => d.armTest u j) q.2.2
  let r := (List.range 4).foldl (serveCh u q.1 pins) ([], c2)
  (p.1 ++ [r.1 ++ [q.2.1]], r.2)

/-- TIMER_SNAP copies all four counts (R376). -/
def snapCounts (c : Chip) : Chip := (List.range 4).foldl (fun d u => d.put (R.tuSnap u) (d.get (R.tuCount u))) c

/-- A BCLK edge with the commits whose commit edge it is and the accepted levels of TIO inputs (R351, R357, R376). The first
edge after reset release leaves PRE and the counts at 0. -/
def bclkEdge (commits : List (Nat × DWord)) (pins : List (Nat × Bool)) (c : Chip) : Chip :=
  let c0 := pins.foldl (fun d p => d.setBit R.tioLevel p.1 p.2) c
  let pre := if c0.timers.begun then (c0.fld F.timerPre_PRE + 1) % 2 ^ 15 else 0
  let c1 := ((List.range 4).foldl (unitEdge commits pins pre) ([], c0.setFld F.timerPre_PRE pre)).2.modTimers fun t =>
    { t with begun := true }
  if commits.any fun x => x.1 == R.timerSnap then c1.snapCounts else c1

/-- In WATCH, where no frame tick comes, local time and with it the own ring time go on with REFCLK (R494, R541). -/
def watchTime (c : Chip) : Chip :=
  if c.fld F.pwrState_STATE = 2 then { c with tb := { c.tb with time := c.tb.time + 40, ticks := c.tb.ticks + 16 } } else c

/-- BCLK clocks the units: from reset release on (R351), in every power state but OFF (R53, R355). -/
def bclkRuns (c : Chip) : Bool := c.tb.running && !c.power.isOff

/-- The next BCLK edge takes the commits that wait for it, in the order issued, and then `more` (R67, R356). -/
def nextEdge (more : List (Nat × DWord)) (pins : List (Nat × Bool)) (c : Chip) : Chip :=
  if c.bclkRuns then
    bclkEdge (c.bus.timerCommits ++ more) pins ({ c with bus := { c.bus with timerCommits := [] } }).watchTime
  else c

/-- `n` BCLK edges. -/
def bclkEdges (n : Nat) (c : Chip) : Chip := stepN (nextEdge [] []) n c

/-- The commit `x` waits for its commit edge; a commit of any value to TIMER_SNAP is the same commit (R376). -/
def commitWaits (c : Chip) (x : Nat × DWord) : Bool :=
  c.bus.timerCommits.any fun y => y.1 == x.1 && (y.1 == R.timerSnap || y.2 == x.2)

/-- The commit `x` acts at its commit edge, the first after its arrival (R356): one that already waits at the next edge, with
those issued before it and after it; any other arrives after `lead` edges and acts at the edge that follows. -/
def commitEdge (x : Nat × DWord) (lead : Nat) (c : Chip) : Chip :=
  if c.commitWaits x then c.bclkEdges (lead + 1) else (c.bclkEdges lead).nextEdge [x] []

/-! ## TIO pins (R377 to R383) -/

/-- The present function of TIO_k still holds the ball (R380). -/
def tioHeld (c : Chip) (k : Nat) : Bool :=
  match c.fld (F.tioSel_FUNC k) with
  | 1 =>
    let n := c.fld (F.tioSel_CHANNEL k)
    c.chMode (n / 4) (n % 4) == 2 && !c.flag (F.chCtrl_CAP_SRC (n / 4) (n % 4))
  | 2 => (c.tioOf k).active || (c.sched.edges ++ c.sched.next).any fun x => x.chan == 0x40 + k
  | 3 => (c.tioOf k).lk
  | _ => false

/-- Another pin already names the channel (R379). -/
def channelNamed (c : Chip) (k n : Nat) : Bool :=
  (List.range 8).any fun i => i != k && c.fld (F.tioSel_FUNC i) % 2 == 1 && c.fld (F.tioSel_CHANNEL i) == n

/-- A commit of TIO_SEL_k at its tick (R377, R379, R380, R383). -/
def commitTioSel (k : Nat) (v : DWord) (c : Chip) : Chip :=
  let func := v.toNat % 4
  let chan := bitsOf v.toNat 5 2
  let moves := func != c.fld (F.tioSel_FUNC k) || chan != c.fld (F.tioSel_CHANNEL k)
  if moves && c.tioHeld k then c.fault 0x0108 k (func + c.fld (F.tioSel_FUNC k) * 16)
  else if func % 2 == 1 && c.channelNamed k chan then c.fault 0x0112 (k * 256 + chan) 0
  else
    let c1 := c.storeMasked (R.tioSel k) v
    if func != c.fld (F.tioSel_FUNC k) then c1.modTio k fun x => { x with active := false, tag := none, lk := false } else c1

end Chip

/-! ## Commands -/

/-- TIMER_MATCH (R364): `lead` BCLK edges later the next edge brings the match of a waiting compare. -/
def execTimerMatch (lead : Nat) (s : State) : Host.Outcome State Fault Refusal :=
  s.run fun c => (c.bclkEdges lead).nextEdge [] []

/-- TIMER_OVERFLOW (R354): `lead` BCLK edges later the next edge wraps a count to 0. -/
def execTimerOverflow (lead : Nat) (s : State) : Host.Outcome State Fault Refusal :=
  s.run fun c => (c.bclkEdges lead).nextEdge [] []

/-- TIMER_PIN_CAPTURE (R370, R384): `lead` BCLK edges later comes the edge at which a new level of TIO_k has held for `held` BCLK
edges; it is accepted there where that is 2 + FILT or more. -/
def execTimerPinCapture (k : Fin 8) (level : Bool) (lead : Nat) (s : State) (held : Nat := 0) : Host.Outcome State Fault Refusal :=
  s.run fun c => (c.bclkEdges lead).nextEdge []
    (if c.bit R.tioLevel k == level || decide (held < 2 + c.fld (F.tioSel_FILT k)) then [] else [(k.val, level)])

/-- CH_VALUE_COMMIT (R360): a commit of CH_VALUE_u_c, channel 4u + c, acts at the edge `lead` edges later. -/
def execChValueCommit (n : Fin 16) (v : DWord) (lead : Nat) (s : State) : Host.Outcome State Fault Refusal :=
  s.run (Chip.commitEdge (R.chValue (n / 4) (n % 4), v) lead)

/-- CH_CTRL_COMMIT (R360, R368): a commit of CH_CTRL_u_c acts at its commit edge. -/
def execChCtrlCommit (n : Fin 16) (v : DWord) (lead : Nat) (s : State) : Host.Outcome State Fault Refusal :=
  s.run (Chip.commitEdge (R.chCtrl (n / 4) (n % 4), v) lead)

/-- TU_CFG_COMMIT (R353, R373): a commit of TU_CFG_u acts at its commit edge. -/
def execTuCfgCommit (u : Fin 4) (v : DWord) (lead : Nat) (s : State) : Host.Outcome State Fault Refusal :=
  s.run (Chip.commitEdge (R.tuCfg u, v) lead)

/-- TIMER_SNAP (R376): a commit to TIMER_SNAP copies all four counts at its commit edge. -/
def execTimerSnap (lead : Nat) (s : State) : Host.Outcome State Fault Refusal :=
  s.run (Chip.commitEdge (R.timerSnap, 0) lead)

/-- TIO_SEL_COMMIT (R377): a commit of TIO_SEL_k takes effect at a frame tick, after the conflict checks. -/
def execTioSelCommit (k : Fin 8) (v : DWord) (s : State) : Host.Outcome State Fault Refusal :=
  s.run fun c => if c.frameRuns then c.mirrorsOf [.commit (R.tioSel k) v] fun d => (d.takeCommit (R.tioSel k)).commitTioSel k v else c

end Sys2Proof.Machine
end

