-- ==== Sys2Proof/Machine/Converter.lean ====
section
/-!
DEFINITION. The integrating converter (09): values (R389), result rings and the watermark (R411 to R419), windows, their
collisions and limits (R395 to R406), continuous mode (R407 to R409), the monitor (R420 to R423), and their commands. CONV edges
are numbered from reset, ten to a frame (R391).
-/

namespace Sys2Proof.Machine

namespace Chip

/-! ## Shared -/

/-- The converter passed through `f`. -/
def modConv (f : Conv → Conv) (c : Chip) : Chip := { c with conv := f c.conv }

/-- Core `k`. -/
def coreOf (c : Chip) (k : Nat) : ConvCore := at? c.conv.cores k {}

/-- Core `k` passed through `f`. -/
def modCore (k : Nat) (f : ConvCore → ConvCore) (c : Chip) : Chip := c.modConv fun v => { v with cores := modAt v.cores k f }

/-- What input code `code` selects on core `k` (R388). -/
def inputFor (k code : Nat) : Analog := if code < 8 then .ain (8 * k + code) else .internal code

/-- The core of a request; the monitor's VBAT windows run on MON_CORE (R392, R420). -/
def reqCore (c : Chip) (r : Nat) : Nat := c.fld (F.reqCfg_CORE r)

/-- What request `r` measures (R388, R392). -/
def reqInput (c : Chip) (r : Nat) : Analog := inputFor (c.reqCore r) (c.fld (F.reqCfg_INPUT r))

/-- OSR of core `k` (R407): below 6 OSR_LOG acts as 6, above 10 as 10. -/
def osrOf (c : Chip) (k : Nat) : Nat := 2 ^ max 6 (min 10 (c.fld (F.coreCfg_OSR_LOG k)))

/-- Core `k` is in continuous mode (R393). -/
def isContinuous (c : Chip) (k : Nat) : Bool := c.flag (F.coreCfg_MODE k)

/-- The CONV edge at or after the instant `at'` steps after the tick (R391, R396). -/
def convEdge (c : Chip) (at' : Nat) : Nat := c.conv.base + min 10 (ceilDiv at' 40)

/-- The CONV edge `e` has come by the end of the running frame. -/
def edgeCome (c : Chip) (e : Nat) : Bool := decide (e ≤ c.conv.base + 10)

/-- UNIT of a converter fault: core and request, 16 for the monitor (R427, R446). -/
def convUnit (k r : Nat) : Nat := k * 256 + r

/-- A converter fault with source 53 (R427). -/
def convFault (code k r : Nat) (c : Chip) : Chip := (c.raise 53).fault code (convUnit k r) 0

/-- A voltage in units of R389, at the limits of the span where it lies beyond them. -/
def inSpan (v : Int) : Int := clampInt (-419430) 8808038 v

/-- A voltage in the span as VALUE (R389); above 5.0 V, which 24 bits do not hold, VALUE is free (log entry 40). -/
def valueOf (v : Int) : Nat := if v ≤ 8388607 then unsignedOf 24 v else Config.wideValue v % 2 ^ 24

/-- The mean of a window of `n` clocks as the residue resolves it (R398): in steps of 5.5 V / (256 n), which is 360 448 / n tenths of a
unit, rounded to the nearest unit; from 36 045 clocks on every unit is resolved. Where the steps lie is free (log entry 116). -/
def quantised (n : Nat) (v : Int) : Int :=
  if 36045 ≤ n then v
  else
    let o := Config.residueOrigin n
    let j := divRoundHalfUp ((10 * v - o) * n) 360448
    divRoundHalfUp (j * 360448 + o * n) (10 * n)

/-- VALUE and CLIP of a window of `n` clocks with the mean `raw` (R389, R398); `left` says that the input left the span during it. The
mean over no clock at all is free (log entry 116). -/
def convValue (c : Chip) (n : Nat) (left : Bool) (raw : Int) : Nat × Bool :=
  (if n = 0 then Config.freeNat c.free % 2 ^ 24 else valueOf (inSpan (quantised n (inSpan raw))), left || inSpan raw != raw)

/-- VALUE read as a signed number. -/
def valueInt (v : Nat) : Int := signedOf 24 v

/-! ## Result rings (R411 to R419) -/

/-- FILL of ring `r` (R413). -/
def ringFill (c : Chip) (r : Nat) : Nat := ((c.get (R.resHead r)).toNat + 1024 - (c.get (R.resTail r)).toNat % 1024) % 1024

/-- FILL, WM_ABOVE and a crossing of ring `r`, after HEAD, TAIL or WM_LEVEL changed (R417, R418). -/
def showRing (r : Nat) (c : Chip) : Chip :=
  let n := c.ringFill r
  let lvl := (c.get (R.resWm r)).toNat % 1024
  let above := lvl != 0 && decide (lvl ≤ n)
  let was := c.flag (F.resStatus_WM_ABOVE r)
  let c1 := (c.setFld (F.resStatus_FILL r) n).setFlag (F.resStatus_WM_ABOVE r) above
  if above && !was then
    let c2 := c1.incFld (F.resStatus_WM_CROSS_COUNT r)
    if c2.flag (F.resStatus_WM_HIT r) then c2 else (c2.setFlag (F.resStatus_WM_HIT r) true).raise (37 + r)
  else c1

/-- The byte offset of entry `i` of ring `r` (R411). -/
def ringEntry (r i : Nat) : Nat := 256 * (192 + 8 * r) + 4 * (i % 512)

/-- A result of request `r` from core `k` (R411 to R415): `stat` is its STAT; a measured one of a core in window mode that fails its
check reads SUSPECT (R422). -/
def result (r k stat : Nat) (clip : Bool) (value : Nat) (c : Chip) : Chip :=
  let tag := at? c.conv.tags r 0
  let st := if (c.coreOf k).suspect && !c.isContinuous k && (stat == 0 || stat == 4 || stat == 5) then 6 else stat
  let w := st * 2 ^ 29 + b2n clip * 2 ^ 28 + tag * 2 ^ 24 + value % 2 ^ 24
  let c1 := c.modConv fun v => { v with tags := modAt v.tags r fun t => (t + 1) % 16 }
  let c2 := if stat = 2 then c1.incFld F.convCounts_MISSED else if stat = 3 then c1.incFld F.convCounts_ABORTED else c1
  if c2.ringFill r = 512 then
    ((c2.incFld (F.resStatus_DROPPED r)).setFlag (F.resStatus_OVF r) true).convFault 0x0503 k r
  else
    let h := (c2.get (R.resHead r)).toNat
    ((c2.putWin32 (ringEntry r h) w).put (R.resHead r) (BitVec.ofNat 32 ((h + 1) % 1024))).showRing r

/-! ## Windows -/

/-- Request `r` has a window open or pending; 16 is the monitor. -/
def reqBusy (c : Chip) (r : Nat) : Bool :=
  ((List.range 2).any fun k => match (c.coreOf k).win with
    | some w => w.req == r
    | none => false) || c.conv.waiting.any fun x => x.2.2.req == r

/-- The VBAT window of a burst has not completed: three in a row starve the monitor (R423). -/
def monitorMiss (code k : Nat) (c : Chip) : Chip :=
  if code != 9 then c else
  let c1 := c.modConv fun v => { v with starved := v.starved + 1 }
  if 3 ≤ c1.conv.starved then c1.convFault 0x0502 k 16 else c1

/-- A window ends without a value: a ring entry for a request (R401 to R406), an incomplete burst for the monitor (R421).
`raised` says that the miss raises CONV_WINDOW_MISSED. -/
def loseWindow (w : ConvWin) (k stat : Nat) (raised : Bool) (c : Chip) : Chip :=
  if w.req = 16 then c.monitorMiss w.code k
  else
    let c1 := c.result w.req k stat false 0
    if raised then c1.convFault 0x0504 k w.req else c1

/-- Core `k` has no window from CONV edge `e` on. -/
def freeCore (k e : Nat) (c : Chip) : Chip := c.modCore k fun x => { x with win := none, freed := e }

/-- The open window of core `k` ends ABORTED at edge `e`. -/
def abortCore (k e : Nat) (c : Chip) : Chip :=
  match (c.coreOf k).win with
  | none => c
  | some w => (c.freeCore k e).loseWindow w k 3 false

/-- A window opens on core `k` at CONV edge `e`. -/
def openWin (w : ConvWin) (k e : Nat) (c : Chip) : Chip := c.modCore k fun x => { x with win := some { w with opened := e } }

/-- The open of an angle window of request `w.req` at edge `e` (R401). -/
def openAngle (w : ConvWin) (e : Nat) (c : Chip) : Chip :=
  let k := c.reqCore w.req
  if c.isContinuous k || c.reqBusy w.req then c.loseWindow w k 2 true
  else match (c.coreOf k).win with
    | none => c.openWin w k e
    | some x => if x.angle then c.loseWindow w k 2 true else (c.abortCore k e).openWin w k e

/-- MAX_LAT of a window's request in modulator clocks; 50 µs for the monitor (R402, R420). -/
def maxWait (c : Chip) (w : ConvWin) : Nat := 10 * (if w.req = 16 then 50 else c.fld (F.reqCfg_MAX_LAT w.req))

/-- Core `k` could take a time window at once. -/
def coreFree (c : Chip) (k : Nat) : Bool := (c.coreOf k).win.isNone && !c.conv.waiting.any fun x => x.1 == k

/-- The rank of a happening at its edge (R400): closes, SYNCs, opens of angle windows, opens of time windows. -/
def actRank : ConvAct → Nat
  | .close _ _ => 0
  | .sync _ => 1
  | .open w => if w.angle then 2 else 3

/-- The core that runs the window of request `r`, else the one the request is bound to. -/
def runsOn (c : Chip) (r : Nat) : Nat :=
  match (List.range 2).find? fun k => match (c.coreOf k).win with
    | some w => w.req == r
    | none => false with
  | some k => k
  | none => c.reqCore r

/-- The core a happening acts on. -/
def actCore (c : Chip) : ConvAct → Nat
  | .close r _ => c.runsOn r
  | .sync k => k
  | .open w => c.reqCore w.req

/-- A waiting happening still has something to act on: an end edge does while its window is open or its start waits; of a
window that was MISSED or ABORTED the end edge does nothing (R398, R401). -/
def actLive (c : Chip) (x : Nat × ConvAct) : Bool :=
  match x.2 with
  | .close r i =>
    (match (c.coreOf (c.runsOn r)).win with
      | some w => w.angle && w.req == r && w.idx == i
      | none => false) ||
    c.conv.inbox.any fun y => match y.2 with
      | .open w => w.req == r && w.idx == i
      | _ => false
  | _ => true

/-- What still waits for its CONV edge. -/
def liveInbox (c : Chip) : List (Nat × ConvAct) := c.conv.inbox.filter c.actLive

/-- Nothing that comes before the rank `n` at edge `e` still waits on core `k`, nor anything of an earlier edge (R400). -/
def turnAt (c : Chip) (k e n : Nat) : Bool :=
  !c.liveInbox.any fun y => c.actCore y.2 == k && (decide (y.1 < e) || (y.1 == e && decide (actRank y.2 < n)))

/-- The open of a time window on core `k` at edge `e` (R402); what comes before it at the edge makes it wait (R400). -/
def openTimed (w : ConvWin) (k e : Nat) (c : Chip) : Chip :=
  if c.isContinuous k || c.reqBusy w.req then c.loseWindow w k 2 true
  else if c.coreFree k && c.turnAt k e 3 then c.openWin w k e
  else if c.maxWait w = 0 then c.loseWindow w k 2 true
  else c.modConv fun v => { v with waiting := v.waiting ++ [(k, e, w)] }

/-- The second window of a monitor burst opens once the first has ended (R420, log entry 41). -/
def monitorSecond (e : Nat) (c : Chip) : Chip :=
  match c.conv.second with
  | none => c
  | some (code, k) =>
    if c.reqBusy 16 then c
    else (c.modConv fun v => { v with second := none }).openTimed
      { req := 16, code := code, angle := false, len := 100 } k e

/-- A reference or zero check of core `k` (R422). -/
def checkCore (code k : Nat) (v : Int) (c : Chip) : Chip :=
  let bad := if code = 8 then decide (2 ^ 23 < (v - 0x400000).natAbs * 400) else decide (2 ^ 23 < v.natAbs * 2500)
  if bad then (c.modCore k fun x => { x with suspect := true, passedRef := false, passedZero := false }).convFault 0x0501 k 16
  else c.modCore k fun x =>
    let r := x.passedRef || code == 8
    let z := x.passedZero || code == 15
    { x with passedRef := r, passedZero := z, suspect := x.suspect && !(r && z) }

/-- VBAT_Q from a VBAT_DIV16 value, in units of 0.25 V, rounded to the nearest (R331, R421; log entry 42). -/
def vbatQ (v : Int) : Nat := (max 0 (divRoundHalfUp (v * 320) (2 ^ 23))).toNat % 512

/-- A completed monitor window (R421 to R423). -/
def monitorDone (w : ConvWin) (k : Nat) (clip : Bool) (value : Nat) (c : Chip) : Chip :=
  let st := if (c.coreOf k).suspect then 6 else 0
  let c1 := c.put (R.monResult (w.code - 8)) (BitVec.ofNat 32 (st * 2 ^ 29 + b2n clip * 2 ^ 28 + value % 2 ^ 24))
  if w.code = 9 then
    ((c1.modConv fun v => { v with starved := 0 }).setFld F.supplyMeas_VBAT_Q (vbatQ (valueInt value))).supplyReading 9
      (valueInt value)
  else if w.code = 8 || w.code = 15 then c1.checkCore w.code k (valueInt value)
  else c1.supplyReading w.code (valueInt value)

/-- The open window of core `k` ends at edge `e` with the mean `raw` of its input; `left` says that the input left the span. -/
def finishWin (w : ConvWin) (k stat : Nat) (raw : Int) (left : Bool) (e : Nat) (c : Chip) : Chip :=
  let v := c.convValue (e - w.opened) left raw
  let c1 := c.useFree.freeCore k e
  if w.req = 16 then (c1.monitorDone w k v.2 v.1).monitorSecond e
  else c1.result w.req k stat v.2 v.1

/-- Continuous core `k` restarts at edge `e` with a cleared decimator (R408, R409). -/
def restart (k e : Nat) (c : Chip) : Chip := c.modCore k fun x => { x with outputs := 0, syncAt := e, comb := (0, 0) }

/-- The sinc³ decimator of core `k` ends a period whose stream its kernel weighs as `new`, `mid` and `old` with 1, 4 and 1 sixths: the
output, and the core with what is left of the period for the next two (R407, R408). -/
def decimate (k : Nat) (new mid old : Int) (c : Chip) : Int × Chip :=
  let x := c.coreOf k
  (divRoundHalfUp (new + x.comb.1) 6,
    c.modCore k fun x => { x with outputs := x.outputs + 1, comb := (4 * mid + x.comb.2, old) })

/-- A SYNC acts on core `k` at edge `e` (R404, R408). -/
def syncCore (k e : Nat) (c : Chip) : Chip :=
  if c.isContinuous k then c.restart k e
  else (c.abortCore k e).monitorSecond e

/-- The window `w` has ended by edge `e`: its length has passed, or its end edge waits to be applied. -/
def endedBy (c : Chip) (w : ConvWin) (e : Nat) : Bool :=
  if w.angle then c.conv.inbox.any fun x => x.2 == .close w.req w.idx && decide (x.1 ≤ e) else decide (w.opened + w.len ≤ e)

/-- The open windows that satisfy `p`, and have not ended by edge `e`, end ABORTED there. -/
def abortOpen (p : Nat → ConvWin → Bool) (e : Nat) (c : Chip) : Chip :=
  (List.range 2).foldl (fun d k => match (d.coreOf k).win with
    | some w => if p k w && !d.endedBy w e then d.abortCore k e else d
    | none => d) c

/-- The opens that wait and satisfy `p` are applied. -/
def openWaiting (p : Nat → ConvWin → Bool) (c : Chip) : Chip :=
  c.conv.inbox.foldl (fun d x => match x.2 with
    | .open w =>
      if p x.1 w then
        let d1 := d.modConv fun v => { v with inbox := dropFirst (fun y => y = x) v.inbox }
        if w.angle then d1.openAngle w x.1 else d1.openTimed w (d1.reqCore w.req) x.1
      else d
    | _ => d) c

/-- Every open angle window ends ABORTED: at a resync, a stall, a change of DIR (R405). One whose start edge has executed and waits for
its CONV edge counts as open. -/
def abortAngles (c : Chip) : Chip :=
  let e := c.convEdge c.tb.now
  ((c.openWaiting fun _ w => w.angle).abortOpen (fun _ w => w.angle) e).monitorSecond e

/-- The pending windows that satisfy `p` end MISSED (R394, R425). -/
def missWaiting (p : Nat × Nat × ConvWin → Bool) (c : Chip) : Chip :=
  (c.conv.waiting.filter p).foldl (fun d x => d.loseWindow x.2.2 x.1 2 false)
    (c.modConv fun v => { v with waiting := v.waiting.filter fun x => !p x })

/-- The windows whose open has executed and still waits for its CONV edge end MISSED (R403). -/
def missOpens (c : Chip) : Chip :=
  c.conv.inbox.foldl (fun d x => match x.2 with
    | .open w => d.loseWindow w (d.actCore x.2) 2 false
    | _ => d) (c.modConv fun v => { v with inbox := [], second := none })

/-- Entry to WATCH or RETAIN (R425): open windows ABORTED, pending ones MISSED, continuous cores stop. -/
def stopConv (c : Chip) : Chip :=
  (((List.range 2).foldl (fun d k => d.abortCore k (d.convEdge d.tb.now)) c).missWaiting fun _ => true).missOpens

/-! ## CONV_STATUS (R424, R426) -/

/-- Core `k` is gated: IDLE, window mode, not MON_CORE, and nothing to come (R424). -/
def gated? (c : Chip) (k : Nat) : Bool :=
  c.fld F.pwrState_STATE == 1 && !c.isContinuous k && (c.get R.monCfg).toNat % 2 != k && (c.coreOf k).win.isNone &&
    !c.conv.waiting.any (fun x => x.1 == k) &&
    !c.sched.entries.any (fun e => decide (0x60 ≤ e.d.chan) && decide (e.d.chan < 0x70) && c.reqCore (e.d.chan - 0x60) == k) &&
    !c.conv.inbox.any (fun x => match x.2 with
      | .open w => decide (w.req < 16) && c.reqCore w.req == k
      | _ => false) &&
    !c.bus.commits.any (fun x => x.addr == R.convStart && (List.range 16).any fun r =>
      bitOf x.value.toNat r && c.reqCore r == k)

/-- The request that core `k` serves: 16 for the monitor, 31 for none (R393); in WATCH and RETAIN the continuous cores are stopped
(R425). -/
def servedReq (c : Chip) (k : Nat) : Nat :=
  if c.isContinuous k then
    if 2 ≤ c.fld F.pwrState_STATE then 31 else
    let r := c.fld (F.coreCfg_CONT_REQ k)
    if c.reqCore r = k then r else 31
  else match (c.coreOf k).win with
    | some w => w.req
    | none => 31

/-- CONV_STATUS as the cores give it. -/
def showConv (c : Chip) : Chip :=
  let core (k : Nat) : Nat := c.servedReq k + b2n (c.gated? k) * 64 + b2n (c.servedReq k != 31) * 128
  let pend := (List.range 16).foldl (fun a r => a + b2n (c.conv.waiting.any fun x => x.2.2.req == r) * 2 ^ r) 0
  c.put R.convStatus (BitVec.ofNat 32 (core 0 + core 1 * 256 + pend * 65536))

/-- A resync, a stall or a change of DIR since the converter last looked ends the angle windows (R405). -/
def settleAngles (c : Chip) : Chip :=
  if c.pred.turned then (c.abortAngles.modPred fun p => { p with turned := false }).showConv else c

/-! ## Scheduler and host access -/

/-- A happening waits for its CONV edge. -/
def convEnqueue (x : Nat × ConvAct) (c : Chip) : Chip :=
  let c1 := c.modConv fun v => { v with inbox := v.inbox ++ [x] }
  c1.modConv fun v => { v with inbox := c1.liveInbox }

/-- The execution of a converter edge at step `at'` (R395, R396, R403, R404). -/
def convStart (r idx at' : Nat) (timeMode : Bool) (dur : Nat) (c : Chip) : Chip :=
  let w : ConvWin := if timeMode then
      { req := r, idx := idx, angle := false, len := min dur 1000000, short := decide (dur < 100), trunc := decide (1000000 < dur) }
    else { req := r, idx := idx, angle := true, short := decide (dur < 1024) }
  c.convEnqueue (c.convEdge at', .open w)

/-- The end edge of an angle window's descriptor. -/
def convEnd (r idx at' : Nat) (c : Chip) : Chip :=
  c.convEnqueue (c.convEdge at', .close r idx)

/-- A SYNC for core `k` at step `at'`. -/
def convSync (k at' : Nat) (c : Chip) : Chip :=
  c.convEnqueue (c.convEdge at', .sync k)

/-- A commit to CONV_START at its tick: a host time window for every bit set (R395, R399). -/
def commitConvStart (v : Nat) (c : Chip) : Chip :=
  (List.range 16).foldl (fun d r =>
    if bitOf v r then
      let n := max 1 (min 1000000 ((d.get (R.reqTime r)).toNat % 2 ^ 20))
      d.convEnqueue (d.conv.base, .open { req := r, angle := false, len := n, short := decide (n < 100) })
    else d) c

/-- A commit to CONV_SYNC at its tick (R404). -/
def commitConvSync (v : Nat) (c : Chip) : Chip :=
  (List.range 2).foldl (fun d k => if bitOf v k then d.convSync k 0 else d) c

/-- The windows that satisfy `p` end at the tick: the open ones ABORTED, the pending ones MISSED, those whose open had come before the tick
among them; an open that is applied at the tick itself comes after the commit (R394; log entry 115). -/
def endAffected (p : Nat → ConvWin → Bool) (c : Chip) : Chip :=
  let b := c.conv.base
  let c1 := c.openWaiting fun e w => p (c.reqCore w.req) w && decide (e < b)
  (c1.abortOpen p b).missWaiting fun x => p x.1 x.2.2

/-- A commit to CORE_CFG_k or REQ_CFG_r at its tick (R394, R409); one of WM_LEVEL re-evaluates WM_ABOVE (R417). -/
def commitConvCfg (a : Nat) (v : DWord) (c : Chip) : Chip :=
  let c1 := c.storeMasked a v
  let b := c.conv.base
  match (List.range 2).find? fun k => R.coreCfg k == a with
  | some k =>
    let modeMoved := c.isContinuous k != c1.isContinuous k
    let c2 := if modeMoved then ((c.endAffected fun j _ => j == k).storeMasked a v).monitorSecond b else c1
    if c2.isContinuous k && (modeMoved || c.osrOf k != c1.osrOf k ||
        c.fld (F.coreCfg_CONT_REQ k) != c1.fld (F.coreCfg_CONT_REQ k)) then c2.restart k b else c2
  | none =>
    match (List.range 16).find? fun r => R.reqCfg r == a with
    | some r =>
      if c.reqCore r = c1.reqCore r ∧ c.reqInput r = c1.reqInput r then c1
      else
        (List.range 2).foldl (fun d k => if d.isContinuous k && d.fld (F.coreCfg_CONT_REQ k) == r then d.restart k b else d)
          ((c.endAffected fun _ w => w.req == r).storeMasked a v)
    | none => match (List.range 16).find? fun r => R.resWm r == a with
      | some r => c1.showRing r
      | none => c1

/-- A commit of RING_TAIL_r at its tick (R414). -/
def commitRingTail (r v : Nat) (c : Chip) : Chip :=
  if 512 < ((c.get (R.resHead r)).toNat + 1024 - v % 1024) % 1024 then c.portErr 2
  else (c.put (R.resTail r) (BitVec.ofNat 32 (v % 1024))).showRing r

/-- A monitor burst (R420): the VBAT window, and the next slot of the rotation after it. -/
def monitorBurst (c : Chip) : Chip :=
  let k := (c.get R.monCfg).toNat % 2
  let second : Nat × Nat := match c.conv.slot with
    | 0 => (8, 0)
    | 1 => (8, 1)
    | 2 => (10, k)
    | 3 => (11, k)
    | 4 => (12, k)
    | 5 => (13, k)
    | 6 => (14, k)
    | 7 => (15, 0)
    | _ => (15, 1)
  let c1 := c.modConv fun v => { v with slot := (v.slot + 1) % 9, burst := some v.base, second := some second }
  (c1.openTimed { req := 16, code := 9, angle := false, len := 100 } k c.conv.base).monitorSecond c.conv.base

/-! ## The order at one edge (R400) -/

/-- The end edge of the window that `x` opens. -/
def ownEnd (x y : ConvAct) : Bool :=
  match x, y with
  | .open w, .close r i => w.angle && w.req == r && w.idx == i
  | _, _ => false

/-- Happening `y` comes before happening `x` on their core (R400); the end of a window whose both ends fall on one edge comes
after its open (R396). -/
def actBefore (y x : Nat × ConvAct) : Bool :=
  decide (y.1 < x.1) || (y.1 == x.1 && ((decide (actRank y.2 < actRank x.2) && !ownEnd x.2 y.2) || ownEnd y.2 x.2))

/-- A happening may act: nothing of its core that comes before it still waits, and no time window of the core is due to
complete at or before its edge. -/
def actReady (c : Chip) (x : Nat × ConvAct) : Bool :=
  let k := c.actCore x.2
  !c.liveInbox.any (fun y => c.actCore y.2 == k && actBefore y x) &&
  (match (c.coreOf k).win with
    | some w => w.angle || decide (x.1 < w.opened + w.len)
    | none => true)

/-- The first waiting happening that satisfies `p`. -/
def inboxFind (c : Chip) (p : ConvAct → Bool) : Option (Nat × ConvAct) := c.liveInbox.find? fun x => p x.2

/-- Nothing of core `k` waits for the edge `e` or one before it, so that a pending window may be judged there (R400). -/
def edgeClear (c : Chip) (k e : Nat) : Bool := !c.liveInbox.any fun y => c.actCore y.2 == k && decide (y.1 ≤ e)

/-- The pending time window `x` could start now: it is the first of its core, which is free (R400). -/
def couldStart (c : Chip) (x : Nat × Nat × ConvWin) : Bool :=
  (c.coreOf x.1).win.isNone && (c.conv.waiting.find? fun y => y.1 == x.1) == some x

/-- A happening taken off the inbox. -/
def inboxDrop (x : Nat × ConvAct) (c : Chip) : Chip :=
  c.modConv fun v => { v with inbox := dropFirst (fun y => y = x) v.inbox }

end Chip

/-! ## Commands -/

/-- CONV_WINDOW_OPEN (R396, R401, R402): the waiting open of request `r` is applied at its CONV edge. -/
def execConvWindowOpen (r : Fin 16) (s : State) : Host.Outcome State Fault Refusal :=
  s.run fun c =>
    match c.inboxFind (fun a => match a with
      | .open w => w.req == r.val
      | _ => false) with
    | some (e, .open w) =>
      if c.frameRuns && c.actReady (e, .open w) then
        let d := c.inboxDrop (e, .open w)
        ((if w.angle then d.openAngle w e else d.openTimed w (d.reqCore r) e).monitorSecond e).showConv
      else c
    | _ => c

/-- CONV_WINDOW_CLOSE (R396, R398): the end edge of an angle window of request `r` is applied, and its result, the mean `raw`
in units of R389 over the input that R388 selects, is written; `clip` says that this input left the span meanwhile. -/
def execConvWindowClose (r : Fin 16) (raw : Int) (s : State) (clip : Bool := false) : Host.Outcome State Fault Refusal :=
  s.run fun c =>
    match c.inboxFind (fun a => match a with
      | .close q _ => q == r.val
      | _ => false) with
    | some (e, .close q i) =>
      if c.frameRuns && c.actReady (e, .close q i) then
        let d := c.inboxDrop (e, .close q i)
        let k := d.runsOn r
        match (d.coreOf k).win with
        | some w =>
          if w.angle && w.req == r.val && w.idx == i then (d.finishWin w k (if w.short then 5 else 0) raw clip e).showConv
          else d
        | none => d
      else c
    | _ => c

/-- TIME_WINDOW_COMPLETE (R396): the time window of core `k` completes its length; its mean is `raw`, and `clip` says that the
input left the span. -/
def execTimeWindowComplete (k : Fin 2) (raw : Int) (s : State) (clip : Bool := false) : Host.Outcome State Fault Refusal :=
  s.run fun c => match (c.coreOf k).win with
    | some w =>
      if c.frameRuns && !w.angle && c.edgeCome (w.opened + w.len) then
        (c.finishWin w k (if w.trunc then 4 else if w.short then 5 else 0) raw clip (w.opened + w.len)).showConv
      else c
    | none => c

/-- PENDING_WINDOW_START (R400, R402): the first pending time window of core `k` starts at the CONV edge at step `at'`, not before its
own open and the end of the core's last window, nor after MAX_LAT. -/
def execPendingWindowStart (k : Fin 2) (at' : Fin 403) (s : State) : Host.Outcome State Fault Refusal :=
  s.run fun c => match c.conv.waiting.find? fun x => x.1 == k.val with
    | some (j, e, w) =>
      if c.frameRuns && (c.coreOf k).win.isNone && c.edgeClear k (c.convEdge at') &&
          decide (max e (c.coreOf k).freed ≤ c.convEdge at') && decide (c.convEdge at' ≤ e + c.maxWait w) then
        ((c.modConv fun v => { v with waiting := dropFirst (fun x => x = (j, e, w)) v.waiting }).openWin w k (c.convEdge at')).showConv
      else c
    | none => c

/-- PENDING_WINDOW_EXPIRE (R402): the wait of the pending time window of request `r` (16 the monitor) has reached MAX_LAT at
step `at'`. -/
def execPendingWindowExpire (r : Fin 17) (at' : Fin 403) (s : State) : Host.Outcome State Fault Refusal :=
  s.run fun c => match c.conv.waiting.find? fun x => x.2.2.req == r.val with
    | some (k, e, w) =>
      if c.frameRuns && decide (e + c.maxWait w ≤ c.convEdge at') && c.edgeClear k (c.convEdge at') && !c.couldStart (k, e, w) then
        ((((c.modConv fun v => { v with waiting := dropFirst (fun x => x = (k, e, w)) v.waiting }).loseWindow w k 2 true)).monitorSecond
          (c.convEdge at')).showConv
      else c
    | none => c

/-- WINDOW_TRUNCATE (R399): the window of core `k` reaches its limit, 2^28 clocks or 1 000 000 clocks of a scheduler time
window, and closes TRUNCATED. -/
def execWindowTruncate (k : Fin 2) (raw : Int) (s : State) (clip : Bool := false) : Host.Outcome State Fault Refusal :=
  s.run fun c => match (c.coreOf k).win with
    | some w =>
      let e := w.opened + (if w.angle then 2 ^ 28 else w.len)
      if c.frameRuns && (w.angle || w.trunc) && c.edgeCome e then (c.finishWin w k 4 raw clip e).showConv else c
    | none => c

/-- CONV_SYNC_APPLY (R404, R408): the waiting SYNC of core `k` acts at its CONV edge. -/
def execConvSyncApply (k : Fin 2) (s : State) : Host.Outcome State Fault Refusal :=
  s.run fun c =>
    match c.inboxFind (fun a => match a with
      | .sync j => j == k.val
      | _ => false) with
    | some (e, .sync j) =>
      if c.frameRuns && c.actReady (e, .sync j) then ((c.inboxDrop (e, .sync j)).syncCore j e).showConv else c
    | _ => c

/-- DECIMATOR_OUTPUT (R407, R408): a decimation period of continuous core `k` ends, and its next output is delivered. The input over
the period was `raw` as the newest third of the sinc³ kernel weighs it, and `varies` as the middle and the oldest third do, where
it was not constant; `clip` says that it left the span (log entry 117). -/
def execDecimatorOutput (k : Fin 2) (raw : Int) (s : State) (varies : Option (Int × Int) := none) (clip : Bool := false) :
    Host.Outcome State Fault Refusal :=
  s.run fun c =>
    let n := (c.coreOf k).outputs + 1
    if c.frameRuns && c.isContinuous k && c.servedReq k != 31 && c.edgeCome ((c.coreOf k).syncAt + n * c.osrOf k) then
      let x := varies.getD (raw, raw)
      let left := clip || Chip.inSpan raw != raw || Chip.inSpan x.1 != x.1 || Chip.inSpan x.2 != x.2
      let v := c.decimate k (Chip.inSpan raw) (Chip.inSpan x.1) (Chip.inSpan x.2)
      (v.2.result (c.servedReq k) k (if n ≤ 2 then 1 else 0) left (Chip.valueOf (Chip.inSpan v.1))).showConv
    else c

/-- CONV_START (R395): a commit to CONV_START acts at a frame tick. -/
def execConvStart (mask : Word) (s : State) : Host.Outcome State Fault Refusal :=
  s.run fun c => if c.frameRuns then ((c.takeCommit R.convStart).commitConvStart mask.toNat).showConv else c

/-- CONV_SYNC (R404): a commit to CONV_SYNC acts at a frame tick. -/
def execConvSync (mask : BitVec 2) (s : State) : Host.Outcome State Fault Refusal :=
  s.run fun c => if c.frameRuns then ((c.takeCommit R.convSync).commitConvSync mask.toNat).showConv else c

/-- RING_TAIL_COMMIT (R414): a commit of RING_TAIL_r acts at a frame tick. -/
def execRingTailCommit (r : Fin 16) (v : DWord) (s : State) : Host.Outcome State Fault Refusal :=
  s.run fun c => if c.frameRuns then (c.takeCommit (R.resTail r)).commitRingTail r v.toNat else c

/-- MONITOR_BURST (R420): at a tick at which FRAME_COUNT mod 100 is 0 the supervisor starts one burst, unless it is halted (R56). -/
def execMonitorBurst (s : State) : Host.Outcome State Fault Refusal :=
  s.run fun c => if c.frameRuns && c.supRuns && c.tb.frame.toNat % 100 == 0 && c.conv.burst != some c.conv.base then c.monitorBurst.showConv else c

end Sys2Proof.Machine
end

