-- ==== Sys2Proof/Machine/Wheels.lean ====
section
/-!
DEFINITION. Wheels and sensor inputs (04), tooth-error learning (R208 to R216), the clock monitor (R253 to R255) and the
commands of both families: edges, thresholds, missing signal, stall and dead-reckoning limit, clock fallback.
-/

namespace Sys2Proof.Machine

/-! ## Ratios of a tooth table (R166 to R168) -/

/-- The polarity of entry `j`. -/
def ToothTable.pol (tb : ToothTable) (j : Nat) : Bool := (tb.teeth.getD j ⟨0, false, false⟩).pol

/-- The forward angle from entry `i` to entry `j` modulo SPAN; from an entry to itself, one revolution. -/
def ToothTable.gap (tb : ToothTable) (i j : Nat) : Nat :=
  let a (k : Nat) := (tb.teeth.getD k ⟨0, false, false⟩).angle
  let d := (a j + tb.span - a i) % tb.span
  if d = 0 then tb.span else d

/-- The table interval that ends at entry `j`, read forward or in reverse. -/
def ToothTable.interval (tb : ToothTable) (j : Nat) (rev : Bool) : Nat :=
  if rev then tb.gap j (nextEntry tb j false) else tb.gap (nextEntry tb j true) j

/-- The measured ratio d/d′ fits the table ratio D/D′ (R167). -/
def ratioFits (tol d dPrev tD tPrev : Nat) : Bool :=
  ((d * tPrev : Int) - (tD * dPrev : Int)).natAbs * 256 < tol * (tD * dPrev)

/-- The entry `k` places before entry `j` in a reading. -/
def ToothTable.back (tb : ToothTable) (j k : Nat) (rev : Bool) : Nat := stepN (fun i => nextEntry tb i (!rev)) k j

/-- The `k`-th last measured ratio of a history fits the table at the place it has when the newest edge is at entry `j`;
where both edges count, the polarity must agree too. -/
def ToothTable.fitsAt (tb : ToothTable) (both : Bool) (h : List (Nat × Bool)) (j k : Nat) (rev : Bool) : Bool :=
  match h.drop k with
  | (t2, p) :: (t1, _) :: (t0, _) :: _ =>
    let e := tb.back j k rev
    ratioFits tb.tol (t2 - t1) (t1 - t0) (tb.interval e rev) (tb.interval (tb.back e 1 rev) rev) &&
      (!both || p == (tb.pol e != rev))
  | _ => false

/-- The positions at which the last MATCH_DEPTH ratios fit, in one reading (R168). -/
def ToothTable.signature (tb : ToothTable) (both : Bool) (h : List (Nat × Bool)) (rev : Bool) : List Nat :=
  (List.range tb.teeth.length).filter fun j => (List.range tb.depth).all fun k => tb.fitsAt both h j k rev

/-- The outcome of a signature test (R169) with CONFIRM fitting edges still required. -/
def ToothTable.test (tb : ToothTable) (both : Bool) (h : List (Nat × Bool)) (confirm : Nat) : Option Candidate :=
  if h.length < tb.depth + 2 then none else
  match tb.signature both h false, tb.signature both h true with
  | [j], [] => some ⟨j, true, false, confirm⟩
  | [j], _ :: _ => some ⟨j, false, false, confirm⟩
  | [], [j] => some ⟨j, true, true, confirm⟩
  | _, _ => none

namespace Chip

/-! ## Input configuration -/

/-- MODE of an input: 1 VR, 2 Hall, anything else off (R150). -/
def wheelMode (c : Chip) (n : Nat) : Nat := if c.fld (F.wheelCfg_MODE n) = 3 then 0 else c.fld (F.wheelCfg_MODE n)

/-- Both edges of a Hall input count (R154). -/
def bothEdges (c : Chip) (n : Nat) : Bool := c.wheelMode n == 2 && decide (2 ≤ c.fld (F.wheelCfg_EDGE_SEL n))

/-- The single polarity EDGE_SEL selects (R151, R154). -/
def onePolarity (c : Chip) (n : Nat) : Bool := c.fld (F.wheelCfg_EDGE_SEL n) != 0

/-- The input produces edges of this polarity. -/
def selects (c : Chip) (n : Nat) (pol : Bool) : Bool := c.wheelMode n != 0 && (c.bothEdges n || pol == c.onePolarity n)

/-- LOG of an input selects an edge: every edge, or rejected edges and misfits (R160, R194). -/
def logSelects (c : Chip) (n : Nat) (bad : Bool) : Bool :=
  c.fld (F.wheelCfg_LOG n) == 1 || (c.fld (F.wheelCfg_LOG n) == 2 && bad)

/-! ## Edge capture log (R191 to R194) -/

/-- The byte offset of the log. -/
def edgeLog : Nat := 320 * 256

/-- One log entry is written and HEAD advances from 1 to 1023 and back to 1 with WRAPS up (R192, R194). -/
def writeRow (ws : List (Nat × Nat)) (c : Chip) : Chip :=
  let head := max 1 (c.ownWord (edgeLog / 2) % 1024)
  let wraps := c.ownWord (edgeLog / 2 + 1)
  let c1 := c.putRecord (edgeLog + 16 * head) ws
  if head = 1023 then (c1.putWin16 edgeLog 1).putWin16 (edgeLog + 2) ((wraps + 1) % 65536)
  else c1.putWin16 edgeLog (head + 1)

/-- The instant before which no edge waits to be taken in. -/
def noneBefore (c : Chip) (steps : Nat) : Bool :=
  (List.range 4).all fun n => match (at? c.wheels n {}).queue.head? with
    | some e => decide (steps ≤ e.steps)
    | none => true

/-- The entries of the log that wait, passed through `f`. -/
def modRows (f : List LogRow → List LogRow) (c : Chip) : Chip := { c with win := { c.win with rows := f c.win.rows } }

/-- The entries that no waiting edge precedes are written, in the order of their instants (R194). -/
def flushRows (c : Chip) : Chip :=
  (c.win.rows.filter fun x => c.noneBefore x.steps).foldl (fun d x => d.writeRow x.words)
    (c.modRows fun l => l.filter fun x => !c.noneBefore x.steps)

/-- A row is put in its place by its instant. -/
def rowInsert (x : LogRow) (l : List LogRow) : List LogRow :=
  l.filter (fun y => decide (y.steps ≤ x.steps)) ++ [x] ++ l.filter fun y => decide (x.steps < y.steps)

/-- The log entry of an edge (R193), written once no edge with an earlier instant waits on any input: a Hall edge is accepted
HALL_FILT cycles after its instant (R158, R194). MODE of the input is that of the phase A which takes the edge in (log entry 103). -/
def logEdge (n : Nat) (e : EdgeIn) (misfit isMatched : Bool) (pos : Nat) (c : Chip) : Chip :=
  let vr := c.wheelMode n == 1
  let t := e.time.toNat
  let info := n * 16384 + b2n e.pol * 8192 + b2n e.glitch * 4096 + b2n misfit * 2048 + b2n isMatched * 1024 +
    c.pred.dir * 256 + (if isMatched then pos % 256 else 0)
  let ws :=
    [(1, info), (2, e.epoch.toNat), (3, t % 65536), (4, t / 65536 % 65536), (5, t / 2 ^ 32 % 65536), (6, t / 2 ^ 48),
     (7, if vr then e.arm % 256 * 256 + e.peak % 256 else 0)]
  (c.modRows (rowInsert { steps := e.steps, words := ws })).flushRows

/-! ## Accepting an edge (R151 to R157) -/

/-- The edge follows the last accepted one too closely (R155, R156). -/
def isGlitch (c : Chip) (n t : Nat) : Bool :=
  let w := c.wheel n
  match w.lastStep with
  | none => false
  | some t0 =>
    let d := t - t0
    let tooSoon := decide (d < max 625 (c.fld (F.wheelFilt_MIN_ABS n)) * 16)
    match w.table with
    | none => tooSoon
    | some tb =>
      let rev := c.pred.dir == 2
      let j := c.fld (F.wheelStatus_POSITION n)
      tooSoon || (c.matched n &&
        decide (d * 16 * tb.interval j rev < c.fld (F.wheelFilt_MIN_FRAC n) * w.lastInterval * tb.interval (nextEntry tb j rev) rev))

/-- The glitches rejected within the last 256 accepted edges (R189). -/
def recentGlitches (c : Chip) (n : Nat) : List Nat :=
  (c.wheel n).glitchAt.filter fun g => ((c.get (R.wheelEdges n)).toNat + 2 ^ 32 - g) % 2 ^ 32 < 256

/-- An edge put into the queue of an input, in the order of the instants. -/
def queueEdge (e : EdgeIn) (l : List EdgeIn) : List EdgeIn :=
  l.filter (fun x => decide (x.steps ≤ e.steps)) ++ [e] ++ l.filter fun x => decide (e.steps < x.steps)

/-- An edge rejected as a glitch: counted, queued to be logged in its order, and WHEEL_GLITCH at the rise above 16; a VR input stays
armed (R155, R189, R194). -/
def rejectEdge (n : Nat) (e : EdgeIn) (c : Chip) : Chip :=
  let c1 := (c.incFld (F.wheelCounts_GLITCHES n)).modWheel n fun w =>
    { w with armed := c.wheelMode n == 1, glitchAt := (c.get (R.wheelEdges n)).toNat :: c.recentGlitches n, queue := queueEdge { e with glitch := true } w.queue }
  if 16 < (c1.recentGlitches n).length && !(c1.wheel n).glitchHigh then
    (c1.modWheel n fun w => { w with glitchHigh := true }).fault 0x0204 n 0
  else c1

/-- Amplitude supervision of a VR input: eight consecutive teeth below, or at or above, twice ARM_FLOOR (R188). -/
def checkAmplitude (n peak : Nat) (c : Chip) : Chip :=
  if c.wheelMode n != 1 then c else
  let low := decide (peak < 2 * c.fld (F.wheelVr_ARM_FLOOR n))
  let c1 := c.modWheel n fun w =>
    { w with lowRun := if low then min 8 (w.lowRun + 1) else 0, highRun := if low then 0 else min 8 (w.highRun + 1) }
  if (c1.wheel n).lowRun = 8 && !c1.flag (F.wheelStatus_LOW_AMPL n) then
    (c1.setFlag (F.wheelStatus_LOW_AMPL n) true).fault 0x0203 n 0
  else if (c1.wheel n).highRun = 8 then c1.setFlag (F.wheelStatus_LOW_AMPL n) false
  else c1

/-- The arming threshold after an accepted edge (R152). -/
def nextThreshold (c : Chip) (n peak : Nat) : Nat :=
  max (c.fld (F.wheelVr_ARM_FLOOR n)) (max 1 (c.fld (F.wheelVr_ARM_FRAC n)) * peak / 16)

/-- An accepted edge on the twin side: the owner sends it, a follower keeps it for the comparison (R574, R578, R579). -/
def notePair (n : Nat) (e : EdgeIn) (c : Chip) : Chip :=
  if !c.paired then c else
  let p : PairEdge := { input := n, pol := e.pol, steps := e.steps }
  c.modTwin fun t => { t with edges := t.edges ++ [p], mine := if c.isOwner then t.mine else t.mine ++ [p] }

/-- LAST_AMPL of input `n`: the peak of the last accepted VR tooth, 0 in Hall mode (R153, R160). -/
def showAmpl (n : Nat) (c : Chip) : Chip :=
  c.setFld (F.wheelStatus_LAST_AMPL n) (if c.wheelMode n = 2 then 0 else (c.wheel n).ampl)

/-- An edge accepted with its timestamp: counted, queued for phase A, the threshold moved and the arming used, ROTATING set
(R151, R152, R157, R160, R187, R252). -/
def acceptEdge (n : Nat) (e : EdgeIn) (c : Chip) : Chip :=
  let vr := c.wheelMode n == 1
  let c1 := c.modWheel n fun w =>
    { w with
      queue := if c.follows then w.queue else queueEdge e w.queue
      lastInterval := match w.lastStep with
        | some t0 => e.steps - t0
        | none => w.lastInterval
      lastStep := some e.steps
      spent := vr, armed := false, quiet := 0, ampl := if vr then e.peak else w.ampl
      threshold := if vr then c.nextThreshold n e.peak else w.threshold }
  let c2 := ((c1.put (R.wheelEdges n) (c1.get (R.wheelEdges n) + 1)).showAmpl n).setFlag (F.wheelStatus_NO_SIGNAL n) false
  let c3 := (c2.checkAmplitude n e.peak).modWheel n fun w =>
    { w with glitchAt := c2.recentGlitches n, glitchHigh := w.glitchHigh && decide (16 < (c2.recentGlitches n).length) }
  let c4 := c3.notePair n e
  if c4.pred.active = some .ring then c4 else c4.setFlag F.pwrState_ROTATING true

/-! ## Tooth tables (R162 to R165, R212) -/

/-- The byte offset of input `n`'s tooth table. -/
def toothOff (n : Nat) : Nat := (10 + 4 * n) * 256

/-- Tooth entry `j` as stored. -/
def toothAt (c : Chip) (n j : Nat) : Nat := c.win32 (toothOff n + 16 + 4 * j)

/-- The angles strictly ascend from `a`, below `span`. -/
def ascends (span : Nat) : Nat → List Nat → Bool
  | _, [] => true
  | a, b :: l => decide (a < b) && decide (b < span) && ascends span b l

/-- The table as stored (R162). -/
def readTooth (c : Chip) (n : Nat) : ToothTable :=
  { span := c.win32 (toothOff n + 4) % 2 ^ 24, refOffset := c.win32 (toothOff n + 8) % 2 ^ 24
    tol := (c.winByte (toothOff n + 12)).toNat, depth := (c.winByte (toothOff n + 13)).toNat % 16
    teeth := (List.range (c.win16 (toothOff n + 2))).map fun j =>
      { angle := c.toothAt n j % 2 ^ 24, pol := bitOf (c.toothAt n j) 24, noLearn := bitOf (c.toothAt n j) 25 } }

/-- The lowest-numbered refusal cause of a table that is not empty (FORMAT 0 without damage), 0 for none (R163); `eccOk` says that no word
of it holds a double error. -/
def toothCause (c : Chip) (n : Nat) (eccOk : Bool) : Nat :=
  let o := toothOff n
  let cnt := c.win16 (o + 2)
  if c.win16 o != 0 && c.win16 o != 1 then 1
  else if cnt = 0 || decide (252 < cnt) then 2
  else
    let tb := c.readTooth n
    let angles := tb.teeth.map fun t => t.angle
    if tb.span != (if n < 2 then 368640 else c.cycleLen) || decide (tb.span ≤ tb.refOffset) then 3
    else if angles.head? != some 0 || !ascends tb.span 0 angles.tail then 4
    else if c.wheelMode n != 0 && !c.bothEdges n && tb.teeth.any (fun t => t.pol != c.onePolarity n) then 5
    else if !eccOk || (c.words o 512).sum % 65536 != 0 then 6
    else if tb.tol < 16 || 96 < tb.tol || tb.depth = 0 || 4 < tb.depth || 16 ≤ (c.winByte (o + 13)).toNat ||
        (c.winByte (o + 11)).toNat != 0 || (List.range cnt).any (fun j => decide (2 ^ 26 ≤ c.toothAt n j)) then 8
    else 0

/-- The byte offset of input `n`'s learned table. -/
def learnOff (n : Nat) : Nat := (26 + 2 * n) * 256

/-- The device has written the learned table of input `n`, which an owner mirrors (R585). -/
def noteWrote (n : Nat) (c : Chip) : Chip :=
  c.modTwin fun t => { t with wrote := [26 + 2 * n, 27 + 2 * n].foldl (fun l b => if l.contains b then l else l ++ [b]) t.wrote }

/-- An adopted table whose N_ENTRIES differs from the learned table's clears the internal copy and, where the device owns
both learned blocks, the learned table (R212); a damaged N_ENTRIES is invalid and reported (R755). While it does not own them, only
the count of the copy that it took in last is known to it (R114). -/
def matchLearned (n cnt : Nat) (c : Chip) : Chip :=
  let forget (d : Chip) : Chip := d.modWheel n fun w => { w with corr := [], corrNew := none }
  if 2 ≤ n then c
  else if c.deviceHeld (26 + 2 * n) && c.deviceHeld (27 + 2 * n) then
    let p := c.engineCheck (learnOff n + 4) 1
    if p.1 && p.2.win16 (learnOff n + 4) == cnt then p.2
    else forget (((p.2.doIf (!p.1) (fault 0x020B n 0)).putWords (learnOff n) (List.replicate 256 0)).noteWrote n)
  else if ((c.wheel n).corrNew.getD (c.wheel n).corr).length = cnt then c else forget c

/-- A tooth table is taken in at the return tick of one of its blocks (R163, R164). -/
def takeTooth (n : Nat) (c : Chip) : Chip :=
  if !((List.range 4).all fun k => c.deviceHeld (10 + 4 * n + k)) then
    (((c.dropChoice n).setFld (F.wheelStatus_TABLE_ERR n) 7).modWheel n fun w => { w with table := none }).setFld
      (F.wheelStatus_ACQ n) 0
  else
    let p := c.engineCheck (toothOff n) 512
    let c1 := p.2
    if c1.win16 (toothOff n) = 0 && p.1 then
      (c1.modWheel n fun w => { w with table := none }).restartInput n
    else
      let cause := c1.toothCause n p.1
      if cause = 0 then
        let tb := c1.readTooth n
        ((c1.modWheel n fun w => { w with table := some tb }).matchLearned n tb.teeth.length).restartInput n
      else
        (((c1.setFld (F.wheelStatus_TABLE_ERR n) cause).modWheel n fun w => { w with table := none }).restartInput n).fault
          0x0201 n 0

/-- A learned table is taken in once both its blocks are held (R210, R211); one with a damaged word is reported whatever its FORMAT reads
(R755; log entry 104). -/
def takeLearned (n : Nat) (c : Chip) : Chip :=
  if !(c.deviceHeld (26 + 2 * n) && c.deviceHeld (27 + 2 * n)) then c else
  let p := c.engineCheck (learnOff n) 256
  let c1 := p.2
  let fmt := c1.win16 (learnOff n + 2)
  let cnt := match (c1.wheel n).table with
    | some tb => tb.teeth.length
    | none => 0
  if p.1 && fmt == 1 && c1.win16 (learnOff n + 4) == cnt then
    c1.modWheel n fun w =>
      { w with corrNew := some ((List.range cnt).map fun j =>
          let v := c1.win16 (learnOff n + 8 + 2 * j)
          (if j = 0 then 0 else signedOf 13 (v % 8192), v / 8192)) }
  else
    let c2 := c1.modWheel n fun w => { w with corr := [], corrNew := none }
    if p.1 && fmt == 0 then c2 else c2.fault 0x020B n 0

/-- The reference configuration as stored in block 30 (R220). -/
def readRefConfig (c : Chip) : RefConfig :=
  let o := 30 * 256
  { rank := c.win16 (o + 2), qGood := (c.winByte (o + 4)).toNat, blendTeeth := (c.winByte (o + 5)).toNat
    ringMaster := (c.winByte (o + 6)).toNat % 4, corrPitch := c.win32 (o + 8) % 2 ^ 24, drLimit := c.win32 (o + 12) % 2 ^ 24
    baseCrankA := c.win16 (o + 16), baseCrankB := c.win16 (o + 18), baseCam := c.win16 (o + 20), baseRing := c.win16 (o + 22)
    baseDr := c.win16 (o + 24), unlearned := c.win16 (o + 26), consistTol := c.win16 (o + 28) }

/-- A configuration of format 1 that R221 does not refuse. -/
def refConfigOk (c : Chip) : Bool :=
  let o := 30 * 256
  let k := c.readRefConfig
  let places := [bitsOf k.rank 15 12, bitsOf k.rank 11 8, bitsOf k.rank 7 4, bitsOf k.rank 3 0]
  let codes := places.filter fun x => x != 15
  codes.all (fun x => decide (x < 4)) && decide codes.Nodup && k.corrPitch != 0 && decide (2 * k.corrPitch < c.cycleLen) &&
    k.drLimit != 0 && decide ((c.winByte (o + 6)).toNat < 4) && c.winByte (o + 7) == 0 && c.winByte (o + 11) == 0 &&
    c.winByte (o + 15) == 0 && (c.words o 16).sum % 65536 == 0

/-- The target after a configuration is adopted: the best qualified reference that now ranks above the active one, to which a
running blend turns at once (R222, R231). -/
def retarget (c : Chip) : Chip :=
  match c.pred.active with
  | none => c
  | some act =>
    if c.pred.blend.isSome then
      match c.bestAbove act with
      | some r => c.turnBlend r
      | none => c
    else c.modPred fun p => { p with target := c.bestAbove act }

/-- A configuration comes into force: a snapshot of another position master than the one it names keeps RING available no
longer (R218, R222). -/
def adoptRefConfig (k : RefConfig) (c : Chip) : Chip :=
  (c.modPred fun p =>
    { p with cfg := k, ringFresh := p.ringFresh && k.ringMaster == p.cfg.ringMaster
             ringModel := if k.ringMaster = p.cfg.ringMaster then p.ringModel else none }).retarget

/-- Block 30 is taken in at its return tick (R114, R220 to R222). -/
def takeRefConfig (c : Chip) : Chip :=
  if !c.deviceHeld 30 then c else
  let o := 30 * 256
  let p := c.engineCheck o 1
  if p.1 && p.2.win16 o == 0 then p.2.adoptRefConfig {}
  else
    let r := p.2.engineCheck (o + 2) 15
    if p.1 && r.1 && r.2.win16 o == 1 && r.2.refConfigOk then
      r.2.adoptRefConfig r.2.readRefConfig
    else r.2.fault 0x020B 0 0

/-! ## Phase and direction (R176 to R183) -/

/-- The phase is assigned; the angles move up by a revolution where the cam says so (R31, R177). -/
def assignPhase (upper : Bool) (c : Chip) : Chip :=
  let d := if upper then 368640 * oneFx else 0
  (c.modPred fun p =>
    { p with phase := true, camRun := 0
             model := p.model.map fun m => { m with ang := m.ang + d }
             source := p.source.map fun m => { m with ang := m.ang + d }
             blend := p.blend.map fun b => { b with start := b.start + d }
             th0 := p.th0 + d, th1 := p.th1 + d, th2 := p.th2 + d }).refreshSync

/-- The engine angles of the cam entries that lie within CAM_WINDOW of the crank angle `a` modulo one revolution and have the
edge's polarity (R177). -/
def camFits (c : Chip) (n : Nat) (tb : ToothTable) (pol : Bool) (a : Int) : List Int :=
  let win := (c.fld (F.wheelVerify_CAM_WINDOW n) * 256 : Int) * oneFx
  let r := 368640 * oneFx
  ((List.range tb.teeth.length).filter fun j =>
      (!c.bothEdges n || pol == (tb.pol j != (c.pred.dir == 2))) &&
        decide (((sgnDiff r (a % r) (c.entryAngle n tb j % r)).natAbs : Int) ≤ win)).map fun j => c.entryAngle n tb j

/-- A cam edge on the chosen input in CRANK_SYNC (R177): exactly one fitting entry assigns the phase; otherwise it is a
misfit of the cam input. Answers whether it was one. -/
def camAssign (n : Nat) (tb : ToothTable) (e : EdgeIn) (c : Chip) : Bool × Chip :=
  match c.camFits n tb e.pol (c.angleAt (stepsFx e.steps)) with
  | [x] => (false, c.assignPhase (decide (368640 * oneFx ≤ x)))
  | _ => (true, c.incFld (F.wheelCounts_MISFITS n))

/-- A cam edge on the chosen input in FULL_SYNC (R178): checked against the assigned phase; PHASE_CONFIRM consecutive edges
that fit only the other phase reassign it, as an angle correction. -/
def camCheck (n : Nat) (tb : ToothTable) (e : EdgeIn) (c : Chip) : Chip :=
  let a := c.angleAt (stepsFx e.steps)
  let m := (c.cycleLen : Int) * oneFx
  let win := (c.fld (F.wheelVerify_CAM_WINDOW n) * 256 : Int) * oneFx
  let fits := c.camFits n tb e.pol a
  if fits.any fun x => decide (((sgnDiff m a x).natAbs : Int) ≤ win) then c.modPred fun p => { p with camRun := 0 }
  else if fits.isEmpty then c
  else
    let c1 := ((c.modPred fun p => { p with camRun := p.camRun + 1 }).incFld (F.wheelCounts_CAM_CONFLICTS n)).fault 0x0207 n 0
    if max 1 (c1.fld (F.wheelVerify_PHASE_CONFIRM n)) ≤ c1.pred.camRun then
      (c1.modPred fun p => { p with camRun := 0 }).correct (368640 * oneFx)
    else c1

/-- A match of a cam input (R176): it may become the chosen one, and while the phase is unassigned the chosen input's match
assigns it directly. -/
def camMatched (n : Nat) (tb : ToothTable) (e : EdgeIn) (c : Chip) : Chip :=
  let c1 := if c.fld F.wheelSys_PHASE_INPUT = 2 && c.pred.camChosen.isNone then
    c.modPred fun p => { p with camChosen := some n } else c
  if c1.camInput = some n && !c1.pred.phase && !c1.flag F.wheelSys_ENGINE then
    let a := c1.angleAt (stepsFx e.steps)
    let x := c1.entryAngle n tb (c1.fld (F.wheelStatus_POSITION n))
    let m := (c1.cycleLen : Int) * oneFx
    if c1.pred.state = 1 then
      c1.assignPhase (decide ((sgnDiff m (a + 368640 * oneFx) x).natAbs < (sgnDiff m a x).natAbs))
    else c1.modPred fun p => { p with phase := true }
  else c1

/-- The input's match ends (R185): acquisition restarts from the next edge. -/
def loseMatch (n : Nat) (c : Chip) : Chip :=
  ((c.restartInput n).setFld (F.wheelStatus_ACQ n) 1).fault 0x0206 n 0

/-- DIR decided by the quadrature pair at an accepted CRANK_A edge at instant `t1` (R180). -/
def quadDir (c : Chip) (t1 : Nat) : Option Nat :=
  match c.pred.lastCrankA, c.pred.lastCrankB with
  | some t0, some b =>
    if c.flag F.wheelSys_QUAD_EN && c.pred.crankBTwice then some (if 2 * ((b : Int) - (t0 : Int)) < (t1 : Int) - (t0 : Int) then 1 else 2)
    else none
  | _, _ => none

/-! ## Learning (R213 to R216) -/

/-- MODE of learning lets a pass run. -/
def learnMode (c : Chip) : Bool :=
  c.fld F.predLearn_MODE == 2 || (c.fld F.predLearn_MODE == 1 && c.flag F.predLearn_COAST)

/-- The conditions a pass needs from its start to its end, but for steadiness (R213); a non-owner learns
nothing (R581). -/
def learnOk (c : Chip) (n : Nat) : Bool :=
  let sp := c.speedReading
  c.learnMode && !c.shadows && c.pred.active == Ref.ofCode n && !c.pred.blend.isSome && !c.pred.frozen && !c.pred.stall &&
    c.flag F.devStatus_XTAL_OK && c.pred.dir == 1 && decide (c.fld F.predLearn_LEARN_MIN * 32 ≤ sp) &&
    decide (sp ≤ c.fld F.predLearn_LEARN_MAX * 32) && c.deviceHeld (26 + 2 * n) && c.deviceHeld (27 + 2 * n)

/-- err_j of R214 as a fraction: numerator over the common denominator det. -/
def learnErr (tb : ToothTable) (x1 x2 x : Int) (angle : Nat) : Int × Int :=
  let s : Int := tb.span
  let det := x1 * x2 * (x2 - x1)
  (s * (x2 * x2 - 2 * x1 * x1) * x + s * (2 * x1 - x2) * x * x - (angle : Int) * det, det)

/-- The correction and confidence of an entry after an accepted pass (R214), rounded toward minus infinity. -/
def learnEntry (g : Nat) (old : Int × Nat) (err : Int × Int) : Int × Nat :=
  (clampInt (-4096) 4095 (Int.fdiv (old.1 * (16 - (g : Int)) * err.2 + 16 * err.1 * g) (16 * err.2)), min 7 (old.2 + 1))

/-- The header words of a learned table that the device reads before it writes the table anew, SEQ and PASSES (R128, R216): a damaged one
is invalid, so that the input runs without corrections, the damage is reported and the table begins anew (R136, R139, R755). -/
def readHeader (n : Nat) (c : Chip) : Chip :=
  let p := c.engineCheck (learnOff n) 4
  if p.1 then p.2
  else (((p.2.fault 0x020B n 0).putWords (learnOff n) (List.replicate 256 0)).modWheel n fun w => { w with corr := [], corrNew := none })

/-- The learned table written to its blocks; its corrections act from the next anchor (R216). -/
def writeLearned (n : Nat) (tb : ToothTable) (l : List (Int × Nat)) (c : Chip) : Chip :=
  let o := learnOff n
  let c1 := c.putRecord o ([(1, 1), (2, tb.teeth.length), (3, satAdd 0xFFFF (c.win16 (o + 6)) 1)] ++
    (List.range tb.teeth.length).map fun j =>
      let e := l.getD j (0, 0)
      (4 + j, if j = 0 then 0 else e.2 * 8192 + unsignedOf 13 e.1))
  (c1.modWheel n fun w => { w with corrNew := some l }).noteWrote n

/-- The end of a pass at `t2` (R214, R215). -/
def endPass (n : Nat) (tb : ToothTable) (ps : Pass) (t1 t2 : Nat) (c : Chip) : Chip :=
  let sp := c.speedReading
  if ps.speed < 50 * ((sp : Int) - (ps.speed : Int)).natAbs then c else
  let x1 : Int := (t1 : Int) - ps.t0
  let x2 : Int := (t2 : Int) - ps.t0
  let g := max 1 (c.fld F.predLearn_LEARN_GAIN)
  let live := ps.edges.filter fun e => e.1 != 0 && !(tb.teeth.getD e.1 ⟨0, false, false⟩).noLearn
  let err (e : Nat × Nat) : Int × Int :=
    learnErr tb x1 x2 ((e.2 : Int) - ps.t0) (tb.teeth.getD e.1 ⟨0, false, false⟩).angle
  let lim : Int := c.fld F.predLearn_LEARN_LIMIT
  if x1 ≤ 0 || x2 ≤ x1 then c
  else if live.any fun e => decide (lim * (err e).2 < (((err e).1.natAbs : Nat) : Int)) then
    (c.incFld F.predCounts_LEARN_REJECTS).fault 0x020C n 0
  else
    let d := c.readHeader n
    let old := (d.wheel n).corrNew.getD (d.wheel n).corr
    d.writeLearned n tb ((List.range tb.teeth.length).map fun j =>
      match live.find? fun e => e.1 == j with
      | some e => learnEntry g (old.getD j (0, 0)) (err e)
      | none => old.getD j (0, 0))

/-- An accepted edge of a matched crank input at entry `j` and its part in the learning pass (R213, R214). -/
def learnEdge (n j t : Nat) (c : Chip) : Chip :=
  if n ≥ 2 then c else
  match (c.wheel n).table with
  | none => c
  | some tb =>
    let setPass (p : Option Pass) (d : Chip) : Chip := d.modWheel n fun w => { w with pass := p }
    if !c.learnOk n then setPass none c
    else if j != 0 then
      setPass ((c.wheel n).pass.map fun p => if p.t1.isNone then { p with edges := p.edges ++ [(j, t)] } else p) c
    else
      match (c.wheel n).pass with
      | none => setPass (some ⟨t, none, [], c.speedReading⟩) c
      | some p => match p.t1 with
        | none => setPass (some { p with t1 := some t }) c
        | some t1 => setPass (some ⟨t, none, [], c.speedReading⟩) (c.endPass n tb p t1 t)

/-- A pass during which a condition lapses is discarded (R213). -/
def checkPasses (c : Chip) : Chip :=
  (List.range 2).foldl (fun d n =>
    if (d.wheel n).pass.isSome && !d.learnOk n then d.modWheel n fun w => { w with pass := none } else d) c

/-! ## Taking an edge in (R158, R166 to R186) -/

/-- The corrections adopted for input `n` come into force (R211, R216). -/
def adoptCorr (n : Nat) (c : Chip) : Chip :=
  c.modWheel n fun w => match w.corrNew with
    | some l => { w with corr := l, corrNew := none }
    | none => w

/-- The newest edge of input `n` fits its table: it is kept as the last one that an anchor may take (R195). -/
def noteFit (n : Nat) (c : Chip) : Chip :=
  c.modWheel n fun w => match w.hist with
    | (t1, _) :: (t0, _) :: _ => { w with fit := some { t1 := t1, t0 := t0, entry := c.fld (F.wheelStatus_POSITION n) } }
    | _ => w

/-- A fitting edge: the adopted corrections come into force (R211), then the predictor and learning take it. -/
def fittingEdge (n : Nat) (tb : ToothTable) (e : EdgeIn) (c : Chip) : Chip :=
  let c1 := (c.adoptCorr n).noteFit n
  let j := c1.fld (F.wheelStatus_POSITION n)
  let rev := c1.pred.dir == 2
  let d := tb.interval j rev
  let d0 := tb.interval (tb.back j 1 rev) rev
  let feature := decide (tb.tol * d0 < ((d : Int) - (d0 : Int)).natAbs * 256)
  (c1.edgeToPredictor n (stepsFx e.steps) feature).learnEdge n j e.steps

/-- A change of DIR decided at this edge anchors the model there (R244). -/
def decideDir (n : Nat) (tb : ToothTable) (dir pos : Nat) (e : EdgeIn) (c : Chip) : Chip :=
  if c.pred.dir = dir then c else
  let c1 := c.setDir dir
  match (c.wheel n).hist, c1.inputRef n with
  | (t1, _) :: (t0, _) :: _, some r =>
    c1.turnAbout r (c1.entryAngle n tb pos) (stepsFx t1) (Int.fdiv (stepsFx t1 - stepsFx t0) 256)
      ((tb.interval pos (dir == 2) : Int) * oneFx) pos
  | _, _ => c1.turnModels (stepsFx e.steps)

/-- A change of DIR decided at an edge of an input without a tooth table: the models only turn (R180, R244). -/
def turnDir (dir : Nat) (e : EdgeIn) (c : Chip) : Chip :=
  if c.pred.dir = dir then c else (c.setDir dir).turnModels (stepsFx e.steps)

/-- A candidate found: it sets DIR where its direction is determined and QUAD_EN is 0 (R181), and with CONFIRM 0 it is a match
at once (R170). -/
def takeCandidate (n : Nat) (tb : ToothTable) (e : EdgeIn) (k : Option Candidate) (c : Chip) : Chip :=
  match k with
  | none => c.modWheel n fun w => { w with cand := none }
  | some k =>
    let c1 := (c.modWheel n fun w => { w with cand := some k }).doIf (k.left == 0) (adoptCorr n)
    if k.known && !c.flag F.wheelSys_QUAD_EN then c1.decideDir n tb (if k.rev then 2 else 1) k.pos e else c1

/-- A match after a restart of its input places the input at an angle: where the predictor held another one, the difference is a
correction (R186, R237; log entry 74). A cam match leaves an assigned phase as it is, except that of its own lost reference (R176). -/
def rematch (n : Nat) (tb : ToothTable) (e : EdgeIn) (c : Chip) : Chip :=
  match c.pred.active, c.inputRef n with
  | some _, some r =>
    let held := c.angleAt (stepsFx e.steps)
    let a := c.entryAngle n tb (c.fld (F.wheelStatus_POSITION n))
    let d := sgnDiff c.modulus held (if c.pred.lostRef = some r then c.placeRef r a held else c.placeNear a held)
    let c1 := c.modWheel n fun w => { w with again := false }
    if (c.wheel n).again && c.ranked r && d != 0 then c1.correct d else c1
  | _, _ => c.modWheel n fun w => { w with again := false }

/-- The candidate whose confirming edges are complete becomes the match (R170); corrections adopted for this edge act on it from here on
(R211). -/
def confirmMatch (n : Nat) (tb : ToothTable) (e : EdgeIn) (k : Candidate) (c : Chip) : Chip :=
  let c1 := ((((c.modWheel n fun w => { w with cand := none, badRun := 0 }).adoptCorr n).setFld (F.wheelStatus_ACQ n) 2).setFld
    (F.wheelStatus_POSITION n) k.pos)
  ((if 2 ≤ n then c1.camMatched n tb e else c1).rematch n tb e).fittingEdge n tb e

/-- An edge of an acquiring input (R168 to R170). -/
def acquireEdge (n : Nat) (tb : ToothTable) (e : EdgeIn) (c : Chip) : Chip :=
  let both := c.bothEdges n
  let h := (c.wheel n).hist
  let confirm := c.fld (F.wheelVerify_CONFIRM n)
  let tested := fun (d : Chip) =>
    let k := tb.test both h confirm
    let d1 := d.takeCandidate n tb e k
    match k with
    | some k => if k.left = 0 then d1.confirmMatch n tb e k else d1
    | none => d1
  match (c.wheel n).cand with
  | none => tested c
  | some k =>
    let j := nextEntry tb k.pos k.rev
    if tb.fitsAt both h j 0 k.rev then
      let k1 := { k with pos := j, left := k.left - 1 }
      if k1.left = 0 then c.confirmMatch n tb e k1 else c.modWheel n fun w => { w with cand := some k1 }
    else tested c

/-- An edge of a matched input: the position follows, and the edge fits or is a misfit (R182, R184, R185). Answers whether
it was a misfit. -/
def matchedEdge (n : Nat) (tb : ToothTable) (e : EdgeIn) (c : Chip) : Bool × Chip :=
  let both := c.bothEdges n
  let h := (c.wheel n).hist
  let rev := c.pred.dir == 2
  let j := nextEntry tb (c.fld (F.wheelStatus_POSITION n)) rev
  let c1 := c.setFld (F.wheelStatus_POSITION n) j
  if tb.fitsAt both h j 0 rev then (false, (c1.modWheel n fun w => { w with badRun := 0 }).fittingEdge n tb e)
  else
    let c2 := (((c1.modWheel n fun w => { w with badRun := w.badRun + 1 }).incFld (F.wheelCounts_MISFITS n)).raise 8).fault
      0x0205 n 0
    let c3 := match c2.inputRef n with
      | some r => (c2.clearQualCount r).endForwardRun r
      | none => c2
    (true, if max 1 (c3.fld (F.wheelVerify_BAD_LIMIT n)) ≤ (c3.wheel n).badRun then c3.loseMatch n else c3.learnEdge n j e.steps)

/-- The newest edge of input `n` fits its table, read in reverse or forward: the next entry of the match, or the edge that
completes a candidate or finds one that needs no more (R170, R184). -/
def edgeFits (c : Chip) (n : Nat) (tb : ToothTable) (rev : Bool) : Bool :=
  let both := c.bothEdges n
  let h := (c.wheel n).hist
  if c.matched n then tb.fitsAt both h (nextEntry tb (c.fld (F.wheelStatus_POSITION n)) rev) 0 rev
  else
    let test := match tb.test both h (c.fld (F.wheelVerify_CONFIRM n)) with
      | some k => k.left == 0
      | none => false
    match (c.wheel n).cand with
    | some k => if tb.fitsAt both h (nextEntry tb k.pos k.rev) 0 k.rev then k.left == 1 else test
    | none => test

/-- The direction that a CRANK_A edge decides under QUAD_EN acts before the edge is matched (R180, R244): the corrections
adopted for an edge that fits are in force at its anchor (R211). -/
def quadEdge (tb : ToothTable) (e : EdgeIn) (quad : Option Nat) (c : Chip) : Chip :=
  match quad with
  | some d => (c.doIf (c.edgeFits 0 tb (d == 2)) (adoptCorr 0)).decideDir 0 tb d
      (nextEntry tb (c.fld (F.wheelStatus_POSITION 0)) (d == 2)) e
  | none => c

/-- The tooth entry of the newest edge of input `n`, whose candidate before it was `was` (R193): of its candidate or match, or the
entry that a discarded candidate expected. -/
def edgeEntry (c : Chip) (n : Nat) (tb : ToothTable) (was : Option Candidate) : Nat :=
  match (c.wheel n).cand, was with
  | some k, _ => k.pos
  | none, some k => if c.matched n then c.fld (F.wheelStatus_POSITION n) else nextEntry tb k.pos k.rev
  | none, none => c.fld (F.wheelStatus_POSITION n)

/-- The oldest accepted edge of input `n`, with its table `tb`, is matched and predicted from, and logged. -/
def takeAccepted (n : Nat) (tb : ToothTable) (e : EdgeIn) (quad : Option Nat) (c : Chip) : Chip :=
  let c1 := c.quadEdge tb e quad
  let wasMatched := c1.matched n
  let was := (c1.wheel n).cand
  let p := if wasMatched then c1.matchedEdge n tb e
    else if c1.fld (F.wheelStatus_ACQ n) = 1 then (false, c1.acquireEdge n tb e) else (false, c1)
  let q : Bool × Chip := if c.camInput = some n && !c.flag F.wheelSys_ENGINE then
      (if c1.pred.state = 1 && !p.2.pred.phase then p.2.camAssign n tb e
       else if c1.pred.state = 2 && c1.pred.phase then (false, p.2.camCheck n tb e) else (false, p.2))
    else (false, p.2)
  let misfit := p.1 || q.1
  q.2.doIf (q.2.logSelects n misfit) fun d =>
    d.logEdge n e misfit (wasMatched || was.isSome || (d.wheel n).cand.isSome || d.matched n) (d.edgeEntry n tb was)

/-- A rejected edge is logged in its order (R193, R194): the entry is that of the last accepted edge, or the candidate's. -/
def takeGlitch (n : Nat) (e : EdgeIn) (c : Chip) : Chip :=
  c.doIf (c.logSelects n true) fun d =>
    d.logEdge n e false (d.matched n || (d.wheel n).cand.isSome) (match (d.wheel n).cand with
      | some k => k.pos
      | none => d.fld (F.wheelStatus_POSITION n))

/-- The oldest edge of input `n` is taken in: an accepted one for matching and prediction (R158), a rejected one for the log. An edge of a
cam input without an adopted table fits no entry and is not tested (R164, R177; log entry 105). -/
def takeEdge (n : Nat) (c : Chip) : Chip :=
  match (c.wheel n).queue with
  | [] => c
  | e :: rest =>
    let c0 := c.modWheel n fun w => { w with queue := rest }
    if e.glitch then c0.takeGlitch n e else
    let c1 := c0.modWheel n fun w => { w with hist := ((e.steps, e.pol) :: w.hist).take 7, taken := min 255 (w.taken + 1) }
    let quad := if n = 0 then c1.quadDir e.steps else none
    let c2 := c1.modPred fun p =>
      { p with lastCrankA := if n = 0 then some e.steps else p.lastCrankA
               lastCrankB := if n = 1 then some e.steps else p.lastCrankB
               crankBTwice := p.crankBTwice || (n == 1 && p.lastCrankB.isSome) }
    match (c2.wheel n).table with
    | none => (c2.doIf quad.isSome (turnDir (quad.getD 0) e)).doIf (c2.logSelects n false) fun d => d.logEdge n e false false 0
    | some tb => c2.takeAccepted n tb e quad

/-- The latest instant of acceptance whose edge phase A takes in (R55, R158): 25 ns before the tick, or on a paired member the
frame before the last (R578); `before` is the last tick but one. -/
def edgeLimit (before : Nat) (c : Chip) : Nat :=
  if c.paired && (c.isOwner || c.follows) then before - 1 else c.tb.ticks - 10

/-- The input whose oldest waiting edge comes first among those that phase A takes in (R55, R158); of two edges with one instant the one on
the lower-numbered input comes first (R194; log entry 106). -/
def nextInput (limit : Nat) (c : Chip) : Option Nat :=
  (List.range 4).foldl (fun b n => match (c.wheel n).queue.head? with
    | none => b
    | some e =>
      if limit < e.accepted then b
      else match b.bind fun m => (c.wheel m).queue.head? with
        | some f => if e.steps < f.steps then some n else b
        | none => some n) none

/-- Phase A takes in the edges accepted up to `limit`, in the order of their instants. -/
def takeEdges (limit : Nat) (c : Chip) : Chip :=
  (stepN (fun d => match d.nextInput limit with
    | some n => d.takeEdge n
    | none => d) ((List.range 4).map fun n => (c.wheel n).queue.length).sum c).flushRows

/-! ## Committed changes of the wheel registers (R161) -/

/-- A commit to a wheel or predictor register takes effect: a change of WHEEL_SYS restarts every input, a change of MODE or
EDGE_SEL its own input. -/
def commitWheel (a : Nat) (v : DWord) (c : Chip) : Chip :=
  let old := c.get a
  let c1 := c.storeMasked a v
  if a = R.wheelSys then (if old = c1.get a then c1 else c1.restartAll)
  else match (List.range 4).find? fun n => R.wheelCfg n == a with
    | some n =>
      if old.toNat % 16 = (c1.get a).toNat % 16 then c1
      else ((c1.modWheel n fun w => { w with threshold := c1.fld (F.wheelVr_ARM_FLOOR n), armed := false }).showAmpl n).restartInput n
    | none => c1

end Chip

/-! ## Commands -/

/-- The instant at which input `n` accepts an edge that lies at local time `t` (R158): the zero crossing of a VR edge; of a Hall
edge, the BCLK edge HALL_FILT cycles later. -/
def Chip.acceptedAt (c : Chip) (n t : Nat) : Nat :=
  if c.wheelMode n = 2 then (t + 15) / 16 * 16 + 16 * c.fld (F.wheelFilt_HALL_FILT n) else t

/-- WHEEL_EDGE (R155): the signal of input `n` passes its crossing `at'` vernier steps from the last tick with polarity `pol`. On a VR
input the lobe before it peaked at `peak`, and the signal had swung to `dip` on the other side since the crossing before, both in 16 mV
units; an arming that a rejected edge left in force holds. On a Hall input the new level has held for `held` BCLK cycles. An input that is
off, does not select the polarity or is not armed, or a level that has not held for HALL_FILT cycles, produces no edge (R150 to R154). The
timestamp counts from the last tick at or before the edge (R20, R157). -/
def execWheelEdge (n : Fin 4) (at' : Int) (pol : Bool) (peak : Byte) (s : State) (dip : Byte := 0) (held : Byte := 0) : Host.Outcome State Fault Refusal :=
  s.run fun c =>
    let vr := c.wheelMode n == 1
    if !c.frameRuns || !c.selects n pol then c
    else if vr && (c.wheel n).spent && decide (dip.toNat ≤ c.fld (F.wheelVr_DISARM n)) then c
    else if !vr && decide (held.toNat < c.fld (F.wheelFilt_HALL_FILT n)) then c
    else
      let d := c.modWheel n fun w => { w with spent := false }
      if vr && !(c.wheel n).armed && decide (peak.toNat ≤ (c.wheel n).threshold) then d
      else
        let t := ((c.tb.ticks : Int) + at').toNat
        let m := c.markBefore t
        let ring := (m.time.toNat : Int) + Int.fdiv (((t : Int) - m.steps) * 5) 2
        let e : EdgeIn := { steps := t, epoch := m.epoch, time := BitVec.ofInt 64 ring, pol := pol, peak := peak.toNat
                            arm := (c.wheel n).threshold, accepted := c.acceptedAt n t }
        if c.isGlitch n t then d.rejectEdge n e else d.acceptEdge n e

/-- The local time of the last tick but one, as the recent ticks hold it. -/
def Chip.tickBefore (c : Chip) : Nat := ((c.tb.history.drop 1).head?.map (·.steps)).getD (c.tb.ticks - 400)

/-- VR_THRESHOLD_DECAY (R152): no edge for four times the last accepted interval drops the threshold to ARM_FLOOR. -/
def execVrThresholdDecay (n : Fin 4) (s : State) : Host.Outcome State Fault Refusal :=
  s.run fun c =>
    let w := c.wheel n
    match w.lastStep with
    | some t =>
      if c.frameRuns && decide (0 < w.lastInterval) && decide (t + 4 * w.lastInterval ≤ c.nextTick) then
        c.modWheel n fun w => { w with threshold := c.fld (F.wheelVr_ARM_FLOOR n) }
      else c
    | none => c

/-- Input `n` is configured: it is on and has an adopted table (R150, R164). -/
def Chip.configured (c : Chip) (n : Nat) : Bool := c.wheelMode n != 0 && (c.wheel n).table.isSome

/-- The published angle has advanced by more than twice the largest interval of the table without an edge on the input (R187). -/
def Chip.quietTooLong (c : Chip) (n : Nat) : Bool :=
  match (c.wheel n).table with
  | some tb =>
    decide (2 * (((List.range tb.teeth.length).map fun j => tb.interval j false).foldl max 0 : Nat) * oneFx < (c.wheel n).quiet)
  | none => false

/-- WHEEL_NO_SIGNAL (R187): a configured input is found without signal while another reference is active; the fault is raised
once at the rise. NO_SIGNAL falls at the next accepted edge alone (log entry 107). -/
def execWheelNoSignal (n : Fin 4) (s : State) : Host.Outcome State Fault Refusal :=
  s.run fun c =>
    if c.frameRuns && c.configured n && c.pred.active.isSome && c.pred.active != c.inputRef n && c.quietTooLong n &&
        !c.flag (F.wheelStatus_NO_SIGNAL n) then
      (c.setFlag (F.wheelStatus_NO_SIGNAL n) true).fault 0x0202 n 0
    else c

/-- The last accepted edge on any configured input (R249). -/
def Chip.lastEdgeAt (c : Chip) : Option Nat :=
  ((List.range 4).filterMap fun n => if c.configured n then (c.wheel n).lastStep else none).max?

/-- SNAPSHOT_TIMEOUT (R218): no snapshot of the chosen position master for 4 ring cycles, so RING is unavailable; phase A
drops it if it is active (R224). -/
def execSnapshotTimeout (s : State) : Host.Outcome State Fault Refusal :=
  s.run fun c => c.modPred fun p => { p with ringFresh := false }

/-- A switch of REFCLK completes within 3 µs (R253, R255): until then SWITCHING is a free value (log entry 54). The crystal then has 10 ms
to qualify for. -/
def Chip.switchClock (c : Chip) : Chip :=
  { c.useFree.setFld F.clockMon_SWITCHING (Config.freeNat c.free % 2) with tb := { c.tb with switching := 3, qualLeft := 10000 } }

/-- CLOCK_FALLBACK (R253): the crystal has failed; XTAL_OK falls, the switch is counted and CLOCK_FALLBACK is raised. The
10 ms of qualification are due (R255). -/
def execClockFallback (s : State) : Host.Outcome State Fault Refusal :=
  s.run fun c =>
    if c.flag F.devStatus_XTAL_OK && !c.power.isOff then
      ((((c.setFlag F.devStatus_XTAL_OK false).incFld F.clockMon_FALLBACKS).setFld F.clockMon_QUAL_LEFT 100).fault 0x0110 0 0).switchClock
    else c

/-- CLOCK_RESTORED (R255): the crystal has stayed qualified for 10 ms since the end of the switch, and REFCLK returns to it. Where no
frame tick runs, the model counts nothing, and the command says that the 10 ms are over (log entry 54). -/
def execClockRestored (s : State) : Host.Outcome State Fault Refusal :=
  s.run fun c =>
    if c.flag F.devStatus_XTAL_OK || c.power.isOff || (c.frameRuns && c.tb.qualLeft != 0) then c
    else (((c.setFlag F.devStatus_XTAL_OK true).setFld F.clockMon_QUAL_LEFT 0).fault 0x0111 0 0).switchClock

end Sys2Proof.Machine
end

