-- ==== Sys2Proof/Machine/Ring.lean ====
section
/-!
DEFINITION. The Dielm ring (12): link and lock, beacons and time (R514 to R541), snapshots (R542 to R545), message cells and
queues (R546 to R553), posted remote writes (R554 to R560), insertion and leaving (R561 to R566), and their commands. Delays are
in half nanoseconds. A cell is held as its bytes 1 to 14.
-/

namespace Sys2Proof.Machine

/-- A character on the ring (R515): a data byte, or a control character. -/
inductive RingSymbol where
  | data (b : Byte)
  | idle
  | sol
  | som
  | eom
  | done
  deriving DecidableEq, Repr

namespace Chip

/-! ## Shared -/

/-- The ring side passed through `f`. -/
def modRing (f : Ring → Ring) (c : Chip) : Chip := { c with ring := f c.ring }

/-- RING_STATUS.LINK: 0 bypassed, 1 listening, 2 joining, 3 inserted. -/
def link (c : Chip) : Nat := c.fld F.ringStatus_LINK

/-- This node is the ring master. -/
def isMaster (c : Chip) : Bool := c.flag F.ringStatus_MASTER

/-- LOCKED. -/
def locked (c : Chip) : Bool := c.flag F.ringStatus_LOCKED

/-- The node's own address. -/
def node (c : Chip) : Nat := c.fld F.ringAddr_NODE

/-- The granted quota. -/
def quota (c : Chip) : Nat := c.fld F.ringJoinStatus_QUOTA

/-- The fields of RING_STATUS whose change raises source 54 (R566). -/
def ringView (c : Chip) : Nat := c.link + c.fld F.ringStatus_MASTER * 4 + c.fld F.ringStatus_LOCKED * 8 +
  c.fld F.ringStatus_MASTER_ADDR * 16

/-- An effect on the ring: RING_LOCK mirrors LOCKED, and a change of the view raises source 54 (R566). -/
def ringEvent (f : Chip → Chip) (c : Chip) : Chip :=
  let d := f c
  let e := d.setFlag F.devStatus_RING_LOCK d.locked
  if d.ringView = c.ringView then e else e.raise 54

/-- A ring fault with source 54 (R566, R568). -/
def ringFault (code unit : Nat) (c : Chip) : Chip := (c.raise 54).fault code unit 0

/-- The epoch after `e`: 0xFFFE is followed by 0x0000 (R14). -/
def nextEpoch (e : Word) : Word := if e.toNat ≥ 0xFFFE then 0 else e + 1

/-- The master key of a node (R527). -/
def keyOf (pinned : Bool) (n : Nat) : Nat := if pinned then 0 else 1 + n

/-- This node's master key. -/
def ownKey (c : Chip) : Nat := keyOf (c.flag F.ringAddr_PIN_MASTER) c.node

/-- This node may become ring master (R527). -/
def masterCapable (c : Chip) : Bool := c.flag F.ringAddr_MASTER_CAPABLE || c.flag F.ringAddr_PIN_MASTER

/-- The node asks for an angle slot; a twin member that is not OWNER asks for none (R542, R599). -/
def asksSlot (c : Chip) : Bool := c.flag F.ringAddr_POS_MASTER && !(c.twinEn && !c.isOwner)

/-- QUOTA_REQ; values above 30 act as 30 (R550). -/
def quotaReq (c : Chip) : Nat := min 30 (c.fld F.ringCfg_QUOTA_REQ)

/-- The reference ring time at the last tick: the node's own time less the slew that remains (R536, R538). -/
def reference (c : Chip) : Nat := (c.tb.time - BitVec.ofNat 64 c.ring.slew).toNat

/-- The lock is lost: the ring time goes on at 1000 ns a tick, and `lag` keeps how far it is ahead of the reference (R531, R541). -/
def unlock (c : Chip) : Chip :=
  (c.setFlag F.ringStatus_LOCKED false).modRing fun r => { r with lockRun := 0, slew := 0, lag := max r.slew r.lag }

/-- LINK falls to `l`, 0 or 1: the bypass closes, the node holds no quota, slot or lock, and its epoch is LOCAL (R517, R541,
R563, R564). -/
def dropLink (l : Nat) (c : Chip) : Chip :=
  let was := decide (2 ≤ c.link)
  let c1 := (((c.setFld F.ringStatus_LINK l).setFld F.ringJoinStatus_QUOTA 0).setFld F.ringJoinStatus_SLOT_HELD 0).setFld
    F.ringJoinStatus_SLOT 0
  let c2 := ((c1.setFlag F.ringStatus_MASTER false).unlock).modRing fun r =>
    { r with beacons := 0, heard := false, joinDue := false, joining := none, closing := none, afterMeasure := false, hopSet := false, lag := 0
             heir := none, back := {}, body := {}, splice := false, lost := false, missRun := 0, members := [], rotating := [], handover := none, takeOver := false
             setTime := none, regain := none, tx := r.tx.filter fun x => (x.bytes.headD 0).toNat / 16 == 1 || x.entry.isSome }
  let c3 := (List.range 8).foldl (fun d i => d.put (R.ringMembers i) 0) c2
  if was then { c3 with tb := { c3.tb with epoch := 0xFFFF } } else c3

/-- Listening begins or ends as RING_ADDR.CONFIGURED and INSERT_EN say (R561); after a duplicate address it waits for a write
of NODE (R562). -/
def listen (c : Chip) : Chip :=
  let want := c.flag F.ringAddr_CONFIGURED && c.flag F.ringControl_INSERT_EN && !c.ring.blocked
  if want && c.link == 0 && decide (c.fld F.pwrState_STATE < 2) then
    (c.setFld F.ringStatus_LINK 1).modRing fun r => { r with beacons := 0, heard := false }
  else if !want && c.link == 1 then c.dropLink 0
  else c

/-! ## Message cells (R546) -/

/-- Bytes 1 to 13 of a cell. -/
def mkCell (c : Chip) (type dst : Nat) (body : List Byte) : List Byte :=
  [BitVec.ofNat 8 (type * 16), BitVec.ofNat 8 dst, BitVec.ofNat 8 c.node] ++ fitBytes 10 body

/-- A message enters the transmit queue as it arises (R551). A full queue refuses WRITE and HOST messages before they come here
(R103, R551); the others, which R555, R556 and R562 want sent, always enter (log entry 118). -/
def enqueue (x : TxCell) (c : Chip) : Chip := c.modRing fun r => { r with tx := r.tx ++ [x] }

/-- A message of a type for a node enters the transmit queue. -/
def sendMsg (type dst : Nat) (body : List Byte) (c : Chip) : Chip := c.enqueue { bytes := c.mkCell type dst body, entry := none }

/-- Cell byte `i`, 1 to 14. -/
def cb (x : RingCell) (i : Nat) : Byte := x.bytes.toList.getD (i - 1) 0

/-- Cell byte `i` as a number. -/
def cn (x : RingCell) (i : Nat) : Nat := (cb x i).toNat

/-- The cell is free of symbol errors and its CHECK holds (R548). -/
def cellOk (x : RingCell) : Bool := x.bad == 0 && crc8 (x.bytes.toList.take 13) == cb x 14

/-- The receiver is powered: it listens on RING_IN whatever the bypass does (R517). -/
def receives (c : Chip) : Bool := !c.power.isOff && decide (c.fld F.pwrState_STATE < 3)

/-- The bypass switch is closed, and the transmitter is high-impedance (R517). -/
def bypassed (c : Chip) : Bool := c.power.isOff || decide (2 ≤ c.fld F.pwrState_STATE) || decide (c.link < 2)

/-- The symbol errors of what passes RING_IN are counted (R517, R567). -/
def seen (n : Nat) (c : Chip) : Chip := if c.receives then c.addFld F.ringCounts_SYMBOL_ERRORS n else c

/-- The symbol errors of a cell. -/
def cellErrors (x : RingCell) : Nat := ((List.range 16).filter fun i => x.bad.getLsbD i).length

/-- The type code, and SECURE. -/
def cellType (x : RingCell) : Nat := cn x 1 / 16
def cellSecure (x : RingCell) : Bool := bitOf (cn x 1) 3

/-- The node may claim a clean cell of a type addressed to it: a node without a quota claims nothing (R548), and SECURE is valid
on HOST only (R631). -/
def claims? (c : Chip) (type : Nat) (x : RingCell) : Bool :=
  c.link == 3 && c.quota != 0 && cn x 2 == c.node && cellOk x && cellType x == type && (type == 7 || !cellSecure x)

/-- Whether the cell that passes is claimed. -/
def setClaimed (b : Bool) (c : Chip) : Chip := c.modRing fun r => { r with claimed := b }

/-- A claimed cell acts; an unclaimed one does not. -/
def onClaim (type : Nat) (x : RingCell) (f : Chip → Chip) (c : Chip) : Chip :=
  if c.claims? type x then f (c.setClaimed true) else c.setClaimed false

/-! ## The remote error log (R559) -/

/-- A log entry for a write: TAG and REASON, TARGET and GAP, ADDR, DATA, EPOCH, TIME; source 55. -/
def logWrite (w : RWrite) (reason gap : Nat) (c : Chip) : Chip :=
  let h := c.fld F.remoteErr_HEAD
  let t := c.now64.toNat
  let c1 := c.putRecord (0x1D000 + 256 * h)
    [(1, w.tag % 256 * 256 + reason % 256), (2, w.target % 256 * 256 + gap % 256), (3, w.addr % 65536), (4, w.addr / 65536 % 65536),
     (5, w.data.toNat % 65536), (6, w.data.toNat / 65536), (7, c.nowEpoch.toNat), (8, t % 65536), (9, t / 65536 % 65536),
     (10, t / 2 ^ 32 % 65536), (11, t / 2 ^ 48)]
  let c2 := if c.ring.unread = 16 then c1.setFlag F.remoteErr_LOG_OVF true else c1
  ((c2.setFld F.remoteErr_HEAD (h + 1)).modRing fun r => { r with unread := min 16 (r.unread + 1) }).raise 55

/-- A commit of RING_ERR_TAIL marks entries read. -/
def commitErrTail (v : Nat) (c : Chip) : Chip :=
  (c.put R.ringErrTail (BitVec.ofNat 32 (v % 16))).modRing fun r => { r with unread := (c.fld F.remoteErr_HEAD + 16 - v % 16) % 16 }

/-! ## Posted remote writes: the initiator (R98 to R103, R551, R554, R557, R558) -/

/-- The initiator's state for a target. -/
def target? (c : Chip) (t : Nat) : RTarget := (c.ring.targets.find? fun x => x.node == t).getD { node := t }

/-- The initiator's state for a target stored. -/
def setTarget (x : RTarget) (c : Chip) : Chip :=
  c.modRing fun r => { r with targets := r.targets.filter (fun y => y.node != x.node) ++ [x] }

/-- PSEQ and the counts for the targets that satisfy `p` restart: a report of the new count covers no write sent before (R554, R558). -/
def restartTargets (p : Nat → Bool) (c : Chip) : Chip := c.modRing fun r =>
  { r with targets := r.targets.filter (fun x => !p x.node)
           writes := r.writes.map fun w => if p w.target && w.sent then { w with old := true } else w }

/-- PSEQ and the counts for target `t` restart. -/
def restartTarget (t : Nat) (c : Chip) : Chip := c.restartTargets (· == t)

/-- A remote write is posted: it takes the next tag, and enters the transmit queue or is refused as QUEUE_FULL (R98, R100,
R103, R551). Of the writes that are judged no more than 254 are kept; one that is not judged always is (R99). -/
def postWrite (target addr : Nat) (data : DWord) (c : Chip) : Chip :=
  if c.link != 3 then c.portErr 5 else
  let tag := c.bus.nextTag
  let w : RWrite := { target := target, tag := tag.toNat, pseq := 0, addr := addr, data := data }
  let c1 := ({ c with bus := { c.bus with nextTag := tag + 1 } }).setFld F.remoteErr_LAST_TAG tag.toNat
  if 32 ≤ c1.ring.tx.length then (c1.incFld F.ringCounts_TX_REFUSED).logWrite w 7 1
  else
    (c1.sendMsg 1 target ([BitVec.ofNat 8 tag.toNat, 0] ++ leBytes 3 addr ++ leBytes 4 data.toNat)).modRing fun r =>
      { r with writes := (if 254 ≤ r.writes.length then dropFirst (fun x => x.judged) r.writes else r.writes) ++ [w] }

/-- Every write passed through `f` where `p` holds. -/
def modWrites (p : RWrite → Bool) (f : RWrite → RWrite) (c : Chip) : Chip :=
  c.modRing fun r => { r with writes := r.writes.map fun w => if p w then f w else w }

/-- A report of a target: the PSEQ last received there and the count applied (R556). -/
def takeReport (t pseq acc : Nat) (c : Chip) : Chip := c.setTarget { c.target? t with report := some (pseq, acc) }

/-- PSEQ `x` is covered by a report up to `p`. -/
def covered (p x : Nat) : Bool := decide ((p + 256 - x) % 256 < 128)

/-- The write is covered by a report (R557). -/
def coveredBy (rep : Option (Nat × Nat)) (w : RWrite) : Bool :=
  match rep with
  | some r => w.sent && !w.old && covered r.1 w.pseq
  | none => false

/-- One due write is judged (R557); 6 in `nack` marks a write logged as UNCONFIRMED. -/
def judgeOne (rep : Option (Nat × Nat)) (w : RWrite) (c : Chip) : Chip :=
  let done (n : Option Nat) : Chip := c.modWrites (fun x => x == w) fun x => { x with judged := true, nack := n }
  match w.nack with
  | some k => (done (some k)).logWrite w k 1
  | none =>
    if w.returned then (done none).logWrite w 5 1
    else if coveredBy rep w then done none
    else (done (some 6)).logWrite w 6 1

/-- The judgement of the writes to `t` that are due: the listed ones up to the write `tag` (R557). -/
def judgeTarget (t tag : Nat) (c : Chip) : Chip :=
  let rep := (c.target? t).report
  let upTo := c.ring.writes.takeWhile (fun w => !(w.target == t && w.tag == tag && !w.judged)) ++
    (c.ring.writes.find? fun w => w.target == t && w.tag == tag && !w.judged).toList
  let due := upTo.filter fun w => w.target == t && !w.judged
  let c1 := due.foldl (fun d w => d.judgeOne rep w) c
  match rep with
  | none => c1
  | some r =>
    let isNew (w : RWrite) : Bool := w.target == t && coveredBy rep w && !w.counted && !w.returned
    let fresh := c.ring.writes.filter fun w => isNew w && w.nack.all (· == 6)
    let a := (r.2 + 256 - (c.target? t).prev % 256) % 256
    let c2 := (c1.modWrites isNew fun w => { w with counted := true }).setTarget { c1.target? t with prev := r.2 }
    match fresh with
    | w :: _ =>
      if a < fresh.length then
        (c2.logWrite w 6 (fresh.length - a)).modWrites (fun x => x.target == t && x.tag == w.tag && x.nack.isNone && x.judged) fun x =>
          { x with nack := some 6 }
      else c2
    | [] => c2

/-- A NACK for one of this node's writes (R557): it waits for the judgement, or is logged after an UNCONFIRMED entry. -/
def takeNack (from' tag pseq reason : Nat) (c : Chip) : Chip :=
  let mine (w : RWrite) : Bool := w.target == from' && w.tag == tag && w.sent && w.pseq == pseq
  match (c.ring.writes.filter mine).getLast? with
  | none => c
  | some w =>
    if !w.judged then c.modWrites (fun x => x == w) fun x => { x with nack := some reason }
    else if w.nack = some 6 then (c.modWrites (fun x => x == w) fun x => { x with nack := some reason }).logWrite w reason 1
    else c

/-! ## Posted remote writes: the target (R555, R556) -/

/-- The target's state for an initiator after a WRITE with a PSEQ that was applied or not. -/
def noteWrite (from' pseq : Nat) (applied : Bool) (c : Chip) : Chip :=
  let old := (c.ring.inits.find? fun x => x.node == from').getD { node := from', pseq := 0, acc := 0, changed := false }
  c.modRing fun r => { r with inits := r.inits.filter (fun x => x.node != from') ++
    [{ node := from', pseq := pseq, acc := (old.acc + b2n applied) % 256, changed := true }] }

/-- A NACK to an initiator. -/
def sendNack (to' tag pseq reason addr : Nat) (c : Chip) : Chip :=
  c.sendMsg 2 to' ([BitVec.ofNat 8 tag, BitVec.ofNat 8 pseq, BitVec.ofNat 8 reason] ++ leBytes 3 addr)

/-- A WRITE addressed to this node (R549, R555). -/
def takeWrite (x : RingCell) (phaseG : Bool) (c : Chip) : Chip :=
  let src := cn x 3
  let tag := cn x 4
  let pseq := cn x 5
  let addr := (cn x 6 + 256 * cn x 7 + 65536 * cn x 8) % 2 ^ 23
  let data := BitVec.ofNat 32 (cn x 9 + 256 * cn x 10 + 65536 * cn x 11 + 16777216 * cn x 12)
  if c.claims? 1 x then
    let c1 := c.setClaimed true
    if 1 ≤ regionOf addr && decide (regionOf addr ≤ 13) && bitOf (c.get R.ringRemoteCfg).toNat (regionOf addr) then
      (c1.noteWrite src pseq false).sendNack src tag pseq 1 addr
    else
      match c1.judgeCommit addr data with
      | (some 4, _) => (c1.noteWrite src pseq false).sendNack src tag pseq 3 addr
      | (some _, _) => (c1.noteWrite src pseq false).sendNack src tag pseq 2 addr
      | (none, acts) => (c1.doIf acts fun d => d.queueCommit addr data phaseG).noteWrite src pseq true
  else if c.link == 3 && c.quota != 0 && cn x 2 == c.node && cellType x == 1 && !cellSecure x && !cellOk x &&
      bitsOf x.bad.toNat 5 3 == 0 then
    (c.setClaimed true).sendNack src tag pseq 4 addr
  else c.setClaimed false

/-- Initiators with a change to report. -/
def toReport (c : Chip) : List RInit := c.ring.inits.filter fun x => x.changed

/-- The report of an initiator is made. -/
def reported (n : Nat) (c : Chip) : Chip :=
  c.modRing fun r => { r with inits := r.inits.map fun x => if x.node = n then { x with changed := false } else x }

/-- The initiators with a change to report, as they share CONFIRM cells: one to a cell where the quota has room for all, else three (R556;
log entry 120). -/
def confirmGroups (c : Chip) : List (List RInit) :=
  let l := c.toReport
  let k := if l.length ≤ c.quota then 1 else 3
  (List.range ((l.length + k - 1) / k)).map fun i => (l.drop (k * i)).take k

/-- A CONFIRM to the first initiator of a group, with a triple for each. -/
def sendConfirm (l : List RInit) (c : Chip) : Chip :=
  l.foldl (fun d x => d.reported x.node) (c.sendMsg 3 ((l.head?.map (·.node)).getD 0)
    (BitVec.ofNat 8 l.length :: l.flatMap fun x => [BitVec.ofNat 8 x.node, BitVec.ofNat 8 x.pseq, BitVec.ofNat 8 x.acc]))

/-- CONFIRM messages for every initiator whose change is still to be reported (R556). -/
def confirmAll (c : Chip) : Chip := c.confirmGroups.foldl (fun d l => d.sendConfirm l) c

/-! ## HOST messages (R551 to R553, R631 to R633) -/

/-- The byte offset of an outbound entry. -/
def outOff (e : Nat) : Nat := 448 * 256 + 16 * e

/-- STATE and VALID of an outbound entry are written as one word, VALID 0 in the states 3 to 5; nothing is written in a block that the
host has taken again. -/
def setOut (e st : Nat) (c : Chip) : Chip :=
  if !c.deviceHeld (448 + e / 16) then c else c.putWin16 (outOff e) ((if 3 ≤ st then 0 else 1) + 256 * st)

/-- The entries that a transmit cell or a sent cell stands for. -/
def outBusy (c : Chip) (e : Nat) : Bool := c.ring.hosts.any (·.1 == e) || c.ring.tx.any fun x => x.entry == some e

/-- The first entry that is to be taken: its VALID reads 1, or the word that holds VALID is damaged (R136, R552, R755). -/
def nextOut (c : Chip) : Option Nat :=
  (List.range 128).find? fun e => c.deviceHeld (448 + e / 16) && !c.outBusy e &&
    (c.damagedWord (outOff e / 2) || c.soundWord (outOff e / 2) % 256 == 1)

/-- Bytes 1 to 13 of the HOST cell of an entry; a secured cell has its MAC added when it is inserted (R631). -/
def hostCell (c : Chip) (e : Nat) : List Byte :=
  let o := outOff e
  let len := (c.winByte (o + 4)).toNat
  let secure := bitOf (c.winByte (o + 5)).toNat 0
  let pay := if secure then fitBytes 4 ((c.bytes (o + 6) 8).take len) else c.bytes (o + 6) 8
  let x := c.mkCell 7 (c.winByte (o + 2)).toNat ([c.winByte (o + 3), c.winByte (o + 4)] ++ pay)
  if secure then x.set 0 0x78 else x

/-- The device takes an outbound entry: it is queued or refused (R551, R552, R632, R755). -/
def takeOut (e : Nat) (c : Chip) : Chip :=
  let p := c.engineCheck (outOff e) 8
  let c1 := p.2
  let o := outOff e
  if !p.1 then c1.setOut e 5
  else if c1.winByte o != 1 then c1
  else if c1.quota = 0 then (c1.setOut e 5).incFld F.ringCounts_TX_REFUSED
  else if bitOf (c1.winByte (o + 5)).toNat 0 && ((c1.roleKey 3).isNone || decide (4 < (c1.winByte (o + 4)).toNat)) then
    (c1.setOut e 5).fault 0x0905 e 0
  else if 24 < c1.ring.tx.length then c1
  else (c1.setOut e 1).enqueue { bytes := c1.hostCell e, entry := some e }

/-- The MAC of a secured cell whose bytes 1 to 9 are given, under a beacon's epoch and CYCLE (R631). -/
def hostMac (key : List Byte) (b : BeaconInfo) (head : List Byte) : List Byte :=
  (Aes.cmac key (leBytes 2 b.epoch.toNat ++ leBytes 4 b.cycle.toNat ++ head ++ [0])).take 4

/-- The inbound queue is full (R553). -/
def rxFull (c : Chip) : Bool := ((c.get R.ringRxHead).toNat + 256 - (c.get R.ringRxTail).toNat % 256) % 256 == 128

/-- An inbound entry is stored (R553). -/
def storeIn (src chan len flags : Nat) (pay : List Byte) (c : Chip) : Chip :=
  let h := (c.get R.ringRxHead).toNat
  let w (i : Nat) : Nat := leValue ((pay.drop (2 * i)).take 2)
  let c1 := c.putRecord (456 * 256 + 16 * (h % 128))
    [(1, src + 256 * chan), (2, len + 256 * flags), (3, w 0), (4, w 1), (5, w 2), (6, w 3), (7, c.tb.epoch.toNat)]
  (c1.put R.ringRxHead (BitVec.ofNat 32 ((h + 1) % 256))).doIf (c.flag F.ringCfg_RX_NOTICE) fun d => d.raise 54

/-- A secured cell is authenticated under one of the two beacons (R633): the beacon that verifies its MAC. -/
def authBeacon (c : Chip) (x : RingCell) : Option BeaconInfo :=
  match c.roleKey 3 with
  | none => none
  | some k =>
    let mac := [cb x 10, cb x 11, cb x 12, cb x 13]
    (c.ring.cur.toList ++ c.ring.last.toList).find? fun b =>
      hostMac k.bytes b (x.bytes.toList.take 9) == mac && !c.ring.macs.contains (cn x 3, mac, b.epoch, b.cycle)

/-- A HOST cell addressed to this node (R553, R633). -/
def takeHost (x : RingCell) (c : Chip) : Chip :=
  if c.rxFull then c.setClaimed false
  else if !cellSecure x then
    (c.setClaimed true).storeIn (cn x 3) (cn x 4) (cn x 5) 0 ((List.range 8).map fun i => cb x (6 + i))
  else
    let pay := (List.range 4).map (fun i => cb x (6 + i)) ++ List.replicate 4 0
    match c.authBeacon x with
    | some b =>
      let mac := [cb x 10, cb x 11, cb x 12, cb x 13]
      ((c.setClaimed true).modRing fun r => { r with macs := r.macs ++ [(cn x 3, mac, b.epoch, b.cycle)] }).storeIn
        (cn x 3) (cn x 4) (cn x 5) 3 pay
    | none =>
      (((c.setClaimed true).incFld F.cipherCounts_RING_AUTH_FAIL).fault 0x0904 (cn x 3) 0).storeIn (cn x 3) (cn x 4) (cn x 5) 1 pay

/-- A commit of RING_RX_TAIL acts (R414, R553). -/
def commitRxTail (v : Nat) (c : Chip) : Chip :=
  if 128 < ((c.get R.ringRxHead).toNat + 256 - v % 256) % 256 then c.portErr 2
  else c.put R.ringRxTail (BitVec.ofNat 32 (v % 256))

/-! ## Sending in a cycle (R522, R543, R547) -/

/-- The place of a message in the order of R547: NACK and CONFIRM, then WRITE, then HOST; JOIN and LEAVE stand outside
the quota, and JOIN_ACK, which is due in the next cycle, comes first (R562; log entry 119). -/
def sendClass (x : TxCell) : Nat :=
  match (x.bytes.headD 0).toNat / 16 with
  | 1 => 1
  | 7 => 2
  | 4 => 9
  | 6 => 9
  | 5 => 8
  | _ => 0

/-- The queue in the order of R547. -/
def sendOrder (l : List TxCell) : List TxCell :=
  l.filter (fun x => sendClass x == 8) ++ l.filter (fun x => sendClass x == 0) ++ l.filter (fun x => sendClass x == 1) ++ l.filter (fun x => sendClass x == 2)

/-- The cell as inserted: the next PSEQ in a WRITE, the MAC in a secured HOST cell, and CHECK. A secured cell waits where the
cycle has no valid beacon. -/
def cellOut (c : Chip) (x : TxCell) : Option (List Byte) :=
  let b := match (x.bytes.headD 0).toNat with
    | 0x10 => some (x.bytes.set 4 (BitVec.ofNat 8 (c.target? (x.bytes.getD 1 0).toNat).next))
    | 0x78 => match c.roleKey 3, c.ring.cur with
      | some k, some i => some (x.bytes.take 9 ++ hostMac k.bytes i (x.bytes.take 9))
      | _, _ => none
    | _ => some x.bytes
  b.map fun l => l ++ [crc8 l]

/-- What the insertion of a message as the cell `l` does at its origin. -/
def afterSend (x : TxCell) (l : List Byte) (c : Chip) : Chip :=
  match (x.bytes.headD 0).toNat / 16, x.entry with
  | 1, _ =>
    let t := (x.bytes.getD 1 0).toNat
    let tag := (x.bytes.getD 3 0).toNat
    let k := c.target? t
    let mine (w : RWrite) : Bool := w.target == t && w.tag == tag && !w.sent
    let mark (w : RWrite) : RWrite := { w with sent := true, pseq := k.next }
    (c.modRing fun r => { r with writes := modFirst mine mark r.writes }).setTarget { k with next := (k.next + 1) % 256 }
  | 4, _ => (c.incFld F.ringCounts_JOIN_ATTEMPTS).modRing fun r => { r with joining := some 0 }
  | 5, _ => c.modRing fun r => { r with measure := true }
  | 7, some e => (c.setOut e 2).modRing fun r => { r with hosts := r.hosts ++ [(e, l)] }
  | _, _ => c

/-- One message is inserted, where the quota or its type lets it. -/
def sendOne (c : Chip) (x : TxCell) : Chip :=
  let own := sendClass x == 9
  if !own && sendClass x != 8 && c.ring.left == 0 then c
  else match c.cellOut x with
    | none => c
    | some l => (c.modRing fun r => { r with tx := dropFirst (fun y => y == x) r.tx, out := r.out ++ [l]
                                             left := if own then r.left else r.left - 1 }).afterSend x l

/-- JOIN (R542, R561, R599). -/
def sendJoin (c : Chip) : Chip :=
  let body : List Byte := [BitVec.ofNat 8 (c.fld F.ringCfg_QUOTA_REQ),
    BitVec.ofNat 8 (b2n (c.flag F.ringAddr_MASTER_CAPABLE) + b2n (c.flag F.ringAddr_PIN_MASTER) * 2 + b2n c.asksSlot * 4 +
      c.fld F.ringCfg_POS_SLOT * 8)] ++ leBytes 2 (if c.part = .lb8612 then 0x8612 else 0x8620)
  (c.sendMsg 4 (c.fld F.ringStatus_MASTER_ADDR) body).modRing fun r => { r with joinDue := false }

/-- The status entry of this node (R522, R556); without a report it names the node itself. -/
def writeEntry (c : Chip) : Chip :=
  let rep := c.toReport.head?
  let b0 := 128 + b2n (c.flag F.pwrState_ROTATING) * 64 + b2n c.locked * 32 + b2n (decide (3 ≤ c.maxClass)) * 16 +
    b2n (c.flag F.outStatus_ARMED) * 8 + b2n (c.flag F.ringJoinStatus_SLOT_HELD) * 4
  let bs (n p a : Nat) : List Byte := [BitVec.ofNat 8 b0, BitVec.ofNat 8 n, BitVec.ofNat 8 p, BitVec.ofNat 8 a]
  match rep with
  | some x => (c.modRing fun r => { r with entry := bs x.node x.pseq x.acc }).reported x.node
  | none => c.modRing fun r => { r with entry := bs c.node 0 0 }

/-- The reports of a cycle: the status entry of the node's group, and CONFIRM messages where its group does not report in this
cycle or the next (R522, R556). -/
def reports (cyc : Nat) (c : Chip) : Chip :=
  let g := c.node / 32
  if cyc % 8 = g then c.writeEntry.confirmAll
  else if (cyc + 1) % 8 = g then c
  else c.confirmAll

/-- The snapshot of this node's predictor `at'` half-ns after the last tick (R543). -/
def snapshotBytes (c : Chip) (at' : Nat) : List Byte :=
  let st := c.pred.state
  let valid := st == 1 || st == 2 || st == 3
  let m := c.modulus
  let ang := (c.pred.th0 + Int.fdiv (sgnDiff m c.pred.th0 c.pred.th1 * at') 2000) % m
  let t := c.tickFx + (at' : Int) * 2147483648
  let head := b2n valid * 32768 + b2n c.pred.stall * 16384 + c.pred.dir * 4096 + st * 512 + b2n c.pred.resync * 256 +
    c.fld F.ringJoinStatus_SLOT
  let w : Int := match c.pred.model with
    | some x => Int.fdiv (x.sign * x.speedAt t * 65536000) (2 ^ 120)
    | none => 0
  let acc := (c.get R.predAccel).toNat
  let clamp : Nat := match c.pred.model.bind c.clampOf with
    | some k => (Int.fdiv k oneFx).toNat
    | none => Config.freeNat c.free % 2 ^ 24
  leBytes 2 head ++ [BitVec.ofNat 8 c.node, BitVec.ofNat 8 (c.get R.schedCycle).toNat] ++
    leBytes 3 (Int.fdiv ang oneFx).toNat ++ leBytes 1 ((Int.fdiv ang 16777216).toNat % 256) ++ leBytes 4 (satSigned 32 w) ++
    leBytes 2 (bitsOf acc 15 0) ++ leBytes 2 (bitsOf acc 31 16) ++
    leBytes 3 (sigma256 (if st = 0 || c.pred.stall then none else c.pred.sg0)) ++ leBytes 3 clamp ++
    leBytes 2 (c.fld F.ringHop_HOP)

/-- The holder of a slot publishes its snapshot (R543). -/
def publishShot (at' : Nat) (c : Chip) : Chip :=
  if c.flag F.ringJoinStatus_SLOT_HELD then c.useFree.modRing fun r => { r with shot := c.snapshotBytes at' } else c

/-- What a node sends in a cycle with a CYCLE number: its status entry, its snapshot where the angle area is not ignored, its
messages (R522, R525, R543, R547). -/
def sendCycle (cyc at' : Nat) (angle : Bool) (c : Chip) : Chip :=
  let c1 := c.modRing fun r => { r with out := [], left := 0 }
  if c1.link = 3 then
    let c2 := ((c1.reports cyc).doIf angle fun d => d.publishShot at').modRing fun r => { r with left := c.quota }
    let free := (c2.ring.tx.find? fun x => sendClass x == 9).toList
    (free ++ sendOrder c2.ring.tx).foldl (fun d x => d.sendOne x) c2
  else if c1.link = 2 then
    let c2 := if c1.ring.joinDue then c1.sendJoin else c1
    (c2.ring.tx.find? fun x => sendClass x == 9).toList.foldl (fun d x => d.sendOne x) c2
  else c1

/-! ## The cycle as the ring master sends it (R515, R520, R521) -/

/-- The byte at which angle slot `s`, status entry `j` and message cell `i` begin, and the areas behind them (R520). -/
def slotAt (s : Nat) : Nat := 32 + 24 * s
def entryAt (j : Nat) : Nat := 128 + 4 * j
def cellAt (i : Nat) : Nat := 256 + 16 * i
def padAt : Nat := 1216
def gapAt : Nat := 1225
def cycleLength : Nat := 1250

/-- The cells of the message area from the forwarded ones on: the node's own messages take the idle ones in their order (R547). -/
def fillCells : List (Option (List Byte)) → List (List Byte) → List (Option (List Byte))
  | [], _ => []
  | some x :: r, own => some x :: fillCells r own
  | none :: r, [] => none :: fillCells r []
  | none :: r, y :: own => some y :: fillCells r own

/-- A message cell: SOM, its bytes 1 to 14 and EOM, or 16 idle characters (R546). -/
def cellSymbols : Option (List Byte) → List RingSymbol
  | some l => .som :: (fitBytes 14 l).map .data ++ [.eom]
  | none => List.replicate 16 .idle

/-- The bytes 32 to 127 of the running cycle: what has returned, and the master's own snapshot in its slot. -/
def angleArea (c : Chip) : List Byte :=
  let l := fitBytes 96 c.ring.body.angle
  let o := 24 * c.fld F.ringJoinStatus_SLOT
  if c.flag F.ringJoinStatus_SLOT_HELD then l.take o ++ fitBytes 24 c.ring.shot ++ l.drop (o + 24) else l

/-- The bytes 128 to 255 of the running cycle: every entry starts as 0, and the master writes its own in the round of its group. -/
def statusRound (c : Chip) : List Byte :=
  let l : List Byte := List.replicate 128 0
  let o := 4 * (c.node % 32)
  if (c.get R.ringCycle).toNat % 8 = c.node / 32 then l.take o ++ fitBytes 4 c.ring.entry ++ l.drop (o + 4) else l

/-- The 60 cells of the running cycle. -/
def messageArea (c : Chip) : List (Option (List Byte)) :=
  fillCells ((List.range 60).map fun i => (c.ring.body.cells.find? fun x => x.1.val == i).map fun x => x.2.1.toList) c.ring.out

/-- The 1250 characters of the running cycle, byte 0 first, as they leave the ring master's RING_OUT. -/
def cycleSymbols (c : Chip) : List RingSymbol :=
  .sol :: (fitBytes 31 c.ring.beacon).map .data ++ c.angleArea.map .data ++ c.statusRound.map .data ++
    c.messageArea.flatMap cellSymbols ++ List.replicate 34 .idle

/-! ## The splice gap (R561 to R564) -/

/-- The node has still to send its LEAVE, or to hand over (R564). -/
def leaveWaits (c : Chip) : Bool := c.ring.handover.isSome || c.ring.tx.any fun x => (x.bytes.headD 0).toNat / 16 == 6

/-- The splice gap of the cycle that has ended: a node that is to leave, and has said so, closes its bypass, and a listening node with
four valid beacons opens it. -/
def passGap (c : Chip) : Chip :=
  if !c.ring.splice then c
  else match c.ring.closing with
    | some l => if c.leaveWaits then c else (c.dropLink l).listen
    | none =>
      if c.link = 1 && decide (4 ≤ c.ring.beacons) && c.fld F.ringJoinStatus_RETRY_IN == 0 then
        (c.setFld F.ringStatus_LINK 2).modRing fun r => { r with joinDue := true, joining := none, closing := none }
      else c

/-! ## The ring master (R520 to R531, R539, R550, R562, R565) -/

/-- RING_MEMBERS as the members give it. -/
def showMembers (c : Chip) : Chip :=
  (List.range 8).foldl (fun d i => d.put (R.ringMembers i)
    (BitVec.ofNat 32 ((c.ring.members.filter fun m => m.node / 32 == i).foldl (fun a m => a ||| 2 ^ (m.node % 32)) 0))) c

/-- The cells left in the pool of 30. -/
def poolLeft (c : Chip) : Nat := 30 - (c.ring.members.map fun m => m.quota).sum

/-- The node's own grant as a member. -/
def ownMember (c : Chip) : Member :=
  { node := c.node, quota := c.quotaReq, slot := if c.asksSlot then some (c.fld F.ringCfg_POS_SLOT) else none, key := some c.ownKey }

/-- A grant takes effect on this node. -/
def takeGrant (quota : Nat) (slot : Option Nat) (result : Nat) (c : Chip) : Chip :=
  (((c.setFld F.ringJoinStatus_QUOTA quota).setFld F.ringJoinStatus_SLOT_HELD (b2n slot.isSome)).setFld F.ringJoinStatus_SLOT
    (slot.getD 0)).setFld F.ringJoinStatus_RESULT result

/-- The wait of a node that is to become ring master is over after `n` cycle periods (R528, R695). -/
def keyWaited (c : Chip) (n : Nat) : Bool := decide (4 + 2 * c.ownKey ≤ n)

/-- The fields of a node that has just become ring master. -/
def masterNow (c : Chip) : Chip :=
  ((((((c.setFlag F.ringStatus_MASTER true).setFlag F.ringStatus_LOCKED true).setFld F.ringStatus_LINK 3).setFld
    F.ringStatus_MASTER_ADDR c.node).setFlag F.ringStatus_SPLICE_PERMITTED false).setFld F.ringHop_HOP 0).setFld
    F.ringPhase_PHASE_ERR 0 |>.modRing fun r =>
      { r with lost := false, missRun := 0, foreign := 0, joining := none, joinDue := false, takeOver := false, masterAt := some c.node
               rotating := [], handover := none, splice := false, heir := none, back := {}, body := {} }

/-- The node becomes ring master by election or foundation (R531, R695): it continues the reference and the epoch it was tracking,
from which its ring time goes on to slew where it was ahead (R18, R536), or
starts epoch 0 with time 0 when its epoch was LOCAL; CYCLE starts at 0, and quotas and slots are granted afresh. -/
def becomeMaster (c : Chip) : Chip :=
  let c1 := if c.tb.epoch = 0xFFFF then { c with tb := { c.tb with epoch := 0, time := 0 } } else c
  let m := c1.ownMember
  ((((c1.masterNow).takeGrant m.quota m.slot 1).modRing fun r =>
    { r with first := true, measure := false, cur := none, last := none, members := [m]
             slew := if c.tb.epoch = 0xFFFF then 0 else max r.slew r.lag, lag := 0
             inits := [], due := c.tb.frame + 1 }).restartTargets fun _ => true).showMembers

/-- The named node takes over an announced mastership: epoch, CYCLE, quotas and slots go on (R530). -/
def takeMastership (grants : List RingGrant) (c : Chip) : Chip :=
  let own : Member := { node := c.node, quota := c.quota, key := some c.ownKey
                        slot := if c.flag F.ringJoinStatus_SLOT_HELD then some (c.fld F.ringJoinStatus_SLOT) else none }
  let others := (grants.filter fun g => g.node.toNat != c.node).map fun g =>
    ({ node := g.node.toNat, quota := g.quota.val, slot := g.slot.map (·.val), key := g.key.map (·.val) } : Member)
  (c.masterNow.modRing fun r => { r with first := false, members := own :: others }).showMembers

/-- The old master becomes a repeating follower, whose hop delay is still the 0 of a master (R533); one that was to leave sends its LEAVE
(R529, R530, R564). -/
def stepDown (c : Chip) : Chip :=
  let c1 := ((c.setFlag F.ringStatus_MASTER false).modRing fun r =>
    { r with members := [], rotating := [], handover := none, measure := false, setTime := none, afterMeasure := false
             hopSet := true, lockRun := 0, cur := none, foreign := 0, missRun := 0, splice := false, back := {}, body := {} }).showMembers
  if c.ring.closing.isSome then c1.sendMsg 6 ((c.ring.handover.map fun h => h.1).getD c.node) [] else c1

/-- A reference time loaded by RING_SET_TIME is applied at the tick that starts the next cycle (R539). -/
def applySetTime (c : Chip) : Chip :=
  match c.ring.setTime with
  | none => c
  | some v =>
    let s : Int := (v.toNat : Int) - (c.reference : Int)
    let c1 := c.modRing fun r => { r with setTime := none }
    if s = 0 then c1
    else if -100000 ≤ s && decide (s < 0) then
      let d := c1.ring.slew + s.natAbs
      (c1.modRing fun r => { r with slew := d }).doIf (decide (c1.ring.slew ≤ 100000) && decide (100000 < d)) (ringFault 0x0709 0)
    else ({ c1 with tb := { c1.tb with epoch := nextEpoch c1.tb.epoch, time := v } }).modRing fun r =>
      { r with slew := 0, first := true }

/-- The deepest power state that a latency tolerance in µs permits: 0 RUN, 1 IDLE, 2 WATCH, 3 RETAIN, 4 OFF (R497). -/
def deepest (ltr : Nat) : Nat :=
  if 35000 ≤ ltr then 4 else if 3000 ≤ ltr then 3 else if 150 ≤ ltr then 2 else if 4 ≤ ltr then 1 else 0

/-- The ring-wide LTR of a beacon (R501), and the cycles since the first beacon that permitted the deepest state it permits
(R502). -/
def beaconLtr (v : Option Nat) (c : Chip) : Chip :=
  let was := c.flag F.pwrState_RING_LTR_ACTIVE
  let c1 := match v with
    | some x => (c.setFlag F.pwrState_RING_LTR_ACTIVE true).modPower fun p =>
        { p with ringLtr := BitVec.ofNat 16 x
                 permitted := if deepest x < 2 then 0
                   else if was && decide (deepest x ≤ deepest p.ringLtr.toNat) then p.permitted + 1 else 1 }
    | none => (c.setFlag F.pwrState_RING_LTR_ACTIVE false).modPower fun p => { p with permitted := 0 }
  if was == v.isSome then c1 else c1.raise 61

/-- The beacon of a new cycle, bytes 1 to 31 (R523, R526). -/
def mkBeacon (c : Chip) (measure splice : Bool) : List Byte :=
  let ltr := c.flag F.ringControl_RING_LTR
  let hand := c.ring.handover.getD (0, 0)
  let slotOwner (s : Nat) : Option Nat := (c.ring.members.find? fun m => m.slot == some s).map fun m => m.node
  let held := (List.range 4).foldl (fun a s => a + b2n (slotOwner s).isSome * 2 ^ s) 0
  let l : List Byte := [BitVec.ofNat 8 c.node,
      BitVec.ofNat 8 (b2n splice + b2n measure * 2 + b2n ltr * 4 + b2n (c.flag F.ringAddr_PIN_MASTER) * 8), BitVec.ofNat 8 hand.2] ++
    leBytes 2 c.tb.epoch.toNat ++ leBytes 8 c.reference ++ leBytes 4 (c.get R.ringCycle).toNat ++
    leBytes 2 (if ltr then (c.get R.ltr).toNat else 0) ++ leBytes 2 (c.fld F.ringHop_DOWN_RUN) ++
    [BitVec.ofNat 8 hand.1, BitVec.ofNat 8 held] ++ ((List.range 4).map fun s => BitVec.ofNat 8 ((slotOwner s).getD 0)) ++ [0, 0]
  l ++ leBytes 2 (crc16 l).toNat

/-- A beacon, bytes 1 to 31: byte `i`, and a little-endian field. -/
def bb (l : List Byte) (i n : Nat) : Nat := leValue ((l.drop (i - 1)).take n)

/-- What a beacon says for later events of its cycle. -/
def beaconInfo (l : List Byte) (tick : Int) : BeaconInfo :=
  { tick := tick, epoch := BitVec.ofNat 16 (bb l 4 2), time := BitVec.ofNat 64 (bb l 6 8), cycle := BitVec.ofNat 32 (bb l 14 4), posValid := bb l 23 1
    owners := [bb l 24 1, bb l 25 1, bb l 26 1, bb l 27 1] }

/-- The beacon's CRC checks (R525). -/
def beaconCrcOk (l : List Byte) : Bool := (crc16 (l.take 29)).toNat == bb l 30 2

/-- The master originates a cycle (R519 to R526, R530, R539); `run` is the downstream run that a measure cycle measures. -/
def startCycle (run : Nat) (c : Chip) : Chip :=
  let c0 := c.applySetTime
  let cyc : DWord := if c0.ring.first then 0 else c0.get R.ringCycle + 1
  let measure := cyc.toNat % 16 == 15 || c0.ring.measure
  let splice := c0.flag F.ringCfg_SPLICE_EN && !measure && c0.ring.handover.isNone
  let c1 := ((c0.put R.ringCycle cyc).beaconLtr (if c0.flag F.ringControl_RING_LTR then some (c0.get R.ltr).toNat else none))
  let b := c1.mkBeacon measure splice
  let c2 := c1.modRing fun r =>
    { r with first := false, measure := false, splice := splice, beacon := b, last := r.cur, cur := some (beaconInfo b c.tickFx), mute := false
             handover := r.handover.map fun h => (h.1, h.2 - 1), due := c.tb.frame + 100, body := r.back, back := {}
             macs := r.macs.filter fun x => x.2.2.2 + 1 == cyc || x.2.2.2 == cyc }
  let c3 := c2.sendCycle cyc.toNat 0 true
  if measure then c3.setFld F.ringHop_DOWN_RUN run else c3

/-- The running frame's tick is that of a cycle: every 100th of the node's own, counted from the one at which it became ring master
(R520, R528). -/
def cycleDue (c : Chip) : Bool :=
  let n := (c.tb.frame - c.ring.due).toNat
  decide (n < 2 ^ 31) && n % 100 == 0

/-- The tick of a new ring cycle on the master, or on the node that takes over (R520, R527, R530). -/
def cycleTick (run : Nat) (grants : List RingGrant) (c : Chip) : Chip :=
  if !c.cycleDue then c else
  let c0 := if c.ring.takeOver && c.link == 3 && c.masterCapable then c.takeMastership grants else c
  if !c0.isMaster then c0
  else if (c0.ring.handover.map fun h => h.2) = some 0 then c0.stepDown
  else
    let c1 := c0.passGap
    if c1.isMaster then c1.startCycle run else c1

/-- The member with the lowest key that is LOCKED and master-capable. -/
def bestHeir (c : Chip) : Option Member :=
  (c.ring.members.filter fun m => m.node != c.node && m.key.isSome && decide (0 < m.locked)).foldl (fun b m => match b with
    | none => some m
    | some x => if m.key.getD 0 < x.key.getD 0 then some m else some x) none

/-- The node is to leave; its LINK then becomes `l` (R564). A master with a locked, master-capable member hands over first. -/
def leave (l : Nat) (c : Chip) : Chip :=
  if c.link = 1 then (c.dropLink l).listen
  else if c.link < 2 || c.ring.closing.isSome then c
  else
    let c1 := c.modRing fun r => { r with closing := some l }
    if c1.isMaster then
      match c1.bestHeir with
      | some m => c1.modRing fun r => { r with handover := some (r.handover.getD (m.node, 8)) }
      | none => c1.sendMsg 6 c.node []
    else c1.sendMsg 6 (c.fld F.ringStatus_MASTER_ADDR) []

/-- LINK after leaving (R561). -/
def afterLeave (c : Chip) : Nat := b2n (c.flag F.ringAddr_CONFIGURED && c.flag F.ringControl_INSERT_EN)

/-- RING_CONTROL is written (R501, R561, R564). -/
def writeRingControl (v : Nat) (c : Chip) : Chip :=
  let c1 := (c.setFld F.ringControl_INSERT_EN (v % 2)).setFld F.ringControl_RING_LTR (v / 2)
  let fell := c.flag F.ringControl_INSERT_EN && !bitOf v 0
  if bitOf v 2 || fell then (c1.leave c1.afterLeave).listen else c1.listen

/-- A JOIN at the master (R542, R550, R562). -/
def takeJoin (x : RingCell) (c : Chip) : Chip :=
  let n := cn x 3
  let flags := cn x 5
  let ack (result quota : Nat) (slot : Option Nat) (d : Chip) : Chip :=
    d.sendMsg 5 n [BitVec.ofNat 8 result, BitVec.ofNat 8 quota, BitVec.ofNat 8 (match slot with
      | some s => 128 + s
      | none => 0)]
  if c.ring.members.any fun m => m.node == n then ack 1 0 none c
  else
    let q := min (min 30 (cn x 4)) c.poolLeft
    let want := bitOf flags 2
    let s := bitsOf flags 4 3
    let slot := if want && !c.ring.members.any (fun m => m.slot == some s) then some s else none
    let m : Member := { node := n, quota := q, slot := slot
                        key := if bitOf flags 0 || bitOf flags 1 then some (keyOf (bitOf flags 1) n) else none }
    (ack (if want && slot.isNone then 2 else 0) q slot c).modRing (fun r => { r with members := r.members ++ [m] }) |>.showMembers

/-- A member is gone (R542, R550, R565). -/
def dropMember (n : Nat) (c : Chip) : Chip :=
  (c.modRing fun r => { r with members := r.members.filter (fun m => m.node != n), rotating := without r.rotating n }).showMembers

/-- A status entry as the master reads it (R530, R565). -/
def masterEntry (n b0 : Nat) (c : Chip) : Chip :=
  match c.ring.members.find? fun m => m.node == n with
  | none => c
  | some m =>
    if n = c.node then c
    else if !bitOf b0 7 then
      if 1 ≤ m.absent then (c.dropMember n).ringFault 0x0708 n
      else c.modRing fun r => { r with members := r.members.map fun y => if y.node = n then { y with absent := y.absent + 1, locked := 0 } else y }
    else
      let m1 : Member := { m with absent := 0, locked := if bitOf b0 5 then m.locked + 1 else 0 }
      let c1 := c.modRing fun r =>
        { r with members := r.members.map fun y => if y.node = n then m1 else y
                 rotating := if bitOf b0 6 then without r.rotating n ++ [n] else without r.rotating n }
      if decide (2 ≤ m1.locked) && m1.key.any (fun k => decide (k < c.ownKey)) && c1.ring.handover.isNone then
        c1.modRing fun r => { r with handover := some (n, 8) }
      else c1

/-- A status entry passes (R556, R558, R565, R600). -/
def takeEntry (n : Nat) (e : List Byte) (c : Chip) : Chip :=
  let b0 := (e.getD 0 0).toNat
  let here := bitOf b0 7
  let c0 := if n = c.fld F.twinPartner_NODE then c.modRing fun r => { r with pairLocked := here && bitOf b0 5 } else c
  let c1 := if !here then c0.restartTarget n
    else if (e.getD 1 0).toNat = c.node && n != c.node then c0.takeReport n (e.getD 2 0).toNat (e.getD 3 0).toNat
    else c0
  let c2 := if c1.isMaster then c1.masterEntry n b0 else c1
  match c2.ring.regain with
  | none => c2
  | some k =>
    if n != c2.fld F.twinPartner_NODE then c2
    else if here then c2.modRing fun r => { r with regain := some 0 }
    else if k = 0 then c2.modRing fun r => { r with regain := some 1 }
    else (c2.modRing fun r => { r with regain := none }).leave c2.afterLeave

/-! ## The follower: beacons, lock and time (R525 to R541) -/

/-- The ticks from the next one back, counted from the last one, with their local times after it in half-ns (R20, R38). -/
def tickPlaces (c : Chip) : List (Int × Int) :=
  (1, (c.tb.length : Int) * 10) :: (0, 0) :: ((c.tb.history.drop 1).zipIdx.map fun x =>
    (-(x.2 : Int) - 1, ((x.1.steps : Int) - c.tb.ticks) * 5))

/-- The tick nearest to the instant `x` half-ns after the last one. -/
def nearTick (c : Chip) (x : Int) : Int × Int :=
  c.tickPlaces.foldl (fun b p => if (p.2 - x).natAbs < (b.2 - x).natAbs then p else b) (0, 0)

/-- The phase error of a beacon whose SOL reached RING_IN `arrive` half-ns after the last tick: the nearest tick, counted from the
last one, and that tick less the master's tick, in half-ns (R534). -/
def phaseError (c : Chip) (arrive : Nat) : Int × Int :=
  let x : Int := (arrive : Int) - c.fld F.ringHop_HOP
  let p := c.nearTick x
  (p.1, p.2 - x)

/-- The reference at the last tick, for a beacon whose cycle began at tick `j` (R536). -/
def refNow (info : BeaconInfo) (j : Int) : Nat := ((info.time.toNat : Int) - 1000 * j).toNat

/-- Own time against the reference in the same epoch (R537, R538). -/
def followTime (ref : Nat) (c : Chip) : Chip :=
  if c.tb.time.toNat ≤ ref then
    ({ c with tb := { c.tb with time := BitVec.ofNat 64 ref } }).modRing fun r => { r with slew := 0 }
  else
    let d := c.tb.time.toNat - ref
    let c1 := c.modRing fun r => { r with slew := d }
    if 100000 < d && !(100000 < c.ring.slew : Bool) then c1.ringFault 0x0709 0 else c1

/-- Epoch and time at a beacon of a LOCKED node, or at the one that makes it LOCKED (R536, R537, R540). -/
def takeTime (info : BeaconInfo) (j : Int) (c : Chip) : Chip :=
  let ref := refNow info j
  if c.tb.epoch = info.epoch then c.followTime ref
  else ({ c with tb := { c.tb with epoch := info.epoch, time := BitVec.ofNat 64 ref } }).modRing fun r => { r with slew := 0 }

/-- The phase error is published and steered against, and decides the lock (R534, R535, R537). -/
def disciplineTick (info : BeaconInfo) (arrive : Nat) (c : Chip) : Chip :=
  let p := c.phaseError arrive
  let ns := Int.fdiv p.2 2
  let c1 := { (c.setFld F.ringPhase_PHASE_ERR (unsignedOf 16 (clampInt (-32768) 32767 ns))) with
    tb := { c.tb with steer := p.2, steerTo := 5 } }
  let small := decide (p.2.natAbs ≤ 80)
  if c1.locked then
    if 400 < p.2.natAbs then c1.unlock.ringFault 0x0704 0 else c1.takeTime info p.1
  else
    let c2 := c1.modRing fun r => { r with lockRun := if small then r.lockRun + 1 else 0 }
    if 8 ≤ c2.ring.lockRun then ((c2.setFlag F.ringStatus_LOCKED true).modRing fun r => { r with lag := 0 }).takeTime info p.1 else c2

/-- A cycle of the wait of R563 has passed. -/
def retryWait (c : Chip) : Chip :=
  let retry := c.fld F.ringJoinStatus_RETRY_IN
  if 1 < retry then c.setFld F.ringJoinStatus_RETRY_IN (retry - 1) else c

/-- A cycle without a valid beacon (R525). -/
def missBeacon (errors : Nat) (c : Chip) : Chip :=
  (((c.retryWait.incFld F.ringCounts_BEACONS_MISSED).addFld F.ringCounts_SYMBOL_ERRORS errors).modRing fun r =>
    { r with beacons := 0, lockRun := 0, missRun := r.missRun + 1, last := r.cur, cur := none, splice := false, foreign := 0
             joining := r.joining.map (· + 1) })

/-- The hop delay is renewed by the first valid beacon after a measure cycle (R533). -/
def renewHop (hop : Nat) (measure : Bool) (c : Chip) : Chip :=
  if c.link != 3 then c
  else
    let c1 := if c.ring.afterMeasure then
        (c.setFld F.ringHop_HOP hop).modRing fun r => { r with hopSet := true, afterMeasure := false }
      else c
    if measure then c1.modRing fun r => { r with afterMeasure := true } else c1

/-- A valid beacon as an active node repeats it: HOP_ACC grows by the repeat delay and the node's own DOWN_RUN, and CRC matches
(R518, R524). -/
def repeatBeacon (l : List Byte) (c : Chip) : List Byte :=
  let b := l.take 19 ++ leBytes 2 (bb l 20 2 + 96 + c.fld F.ringHop_DOWN_RUN) ++ (l.drop 21).take 8
  b ++ leBytes 2 (crc16 b).toNat

/-- A node whose ring has a new master by election rejoins through JOIN: it holds neither quota nor slot until then (R531). -/
def joinAgain (c : Chip) : Chip :=
  if c.link != 3 then c
  else ((((c.setFld F.ringStatus_LINK 2).setFld F.ringJoinStatus_QUOTA 0).setFld F.ringJoinStatus_SLOT_HELD 0).setFld
    F.ringJoinStatus_SLOT 0).modRing fun r => { r with joinDue := true, joining := none }

/-- A valid beacon on a node that is not the master. The receiver follows it whatever LINK is (R517). -/
def followBeacon (l : List Byte) (arrive run : Nat) (c' : Chip) : Chip :=
  let flags := bb l 2 1
  let m := bb l 1 1
  let c := c'.renewHop (bb l 20 2) (bitOf flags 1)
  let near := c.nearTick ((arrive : Int) - c.fld F.ringHop_HOP)
  let info := beaconInfo l (c.tickFx + near.2 * 2147483648)
  let c1 := (((c.setFld F.ringStatus_MASTER_ADDR m).setFlag F.ringStatus_SPLICE_PERMITTED (bitOf flags 0)).put R.ringCycle
    info.cycle).beaconLtr (if bitOf flags 2 then some (bb l 18 2) else none)
  let c2 := c1.modRing fun r =>
    { r with heard := true, missRun := 0, lost := false, masterAt := some m, beacons := min 4 (r.beacons + 1), last := r.cur
             cur := some info, mute := false, heir := if bb l 3 1 = 0 then none else some (bb l 22 1)
             due := c.tb.frame + 100 + BitVec.ofInt 32 near.1, splice := bitOf flags 0, joining := r.joining.map (· + 1)
             macs := r.macs.filter fun x => x.2.2.2 + 1 == info.cycle || x.2.2.2 == info.cycle
             takeOver := bb l 3 1 == 1 && bb l 22 1 == c.node && c.link == 3 && c.masterCapable
             beacon := if c.bypassed then r.beacon else c.repeatBeacon l }
  let changed := c.ring.masterAt.any (· != m)
  let c3 := if changed then c2.ringFault 0x0702 0 else c2
  let c5 := (c3.doIf (changed && c.ring.heir != some m) joinAgain).retryWait
  let c6 := if c5.link = 3 && (c5.ring.hopSet || c5.locked) then c5.disciplineTick info arrive else c5
  let c7 := c6.sendCycle info.cycle.toNat arrive true
  if bitOf flags 1 && c7.link == 3 then c7.setFld F.ringHop_DOWN_RUN run else c7

/-- A beacon of another master reaches the ring master (R529). -/
def foreignBeacon (l : List Byte) (c : Chip) : Chip :=
  let m := bb l 1 1
  let c1 := c.modRing fun r => { r with foreign := r.foreign + 1 }
  if m = c.node then c
  else if 2 ≤ c1.ring.foreign && decide (keyOf (bitOf (bb l 2 1) 3) m < c.ownKey) then
    ((c1.stepDown.joinAgain.modRing fun r => { r with masterAt := some m }).setFld F.ringStatus_MASTER_ADDR m).ringFault 0x0702 0
  else c1

/-- A beacon reaches RING_IN (R525). -/
def takeBeacon (l : List Byte) (errors arrive run : Nat) (c : Chip) : Chip :=
  if !c.receives then c
  else
    let valid := errors = 0 && beaconCrcOk l
    if c.isMaster then
      if valid then c.foreignBeacon l else (c.missBeacon errors).modRing fun r => { r with cur := c.ring.cur, last := c.ring.last, splice := c.ring.splice }
    else
      let c1 := c.passGap
      if valid then c1.followBeacon l arrive run
      else (c1.missBeacon errors).sendCycle ((c1.get R.ringCycle).toNat + c1.ring.missRun + 1) arrive false

/-! ## Snapshots at a follower (R234, R237, R249, R252, R544) -/

/-- The snapshot comes from the holder of its slot, the chosen position master, which is another node (R218, R544). -/
def shotMatches (c : Chip) (info : BeaconInfo) (l : List Byte) : Bool :=
  let s := (l.getD 0 0).toNat % 4
  let n := (l.getD 2 0).toNat
  bitOf info.posValid s && info.owners.getD s 256 == n && s == c.pred.cfg.ringMaster && n != c.node

/-- The RING model of a snapshot, anchored at local time `t`. -/
def shotModel (l : List Byte) (t : Int) : Model :=
  let f (i n : Nat) : Nat := leValue ((l.drop i).take n)
  let w := signedOf 32 (f 8 4)
  let ang : Int := (f 4 3 : Int) * oneFx + (f 7 1 : Int) * 16777216
  let acc (x : Int) : Int := Int.fdiv (x * 2 ^ 88) (64 * 10 ^ 12)
  let sig : Int := if f 16 3 = 0xFFFFFF then 65536 * oneFx else (f 16 3 : Int) * 16777216
  let speed := Int.fdiv ((w.natAbs : Int) * 2 ^ 40) 1000
  { ref := .ring, ang := ang, t := t, w := speed, wPrev := speed, dPrev := 100000 * 16777216, alpha := acc (signedOf 16 (f 12 2))
    sA := acc (f 14 2), rev := bitsOf (f 0 2) 13 12 == 2, left := 0, entry := 0, clamp := some ((f 19 3 : Int) * oneFx), sigma := sig
    whole := false }

/-- An anchored RING model replaces the one in use, which counts down its start window (R197, R234). A backward offset of more
than the snapshot's σ is a correction, which moves the other model of a blend by as much (R237). -/
def anchorRing (m : Model) (c : Chip) : Chip :=
  let ours (x : Model) : Bool := x.ref == .ring
  let put (x : Model) : Model := if ours x then { m with left := x.left - 1 } else x
  let place (d : Chip) : Chip :=
    d.modPred fun p => { p with model := p.model.map put, source := p.source.map put, anchored := true }
  match (c.pred.model.filter ours).or (c.pred.source.filter ours) with
  | none => place c
  | some x =>
    let d := sgnDiff c.modulus (c.clampedAngle x m.t) m.ang
    let along := if m.rev then -d else d
    if along < 0 && decide (m.sigma < (d.natAbs : Int)) then (place (c.shiftModels d)).correctionEffect d else place c

/-- A snapshot's part in the predictor (R223 to R234). -/
def ringToPredictor (m : Model) (c : Chip) : Chip :=
  if !c.ranked .ring then c
  else match c.pred.active with
    | none => c.startWith .ring m
    | some act =>
      if act = .ring then c.anchorRing m
      else if c.pred.target = some .ring && !c.pred.blend.isSome then c.beginBlend .ring m m.ang
      else
        let c1 := if c.pred.source.any fun x => x.ref = .ring then c.anchorRing m else c
        c1.qualify .ring m.ang m.t (some m)

/-- A snapshot reaches this node (R544): its beacon is that of the cycle in which it was written, and the angle area of a cycle without
a valid beacon is ignored (R525). Its anchor time is the local time of the tick that began that cycle, and HOP (R234). -/
def takeShot (l : List Byte) (bad previous : Bool) (c : Chip) : Chip :=
  match if c.ring.mute then none else if previous then c.ring.cur.bind fun _ => c.ring.last else c.ring.cur with
  | none => c
  | some info =>
    let head := leValue (l.take 2)
    if bad || c.link != 3 || !c.locked || !c.shotMatches info l then c
    else
      let stall := bitOf head 14
      let c1 := if c.pred.active = some .ring && stall then c.declareStall else c
      if !bitOf head 15 then c1
      else
        let hop := leValue ((l.drop 22).take 2)
        let t := info.tick + (hop : Int) * 2147483648
        let c2 := (c1.modPred fun p => { p with ringFresh := true, ringModel := some (shotModel l t) }).ringToPredictor (shotModel l t)
        if c2.pred.active = some .ring then c2.setFlag F.pwrState_ROTATING (!stall) else c2

/-- RING_SET_TIME (R539): the reference is loaded at the tick that starts the next cycle. -/
def ringSetTime (c : Chip) : Chip :=
  if !c.isMaster then c.setReply 0x0100 []
  else
    let v := c.param 2 + 65536 * c.param 3 + 2 ^ 32 * c.param 4 + 2 ^ 48 * c.param 5
    (c.modRing fun r => { r with setTime := some (BitVec.ofNat 64 (v / 1000 * 1000)) }).setReply 0 []

end Chip

open Chip

/-! ## Commands -/

/-- RING_CYCLE_START (R520, R530, R539): a 100th frame tick of the ring master. `run` is the downstream run in half-ns that a
measure cycle finds; `grants` are those that a node which takes over continues. -/
def execRingCycleStart (run : Word) (grants : List RingGrant) (s : State) : Host.Outcome State Fault Refusal :=
  s.run (ringEvent (cycleTick run.toNat grants))

/-- BEACON_RECEIVE (R524 to R541, R561): bytes 1 to 31 of a beacon at RING_IN with `errors` symbol errors; SOL came `arrive`
half-ns after the last tick. -/
def execBeaconReceive (bytes : Vector Byte 31) (errors : Byte) (arrive : Fin 2011) (run : Word) (s : State) :
    Host.Outcome State Fault Refusal :=
  s.run (ringEvent (takeBeacon bytes.toList errors.toNat arrive run.toNat))

/-- CYCLE_RETURN (R521): the master's cycle is back at its RING_IN, with the angle area and the message area that its next cycle forwards,
in which a cell that ends in DONE is idle. Where the returned beacon is not valid the angle area of this cycle is ignored (R525). -/
def execCycleReturn (bytes : Vector Byte 31) (errors : Byte) (s : State) (areas : CycleAreas := {}) : Host.Outcome State Fault Refusal :=
  s.run fun b =>
    let l := bytes.toList
    if !b.isMaster then b else
    let c := b.modRing fun r => { r with back := { areas with cells := areas.cells.filter fun x => !x.2.2 } }
    if errors = 0 && beaconCrcOk l && bb l 1 1 == c.node then
      (c.setFld F.ringPhase_LOOP (bb l 20 2)).modRing fun r => { r with foreign := 0, missRun := 0 }
    else ((c.incFld F.ringCounts_BEACONS_MISSED).addFld F.ringCounts_SYMBOL_ERRORS errors.toNat).modRing fun r => { r with mute := true }

/-- SNAPSHOT_RECEIVE (R544): a slot's 24 bytes with `errors` symbol errors; `previous` that the master has
forwarded it from the cycle before. -/
def execSnapshotReceive (bytes : Vector Byte 24) (errors : Byte) (previous : Bool) (s : State) : Host.Outcome State Fault Refusal :=
  s.run fun c => (c.seen errors.toNat).takeShot bytes.toList (errors != 0) previous

/-- STATUS_ENTRY_RECEIVE (R522, R556, R565): the entry of node `node` passes with `errors` symbol errors, which are counted (R567); one
with an error is not acted on (log entry 121). -/
def execStatusEntryReceive (node : Byte) (entry : Vector Byte 4) (s : State) (errors : Fin 5 := 0) : Host.Outcome State Fault Refusal :=
  s.run (ringEvent fun b =>
    let c := b.seen errors.val
    if c.link = 3 && errors.val == 0 then c.takeEntry node.toNat entry.toList else c)

/-- WRITE_MESSAGE (R549, R555): a WRITE cell passes; `phaseG` says that the commit reaches the CCLK domain in phase G. -/
def execWriteMessage (cell : RingCell) (phaseG : Bool) (s : State) : Host.Outcome State Fault Refusal :=
  s.run fun c => (c.seen (cellErrors cell)).takeWrite cell phaseG

/-- NACK_MESSAGE (R557). -/
def execNackMessage (cell : RingCell) (s : State) : Host.Outcome State Fault Refusal :=
  s.run fun c => (c.seen (cellErrors cell)).onClaim 2 cell (takeNack (cn cell 3) (cn cell 4) (cn cell 5) (cn cell 6))

/-- CONFIRM_MESSAGE (R556): a CONFIRM cell passes. The triples that name this node are reports of SRC, whichever of the initiators the
cell is addressed to; that one claims it (log entry 120). -/
def execConfirmMessage (cell : RingCell) (s : State) : Host.Outcome State Fault Refusal :=
  s.run fun b =>
    let c := (b.seen (cellErrors cell)).onClaim 3 cell id
    if c.link = 3 && cellOk cell && cellType cell == 3 && !cellSecure cell then
      (List.range (min 3 (cn cell 4))).foldl (fun d i =>
        if cn cell (5 + 3 * i) = c.node then d.takeReport (cn cell 3) (cn cell (6 + 3 * i)) (cn cell (7 + 3 * i)) else d) c
    else c

/-- JOIN_MESSAGE (R562): a JOIN reaches the master, which claims it like any cell (R548). -/
def execJoinMessage (cell : RingCell) (s : State) : Host.Outcome State Fault Refusal :=
  s.run fun b =>
    let c := b.seen (cellErrors cell)
    if c.isMaster && c.claims? 4 cell then (c.setClaimed true).takeJoin cell
    else c.setClaimed false

/-- JOIN_ACK_MESSAGE (R561, R562): the joining node is inserted, or withdraws. -/
def execJoinAckMessage (cell : RingCell) (s : State) : Host.Outcome State Fault Refusal :=
  s.run (ringEvent fun b =>
    let c := b.seen (cellErrors cell)
    if c.link = 2 && cn cell 2 == c.node && cellOk cell && cellType cell == 5 && !cellSecure cell then
      let c0 := (c.setClaimed true).modRing fun r => { r with joining := none }
      if cn cell 4 = 1 then
        ((c0.setFld F.ringJoinStatus_RESULT 2).modRing fun r => { r with closing := some 0, blocked := true }).ringFault 0x0706 0
      else if cn cell 4 = 0 ∨ cn cell 4 = 2 then
        let slot := if bitOf (cn cell 6) 7 then some (cn cell 6 % 4) else none
        let c1 := ((c0.setFld F.ringStatus_LINK 3).takeGrant (cn cell 5) slot (if cn cell 4 = 0 then 1 else 3)).modRing fun r =>
          { r with afterMeasure := false, hopSet := false, lockRun := 0, inits := [] }
        (c1.restartTargets fun _ => true).doIf (cn cell 4 == 2) (ringFault 0x0707 0)
      else c0
    else c.setClaimed false)

/-- LEAVE_MESSAGE (R565): a LEAVE reaches the master. -/
def execLeaveMessage (cell : RingCell) (s : State) : Host.Outcome State Fault Refusal :=
  s.run fun b =>
    let c := b.seen (cellErrors cell)
    if c.isMaster && c.claims? 6 cell then (c.setClaimed true).dropMember (cn cell 3)
    else c.setClaimed false

/-- HOST_MESSAGE (R553, R633). -/
def execHostMessage (cell : RingCell) (s : State) : Host.Outcome State Fault Refusal := 
  s.run fun c => (c.seen (cellErrors cell)).onClaim 7 cell (takeHost cell)

/-- CELL_RETURNED (R548): a cell of this node comes back with EOM, which it replaces by DONE. A WRITE is unclaimed and restarts its
target's counts (R558), a HOST entry is unclaimed (R552): the one for which the device sent this cell. -/
def execCellReturned (cell : RingCell) (s : State) : Host.Outcome State Fault Refusal :=
  s.run fun b =>
    let c0 := b.seen (cellErrors cell)
    if c0.link < 2 || cn cell 3 != c0.node then c0.setClaimed false
    else
      let c := c0.setClaimed true
      match cellType cell with
      | 1 =>
        let mine (w : RWrite) : Bool :=
          w.target == cn cell 2 && w.tag == cn cell 4 && w.sent && w.pseq == cn cell 5 && !w.judged
        let mark (w : RWrite) : RWrite := { w with returned := true }
        (c.modRing fun r => { r with writes := modFirst mine mark r.writes }).restartTarget (cn cell 2)
      | 7 =>
        match c.ring.hosts.find? fun h => h.2 == cell.bytes.toList with
        | some h => (c.setOut h.1 4).modRing fun r => { r with hosts := dropFirst (fun x => x == h) r.hosts }
        | none => c
      | _ => c

/-- OUTBOUND_ENTRY_SEND (R551, R552): the device takes the next valid outbound entry. -/
def execOutboundEntrySend (s : State) : Host.Outcome State Fault Refusal :=
  s.run fun c => match c.nextOut with
    | some e => if c.link = 3 then c.takeOut e else c
    | none => c

/-- OUTBOUND_DELIVERED (R552): the cell of entry `e` did not return within 2 cycles. -/
def execOutboundDelivered (e : Fin 128) (s : State) : Host.Outcome State Fault Refusal :=
  s.run fun c =>
    if c.ring.hosts.any (·.1 == e.val) then (c.setOut e 3).modRing fun r => { r with hosts := r.hosts.filter fun x => x.1 != e.val }
    else c

/-- RING_RX_TAIL_COMMIT (R414, R553). -/
def execRingRxTailCommit (v : DWord) (s : State) : Host.Outcome State Fault Refusal :=
  s.run fun c => (c.takeSup R.ringRxTail).commitRxTail v.toNat

/-- REMOTE_WRITE_EXPIRE (R551): the unsent write `tag` is withdrawn. -/
def execRemoteWriteExpire (tag : Byte) (s : State) : Host.Outcome State Fault Refusal :=
  s.run fun c => match c.ring.writes.find? fun w => w.tag == tag.toNat && !w.sent with
    | some w =>
      (c.modRing fun r => { r with
        writes := dropFirst (fun x => x == w) r.writes
        tx := dropFirst (fun x => x.bytes.headD 0 == 0x10 && (x.bytes.getD 3 0).toNat == w.tag) r.tx }).logWrite w 8 1
    | none => c

/-- REMOTE_WRITE_JUDGE (R557): eight ring cycles after the write `tag` was posted. -/
def execRemoteWriteJudge (tag : Byte) (s : State) : Host.Outcome State Fault Refusal :=
  s.run fun c => match c.ring.writes.find? fun w => w.tag == tag.toNat && !w.judged with
    | some w => c.judgeTarget w.target w.tag
    | none => c

/-- RING_MASTER_LOST (R535, R568): four cycle periods without a valid beacon on an inserted node. -/
def execRingMasterLost (s : State) : Host.Outcome State Fault Refusal :=
  s.run (ringEvent fun c =>
    if c.link = 3 && !c.isMaster && !c.ring.lost then
      ((c.addFld F.ringCounts_BEACONS_MISSED (4 - c.ring.missRun)).unlock).modRing (fun r =>
        { r with lost := true, cur := none, last := none, splice := false, missRun := 4 }) |>.ringFault 0x0701 0
    else c)

/-- MASTER_ELECTION (R528, R531): an inserted, master-capable node has received no valid beacon for `periods` cycle periods, which
reach 4 and twice its key. -/
def execMasterElection (s : State) (periods : Nat := 0) : Host.Outcome State Fault Refusal :=
  s.run (ringEvent fun c =>
    if c.link = 3 && c.masterCapable && c.ring.lost && !c.isMaster && c.keyWaited periods then c.becomeMaster else c)

/-- RING_BROKEN (R568): the master has received no valid beacon of its own for 4 cycle periods. -/
def execRingBroken (s : State) : Host.Outcome State Fault Refusal :=
  s.run fun c => if c.isMaster then c.ringFault 0x0703 0 else c

/-- RING_JOIN_FAILED (R563): no JOIN_ACK has come within 8 cycles of JOIN. -/
def execRingJoinFailed (s : State) : Host.Outcome State Fault Refusal :=
  s.run (ringEvent fun c =>
    if c.link = 2 && c.ring.joining.any (decide <| 8 ≤ ·) then
      (((c.setFld F.ringJoinStatus_RESULT 4).setFld F.ringJoinStatus_RETRY_IN 64).modRing fun r =>
        { r with closing := some 1, joining := none }).ringFault 0x0705 0
    else c)

/-- JOIN_RETRY (R563): the 64 cycles that RETRY_IN counts are over. -/
def execJoinRetry (s : State) : Host.Outcome State Fault Refusal :=
  s.run fun c =>
    if c.link = 1 && decide (c.fld F.ringJoinStatus_RETRY_IN ≤ 1) then (c.setFld F.ringJoinStatus_RETRY_IN 0).modRing fun r => { r with beacons := 0 } else c

/-- RING_FOUND (R695): a listening, master-capable node has received no valid beacon for `periods` cycle periods since LINK became 1,
which reach 4 and twice its key. -/
def execRingFound (s : State) (periods : Nat := 0) : Host.Outcome State Fault Refusal :=
  s.run (ringEvent fun c =>
    if c.link = 1 && c.masterCapable && !c.ring.heard && c.keyWaited periods then c.becomeMaster else c)

/-- INSERT_ENABLE (R561): RING_CONTROL is written with INSERT_EN = 1 and the present RING_LTR. -/
def execInsertEnable (s : State) : Host.Outcome State Fault Refusal :=
  s.run (hostWrite (ringEvent fun c => c.writeRingControl (1 + 2 * c.fld F.ringControl_RING_LTR)))

/-- RING_LEAVE (R564): RING_CONTROL is written with LEAVE = 1 and its other fields as they are. -/
def execRingLeave (s : State) : Host.Outcome State Fault Refusal :=
  s.run (hostWrite (ringEvent fun c =>
    c.writeRingControl (4 + 2 * c.fld F.ringControl_RING_LTR + c.fld F.ringControl_INSERT_EN)))

/-- RING_SET_TIME (R539): the outstanding mailbox command 0x0701. -/
def execRingSetTime (s : State) : Host.Outcome State Fault Refusal :=
  s.run (withCommand 0x0701 ringSetTime)

end Sys2Proof.Machine
end

