-- ==== Sys2Proof/Machine/View.lean ====
section
/-!
DEFINITION. What a read of each register returns, without its side effects: the stored value, or the value that the block's
state gives (R77, R86). The latched registers are stored.
-/

namespace Sys2Proof.Machine

namespace Chip

/-- ID_PART (R2). -/
def partId (c : Chip) : Nat := if c.part = .lb8620 then 0x8620 else 0x8612

/-- WDT_KICK as read: the value expected next, 0 while the watchdog is disabled (R81). -/
def wdtKickView (c : Chip) : Nat := if c.flag F.safeControl_WDT_EN then c.flt.wdtExpect.toNat else 0

/-- WDT_STATUS: the time left in 0.1 ms (R470). -/
def wdtStatusView (c : Chip) : Nat := if c.flag F.safeControl_WDT_EN then c.flt.wdtLeft / 20000 else 0

/-- CAN_DIAG_ID: it follows NODE until the first accepted commit (R672). -/
def canDiagIdView (c : Chip) : Nat :=
  if c.can.idSet then (c.get R.canDiagId).toNat else 0x06000500 + 0x00010001 * c.fld F.ringAddr_NODE

/-- REQ_ID. -/
def reqId (c : Chip) : Nat := bitsOf c.canDiagIdView 10 0

/-- RESP_ID. -/
def respId (c : Chip) : Nat := bitsOf c.canDiagIdView 26 16

/-- CAN_STB is high (R641). -/
def canStb (c : Chip) : Bool := !(c.flag F.canCfg_EN && c.ready && decide (c.fld F.pwrState_STATE < 2))

/-! ## The choice of the power state (R497, R499) -/

/-- The effective latency tolerance. -/
def ltrEff (c : Chip) : Nat := if c.flag F.pwrState_RING_LTR_ACTIVE then c.power.ringLtr.toNat else (c.get R.ltr).toNat

/-- The ring and twin floor is in force. -/
def floorLink (c : Chip) : Bool := (c.link == 3 || c.linkUp) && !c.flag F.pwrState_RING_LTR_ACTIVE

/-- The ring-master floor is in force. -/
def floorMaster (c : Chip) : Bool := c.isMaster && !c.ring.rotating.isEmpty

/-- Some floor holds the device in IDLE or RUN. -/
def floored (c : Chip) : Bool :=
  c.flag F.pwrState_ROTATING || c.flag F.pwrStatus_FLOOR_DWELL || c.floorLink || c.floorMaster

/-- The chosen state: 0 RUN, 1 IDLE, 2 WATCH, 3 RETAIN, 4 OFF. -/
def chosenState (c : Chip) : Nat :=
  let s := deepest c.ltrEff
  let s1 := if s = 4 ∧ ¬(c.flag F.pwrCfg_OFF_EN ∧ c.power.keyOff) then 3 else s
  if c.floored then min s1 1 else s1

/-- What defers an entry to WATCH, RETAIN or OFF. -/
def deferred (c : Chip) : Bool :=
  c.flag F.mbxStatus_BUSY || !c.cipher.queue.isEmpty || !c.jnl.waiting.isEmpty || c.fld F.tagStatus_PHASE != 0

/-- PWR_STATUS as read. -/
def pwrStatusView (c : Chip) : Nat :=
  let wants := decide (2 ≤ c.chosenState) && decide (c.fld F.pwrState_STATE < c.chosenState) && !c.power.offEntry
  c.ltrEff * 65536 + b2n (c.flag F.pwrStatus_KEY) * 32768 + b2n (wants && c.deferred) * 2048 + b2n c.floorMaster * 1024 +
    b2n c.floorLink * 512 + b2n (c.flag F.pwrStatus_FLOOR_DWELL) * 256 + b2n (c.flag F.pwrState_ROTATING) * 128

/-- All sources active for some target. -/
def activeSources (c : Chip) : Nat := (c.irq.actA ||| c.irq.actB ||| c.irq.actS).toNat

/-- The registers whose value the state gives elsewhere, with that value. -/
def computedViews : List (Nat × (Chip → Nat)) :=
  [(R.idPart, partId),
   (R.frameCountL, fun c => c.tb.frame.toNat % 65536),
   (R.faultSummary, faultSummary),
   (R.irqGlobal, fun c => (c.get R.irqGlobal).toNat % 4 + b2n (c.anyEligible 0) * 256 + b2n (c.anyEligible 1) * 512),
   (R.angleL, fun c => c.pub.angle % 65536),
   (R.twinStatus, fun c => putBits (c.get R.twinStatus).toNat 4 4 (b2n c.twinEn)),
   (R.wdtKick, wdtKickView),
   (R.timeEpoch, fun c => c.tb.epoch.toNat),
   (R.devUnlock, fun c => (c.get R.devUnlock).toNat % 256 + b2n (decide (0 < c.bus.openTicks)) * 32768)] ++
  [(R.irqPendingL, fun c => c.irq.pend.toNat % 2 ^ 32),
   (R.irqPendingH, fun c => c.irq.pend.toNat / 2 ^ 32),
   (R.irqActiveL, fun c => c.activeSources % 2 ^ 32),
   (R.irqActiveH, fun c => c.activeSources / 2 ^ 32),
   (R.faultQueue, faultQueue),
   (R.faultOrdinal, fun c => c.flt.ordinal.toNat),
   (R.wdtStatus, wdtStatusView)] ++
  [(R.cipherUidL, fun _ => Config.devUid.toNat % 2 ^ 32),
   (R.cipherUidH, fun _ => Config.devUid.toNat / 2 ^ 32),
   (R.calFloor, fun c => c.cipher.calFloor),
   (R.canStatus, fun c => putBits (c.get R.canStatus).toNat 3 3 (b2n c.canStb)),
   (R.canDiagId, canDiagIdView),
   (R.pwrStatus, pwrStatusView),
   (R.ringSlew, fun c => c.ring.slew)]

/-- IRQ_SRC_s with its PENDING and ACTIVE bits (R441). -/
def irqSrcView (c : Chip) (a : Nat) : Nat :=
  let s := (a - R.irqSrc 0) / 4
  (c.get a).toNat % 65536 + b2n (srcBit c.irq.pend s) * 65536 + b2n (c.isActive s) * 131072

/-- INJ_ENABLE and INJ_EFFECTIVE on a part: bits 12 to 23 read 0 on the LB8612 (R349). -/
def injView (c : Chip) (a : Nat) : Nat :=
  if c.part = .lb8612 then (c.get a).toNat % 4096 else (c.get a).toNat

/-- The value a read of register `a` returns; a write-only register reads 0 (R77). -/
def view (c : Chip) (a : Nat) : Nat :=
  if c.absent a then 0
  else match computedViews.find? fun x => x.1 == a with
    | some x => x.2 c
    | none =>
      if amongRegs R.irqSrc 1 63 a then c.irqSrcView a
      else if a = R.injEnable ∨ a = R.injEffective then c.injView a
      else match regRow? a with
        | some r => ((c.get a) &&& ~~~ r.wo).toNat
        | none => 0

end Chip

end Sys2Proof.Machine
end

