-- ==== Sys2Proof/Machine/TroubleCodes.lean ====
section
/-!
DEFINITION. Trouble codes (R662 to R667): how fault codes map to them, the trouble-code memory as a view of the journal, status
bytes and records.
-/

namespace Sys2Proof.Machine

/-- The trouble code of a fault code with its unit, as a 24-bit number (R662). -/
def dtcOf (code unit : Nat) : Nat :=
  let high := code / 256 % 256
  let low := code % 256
  let type :=
    if high = 2 ∨ high = 5 ∨ high = 8 then unit % 256
    else if high = 4 then (if 0x1000 ≤ unit then (0x40 + unit % 256) % 256 else unit % 256)
    else 0
  ((0x10 + high) % 256 * 256 + low) * 256 + type

namespace JEntry

/-- A RAISED entry. -/
def isRaised (e : JEntry) : Bool := e.valid && e.kind == 1

/-- A RAISED or a REPEAT_SUMMARY entry. -/
def isFault (e : JEntry) : Bool := e.valid && (e.kind == 1 || e.kind == 2)

/-- A marker of service 0x14 (R663). -/
def isClear (e : JEntry) : Bool := e.valid && e.kind == 9 && e.code == 0x0014

/-- A marker of service 0x85 with a DETAIL (R663). -/
def isSetting (e : JEntry) (d : Word) : Bool := e.valid && e.kind == 9 && e.code == 0x0085 && e.detail == d

/-- A BOOT entry. -/
def isBoot (e : JEntry) : Bool := e.valid && e.kind == 3

/-- The trouble code of an entry. -/
def dtc (e : JEntry) : Nat := dtcOf e.code.toNat e.unit.toNat

end JEntry

/-- One entry more, oldest first: the memory so far, and whether entries are left out now (R664). -/
def memoryStep (p : List JEntry × Bool) (e : JEntry) : List JEntry × Bool :=
  if e.isClear then ([], p.2)
  else if e.isSetting 2 then (p.1, true)
  else if e.isSetting 1 || e.isBoot then (p.1, false)
  else if e.isFault && !p.2 then (p.1 ++ [e], p.2)
  else p

namespace Chip

/-- The trouble-code memory (R664), oldest entry first. -/
def dtcMemory (c : Chip) : List JEntry := (c.jnl.entries.foldl memoryStep ([], false)).1

/-- The trouble codes in memory, each once, in order of their first entry. -/
def memoryCodes (c : Chip) : List Nat := (c.dtcMemory.map JEntry.dtc).foldl (fun l d => if l.contains d then l else l ++ [d]) []

/-- The trouble codes in memory that the index cannot hold (R664). -/
def unindexed (c : Chip) : List Nat := c.memoryCodes.drop 128

/-- The entries after the newest BOOT entry. -/
def sinceBoot (c : Chip) : List JEntry :=
  c.jnl.entries.foldl (fun l e => if e.isBoot then [] else l ++ [e]) []

/-- The trouble codes raised since the newest BOOT entry. -/
def raisedCodes (c : Chip) : List Nat := (c.sinceBoot.filter JEntry.isRaised).map JEntry.dtc

/-- The record in slot `k` maps to a trouble code: it is journaled under R442 (R662). -/
def slotMapped (c : Chip) (k : Nat) : Bool :=
  (c.slotClass k != 0 || c.flag F.faultCfg_JOURNAL_F0) && c.slotWord k 1 != 0x0C01

/-- The trouble code of the record in slot `k`. -/
def slotDtc (c : Chip) (k : Nat) : Nat := dtcOf (c.slotWord k 1) (c.slotWord k 2)

/-- The slot whose record makes trouble code `d` active. -/
def activeSlot (c : Chip) (d : Nat) : Option Nat := c.usedSlots.find? fun k => c.slotMapped k && c.slotDtc k == d

/-- The status byte of a trouble code by the journal and the queue (R666). -/
def liveStatus (c : Chip) (d : Nat) : Nat :=
  let act := (c.activeSlot d).isSome
  let cyc := act || c.raisedCodes.contains d
  let mem := c.memoryCodes.contains d
  b2n act + b2n cyc * 6 + b2n mem * 40

/-- Every trouble code in memory, active, or raised since the newest BOOT entry, each once. -/
def knownCodes (c : Chip) : List Nat :=
  (c.memoryCodes ++ c.raisedCodes ++ (c.usedSlots.filter c.slotMapped).map c.slotDtc).foldl
    (fun l d => if l.contains d then l else l ++ [d]) []

/-- The DTC setting is off. -/
def dtcOff (c : Chip) : Bool := c.flag F.canDiagStatus_DTC_OFF

/-- The status byte as reported: while the DTC setting is off, bits 1 to 3 and 5 stand as they did (R666). -/
def dtcStatus (c : Chip) (d : Nat) : Nat :=
  if c.dtcOff then
    let old := match c.can.frozen.find? fun x => x.1 == d with
      | some x => x.2
      | none => 0
    old - old % 2 + b2n (c.activeSlot d).isSome
  else c.liveStatus d

/-- A code and its status placed into an ascending list. -/
def insertCode (x : Nat × Nat) : List (Nat × Nat) → List (Nat × Nat)
  | [] => [x]
  | y :: l => if x.1 < y.1 then x :: y :: l else y :: insertCode x l

/-- The reported trouble codes with their status, in ascending order (R667). -/
def reportedCodes (c : Chip) : List (Nat × Nat) :=
  let known := if c.dtcOff then (c.can.frozen.map (·.1)) ++ c.knownCodes.filter (fun d => !(c.can.frozen.any fun x => x.1 == d))
    else c.knownCodes
  ((known.filter fun d => !c.unindexed.contains d).map fun d => (d, c.dtcStatus d)).foldr insertCode []

/-- The trouble codes a status mask selects (R667). -/
def codesByMask (c : Chip) (mask : Nat) : List (Nat × Nat) := c.reportedCodes.filter fun x => x.2 &&& mask != 0

/-- Trouble code `d` is in memory or active, and the index holds it. -/
def dtcPresent (c : Chip) (d : Nat) : Bool :=
  (c.memoryCodes.contains d || (c.activeSlot d).isSome) && !c.unindexed.contains d

/-- The RAISED entries of a trouble code in memory. -/
def raisedOf (c : Chip) (d : Nat) : List JEntry := c.dtcMemory.filter fun e => e.isRaised && e.dtc == d

/-- Snapshot record 0x01 (R667). -/
def snapshotOne (c : Chip) (d : Nat) : Option (List Byte) :=
  (c.raisedOf d).getLast?.map fun e =>
    beBytes 4 e.opTime.toNat ++ beBytes 2 e.boot.toNat ++ beBytes 4 e.frame.toNat ++ beBytes 2 e.unit.toNat ++
      beBytes 2 e.detail.toNat ++ beBytes 1 e.cls

/-- Snapshot record 0x02: fault context words 16 to 29 of the active record (R667). -/
def snapshotTwo (c : Chip) (d : Nat) : Option (List Byte) :=
  (c.activeSlot d).map fun k => c.bytes (slotOff k + 32) 28

/-- Extended data record 0x01: occurrences (R667). -/
def extendedOne (c : Chip) (d : Nat) : List Byte :=
  let mem := c.dtcMemory.filter fun e => e.dtc == d
  let n := mem.foldl (fun m e => if e.kind = 1 then m + 1 else m + e.rep.toNat) 0
  let act := match c.activeSlot d with
    | some k => c.slotWord k 4
    | none => 0
  beBytes 2 (min 0xFFFF (n + act))

/-- Extended data record 0x02: OP_TIME of the oldest and of the newest RAISED entry (R667). -/
def extendedTwo (c : Chip) (d : Nat) : Option (List Byte) :=
  match (c.raisedOf d).head?, (c.raisedOf d).getLast? with
  | some a, some b => some (beBytes 4 a.opTime.toNat ++ beBytes 4 b.opTime.toNat)
  | _, _ => none

/-- Records by number as a response carries them: the number, then the content; 0xFF asks for all of them; none where the
number is not one of theirs. -/
def recordsByNumber (r : Nat) (l : List (Nat × Option (List Byte))) : Option (List Byte) :=
  let wanted := l.filter fun x => r == 0xFF || x.1 == r
  if wanted.isEmpty then none
  else some (wanted.flatMap fun x => match x.2 with
    | some b => BitVec.ofNat 8 x.1 :: b
    | none => [])

end Chip

end Sys2Proof.Machine
end

