-- ==== Sys2Proof/Machine/CanBus.lean ====
section
/-!
DEFINITION. The CAN FD controller (R637 to R646): what a received frame does, queued and aborted frames, error states and
commits to the region, and what a change of diagnostic session does (R649, R654, R665).
-/

namespace Sys2Proof.Machine

namespace Chip

/-- The service port passed through `f`. -/
def modCan (f : Can → Can) (c : Chip) : Chip := { c with can := f c.can }

/-- CAN_STATUS.STATE: 0 error-active, 1 error-passive, 2 bus-off, 3 stopped. -/
def canState (c : Chip) : Nat := c.fld F.canStatus_STATE

/-- The controller takes part in the bus (R640, R671). -/
def canRuns (c : Chip) : Bool := c.ready && c.flag F.canCfg_EN && decide (c.canState < 2) && decide (c.fld F.pwrState_STATE < 2)

/-! ## Reception (R644, R645) -/

/-- The identifier bits that count for a frame of this type (R672). -/
def idBits (ide : Bool) (n : Nat) : Nat := if ide then n % 2 ^ 29 else n % 2 ^ 11

/-- Buffer `b` meets every condition of rule 2 except FULL = 0 (R644). -/
def mbMatches (c : Chip) (f : CanFrame) (b : Nat) : Bool :=
  let mask := idBits f.ide (c.get (R.mbMask b)).toNat
  c.flag (F.mbCfg_EN b) && !c.flag (F.mbCfg_DIR b) && c.flag (F.mbCfg_IDE b) == f.ide &&
    idBits f.ide f.id.toNat &&& mask == idBits f.ide (c.get (R.mbId b)).toNat &&& mask &&
    (if c.flag (F.mbCfg_FDF b) then !f.rtr else !f.fdf)

/-- The host buffers. -/
def hostBuffers : List Nat := (List.range 12).map (· + 4)

/-- An event of buffer `b` raises source 59 where IRQ_EN is 1. -/
def mbEvent (b : Nat) (c : Chip) : Chip := c.doIf (c.flag (F.mbCfg_IRQ_EN b)) (raise 59)

/-- The 16 data words of a buffer. -/
def putMbData (b : Nat) (data : List Byte) (c : Chip) : Chip :=
  (List.range 16).foldl (fun d w =>
    d.put (R.mbData b w) (BitVec.ofNat 32 (leValue ((fitBytes 64 data).drop (4 * w) |>.take 4)))) c

/-- A frame is stored in buffer `b` (R645). -/
def storeFrame (b : Nat) (f : CanFrame) (c : Chip) : Chip :=
  let low := (c.get (R.mbStatus b)).toNat % 16
  let st := low + b2n f.rtr * 16 + f.dlc.val * 256 + b2n f.fdf * 4096 + b2n f.brs * 8192 + b2n f.esi * 16384 +
    b2n f.ide * 32768
  let c1 := (c.putMbData b (if f.rtr then [] else f.data)).put (R.mbRxid b) (BitVec.ofNat 32 (idBits f.ide f.id.toNat))
  (((c1.put (R.mbStatus b) (BitVec.ofNat 32 st)).put (R.mbStamp b) c.tb.frame).setFlag (F.mbStatus_FULL b) true).mbEvent b

/-- A frame is lost. -/
def loseFrame (c : Chip) : Chip := c.incFld F.canCounts_RX_LOST

/-- The error state that the counters give while the controller runs; an entry into error-passive raises its fault (R642). -/
def showErrors (c : Chip) : Chip :=
  if 2 ≤ c.canState then c
  else
    let passive := decide (127 < c.fld F.canStatus_TEC) || decide (127 < c.fld F.canStatus_REC)
    if passive && c.canState == 0 then (c.setFld F.canStatus_STATE 1).fault 0x0A02 0 0
    else c.setFld F.canStatus_STATE (b2n passive)

/-- A frame received without an error lowers REC: by one, or from above 127 to a value from 119 to 127. -/
def lowerRec (c : Chip) : Chip :=
  let r := c.fld F.canStatus_REC
  (if 127 < r then (c.setFld F.canStatus_REC (119 + Config.freeNat c.free % 9)).useFree
    else c.setFld F.canStatus_REC (r - 1)).showErrors

/-- A frame is placed by the rules of R644. -/
def placeFrame (f : CanFrame) (c : Chip) : Chip :=
  if !f.ide && f.id.toNat == c.reqId then c.modCan fun q => { q with frames := q.frames ++ [(false, f)] }
  else if !f.ide && f.id.toNat == c.fld F.canDiagCfg_FUNC_ID then c.modCan fun q => { q with frames := q.frames ++ [(true, f)] }
  else if c.can.rxOff then c.loseFrame
  else match hostBuffers.find? fun b => c.mbMatches f b && !c.flag (F.mbStatus_FULL b) with
    | some b => c.storeFrame b f
    | none => match hostBuffers.find? (c.mbMatches f) with
      | some b => (c.setFlag (F.mbStatus_OVR b) true).loseFrame
      | none => c.loseFrame

/-- A frame is received (R644). -/
def receiveFrame (f : CanFrame) (c : Chip) : Chip :=
  if !c.canRuns || (f.fdf && !c.flag F.canCfg_FD_EN) then c else (c.lowerRec).placeFrame f

/-! ## Transmission (R646) -/

/-- The frame of host buffer `b` is queued. -/
def mbQueued (c : Chip) (b : Nat) : Bool := c.flag (F.mbCfg_TX_REQ b)

/-- The frame of host buffer `b` may be sent now (R654, CAN_CFG.FD_EN). -/
def mbSends (c : Chip) (b : Nat) : Bool :=
  c.mbQueued b && !c.flag F.canStatus_COMM_TX_OFF && (!c.flag (F.mbCfg_FDF b) || c.flag F.canCfg_FD_EN)

/-- The arbitration field of a frame as a number: the lower, the higher its priority (R646). -/
def arbitration (ide rtr : Bool) (id : Nat) : Nat :=
  if ide then id % 2 ^ 29 / 2 ^ 18 * 2 ^ 21 + 3 * 2 ^ 19 + id % 2 ^ 18 * 2 + b2n rtr
  else id % 2 ^ 11 * 2 ^ 21 + b2n rtr * 2 ^ 20

/-- The arbitration field of buffer `b`. -/
def mbPriority (c : Chip) (b : Nat) : Nat :=
  if b = 2 then arbitration false false c.respId
  else arbitration (c.flag (F.mbCfg_IDE b)) (c.flag (F.mbCfg_RTR b)) (c.get (R.mbId b)).toNat

/-- The buffers that compete, of those in `mask`. -/
def competing (c : Chip) (mask : Nat) : List Nat :=
  (if bitOf mask 2 && !c.can.out.isEmpty then [2] else []) ++ hostBuffers.filter fun b => bitOf mask b && c.mbSends b

/-- The buffer that the controller sends first of those in `mask` (R646). -/
def nextBuffer (c : Chip) (mask : Nat) : Option Nat :=
  (c.competing mask).foldl (fun best b => match best with
    | none => some b
    | some a => if c.mbPriority b < c.mbPriority a then some b else some a) none

/-- The number of data bytes that a data length code stands for (ISO 11898-1). -/
def dlcBytes (fdf : Bool) (dlc : Nat) : Nat :=
  if dlc ≤ 8 then dlc else if fdf then [12, 16, 20, 24, 32, 48, 64].getD (dlc - 9) 64 else 8

/-- The frame that buffer `b` sends (R646, R672): that of buffer 2 is the oldest of the supervisor's; an FD frame of a host buffer
switches rate where the buffer and CAN_CFG.BRS_EN say so; a passive controller's carries ESI. -/
def txFrame (c : Chip) (b : Nat) : Option CanFrame :=
  let esi := fun f : CanFrame => { f with esi := f.fdf && c.canState == 1 }
  if b = 2 then c.can.out.head?.map esi
  else
    let fdf := c.flag (F.mbCfg_FDF b)
    let dlc : Fin 16 := Fin.ofNat 16 (c.fld (F.mbCfg_DLC b))
    let data := (List.range 16).flatMap fun w => leBytes 4 (c.get (R.mbData b w)).toNat
    let rtr := c.flag (F.mbCfg_RTR b)
    some (esi { id := BitVec.ofNat 29 (idBits (c.flag (F.mbCfg_IDE b)) (c.get (R.mbId b)).toNat), ide := c.flag (F.mbCfg_IDE b)
                rtr := rtr, fdf := fdf, brs := fdf && c.flag (F.mbCfg_BRS b) && c.flag F.canCfg_BRS_EN, esi := false, dlc := dlc
                data := if rtr then [] else data.take (dlcBytes fdf dlc.val) })

/-- The frame of buffer `b` has been sent. -/
def sentFrom (b : Nat) (c : Chip) : Chip :=
  let c0 := c.modCan fun q => { q with sent := c.txFrame b }
  let c1 := (c0.setFld F.canStatus_TEC (c.fld F.canStatus_TEC - 1)).showErrors
  if b = 2 then c1.modCan fun q => { q with out := q.out.drop 1 }
  else ((c1.setFlag (F.mbCfg_TX_REQ b) false).setFlag (F.mbStatus_TX_DONE b) true).mbEvent b

/-- A frame has been sent: that of the highest priority among the buffers of `mask`; none is sent in restricted operation. -/
def txComplete (mask : Nat) (c : Chip) : Chip :=
  if !c.canRuns || c.flag F.canCfg_LISTEN_ONLY then c
  else match c.nextBuffer mask with
    | some b => c.sentFrom b
    | none => c

/-- A commit of MB_CFG_b acts (R646); `sending` says that the buffer's frame is being transmitted. -/
def commitMbCfg (b : Nat) (v : DWord) (sending : Bool) (c : Chip) : Chip :=
  let was := c.mbQueued b
  let c1 := c.storeMasked (R.mbCfg b) v
  let c2 := c1.setFlag (F.mbCfg_TX_REQ b)
    ((c1.flag (F.mbCfg_TX_REQ b) && c1.flag (F.mbCfg_EN b) && c1.flag (F.mbCfg_DIR b)) || (was && sending))
  if was && !c2.mbQueued b then (c2.setFlag (F.mbStatus_TX_ABORTED b) true).mbEvent b else c2

/-! ## Start, stop and error states (R639, R640, R642, R671) -/

/-- A queued CAN_BUS_OFF record stands again (R450). -/
def restand (code : Nat) (c : Chip) : Chip :=
  match slots.find? fun k => c.slotWord k 1 == code with
  | some k => if c.slotStanding k then c else c.putRecord (slotOff k) [(3, c.slotWord k 3 % 4 + 4)]
  | none => c

/-- The controller starts, or stays stopped where EN is 0. One that was bus-off recovers (R642). -/
def canStart (c : Chip) : Chip :=
  if !c.flag F.canCfg_EN then c.setFld F.canStatus_STATE 3
  else if c.can.busOff then ((c.setFld F.canStatus_STATE 2).modCan fun q => { q with recovering := true }).restand 0x0A01
  else (c.setFld F.canStatus_STATE 0).showErrors

/-- The controller stops (R639, R671). -/
def canStop (c : Chip) : Chip :=
  ((c.setFld F.canStatus_STATE 3).modCan fun q => { q with recovering := false }).endStanding 0x0A01 0

/-- A commit of CAN_CFG acts (R639). -/
def commitCanCfg (v : DWord) (c : Chip) : Chip :=
  let was := c.flag F.canCfg_EN
  let c1 := c.storeMasked R.canCfg v
  let now := c1.flag F.canCfg_EN
  if now && !was && decide (c1.fld F.pwrState_STATE < 2) then c1.canStart
  else if was && !now then c1.canStop
  else c1

/-- The controller goes bus-off (R642). -/
def goBusOff (c : Chip) : Chip :=
  if !c.canRuns then c
  else
    let c1 := ((c.setFld F.canStatus_TEC 255).setFld F.canStatus_STATE 2).incFld F.canCounts_BUS_OFFS
    ((c1.modCan fun q => { q with busOff := true, recovering := c.flag F.canCfg_BUSOFF_AUTO }).raise 59).faultStanding 0x0A01 0 0

/-- 128 occurrences of 11 recessive bits have passed in recovery (R642). -/
def recoverBus (c : Chip) : Chip :=
  if c.canState = 2 ∧ c.can.recovering then
    ((((c.setFld F.canStatus_STATE 0).setFld F.canStatus_TEC 0).setFld F.canStatus_REC 0).modCan fun q =>
      { q with busOff := false, recovering := false }).endStanding 0x0A01 0
  else c

/-- The code of an error in CAN_STATUS.LAST_ERR. -/
def errCode : CanError → Nat
  | .stuff => 1
  | .form => 2
  | .acknowledgement => 3
  | .bit1 => 4
  | .bit0 => 5
  | .crc => 6

/-- An error on the bus with the counters it leaves (R642). -/
def busError (kind : CanError) (tec rec : Nat) (c : Chip) : Chip :=
  if !c.canRuns then c
  else (((c.setFld F.canStatus_LAST_ERR (errCode kind)).setFld F.canStatus_TEC tec).setFld F.canStatus_REC rec).showErrors

/-- A commit to the CAN FD region acts (R672). -/
def commitCan (a : Nat) (v : DWord) (c : Chip) : Chip :=
  if a = R.canCfg then c.commitCanCfg v
  else if a = R.canDiagId then (c.storeMasked a v).modCan fun q => { q with idSet := true }
  else match hostBuffers.find? fun b => R.mbCfg b == a with
    | some b => c.commitMbCfg b v false
    | none => c.storeMasked a v

/-! ## Sessions (R649, R654, R665) -/

/-- CAN_DIAG_STATUS.SESSION. -/
def session (c : Chip) : Nat := c.fld F.canDiagStatus_SESSION

/-- Service 0x28's sub-function 0x00: host buffers send and receive again (R654). -/
def restoreComm (c : Chip) : Chip :=
  (c.setFlag F.canStatus_COMM_TX_OFF false).modCan fun q => { q with rxOff := false }

/-- The marker of a change of the DTC setting (R663). -/
def dtcMarker (detail : Word) (c : Chip) : JCause := { kind := 9, code := 0x0085, detail := detail, frame := c.tb.frame }

/-- The DTC setting returns to on, with its marker (R665). -/
def dtcOn (c : Chip) : Chip :=
  if c.dtcOff then
    ((c.setFlag F.canDiagStatus_DTC_OFF false).modCan fun q => { q with frozen := [] }).journal (dtcMarker 1 c)
  else c

/-- The session becomes `n`: security access is relocked, the end of the extended session turns the DTC setting on, the default
session restores communication (R649, R654, R665). -/
def setSession (n : Nat) (c : Chip) : Chip :=
  if c.session = n then c
  else
    let c1 := (c.setFld F.canDiagStatus_SESSION n).setFld F.canDiagStatus_LEVEL 0
    (c1.doIf (c.session == 3) dtcOn).doIf (n == 1) restoreComm

/-- At entry to WATCH, RETAIN or OFF the port's transfers and the request in service end with the session (R649, R671). -/
def endDiag (c : Chip) : Chip :=
  ((c.setSession 1).setFlag F.canDiagStatus_FWD_PENDING false).modCan fun q =>
    { q with frames := [], out := [], rx := none, req := none, tx := none, put := [], resetAfter := false }

end Chip

open Chip

/-- CAN_FRAME_RECEIVE (R644, R645): a frame ends on the bus without an error. -/
def execCanFrameReceive (f : CanFrame) (s : State) : Host.Outcome State Fault Refusal := s.run (receiveFrame f)

/-- MB_TX_REQUEST (R646): a commit of MB_CFG of host buffer 4 + `b` acts with TX_REQ = 1. -/
def execMbTxRequest (b : Fin 12) (v : DWord) (s : State) : Host.Outcome State Fault Refusal :=
  s.run fun c => (c.takeSup (R.mbCfg (4 + b))).commitMbCfg (4 + b) v false

/-- MB_TX_ABORT (R646): a commit of MB_CFG of host buffer 4 + `b` acts with TX_REQ = 0; `sending` says that its frame is
already being transmitted. -/
def execMbTxAbort (b : Fin 12) (v : DWord) (sending : Bool) (s : State) : Host.Outcome State Fault Refusal :=
  s.run fun c => (c.takeSup (R.mbCfg (4 + b))).commitMbCfg (4 + b) v sending

/-- MB_FULL_CLEAR (R645): a commit of MB_STATUS of host buffer 4 + `b` clears the flags written 1. -/
def execMbFullClear (b : Fin 12) (v : DWord) (s : State) : Host.Outcome State Fault Refusal :=
  s.run fun c => (c.takeSup (R.mbStatus (4 + b))).storeMasked (R.mbStatus (4 + b)) v

/-- CAN_CFG_COMMIT (R639): a commit of CAN_CFG takes effect. -/
def execCanCfgCommit (v : DWord) (s : State) : Host.Outcome State Fault Refusal :=
  s.run fun c => (c.takeSup R.canCfg).commitCanCfg v

/-- CAN_BUS_OFF (R642): the transmit error counter passes 255. -/
def execCanBusOff (s : State) : Host.Outcome State Fault Refusal := s.run goBusOff

/-- CAN_BUSOFF_RECOVERY (R642): the recovery has seen its 128 occurrences of 11 recessive bits. -/
def execCanBusoffRecovery (s : State) : Host.Outcome State Fault Refusal := s.run recoverBus

/-- CAN_BUS_ERROR (R642): the controller detects an error, which leaves its counters at `tec` and `rec`. -/
def execCanBusError (kind : CanError) (tec rec : Byte) (s : State) : Host.Outcome State Fault Refusal :=
  s.run (busError kind tec.toNat rec.toNat)

end Sys2Proof.Machine
end

