-- ==== Sys2Proof/Machine/Tag.lean ====
section
/-!
DEFINITION. The service tag display (16): the due image (R678 to R680), the start conditions and steps of an update (R681 to
R687) with the voltages they drive (R675), failure and recovery (R688 to R690), and the commands.
-/

namespace Sys2Proof.Machine

namespace Chip

/-- The tag passed through `f`. -/
def modTag (f : Tag → Tag) (c : Chip) : Chip := { c with tag := f c.tag }

/-! ## Writing a journal entry at once (R466) -/

/-- Every waiting cause is written; bit 2i of `fails` says that the write of the i-th fails, bit 2i + 1 that its erase does (R468). -/
def flushJournal (fails : Nat) (c : Chip) : Chip :=
  (List.range c.jnl.waiting.length).foldl (fun d i => d.journalNext (!bitOf fails (2 * i)) (!bitOf fails (2 * i + 1))) c

/-- A cause is written at once, after those that waited before it; `fails` as for those. -/
def writeNow (x : JCause) (fails : Nat) (c : Chip) : Chip := (c.journal x).flushJournal fails

/-- `fails` of `n` waiting causes, with `ok` and `eraseOk`, as JOURNAL_WRITE has them, for the one after them. -/
def failsThen (n fails : Nat) (ok eraseOk : Bool) : Nat := fails % 4 ^ n + (b2n (!ok) + 2 * b2n (!eraseOk)) * 4 ^ n

/-- The next entry would be written well. -/
def writeOk (c : Chip) (ok eraseOk : Bool) (fails : Nat) : Bool := ok && (eraseOk || !needsErase (c.flushJournal fails).jnl)

/-! ## The due image (R678 to R680) -/

/-- The seven-segment pattern of a digit; 16 stands for the dash. -/
def segments : Nat → Nat
  | 0 => 0x3F | 1 => 0x06 | 2 => 0x5B | 3 => 0x4F | 4 => 0x66 | 5 => 0x6D | 6 => 0x7D | 7 => 0x07
  | 8 => 0x7F | 9 => 0x6F | 10 => 0x77 | 11 => 0x7C | 12 => 0x39 | 13 => 0x5E | 14 => 0x79 | 15 => 0x71
  | _ => 0x40

/-- The operating-time scale in bits 21 to 26; OP_TIME is in units of 0.1 h. -/
def scale (op : Nat) : Nat :=
  b2n (decide (1000 ≤ op)) * 2 ^ 21 + b2n (decide (3000 ≤ op)) * 2 ^ 22 + b2n (decide (10000 ≤ op)) * 2 ^ 23 +
    b2n (decide (30000 ≤ op)) * 2 ^ 24 + b2n (decide (100000 ≤ op)) * 2 ^ 25 + b2n (decide (300000 ≤ op)) * 2 ^ 26

/-- The fault code that the tag shows: the newest RAISED entry in memory of at least MIN_CLASS. -/
def shownCode (c : Chip) : Option Nat :=
  ((c.dtcMemory.filter fun e => e.isRaised && decide (c.fld F.tagCfg_MIN_CLASS ≤ e.cls)).getLast?).map fun e => e.code.toNat

/-- TAG_DUE by its inputs (R679). -/
def dueImage (c : Chip) : Nat :=
  if c.flag F.tagCfg_SOURCE then (c.get R.tagHostImage).toNat % 2 ^ 27
  else
    let digits := match c.shownCode with
      | some x => segments (x / 256 % 16) + segments (x / 16 % 16) * 2 ^ 7 + segments (x % 16) * 2 ^ 14
      | none => segments 16 + segments 16 * 2 ^ 7 + segments 16 * 2 ^ 14
    digits + scale c.jnl.opTime.toNat

/-- TAG_STATUS.DUE follows TAG_DUE, TAG_IMAGE and RECOVERY_PENDING (R680). -/
def showDue (c : Chip) : Chip :=
  c.setFlag F.tagStatus_DUE
    ((c.get R.tagDue).toNat != (c.get R.tagImage).toNat % 2 ^ 27 || c.flag F.tagStatus_RECOVERY_PENDING)

/-- The supervisor computes TAG_DUE (R680). -/
def recomputeDue (c : Chip) : Chip := (c.put R.tagDue (BitVec.ofNat 32 c.dueImage)).showDue

/-! ## Starting an update (R676, R682, R683) -/

/-- A die temperature is below 0 °C. -/
def belowZero (c : Chip) : Bool :=
  decide (signedOf 16 (c.fld F.thermalStatus_TEMP_0) < 0) || decide (signedOf 16 (c.fld F.thermalStatus_TEMP_1) < 0)

/-- T_DRIVE in ms (R676). -/
def driveTime (c : Chip) : Nat :=
  let t := 10 * min 40 (max 10 (c.fld F.tagCfg_T_DRIVE))
  if c.flag F.tagCfg_COLD && c.belowZero then 2 * t else t

/-- R_REQ in ms (R682). -/
def tagReserve (c : Chip) : Nat := max 700 (20 + 3 * c.driveTime + 10 + 70)

/-- TAG_STATUS.PHASE. -/
def tagPhase (c : Chip) : Nat := c.fld F.tagStatus_PHASE

/-- An update runs. -/
def tagRuns (c : Chip) : Bool := c.tagPhase != 0 && c.tagPhase != 7

/-- The start condition of R682 that an update of a reason does not meet, as its result code (R691). -/
def tagRefusal (c : Chip) (reason : Nat) : Option Nat :=
  if c.tagRuns then some 0x0101
  else if c.flag F.supplyStatus_CRANK_DIP || c.flag F.supplyStatus_VBAT_REDUCED then some 0x0102
  else if c.fld F.holdupStatus_TAG_RESERVE < c.tagReserve then some 0x0100
  else if c.flag F.tagStatus_RECOVERY_PENDING && reason != 4 then some 0x0103
  else none

/-- The supervisor can start an update now: it runs, after READY, in RUN, IDLE or WATCH (R684). -/
def tagMayStart (c : Chip) (reason : Nat) : Bool :=
  c.supRuns && c.ready && decide (c.fld F.pwrState_STATE < 3) && !c.power.isOff && (c.tagRefusal reason).isNone

/-- An update starts: step 0 (R685). `clear` drives every segment light in step 1. -/
def startTag (reason : Nat) (clear : Bool) (c : Chip) : Chip :=
  ((c.setFld F.tagStatus_PHASE 1).setFld F.tagStatus_LAST_REASON reason).modTag fun t =>
    { t with reason := reason, image := (c.get R.tagDue).toNat, clear := clear || reason == 4, drive := c.driveTime }

/-- A command or a routine asks for an update (R683): the result, and the update started or the refusal counted. -/
def askTag (reason : Nat) (clear : Bool) (c : Chip) : Nat × Chip :=
  match c.tagRefusal reason with
  | none => (0, c.startTag reason clear)
  | some r => (r, c.incFld F.tagCounts_REFUSED)

/-- At entry to OFF, a waiting update starts as soon as its conditions hold (R683). -/
def tagPoll (c : Chip) : Chip := if c.tagPhase = 7 ∧ c.tagMayStart 1 then c.startTag 1 false else c

/-! ## The update order (R685 to R688) -/

/-- The update stops before step 5 (R688). -/
def failTag (c : Chip) : Chip :=
  let c1 := ((c.setFld F.tagStatus_PHASE 0).setFld F.tagStatus_LAST_RESULT 2).setFlag F.tagStatus_RECOVERY_PENDING true
  ((c1.modTag fun t => { t with ended := false }).incFld F.tagCounts_FAILED).showDue.fault 0x0B03 0 c.tag.reason

/-- The journal entry of an update (R687). -/
def tagEntry (kind : Nat) (c : Chip) : JCause :=
  { kind := kind, code := BitVec.ofNat 16 c.tag.reason, unit := BitVec.ofNat 16 (c.tag.image / 65536 % 2048),
    detail := BitVec.ofNat 16 c.tag.image, frame := c.tb.frame }

/-- Step 5 ends: the image is in force (R685, R690). -/
def finishTag (c : Chip) : Chip :=
  let c1 := (c.put R.tagImage (BitVec.ofNat 32 (c.tag.image % 2 ^ 27 + 2 ^ 27))).setFld F.tagStatus_PHASE 0
  let c2 := (c1.setFld F.tagStatus_LAST_RESULT 1).incFld F.tagCounts_UPDATES
  (c2.doIf (c.tag.reason == 4) fun d =>
    (d.setFlag F.tagStatus_RECOVERY_PENDING false).incFld F.tagCounts_RECOVERIES).showDue

/-- The entry of step 2 or of step 5 has been written, or its write failed (R685, R686); `fails` as for the causes before it. -/
def tagWritten (ok eraseOk : Bool) (fails : Nat) (c : Chip) : Chip :=
  let good := c.writeOk ok eraseOk fails
  let all := failsThen c.jnl.waiting.length fails ok eraseOk
  if c.tagPhase = 3 then
    let c1 := c.writeNow (tagEntry 4 c) all
    if good then c1.setFld F.tagStatus_PHASE 4 else c1.failTag
  else if c.tagPhase = 6 then
    let c1 := c.writeNow (tagEntry 5 c) all
    if good then c1.finishTag else c1.failTag
  else c

/-- The step after the pump's start or after a drive phase begins (R685). -/
def nextTagStep (c : Chip) : Chip :=
  match c.tagPhase with
  | 1 => ((c.setFld F.tagStatus_PHASE 2).put R.tagImage 0).showDue
  | 2 => c.setFld F.tagStatus_PHASE 3
  | 4 => c.setFld F.tagStatus_PHASE 5
  | 5 => c.setFld F.tagStatus_PHASE 6
  | _ => c

/-- The pump's start or a drive phase ends: the next step begins, in a debug halt once the supervisor resumes (R676). -/
def endTagStep (c : Chip) : Chip := if c.supRuns then c.nextTagStep else c.modTag fun t => { t with ended := true }

/-- The supervisor resumes: the step that ended in the halt is followed by the next (R676). -/
def resumeTag (c : Chip) : Chip := if c.tag.ended then (c.modTag fun t => { t with ended := false }).nextTagStep else c

/-- The voltage of EPD_SEG_`n` against EPD_COM in V while the device is powered (R675, R685): dark is +15, light −15, and a segment
that the running step does not drive is at 0, as is each once the step has ended. -/
def segmentVolts (c : Chip) (n : Fin 28) : Int :=
  match if c.tag.ended then 0 else c.tagPhase with
  | 2 => if n.val = 27 ∨ c.tag.clear then -15 else 0
  | 4 => if n.val = 27 then 0 else if bitOf c.tag.image n.val then 15 else -15
  | 5 => if n.val = 27 then 15 else 0
  | _ => 0

/-! ## The boot scan (R689) -/

/-- The image that an entry carries. -/
def entryImage (e : JEntry) : Nat := e.unit.toNat % 2048 * 65536 + e.detail.toNat

/-- The newest TAG_STARTED entry so far and whether a TAG_COMPLETE followed it, and the newest TAG_COMPLETE. -/
def tagScan (c : Chip) : Option (JEntry × Bool) × Option JEntry :=
  (c.jnl.entries.filter fun e => e.valid).foldl
    (fun p e => if e.kind = 4 then (some (e, false), p.2)
      else if e.kind = 5 then (p.1.map fun x => (x.1, true), some e) else p) (none, none)

/-- The index scan of a boot restores TAG_STATUS and TAG_IMAGE, or sets RECOVERY_PENDING and raises TAG_INCOMPLETE (R689). -/
def bootTag (c : Chip) : Chip :=
  let p := c.tagScan
  let c1 := match p.1 with
    | some (e, done) =>
      (c.setFld F.tagStatus_LAST_REASON (e.code.toNat % 16)).setFld F.tagStatus_LAST_RESULT (if done then 1 else 2)
    | none => c
  let open? := match p.1 with
    | some (_, done) => !done
    | none => false
  match p.2 with
  | some e =>
    if open? then (c1.setFlag F.tagStatus_RECOVERY_PENDING true).fault 0x0B01 0 (c1.fld F.tagStatus_LAST_REASON)
    else c1.put R.tagImage (BitVec.ofNat 32 (entryImage e + 2 ^ 27))
  | none => (c1.setFlag F.tagStatus_RECOVERY_PENDING true).fault 0x0B01 0 (c1.fld F.tagStatus_LAST_REASON)

/-- TAG_UPDATE (R691): an update is asked for, and the reply is sent when it starts or is refused. -/
def tagUpdate (c : Chip) : Chip :=
  let p := c.askTag 2 (bitOf (c.param 2) 0)
  p.2.setReply p.1 []

end Chip

open Chip

/-- TAG_UPDATE (R691): the outstanding mailbox command 0x0B01. -/
def execTagUpdate (s : State) : Host.Outcome State Fault Refusal :=
  s.run (withCommand 0x0B01 tagUpdate)

/-- TAG_PUMP_READY (R676, R685): step 0 ends, and step 1 begins, in a halt of the supervisor once it resumes. -/
def execTagPumpReady (s : State) : Host.Outcome State Fault Refusal :=
  s.run fun c => if c.tagPhase = 1 then c.endTagStep else c

/-- TAG_DRIVE_PHASE_END (R676, R685): a drive phase ends, and the next step begins, in a halt once the supervisor resumes. -/
def execTagDrivePhaseEnd (s : State) : Host.Outcome State Fault Refusal :=
  s.run fun c => if c.tagPhase = 2 ∨ c.tagPhase = 4 ∨ c.tagPhase = 5 then c.endTagStep else c

/-- TAG_JOURNAL_DONE (R685, R686): the entry of step 2 or of step 5 has been written and read back; `ok` and `eraseOk` as for
JOURNAL_WRITE, and `fails` names the failures among the entries that had to be written before it. -/
def execTagJournalDone (ok eraseOk : Bool) (s : State) (fails : Nat := 0) : Host.Outcome State Fault Refusal :=
  s.run fun c => if c.supRuns then c.tagWritten ok eraseOk fails else c

/-- TAG_FAILED (R677, R688): the pump leaves its range in step 0 or in a drive phase. -/
def execTagFailed (s : State) : Host.Outcome State Fault Refusal :=
  s.run fun c => if 1 ≤ c.tagPhase ∧ c.tagPhase ≤ 5 ∧ c.tagPhase ≠ 3 ∧ !c.tag.ended then c.failTag else c

/-- TAG_RECOVERY_START (R690): the supervisor starts a pending recovery as soon as R682 permits. -/
def execTagRecoveryStart (s : State) : Host.Outcome State Fault Refusal :=
  s.run fun c => if c.flag F.tagStatus_RECOVERY_PENDING && c.tagMayStart 4 then c.startTag 4 true else c

/-- TAG_SKIPPED (R683): the 2 000 ms wait at entry to OFF ends. -/
def execTagSkipped (s : State) : Host.Outcome State Fault Refusal :=
  s.run fun c =>
    if c.supRuns && c.tagPhase == 7 then ((c.setFld F.tagStatus_PHASE 0).setFld F.tagStatus_LAST_RESULT 3).fault 0x0B02 0 1 else c

/-- TAG_DUE_RECOMPUTE (R680): the supervisor computes TAG_DUE. -/
def execTagDueRecompute (s : State) : Host.Outcome State Fault Refusal :=
  s.run fun c => if c.supRuns && c.ready then c.recomputeDue else c

end Sys2Proof.Machine
end

