-- ==== Sys2Proof/Machine/Power.lean ====
section
/-!
DEFINITION. Power states and resets (11): entries and wakes (R494 to R508), the reset causes and what each keeps (R85, R116,
R496, R509 to R511), and their commands.
-/

namespace Sys2Proof.Machine

namespace Chip

/-! ## Entering a state (R494, R497 to R502) -/

/-- PWR_STATE.STATE becomes `n`; source 61 at a change (R493). Nothing else writes STATE: while the supervisor serves in IDLE, it
still reads IDLE (R495). -/
def setPower (n : Nat) (c : Chip) : Chip :=
  if c.fld F.pwrState_STATE = n then c else ((c.setFld F.pwrState_STATE n).raise 61).showBoost

/-- The twin link goes down and the device is ISOLATED (R494, R580). -/
def twinDown (c : Chip) : Chip :=
  ((c.isolate 1 0).setFlag F.twinStatus_LINK_UP false).modTwin fun t =>
    { t with validRun := 0, missRun := 0, offset := none, wrong := 0, mine := [], theirs := [], send := [], sending := [], stream := [] }

/-- What WATCH, RETAIN and OFF stop: the output stage, the converter, the boost, the ring, the twin link and the service port. -/
def quiet (c : Chip) : Chip :=
  let c1 := (ringEvent (dropLink 0) ((c.disarm 7).stopConv)).twinDown
  ((({ c1 with tb := { c1.tb with epoch := 0xFFFF } }).modPower fun p => { p with charging := false, reached := false }).canStop).endDiag

/-- With the frame tick stopped, every return and commit that waits for a tick waits for the first one after wake (R123, R377). -/
def settleWaits (c : Chip) : Chip :=
  let c1 : Chip := { c with win := { c.win with returning := c.win.returning.map fun r => (r.1, min 1 r.2) } }
  { c1 with bus := { c1.bus with commits := c1.bus.commits.map fun x => { x with wait := min 1 x.wait } } }

/-- Entry to WATCH or RETAIN. -/
def sleep (n : Nat) (c : Chip) : Chip :=
  let c1 := ((if c.fld F.pwrState_STATE < 2 then c.quiet.settleWaits else c).setPower n).showConv
  if n = 3 then (c1.emptyAll).setFlag F.devStatus_SUP_RUN false else c1

/-- Step 4 of an entry to OFF: the rails go off, and only the always-on domain lives (R506). -/
def railsOff (c : Chip) : Chip :=
  let c1 := ((c.emptyAll.setFlag F.devStatus_SUP_RUN false).setFlag F.devStatus_READY false).modPower fun p =>
    { p with isOff := true, offEntry := false, forced := false, vpreOk := false, vcoreOk := false, vioOk := false
             charging := false, wakeCode := none }
  { c1 with tb := { c1.tb with running := false } }

/-- The node stands in a ring whose cycles still come: an entry to WATCH, RETAIN or OFF makes it leave first (R564). -/
def onRing (c : Chip) : Bool := decide (2 ≤ c.link) && !c.ring.lost

/-- The node leaves the ring where it is in one (R564). -/
def leaveRing (c : Chip) : Chip := if c.onRing then ringEvent (leave 0) c else c

/-- An entry to OFF goes on: step 4 once no update, command or journal write is left and the ring is left (R506, R508, R564). -/
def offStep (c : Chip) : Chip :=
  if c.tagPhase = 0 ∧ ¬ c.flag F.mbxStatus_BUSY ∧ c.jnl.waiting.isEmpty ∧ ¬ c.onRing then c.quiet.railsOff else c

/-- Steps 1 to 3 of an entry to OFF begin (R506, R683): the HOURS entry waits for the supervisor to write it, and step 4 for that
write. An entry that POWER_OFF forces while OFF is not the choice cannot lose the choice (R507, R508). -/
def beginOff (forced : Bool) (c : Chip) : Chip :=
  let outside := c.chosenState != 4
  if c.power.offEntry then c.modPower fun p => { p with forced := (p.forced || forced) && outside }
  else
  let c1 := ((c.disarm 7).modPower fun p => { p with offEntry := true, forced := forced && outside }).leaveRing
  let c2 := (c1.journal c.hoursCause).modJnl fun j => { j with hour := 0 }
  if c2.tagPhase = 0 ∧ c2.flag F.tagStatus_DUE ∧ c2.flag F.tagCfg_KEYOFF_EN then
    (c2.setFld F.tagStatus_PHASE 7).tagPoll
  else c2

/-- OFF is the choice now: a forced entry can lose it from here on (R507). -/
def noteChoice (c : Chip) : Chip :=
  if c.power.offEntry && c.chosenState == 4 then c.modPower fun p => { p with forced := false } else c

/-- An entry to OFF is abandoned when the chosen state stops being OFF before step 4; the wait of R683 ends (R507). -/
def abandonOff (c : Chip) : Chip :=
  if c.power.offEntry ∧ ¬ c.power.forced ∧ c.chosenState ≠ 4 then
    (c.modPower fun p => { p with offEntry := false }).doIf (c.tagPhase == 7) fun d => d.setFld F.tagStatus_PHASE 0
  else c

/-- A ring master waits 8 ring cycles after the first beacon that permits the state (R502). -/
def masterWaits (c : Chip) : Bool := c.isMaster && decide (c.power.permitted ≤ 8)

/-- The wake from WATCH: the frame tick resumes with the configuration kept (R24, R62, R440, R503, R671); a timer event with WAKE = 1
that has come with it counts among those that coincide. -/
def leaveWatch (code : Nat) (c : Chip) : Chip :=
  let low := if c.timers.wakeDue then min 4 code else code
  let c1 := ((c.setFld F.pwrState_WAKE_SOURCE low).incFld F.pwrCounts_WAKES).setFlag F.pwrStatus_FLOOR_DWELL true
  let c2 := ringEvent listen ((c1.setPower (min 1 c1.chosenState)).canStart)
  let c3 := ({ c2 with irq := { c2.irq with pend := c2.irq.pend ||| c2.irq.atWake, atWake := 0 } }).modTimers fun x =>
    { x with wakeDue := false }
  samplePins ((c3.modPower fun p => { p with woke := true }).showConv)

/-- The choice of the state is re-evaluated (R497, R499). -/
def evalPower (c0 : Chip) : Chip :=
  let c := c0.abandonOff.noteChoice
  let cur := c.fld F.pwrState_STATE
  let want := c.chosenState
  if c.power.isOff || !c.tb.running then c
  else if c.power.offEntry then c.tagPoll.offStep
  else if want ≤ 1 && cur ≤ 1 then (c.setPower want).showConv
  else if want ≤ cur then (if cur = 2 ∧ want < 2 then c.leaveWatch 5 else c)
  else if c.deferred || c.masterWaits then c
  else if want = 4 then (c.beginOff false).offStep
  else if c.onRing then c.leaveRing
  else c.sleep want

/-! ## Wake (R503, R504) -/

/-- The event of a wake code is enabled, by PWR_CFG for codes 1, 2, 3 and 6; code 1 wants a configured wheel input, code 4 wants a match
or capture with WAKE = 1, code 5 an LTR below the exit latency of the state (R385, R503). -/
def wakeEnabled (c : Chip) (code : Nat) : Bool :=
  match code with
  | 1 => c.flag F.pwrCfg_WAKE_WHEEL && (List.range 4).any c.configured
  | 2 => c.flag F.pwrCfg_WAKE_CAN
  | 3 => c.flag F.pwrCfg_WAKE_RING
  | 4 => c.timers.wakeDue
  | 5 => decide ((c.get R.ltr).toNat < (if c.fld F.pwrState_STATE = 3 then 3000 else 150))
  | 6 => c.flag F.pwrCfg_WAKE_KEY
  | _ => false

/-- A wake event of a code: it ends WATCH, calls for the reset of R496 in RETAIN, and for a boot in OFF. Events that come before the
first frame tick after the wake coincide with it, and the lowest code stands (R503, log entry 96). -/
def wakeBy (code : Nat) (c : Chip) : Chip :=
  if c.power.isOff then
    if code = 6 ∨ code = 7 then
      c.modPower fun p => { p with wakeCode := some (min code (p.wakeCode.getD code)) } else c
  else if !c.wakeEnabled code then c
  else match c.fld F.pwrState_STATE with
    | 2 => c.leaveWatch code
    | 3 =>
      match c.power.wakeCode with
      | some k => (c.setFld F.pwrState_WAKE_SOURCE (min k code)).modPower fun p => { p with wakeCode := some (min k code) }
      | none => ((c.setFld F.pwrState_WAKE_SOURCE code).incFld F.pwrCounts_WAKES).modPower fun p =>
        { p with wakeCode := some code }
    | _ => if c.power.woke && decide (code < c.fld F.pwrState_WAKE_SOURCE) then c.setFld F.pwrState_WAKE_SOURCE code else c

/-- A write of LTR (R76, R497, R507): in WATCH and RETAIN one below the exit latency of the state wakes. -/
def writeLtr (v : Word) (c : Chip) : Chip :=
  let st := c.fld F.pwrState_STATE
  if c.power.isOff ∨ ¬(c.tb.running ∨ st = 3) then c
  else
    let c1 := (c.noteChoice.put R.ltr (v.setWidth 32)).abandonOff
    if (st = 2 ∧ v.toNat < 150) ∨ (st = 3 ∧ v.toNat < 3000) then c1.wakeBy 5 else c1

/-- KEY_IN is now high or low (R497, R503, R505, R507). -/
def keyIs (high : Bool) (c : Chip) : Chip :=
  let c1 := (c.noteChoice.setFlag F.pwrStatus_KEY high).modPower fun p => { p with keyOff := false }
  if high && !c.flag F.pwrStatus_KEY then c1.abandonOff.wakeBy 6 else c1.abandonOff

/-! ## Resets (R85, R116, R496, R509) -/

/-- What the window keeps at a reset by its cause (R116, R127). -/
def resetWindow (cause : Nat) (w : Window) : Window :=
  if cause = 6 then { w with latchTag := none }
  else if cause ≤ 1 then {}
  else { mem := w.mem.filter fun x => decide (496 * 256 ≤ x.1), ecc := w.ecc.filter fun x => decide (496 * 128 ≤ x.1) }

/-- The value of register `a` after a wake from RETAIN, which restores configuration (R416, R440, R471, R496); the tails of the
ring's two queues go with their heads (log entry 80). -/
def retained (a : Nat) (v : DWord) : DWord :=
  let reset := regReset a
  if a = R.scratchA ∨ a = R.scratchB ∨ amongRegs R.tuCount 0 4 a ∨ a = R.timerPre ∨ a = R.ringRxTail ∨ a = R.ringErrTail then reset
  else if regionOf a = 1 ∨ regionOf a = 5 ∨ (regionOf a = 2 ∧ 0x020200 ≤ a) ∨ a = R.ringAddr ∨ a = R.resetCause ∨
      a = R.pwrCounts then v
  else if a = R.injEnable ∨ a = R.injEffective then reset
  else if a = R.outStatus then v &&& 0xFFFFFFC0
  else if a = R.clockMon then v &&& 0xFF00
  else if a = R.schedStatus then (v &&& 0x0008) ||| reset
  else if amongRegs R.slotInfo 0 16 a then v &&& 0xFFFF0000
  else if a = R.cipherAlarm then v &&& 0x00FF0000
  else if a = R.canDiagStatus then (v &&& 0xFF80) ||| 1
  else if a = R.pwrState then v &&& 0x0F07
  else if a = R.pwrStatus then v ||| 0x100
  else if a = R.devControl then v &&& 0x0006
  else if amongRegs R.mbCfg 4 16 a then v &&& 0x0002FFFF
  else match regRow? a with
    | some r => (v &&& r.rw) ||| (reset &&& ~~~ r.rw)
    | none => 0

/-- The value of register `a` after a reset that clears the configuration: what the always-on domain and the counts since POR
keep (R85, R634, R661), and the level of KEY_IN. -/
def cleared (por : Bool) (a : Nat) (v : DWord) : DWord :=
  if a = R.pwrStatus then (v &&& 0x8000) ||| 0x100
  else if por then regReset a
  else if a = R.resetCause then v
  else if amongRegs R.slotInfo 0 16 a then v &&& 0xFFFF0000
  else if a = R.cipherAlarm then v &&& 0x00FF0000
  else if a = R.canDiagStatus then (v &&& 0xFF80) ||| 1
  else if a = R.clockMon then v &&& 0xFF00
  else regReset a

/-- The registers after a reset of a cause. -/
def resetRegs (cause : Nat) (l : List (Nat × DWord)) : List (Nat × DWord) :=
  l.foldl (fun m x => Sparse.set regReset m x.1 (if cause = 6 then retained x.1 x.2 else cleared (cause == 0) x.1 x.2)) []

/-- The device resets with a cause: bit `cause` of RESET_CAUSE (R85, R509). Causes that act together set their bits one after the other. A
boot from OFF keeps its wake code, a POR by applied VBAT none (R504). A wake from RETAIN finds ARM_FLOOR and ENABLE as configured, and the
status words as the window keeps them (R116, R152, R276, R303, R496); a TIO_SEL_k that waits for a tick goes on waiting (R377). -/
def resetWith (cause : Nat) (c : Chip) : Chip :=
  let keep := cause == 6
  let fresh : Chip :=
    { part := c.part, regs := resetRegs cause c.regs, win := resetWindow cause c.win, free := c.free
      tb := { frame := if keep then c.tb.frame else 0 }
      irq := if keep then { c.irq with supEvents := [], pend := c.irq.pend ||| c.irq.atWake, atWake := 0 } else {}
      flt := if keep then { c.flt with wdtExpired := false } else { safeN := c.flt.safeN }
      jnl := { c.jnl with waiting := [], boots := if cause = 0 then c.jnl.boots + 1 else c.jnl.boots }
      timers := if keep then { c.timers with begun := false, wakeDue := false } else {}
      bus := { commits := if keep then (c.bus.commits.filter fun x => regionOf x.addr == 10).map fun x => { x with wait := 1 } else [] }
      conv := { tags := if keep then c.conv.tags else Vector.replicate 16 0 }
      power := { patch := if keep then c.power.patch else none
                 keyOff := c.power.keyOff && cause != 0, vbat := c.power.vbat
                 vpreOk := c.power.vpreOk && cause != 0, vcoreOk := c.power.vcoreOk && cause != 0
                 vioOk := c.power.vioOk && cause != 0
                 dip := keep && c.power.dip, low := keep && c.power.low, reduced := keep && c.power.reduced, ov := keep && c.power.ov
                 thermal := keep && c.power.thermal }
      twin := { sel := c.twin.sel }
      cipher := { calFloor := c.cipher.calFloor }
      can := { fails := if cause = 0 then 0 else c.can.fails, idSet := keep && c.can.idSet }
      tap := if cause = 0 then {} else c.tap
      sched := { orphans := if keep then c.sched.orphans else [] } }
  let c0 := { fresh with
    wheels := Vector.ofFn fun (n : Fin 4) => { threshold := fresh.fld (F.wheelVr_ARM_FLOOR n) }
    sched := { fresh.sched with enabled := fresh.flag F.schedControl_ENABLE } }
  let c1 := c0.setBit R.resetCause cause true
  let c2 := if cause = 0 then c1.setFld F.pwrState_WAKE_SOURCE (if c.power.isOff then c.power.wakeCode.getD 0 else 0) else c1
  c2.doIf c.dtcOff fun d => d.journal (dtcMarker 1 d)

/-- A reset of a cause other than a wake, which OFF does not know. -/
def hardReset (cause : Nat) (c : Chip) : Chip := if c.power.isOff then c else c.resetWith cause

/-- The index scan reads the whole journal, newest entry first: OP_TIME resumes from the newest valid one, and every entry that
fails its CRC is reported (R466, R468, R511, R664, R689). -/
def resumeOpTime (c : Chip) : Chip :=
  let bad := c.jnl.entries.reverse.filter fun e => !e.valid
  let c1 := bad.foldl (fun d e => d.fault 0x0C03 (sectorOf e.number.toNat) (e.number.toNat % 65536)) c
  match (c.jnl.entries.filter fun e => e.valid).getLast? with
  | some e => c1.modJnl fun j => { j with opTime := e.opTime, opSub := 0, hour := 0 }
  | none => c1

/-- DEV_STATUS.READY is set (R511): the patch's verification, whose result `patch` a wake from RETAIN takes as it was (R496), the
journal scan, KEK_PROV, the BOOT entry, the services. -/
def bootDone (patch : Bool) (c : Chip) : Chip :=
  if !c.tb.running || c.ready || !c.supRuns then c
  else
    let ok := c.power.patch.getD patch
    let c0 := (c.setFlag F.devStatus_PATCH_OK ok).modPower fun p => { p with patch := some ok }
    let c1 := ((c0.setFlag F.devStatus_READY true).resumeOpTime).deriveKekProv
    let c2 := (c1.bootTag).journal
      { kind := 3, code := BitVec.ofNat 16 (c1.get R.resetCause).toNat, detail := Config.firmwareRelease, frame := c.tb.frame }
    ringEvent listen ((c2.canStart).updateBands.refreshSupply).recomputeDue

/-- The reset of service 0x11, once its response has left (R653): the supervisor makes it, so that it waits through a debug halt (R56). -/
def resetWhenSent (c : Chip) : Chip :=
  if c.supRuns && c.can.resetAfter && c.can.out.isEmpty && c.can.tx.isNone then c.resetWith 3 else c

/-- POWER_OFF (R508): the entry to OFF begins, unless the engine rotates. -/
def powerOff (c : Chip) : Chip :=
  if c.flag F.pwrState_ROTATING then c.setReply 0x0100 [] else (c.setReply 0 []).beginOff true

end Chip

open Chip

/-- POWER_ON_RESET (R509): VBAT has risen, or a wake from OFF boots the device: cause POR. `twinSel` is the level to which the
board ties TWIN_SEL (R569). -/
def execPowerOnReset (twinSel : Bool) (s : State) : Host.Outcome State Fault Refusal :=
  s.run fun c => (c.resetWith 0).modTwin fun t => { t with sel := twinSel }

/-- BROWNOUT (R482): VPRE stays below 3.9 V. -/
def execBrownout (s : State) : Host.Outcome State Fault Refusal := s.run (hardReset 1)

/-- PIN_RESET (R510): RESET_N acts; in OFF it is wake code 7. -/
def execPinReset (s : State) : Host.Outcome State Fault Refusal :=
  s.run fun c => if c.power.isOff then c.wakeBy 7 else c.resetWith 2

/-- SOFT_RESET (R79, R509): DEV_CONTROL is written with SOFT_RESET = 1 and its present other bits; with the window open it resets
the device, else it is counted. -/
def execSoftReset (s : State) : Host.Outcome State Fault Refusal :=
  s.run (hostWrite fun c => if c.useUnlock.1 then c.resetWith 3 else c.useUnlock.2)

/-- LOCKSTEP_RESET (R509): the lockstep cores disagree. -/
def execLockstepReset (s : State) : Host.Outcome State Fault Refusal := s.run (hardReset 4)

/-- CLOCK_LOSS_RESET (R509): no clock is left, or a PLL stays unlocked. -/
def execClockLossReset (s : State) : Host.Outcome State Fault Refusal := s.run (hardReset 5)

/-- THERMAL_RESET (R492): the junction reaches 165 °C. -/
def execThermalReset (s : State) : Host.Outcome State Fault Refusal := s.run (hardReset 7)

/-- RETAIN_WAKE (R496): the wake event accepted in RETAIN resets the device. -/
def execRetainWake (s : State) : Host.Outcome State Fault Refusal :=
  s.run fun c => if c.fld F.pwrState_STATE = 3 ∧ c.power.wakeCode.isSome then c.resetWith 6 else c

/-- BOOT_COMPLETE (R511): the supervisor's boot and the firmware verification end; `patch` says that an authenticated patch has
been loaded. -/
def execBootComplete (s : State) (patch : Bool := false) : Host.Outcome State Fault Refusal := s.run (bootDone patch)

/-- DEBUG_HALT (R56, R747): the test port halts the supervisor, unless TEST_PORT_DIS blocks it. -/
def execDebugHalt (s : State) : Host.Outcome State Fault Refusal :=
  s.run fun c => if c.flag F.devControl_TEST_PORT_DIS then c else c.setFlag F.devStatus_SUP_RUN false

/-- DEBUG_RESUME (R56): the supervisor runs again, where the core domain is powered and released. -/
def execDebugResume (s : State) : Host.Outcome State Fault Refusal :=
  s.run fun c =>
    if c.flag F.devControl_TEST_PORT_DIS || !c.tb.running || decide (3 ≤ c.fld F.pwrState_STATE) then c
    else (((c.setFlag F.devStatus_SUP_RUN true).restoreKek).resumeTag).resetWhenSent

/-- POWER_OFF (R508): the outstanding mailbox command 0x0601. -/
def execPowerOff (s : State) : Host.Outcome State Fault Refusal :=
  s.run (withCommand 0x0601 powerOff)

/-- POWER_STATE_CHANGE (R497): the choice of the state is re-evaluated and a change begins. -/
def execPowerStateChange (s : State) : Host.Outcome State Fault Refusal := s.run evalPower

/-- DEFERRED_ENTRY (R499, R506): what deferred an entry has ended; an entry to OFF goes on to its step 4. -/
def execDeferredEntry (s : State) : Host.Outcome State Fault Refusal :=
  s.run fun c => if c.deferred && !c.power.offEntry then c else c.evalPower

/-- WAKE (R503): a wake event of a code. -/
def execWake (code : Fin 8) (s : State) : Host.Outcome State Fault Refusal := s.run (wakeBy code.val)

/-- WAKE_DWELL_END (R498): `ms` milliseconds have passed since the end of the last wake or reset; the dwell ends where that is
PWR_CFG.DWELL or more. -/
def execWakeDwellEnd (s : State) (ms : Nat := 0) : Host.Outcome State Fault Refusal :=
  s.run fun c => if c.fld F.pwrCfg_DWELL ≤ ms then c.setFlag F.pwrStatus_FLOOR_DWELL false else c

/-- KEY_IN_CHANGE (R505): KEY_IN changes its level. -/
def execKeyInChange (high : Bool) (s : State) : Host.Outcome State Fault Refusal := s.run (keyIs high)

/-- KEYOFF_DELAY_EXPIRE (R497): KEY_IN has been low for `held` times 100 ms, which is KEYOFF_DELAY or more. -/
def execKeyoffDelayExpire (s : State) (held : Nat := 0) : Host.Outcome State Fault Refusal :=
  s.run fun c => if c.flag F.pwrStatus_KEY || decide (held < c.fld F.pwrCfg_KEYOFF_DELAY) then c else c.modPower fun p => { p with keyOff := true }

/-- LTR_WRITE (R76, R497): a 16-bit write of LTR. -/
def execLtrWrite (data : Word) (s : State) : Host.Outcome State Fault Refusal := s.run (writeLtr data)

end Sys2Proof.Machine
end

