-- ==== Sys2Proof/Machine/Apply.lean ====
section
/-!
DEFINITION. What takes effect (01, 03): a committed write of each region (R43, R46), the contents of a returned block
(R44, R120, R121), a calibration package at its apply tick (R627 to R629).
-/

namespace Sys2Proof.Machine

namespace Chip

/-! ## Committed writes at a frame tick (R43) -/

/-- The part of `v` that the writable bits of register `a` take. -/
def writable (a : Nat) (v : DWord) : DWord :=
  match regRow? a with
  | some r => v &&& (r.rw ||| r.w1c ||| r.wo)
  | none => 0

/-- The current of bank `n` is at I_OC by the code sampled at the last tick (R345). -/
def stillOver (c : Chip) (n : Nat) : Bool := decide (c.fld (F.bankCfg_I_OC n) ≤ c.fld (F.bankStatus_I_NOW n))

/-- A commit to the outputs region takes effect (R326, R345, R347). -/
def commitOutput (a : Nat) (v : DWord) (c : Chip) : Chip :=
  if a = R.injEnable then c.commitInjEnable v.toNat
  else if a = R.valveStatus then c.clearShort (v.toNat / 65536)
  else match (List.range 6).find? fun n => R.bankStatus n == a with
    | some n => if v.msb && c.flag (F.bankStatus_TRIPPED n) then c.clearTrip n (c.stillOver n) else c
    | none => c.storeMasked a v

/-- A commit to the converter region takes effect (R395, R404, R414). -/
def commitConv (a : Nat) (v : DWord) (c : Chip) : Chip :=
  if a = R.convStart then c.commitConvStart v.toNat
  else if a = R.convSync then c.commitConvSync v.toNat
  else match (List.range 16).find? fun r => R.resTail r == a with
    | some r => c.commitRingTail r v.toNat
    | none => c.commitConvCfg a v

/-! ## The contents of blocks (R44, R120, R121) -/

/-- A wheel or learned table is taken in once for all of its blocks. -/
def tablesOf (first per count : Nat) (bs : List Nat) : List Nat :=
  (List.range count).filter fun n => bs.any fun b => decide (first + per * n ≤ b) && decide (b < first + per * (n + 1))

/-- The contents of blocks take effect together (R163, R210, R221, R300). -/
def takeInBlocks (bs : List Nat) (c : Chip) : Chip :=
  let c1 := (tablesOf 10 4 4 bs).foldl (fun d n => d.takeTooth n) c
  let c2 := (tablesOf 26 2 2 bs).foldl (fun d n => d.takeLearned n) c1
  let c3 := c2.doIf (bs.contains 30) takeRefConfig
  (bs.filter fun b => decide (32 ≤ b) && decide (b ≤ 159)).foldl (fun d b => d.returnEvents b) c3

/-- INVAL_BLOCK takes effect for block `b` (R83, R301): event descriptors are invalidated, another block that the device holds is
taken in again as at a return tick. -/
def inval (b : Nat) (c : Chip) : Chip :=
  if 32 ≤ b ∧ b ≤ 159 then c.invalEvents b
  else if 10 ≤ b ∧ b ≤ 31 ∧ c.deviceHeld b then c.takeInBlocks [b] else c

/-- A committed write that the pipeline reads takes effect at a frame tick (R43). -/
def applyCommit (a : Nat) (w : DWord) (c : Chip) : Chip :=
  let v := writable a w
  if c.absent a then c
  else if a = R.schedControl then c.commitSchedControl v.toNat
  else if a = R.invalBlock then c.inval v.toNat
  else match regionOf a with
    | 2 => (c.commitConv a v).showConv
    | 3 => c.commitOutput a v
    | 4 => c.commitWheel a v
    | 9 => c.commitBoost a v
    | 10 => match (List.range 8).find? fun k => R.tioSel k == a with
      | some k => c.commitTioSel k v
      | none => c
    | _ => c.storeMasked a v

/-! ## Commits that the supervisor or a block acts on (R46) -/

/-- The supervisor or a block acts on a commit; `time` is the progress of a job that it aborts, `persists` the alarm conditions
that hold, `sending` that the buffer's frame is on the bus. -/
def applySup (a : Nat) (w : DWord) (time persists : Nat) (sending : Bool) (c : Chip) : Chip :=
  let v := writable a w
  if a = R.cipherStart then c.startJobs v.toNat
  else if a = R.cipherErase then c.commitErase v.toNat time
  else if a = R.cipherAlarm then c.doIf v.msb (clearAlarm persists)
  else if a = R.ringRxTail then c.commitRxTail v.toNat
  else if a = R.ringErrTail then c.commitErrTail v.toNat
  else match regionOf a with
    | 7 => match hostBuffers.find? fun b => R.mbCfg b == a with
      | some b => c.commitMbCfg b v sending
      | none => c.commitCan a v
    | 8 => (c.storeMasked a v).recomputeDue
    | _ => c.storeMasked a v

/-- The supervisor itself acts on the commits to the display and power regions. -/
def bySupervisor (a : Nat) : Bool := regionOf a == 8 || regionOf a == 9

/-- The first waiting commit that something can act on now. -/
def nextSup (c : Chip) : Option (Nat × DWord) := c.bus.supCommits.find? fun x => c.supRuns || !bySupervisor x.1

/-! ## Blocks at their return tick (R44, R120, R121) -/

/-- A block leaves RETURNING: OWN_STATUS shows its return as done (R122). -/
def endReturn (b : Nat) (c : Chip) : Chip :=
  let c1 : Chip := { c with win := { c.win with returning := c.win.returning.filter fun r => r.1 != b } }
  c1.doIf (c.fld F.ownStatus_BLOCK == b && c.fld F.ownStatus_RESULT == 1) (setFld F.ownStatus_RESULT 2)

/-- The blocks whose return tick is the next tick. -/
def dueReturns (c : Chip) : List Nat := (c.win.returning.filter fun r => r.2 == 1).map (·.1)

/-- A tick passes for the returns: those due leave RETURNING and take effect together (R120, R121). -/
def takeReturns (c : Chip) : Chip :=
  let bs := c.dueReturns
  let c1 := bs.foldl (fun d b => d.endReturn b) c
  ({ c1 with win := { c1.win with returning := c1.win.returning.map fun (r : Nat × Nat) => (r.1, r.2 - 1) } }).takeInBlocks bs

/-! ## Calibration packages at their apply tick (R627 to R629) -/

/-- The blocks of the staged package that are still RETURNING. -/
def stagedBlocks (c : Chip) (x : Staged) : List Nat := x.blocks.filter fun b => c.win.returning.any fun r => r == (b, 0)

/-- Step 10 of R627: the blocks not taken away and every commit take effect, and the reply is prepared (R628, R629). -/
def applyPackage (x : Staged) (c : Chip) : Chip :=
  let bs := c.stagedBlocks x
  let c1 := (bs.foldl (fun d b => d.endReturn b) c).modCipher fun q => { q with staged := none }
  let c2 := (x.commits.foldl (fun d y => d.applyCommit y.1 y.2) c1).takeInBlocks bs
  let part := bs.length != x.blocks.length
  c2.setReply (if part then 0x0107 else 0)
    (twoWords x.id ++ [if part then BitVec.ofNat 16 bs.length else 0] ++ twoWords c2.tb.frame.toNat)

/-- The changes of a staged package, as the owner mirrors them (R585, R629). -/
def calChanges (c : Chip) : List Packet :=
  match c.cipher.staged with
  | some x => x.commits.filterMap mirrored ++ (c.stagedBlocks x).filterMap mirroredBlock
  | none => []

/-- The apply tick of a staged package. -/
def calTick (c : Chip) : Chip :=
  match c.cipher.staged with
  | some x => c.applyPackage x
  | none => c

end Chip

open Chip

/-! ## Commands -/

/-- SUPERVISOR_COMMIT_TAKE_IN (R46): the supervisor or a block acts on the first waiting commit that it can act on. -/
def execSupervisorCommitTakeIn (time : Word) (persists : BitVec 3) (sending : Bool) (s : State) :
    Host.Outcome State Fault Refusal :=
  s.run fun c => match c.nextSup with
    | some x => (c.takeSup x.1).applySup x.1 x.2 time.toNat persists.toNat sending
    | none => c

/-- BLOCK_RETURN_TAKE_EFFECT (R44, R120): a frame tick as the returned blocks see it. -/
def execBlockReturnTakeEffect (s : State) : Host.Outcome State Fault Refusal :=
  s.run fun c => if c.frameRuns then c.mirrorsOf (c.dueReturns.filterMap mirroredBlock) takeReturns else c

/-- CAL_APPLY_TICK (R627): the frame tick at which a staged package takes effect. -/
def execCalApplyTick (s : State) : Host.Outcome State Fault Refusal :=
  s.run fun c => if c.frameRuns then c.mirrorsOf c.calChanges calTick else c

end Sys2Proof.Machine
end

