-- ==== Sys2Proof/Machine/Diag.lean ====
section
/-!
DEFINITION. Workshop diagnostics (15): ISO 15765-2 transport (R647, R648), sessions and responses (R649 to R651), the services
the supervisor answers (R652 to R667), forwarding to the host (R668 to R670).
-/

namespace Sys2Proof.Machine

namespace Chip

/-- The supervisor serves the port (R671). -/
def diagRuns (c : Chip) : Bool := c.supRuns && c.ready && decide (c.fld F.pwrState_STATE < 2)

/-! ## Sending (R646, R647) -/

/-- The valid FD data lengths from 8 on with their codes. -/
def fdLengths : List (Nat × Fin 16) := [(8, 8), (12, 9), (16, 10), (20, 11), (24, 12), (32, 13), (48, 14), (64, 15)]

/-- A frame on RESP_ID with padding 0xCC (R647). -/
def mkFrame (c : Chip) (fdf brs : Bool) (l : List Byte) : CanFrame :=
  let n := if fdf then (fdLengths.find? fun x => decide (l.length ≤ x.1)).getD (64, 15) else (8, 8)
  { id := BitVec.ofNat 29 c.respId, ide := false, rtr := false, fdf := fdf, brs := fdf && brs, esi := false, dlc := n.2
    data := (l ++ List.replicate 64 0xCC).take n.1 }

/-- A frame enters buffer 2. -/
def queueFrame (fdf brs : Bool) (l : List Byte) (c : Chip) : Chip :=
  c.modCan fun q => { q with out := q.out ++ [c.mkFrame fdf brs l] }

/-- The data bytes of a consecutive frame, of a first frame, and the longest single frame without escape. -/
def cfSize (fdf : Bool) : Nat := if fdf then 63 else 7

/-- A response is sent: a single frame, or the first frame of a segmented transfer that waits for a flow control (R647). -/
def sendDiag (fdf brs : Bool) (l : List Byte) (c : Chip) : Chip :=
  let n := l.length
  if n ≤ 7 then c.queueFrame fdf brs (BitVec.ofNat 8 n :: l)
  else if fdf && decide (n ≤ 62) then c.queueFrame fdf brs (0 :: BitVec.ofNat 8 n :: l)
  else
    let k := cfSize fdf - 1
    (c.queueFrame fdf brs (BitVec.ofNat 8 (0x10 + n / 256) :: BitVec.ofNat 8 n :: l.take k)).modCan fun q =>
      { q with tx := some { rest := l.drop k, sn := 1, fdf := fdf, brs := brs } }

/-- The next consecutive frame of the transfer leaves; after the last one of a block the device waits for a flow control. -/
def sendConsecutive (c : Chip) : Chip :=
  match c.can.tx with
  | none => c
  | some t =>
    let k := cfSize t.fdf
    let c1 := c.queueFrame t.fdf t.brs (BitVec.ofNat 8 (0x20 + t.sn % 16) :: t.rest.take k)
    let block := t.block.map (· - 1)
    c1.modCan fun q => { q with
      tx := if (t.rest.drop k).isEmpty then none
        else some { t with rest := t.rest.drop k, sn := (t.sn + 1) % 16, block := block, go := block != some 0
                           due := t.st != 0 && block != some 0 } }

/-- Consecutive frames leave as long as no separation time stands between them and the flow control lets them. -/
def sendBlock : Nat → Chip → Chip
  | 0, c => c
  | n + 1, c => match c.can.tx with
    | some t => if t.go && !t.due then sendBlock n c.sendConsecutive else c
    | none => c

/-- The separation time in µs that a flow control's STmin asks for (R647): milliseconds to 0x7F, 0xF1 to 0xF9 as 100 to 900 µs.
A reserved value asks for one that the spec does not state. -/
def separation (c : Chip) (st : Nat) : Nat :=
  if st < 0x80 then 1000 * st
  else if 0xF1 ≤ st ∧ st ≤ 0xF9 then 100 * (st - 0xF0)
  else Config.freeNat c.free

/-- A flow control of status `fs` (R647). -/
def flowControl (f : CanFrame) (fs : Nat) (c : Chip) : Chip := c.queueFrame f.fdf f.brs [BitVec.ofNat 8 (0x30 + fs), 0, 0]

/-! ## Responses (R650, R651) -/

/-- The service identifier of a request. -/
def sid (r : DiagReq) : Nat := (r.data.headD 0).toNat

/-- Byte `i` of a request. -/
def rb (r : DiagReq) (i : Nat) : Nat := (r.data.getD i 0).toNat

/-- The sub-function without the suppressPosRspMsgIndicationBit. -/
def sub (r : DiagReq) : Nat := rb r 1 % 128

/-- The suppressPosRspMsgIndicationBit is 1. -/
def suppressed (r : DiagReq) : Bool := decide (128 ≤ rb r 1)

/-- The request in service has its outcome. -/
def dropReq (c : Chip) : Chip := c.modCan fun q => { q with req := none }

/-- The positive response to a request (R651); `hasSub` says that its service has a sub-function. -/
def positive (r : DiagReq) (hasSub : Bool) (l : List Byte) (c : Chip) : Chip :=
  (if hasSub && suppressed r then c else c.sendDiag r.fdf r.brs l).dropReq

/-- A functional request gets no negative response with this code (R651). -/
def mute (r : DiagReq) (nrc : Nat) : Bool :=
  r.functional && (nrc == 0x11 || nrc == 0x12 || nrc == 0x31 || nrc == 0x7E || nrc == 0x7F)

/-- A negative response leaves. -/
def sendNegative (r : DiagReq) (nrc : Nat) (c : Chip) : Chip :=
  if mute r nrc then c
  else (c.sendDiag r.fdf r.brs [0x7F, BitVec.ofNat 8 (sid r), BitVec.ofNat 8 nrc]).doIf (nrc != 0x78) fun d =>
    d.incFld F.canCounts_DIAG_NEGATIVE

/-- The negative response to the request in service. -/
def negative (r : DiagReq) (nrc : Nat) (c : Chip) : Chip := (c.sendNegative r nrc).dropReq

/-! ## Requests (R647, R648, R671) -/

/-- A request is complete: it is taken into service, answered with busyRepeatRequest, or ignored (R648). -/
def takeRequest (r : DiagReq) (c : Chip) : Chip :=
  let c1 := (c.incFld F.canCounts_DIAG_REQUESTS).setFlag F.pwrStatus_FLOOR_DWELL true
  if c1.can.req.isNone && c1.can.tx.isNone then c1.modCan fun q => { q with req := some r }
  else if r.functional then c1
  else c1.sendNegative r 0x21

/-- The data of a single frame (R647). -/
def singleData (f : CanFrame) : Option (List Byte) :=
  let b := fun i => (f.data.getD i 0).toNat
  if f.rtr || f.data.isEmpty || decide (16 ≤ b 0) then none
  else if f.fdf && decide (8 < f.data.length) then
    if b 0 = 0 ∧ 8 ≤ b 1 ∧ b 1 + 2 ≤ f.data.length then some ((f.data.drop 2).take (b 1)) else none
  else if 1 ≤ b 0 ∧ b 0 ≤ 7 ∧ b 0 + 1 ≤ f.data.length then some ((f.data.drop 1).take (b 0)) else none

/-- The length that a first frame announces, and its data. -/
def firstData (f : CanFrame) : Option (Nat × List Byte) :=
  let b := fun i => (f.data.getD i 0).toNat
  if f.rtr || b 0 / 16 != 1 || decide (f.data.length < 8) then none
  else
    let n := b 0 % 16 * 256 + b 1
    if n = 0 then
      let m := beValue ((f.data.drop 2).take 4)
      if m ≤ 4095 then none else some (m, f.data.drop 6)
    else if n ≤ (if f.fdf then f.data.length - 2 else 7) then none else some (n, f.data.drop 2)

/-- The frame is one the transport acts on: 0 single, 1 first, 2 consecutive, 3 flow control. -/
def frameKind (x : Bool × CanFrame) : Option Nat :=
  if (singleData x.2).isSome then some 0
  else if x.1 then none
  else if (firstData x.2).isSome then some 1
  else if x.2.rtr then none
  else if (x.2.data.headD 0).toNat / 16 = 2 ∧ 2 ≤ x.2.data.length then some 2
  else if (x.2.data.headD 0).toNat / 16 = 3 ∧ 3 ≤ x.2.data.length then some 3
  else none

/-- The next frame that the transport acts on is taken from buffers 0 and 1; those it ignores before it are dropped. -/
def nextFrame (c : Chip) : Option ((Bool × CanFrame) × Chip) :=
  match c.can.frames.dropWhile fun x => (frameKind x).isNone with
  | [] => none
  | x :: rest => some (x, c.modCan fun q => { q with frames := rest })

/-- The next frame, where it is of a kind, is acted on by `f`. -/
def withFrame (kind : Nat) (f : Bool → CanFrame → Chip → Chip) (c : Chip) : Chip :=
  if !c.diagRuns then c
  else match c.nextFrame with
    | none => c
    | some (x, d) => if frameKind x = some kind then f x.1 x.2 d else c

/-- A single frame carries a whole request. -/
def takeSingle (functional : Bool) (f : CanFrame) (c : Chip) : Chip :=
  match singleData f with
  | some l =>
    (if functional then c else c.modCan fun q => { q with rx := none }).takeRequest
      { data := l, functional := functional, fdf := f.fdf, brs := f.brs }
  | none => c

/-- A first frame opens a segmented request, answered with a flow control. -/
def takeFirst (f : CanFrame) (c : Chip) : Chip :=
  match firstData f with
  | some (n, l) =>
    if 4095 < n then c.flowControl f 2
    else (c.flowControl f 0).modCan fun q => { q with rx := some { total := n, got := l, sn := 1, fdf := f.fdf, brs := f.brs } }
  | none => c

/-- A consecutive frame continues a segmented request; a wrong sequence number ends it. -/
def takeConsecutive (f : CanFrame) (c : Chip) : Chip :=
  match c.can.rx with
  | none => c
  | some x =>
    if (f.data.headD 0).toNat % 16 != x.sn then c.modCan fun q => { q with rx := none }
    else
      let got := (x.got ++ f.data.drop 1).take x.total
      if got.length < x.total then c.modCan fun q => { q with rx := some { x with got := got, sn := (x.sn + 1) % 16 } }
      else (c.modCan fun q => { q with rx := none }).takeRequest { data := got, functional := false, fdf := x.fdf, brs := x.brs }

/-- A flow control lets a response go on, delays it or ends it. -/
def takeFlow (f : CanFrame) (c : Chip) : Chip :=
  match c.can.tx with
  | none => c
  | some t =>
    if t.go then c
    else
      let bs := (f.data.getD 1 0).toNat
      match (f.data.headD 0).toNat % 16 with
      | 0 =>
        sendBlock 4096 (c.modCan fun q => { q with
          tx := some { t with go := true, block := if bs = 0 then none else some bs, st := c.separation (f.data.getD 2 0).toNat
                              waits := 0, due := false } }).useFree
      | 1 => c.modCan fun q => { q with tx := if t.waits = 16 then none else some { t with waits := t.waits + 1 } }
      | _ => c.modCan fun q => { q with tx := none }

/-! ## Which operation answers a request (R652, R668, R669) -/

/-- A service that the host may be forwarded (R668). -/
def forwardSid (s : Nat) : Bool := s == 0x2F || s == 0x34 || s == 0x36 || s == 0x37

/-- The identifiers of R655. -/
def didKnown (d : Nat) : Bool :=
  d == 0xF187 || d == 0xF18C || d == 0xF189 || (decide (0xFD00 ≤ d) && decide (d ≤ 0xFD08)) ||
    (decide (0xFD10 ≤ d) && decide (d ≤ 0xFD1F)) || d == 0xFD51

/-- The identifiers that a ReadDataByIdentifier or WriteDataByIdentifier request names. -/
def didsOf (r : DiagReq) : List Nat :=
  if sid r = 0x22 then (List.range ((r.data.length - 1) / 2)).map fun i => rb r (1 + 2 * i) * 256 + rb r (2 + 2 * i)
  else [rb r 1 * 256 + rb r 2]

/-- The request is one that the supervisor forwards (R668, R669). -/
def forwards (c : Chip) (r : DiagReq) : Bool :=
  c.flag F.canDiagCfg_FWD_EN && decide (2 ≤ c.session) &&
    (forwardSid (sid r) ||
      (c.flag F.canDiagCfg_DID && (sid r == 0x22 || sid r == 0x2E) && decide (3 ≤ r.data.length) &&
        (didsOf r).any fun d => !didKnown d))

/-- The routine that a request starts (R656). -/
def routineOf (r : DiagReq) : Nat := rb r 2 * 256 + rb r 3

/-- The request in service, where the supervisor answers it now and it satisfies `p`. -/
def serve (p : DiagReq → Bool) (f : DiagReq → Chip → Chip) (c : Chip) : Chip :=
  match c.can.req with
  | some r => if c.diagRuns && r.handle.isNone && !c.forwards r && p r then f r c else c
  | none => c

/-- The request is of service `s` with sub-function `n`. -/
def isSub (s n : Nat) (r : DiagReq) : Bool := sid r == s && decide (2 ≤ r.data.length) && sub r == n

/-- The request starts routine `n`. -/
def isRoutine (n : Nat) (r : DiagReq) : Bool :=
  isSub 0x31 1 r && decide (4 ≤ r.data.length) && routineOf r == n && !r.functional

/-- Some operation of the supervisor answers the request. -/
def answered (r : DiagReq) : Bool :=
  let s := sid r
  s == 0x10 || s == 0x11 || s == 0x14 || s == 0x22 || s == 0x28 || s == 0x2E || s == 0x3E || s == 0x85 ||
    isSub 0x19 1 r || isSub 0x19 2 r || isSub 0x19 4 r || isSub 0x19 6 r ||
    isSub 0x27 1 r || isSub 0x27 2 r || isSub 0x27 3 r || isSub 0x27 4 r ||
    isRoutine 0xFE10 r || isRoutine 0xFE11 r || isRoutine 0xFE12 r

/-- The security level unlocked. -/
def secLevel (c : Chip) : Nat := c.fld F.canDiagStatus_LEVEL

/-- The checks of a service (R652): the sessions it is served in, whether functional requests are, whether its length and
sub-function are right, and the level it needs. The code of the first one that fails. -/
def checks (c : Chip) (r : DiagReq) (functional : Bool) (sessions : List Nat) (subs : List Nat) (len : Nat → Bool) (level : Nat) :
    Option Nat :=
  if r.functional && !functional then some 0x11
  else if !sessions.contains c.session then some 0x7F
  else if !subs.isEmpty && decide (r.data.length < 2) then some 0x13
  else if !subs.isEmpty && !subs.contains (sub r) then some 0x12
  else if !len r.data.length then some 0x13
  else if c.secLevel < level then some 0x33
  else none

/-- A service's answer: the code of a failed check, or what `f` does. -/
def answerWith (chk : Option Nat) (r : DiagReq) (f : Chip → Chip) (c : Chip) : Chip :=
  match chk with
  | some n => c.negative r n
  | none => f c

/-! ## Services (R649, R652 to R656) -/

/-- Service 0x10. -/
def sessionControl (r : DiagReq) (c : Chip) : Chip :=
  c.answerWith (c.checks r true [1, 2, 3] [1, 2, 3] (· == 2) 0) r fun d =>
    (d.positive r true [0x50, BitVec.ofNat 8 (sub r), 0x00, 0x32, 0x01, 0xF4]).setSession (sub r)

/-- Service 0x11 (R653). -/
def ecuReset (r : DiagReq) (c : Chip) : Chip :=
  c.answerWith (c.checks r false [2, 3] [1] (· == 2) 2) r fun d =>
    if d.flag F.pwrState_ROTATING then d.negative r 0x22
    else (d.positive r true [0x51, 0x01]).modCan (fun q => { q with resetAfter := true }) |>.resetWhenSent

/-- Service 0x14 (R663 to R665); `fails` names the failures among the journal writes that it waits for (R468; log entry 122). -/
def clearCodes (fails : Nat) (r : DiagReq) (c : Chip) : Chip :=
  c.answerWith (c.checks r true [3] [] (· == 4) 1) r fun d =>
    if r.data.drop 1 != [0xFF, 0xFF, 0xFF] then d.negative r 0x31
    else
      (d.writeNow { kind := 9, code := 0x0014, detail := BitVec.ofNat 16 (min 0xFFFF (d.flushJournal fails).memoryCodes.length)
                    frame := d.tb.frame } fails).positive r false [0x54]

/-- Trouble codes as a response carries them. -/
def codeBytes (l : List (Nat × Nat)) : List Byte := l.flatMap fun x => beBytes 3 x.1 ++ [BitVec.ofNat 8 x.2]

/-- Service 0x19, sub-function 0x01. -/
def reportCount (r : DiagReq) (c : Chip) : Chip :=
  c.answerWith (c.checks r true [1, 2, 3] [1] (· == 3) 0) r fun d =>
    d.positive r true ([0x59, 0x01, 0x2F, 0x01] ++ beBytes 2 (d.codesByMask (rb r 2)).length)

/-- Service 0x19, sub-function 0x02. -/
def reportCodes (r : DiagReq) (c : Chip) : Chip :=
  c.answerWith (c.checks r true [1, 2, 3] [2] (· == 3) 0) r fun d =>
    d.positive r true ([0x59, 0x02, 0x2F] ++ codeBytes (d.codesByMask (rb r 2)))

/-- Service 0x19, sub-functions 0x04 and 0x06: the records `recs` of a trouble code. -/
def reportRecords (n : Nat) (recs : Chip → Nat → List (Nat × Option (List Byte))) (r : DiagReq) (c : Chip) : Chip :=
  let dtc := beValue ((r.data.drop 2).take 3)
  c.answerWith (if r.functional then some 0x12 else c.checks r true [1, 2, 3] [n] (· == 6) 0) r fun d =>
    if !d.dtcPresent dtc then d.negative r 0x31
    else match recordsByNumber (rb r 5) (recs d dtc) with
      | some l => d.positive r true ([0x59, BitVec.ofNat 8 n] ++ beBytes 3 dtc ++ [BitVec.ofNat 8 (d.dtcStatus dtc)] ++ l)
      | none => d.negative r 0x31

/-- The snapshot records of a trouble code. -/
def snapshots (c : Chip) (d : Nat) : List (Nat × Option (List Byte)) := [(1, c.snapshotOne d), (2, c.snapshotTwo d)]

/-- The extended data records of a trouble code. -/
def extendeds (c : Chip) (d : Nat) : List (Nat × Option (List Byte)) := [(1, some (c.extendedOne d)), (2, c.extendedTwo d)]

/-- A register as a 16-bit value, most significant byte first. -/
def reg16 (c : Chip) (a : Nat) : List Byte := beBytes 2 (c.view a)

/-- A register as a 32-bit value, most significant byte first. -/
def reg32 (c : Chip) (a : Nat) : List Byte := beBytes 4 (c.view a)

/-- The reply data of JOURNAL_INFO (R469); an empty journal's range is free. -/
def journalInfoBytes (c : Chip) : List Byte :=
  match (c.replyJournalInfo).bus.reply with
  | some x => x.data.flatMap fun w => beBytes 2 w.toNat
  | none => []

/-- The value of a data identifier (R655). -/
def didValue (c : Chip) (d : Nat) : List Byte :=
  let fw := Config.firmwareRelease.toNat
  match d with
  | 0xF187 => [0x4C, 0x42, 0x38, 0x36] ++ (if c.part = .lb8620 then [0x32, 0x30] else [0x31, 0x32])
  | 0xF18C => beBytes 8 Config.devUid.toNat
  | 0xF189 => beBytes 2 fw ++ [BitVec.ofNat 8 (c.fld F.devStatus_PATCH_OK)]
  | 0xFD00 => c.reg16 R.idPart ++ c.reg16 R.idRev ++ beBytes 8 Config.devUid.toNat ++ beBytes 2 fw
  | 0xFD01 =>
    beBytes 3 c.pub.angle ++ beBytes 3 (c.fld F.predSigma_SIGMA) ++ beBytes 2 c.pub.speed ++ beBytes 2 c.pub.sync ++
      c.reg16 R.devStatus ++ beBytes 1 (c.view R.pwrState)
  | 0xFD02 =>
    c.reg16 R.supplyStatus ++ c.reg32 R.supplyMeas ++ c.reg32 R.holdupStatus ++ c.reg32 R.boostStatus ++ c.reg32 R.thermalStatus
  | 0xFD03 => c.reg16 R.faultSummary ++ c.reg32 R.faultQueue ++ c.reg32 R.faultCounts
  | 0xFD04 => beBytes 4 c.jnl.opTime.toNat ++ beBytes 2 c.jnl.boots.toNat ++ c.reg16 R.resetCause
  | 0xFD05 => c.journalInfoBytes
  | 0xFD06 => c.reg16 R.ringAddr ++ c.reg16 R.ringStatus ++ c.reg16 R.twinStatus ++ c.reg32 R.twinPartner
  | 0xFD07 => c.reg32 R.canStatus ++ c.reg32 R.canCounts ++ c.reg32 R.canDiagStatus
  | 0xFD08 => c.reg32 R.tagImage ++ c.reg32 R.tagDue ++ beBytes 1 (c.view R.tagStatus / 256)
  | 0xFD51 => [BitVec.ofNat 8 (c.fld F.faultCfg_JOURNAL_F0)]
  | _ => c.bytes (slotOff (d - 0xFD10)) 64

/-- Service 0x22 (R655). -/
def readIdentifiers (r : DiagReq) (c : Chip) : Chip :=
  let n := r.data.length
  c.answerWith (c.checks r true [1, 2, 3] [] (fun k => k % 2 == 1 && decide (3 ≤ k) && decide (k ≤ 17)) 0) r fun d =>
    if n = 0 ∨ (didsOf r).any (fun x => !didKnown x) then d.negative r 0x31
    else ({ d with free := if (didsOf r).contains 0xFD05 ∧ d.journalRange.isNone then d.free + 4 else d.free }).positive r false
      (0x62 :: (didsOf r).flatMap fun x => beBytes 2 x ++ d.didValue x)

/-- Service 0x2E (R655): only JOURNAL_NOTICES is writable. -/
def writeIdentifier (r : DiagReq) (c : Chip) : Chip :=
  c.answerWith (c.checks r false [3] [] (fun k => decide (3 ≤ k)) 0) r fun d =>
    if didsOf r != [0xFD51] then d.negative r 0x31
    else if r.data.length != 4 then d.negative r 0x13
    else if d.secLevel < 1 then d.negative r 0x33
    else if 2 ≤ rb r 3 then d.negative r 0x31
    else (d.setFld F.faultCfg_JOURNAL_F0 (rb r 3)).positive r false [0x6E, 0xFD, 0x51]

/-- Service 0x28 (R654). -/
def communication (r : DiagReq) (c : Chip) : Chip :=
  c.answerWith (c.checks r true [3] [0, 1, 2, 3] (· == 3) 1) r fun d =>
    if rb r 2 != 1 then d.negative r 0x31
    else
      let n := sub r
      let d1 := if n = 0 then d.restoreComm
        else (d.doIf (n % 2 == 1) fun e => e.setFlag F.canStatus_COMM_TX_OFF true).modCan fun q =>
          { q with rxOff := q.rxOff || decide (2 ≤ n) }
      d1.positive r true [0x68, BitVec.ofNat 8 n]

/-- Service 0x3E. -/
def stillHere (r : DiagReq) (c : Chip) : Chip :=
  c.answerWith (c.checks r true [1, 2, 3] [0] (· == 2) 0) r fun d => d.positive r true [0x7E, 0x00]

/-- Service 0x85 (R663, R665, R666); `fails` as for service 0x14. -/
def dtcSetting (fails : Nat) (r : DiagReq) (c : Chip) : Chip :=
  c.answerWith (c.checks r true [3] [1, 2] (· == 2) 0) r fun d =>
    let d1 :=
      if sub r = 2 ∧ !d.dtcOff then
        ((d.modCan fun q => { q with frozen := d.knownCodes.map fun x => (x, d.liveStatus x) }).setFlag
          F.canDiagStatus_DTC_OFF true).writeNow (dtcMarker 2 d) fails
      else if sub r = 1 ∧ d.dtcOff then d.dtcOn.flushJournal fails
      else d
    d1.positive r true [0xC5, BitVec.ofNat 8 (sub r)]

/-! ## Security access (R657 to R661) -/

/-- The tester key (R658). -/
def testerKey (c : Chip) : Option Key :=
  c.cipher.slots.toList.findSome? fun o => match o with
    | some k => if k.role = 4 ∧ k.bytes.length = 16 ∧ bitOf k.usage 5 then some k else none
    | none => none

/-- Security access is to be had: a tester key, and no alarm latch. -/
def testerReady (c : Chip) : Option Key := if c.latched then none else c.testerKey

/-- The seed (R658). -/
def mkSeed (c : Chip) : List Byte :=
  beBytes 2 c.jnl.boots.toNat ++ beBytes 2 (c.can.seeds % 65536) ++ beBytes 4 c.tb.frame.toNat ++ beBytes 8 Config.devUid.toNat

/-- requestSeed of a level (R658, R661). -/
def requestSeed (level : Nat) (r : DiagReq) (c : Chip) : Chip :=
  c.answerWith (c.checks r false [2, 3] [sub r] (· == 2) 0) r fun d =>
    if d.flag F.canDiagStatus_DELAY then d.negative r 0x37
    else if d.testerReady.isNone then d.negative r 0x22
    else if level ≤ d.secLevel then d.positive r true ([0x67, BitVec.ofNat 8 (sub r)] ++ List.replicate 16 0)
    else
      let s := d.mkSeed
      (d.modCan fun q => { q with seeds := q.seeds + 1, seed := (q.seed.filter fun x => x.1 != level) ++ [(level, s)] }).positive r true
        ([0x67, BitVec.ofNat 8 (sub r)] ++ s)

/-- The key expected for a seed of a level (R659). -/
def expectedKey (k : Key) (level : Nat) (seed : List Byte) : List Byte :=
  let label : List Byte := [0x4C, 0x42, 0x4B, 0x44, 0x02, 0x10, 0x04, 0x08]
  let context : List Byte := BitVec.ofNat 8 (2 * level - 1) :: leBytes 8 Config.devUid.toNat
  Aes.cmac (Aes.derive k.bytes label context 16) seed

/-- A key that does not match (R661); `time` is the time that a running job has run. -/
def keyFailed (r : DiagReq) (time : Nat) (c : Chip) : Chip :=
  let n := c.can.fails + 1
  let c1 := (c.incFld F.canDiagStatus_FAILS).modCan fun q => { q with fails := n }
  let c2 := c1.doIf (n % 3 = 0) fun d => (d.setFlag F.canDiagStatus_DELAY true).fault 0x0A03 0 0
  let c3 := if n % 16 = 0 then (c2.keyAlarm 3 time).fault 0x0A04 0 0 else c2
  c3.negative r (if n % 3 = 0 then 0x36 else 0x35)

/-- sendKey of a level (R660, R661). -/
def sendKey (level time : Nat) (r : DiagReq) (c : Chip) : Chip :=
  c.answerWith (c.checks r false [2, 3] [sub r] (· == 18) 0) r fun d =>
    match d.can.seed.find? fun x => x.1 == level with
    | none => d.negative r 0x24
    | some (_, s) =>
      let d1 := d.modCan fun q => { q with seed := q.seed.filter fun x => x.1 != level }
      match d1.testerReady with
      | none => d1.negative r 0x22
      | some k =>
        if r.data.drop 2 = expectedKey k level s then
          (((d1.setFld F.canDiagStatus_LEVEL (max level d1.secLevel)).setFld F.canDiagStatus_FAILS 0).modCan fun q =>
            { q with fails := 0 }).positive r true [0x67, BitVec.ofNat 8 (sub r)]
        else d1.keyFailed r time

/-! ## Routines (R656) -/

/-- Routine 0xFE10, JOURNAL_READ. -/
def routineJournal (r : DiagReq) (c : Chip) : Chip :=
  c.answerWith (c.checks r false [1, 2, 3] [1] (· == 9) 0) r fun d =>
    let first := beValue ((r.data.drop 4).take 4)
    let count := rb r 8
    match d.journalRange with
    | none => d.negative r 0x31
    | some (a, b) =>
      if count = 0 ∨ 64 < count ∨ first < a ∨ b < first then d.negative r 0x31
      else
        let es := d.entriesFrom first count
        let p := es.foldl readEntry ([], d)
        p.2.positive r true ([0x71, 0x01, 0xFE, 0x10, BitVec.ofNat 8 es.length] ++ wordBytes p.1)

/-- Routine 0xFE11, TAG_REFRESH (R691). -/
def routineTag (r : DiagReq) (c : Chip) : Chip :=
  c.answerWith (c.checks r false [3] [1] (· == 4) 1) r fun d =>
    let p := d.askTag 3 false
    p.2.positive r true [0x71, 0x01, 0xFE, 0x11, if p.1 = 0 then 0x00 else 0x01]

/-- Routine 0xFE12, KEY_PURGE; `time` is the time that a running job has run. -/
def routinePurge (time : Nat) (r : DiagReq) (c : Chip) : Chip :=
  c.answerWith (c.checks r false [3] [1] (· == 4) 2) r fun d =>
    (d.keyAlarm 3 time).positive r true [0x71, 0x01, 0xFE, 0x12]

/-- The code for a request that nothing answers or forwards (R652, R656, R668). -/
def unansweredCode (c : Chip) (r : DiagReq) : Nat :=
  let n := r.data.length
  let s := sid r
  if forwardSid s then (if c.flag F.canDiagCfg_FWD_EN then 0x7F else 0x11)
  else if s = 0x19 then (if n < 2 then 0x13 else 0x12)
  else if s = 0x27 then
    if r.functional then 0x11 else if c.session < 2 then 0x7F else if n < 2 then 0x13 else 0x12
  else if s = 0x31 then
    if r.functional then 0x11 else if n < 2 then 0x13 else if sub r != 1 then 0x12 else if n < 4 then 0x13 else 0x31
  else 0x11

/-! ## Forwarding (R668 to R670) -/

/-- A forwardable request is handed to the host. -/
def forwardRequest (c : Chip) : Chip :=
  match c.can.req with
  | some r =>
    if c.diagRuns && r.handle.isNone && c.forwards r then
      let h := c.can.handle % 255 + 1
      ((c.modCan fun q => { q with req := some { r with handle := some h }, handle := h, put := [] }).setFlag
        F.canDiagStatus_FWD_PENDING true).raise 59
    else c
  | none => c

/-- The forwarded request that awaits the host, with its handle. -/
def pendingForward (c : Chip) : Option (Nat × DiagReq) := c.can.req.bind fun r => r.handle.map fun h => (h, r)

/-- The forwarded request has its outcome. -/
def endForward (c : Chip) : Chip := ((c.setFlag F.canDiagStatus_FWD_PENDING false).modCan fun q => { q with put := [] }).dropReq

/-- `ms` have passed since the forwarded request: FWD_TIMEOUT is over (R669). -/
def forwardTimeout (ms : Nat) (c : Chip) : Chip :=
  match c.pendingForward with
  | some (_, r) => if c.diagRuns && decide (c.can.fwdTime ≤ ms) then ((c.sendNegative r 0x10).endForward).fault 0x0A05 0 (sid r) else c
  | none => c

/-- Bytes packed into words, the first byte in bits [7:0]. -/
def packWords : List Byte → List Word
  | a :: b :: l => BitVec.ofNat 16 (a.toNat + 256 * b.toNat) :: packWords l
  | [a] => [BitVec.ofNat 16 a.toNat]
  | [] => []

/-- SERVICE_GET (R670). -/
def serviceGet (c : Chip) : Chip :=
  match c.pendingForward with
  | none => c.setReply 0x0100 []
  | some (h, r) =>
    let off := c.param 2
    if r.data.length ≤ off then c.setReply 2 []
    else
      let l := (r.data.drop off).take 240
      c.setReply 0 ([BitVec.ofNat 16 h, BitVec.ofNat 16 r.data.length, BitVec.ofNat 16 l.length] ++ packWords l)

/-- SERVICE_PUT (R670). -/
def servicePut (c : Chip) : Chip :=
  match c.pendingForward with
  | none => c.setReply 0x0101 []
  | some (h, r) =>
    let off := c.param 3
    let len := c.param 4
    if c.param 2 != h then c.setReply 0x0101 []
    else if 240 < len ∨ c.can.put.length < off then c.setReply 2 []
    else if 4095 < off + len then ((c.sendNegative r 0x14).endForward).setReply 2 []
    else
      let all := c.can.put.take off ++ c.bytes 12 len ++ c.can.put.drop (off + len)
      let c1 := c.modCan fun q => { q with put := all }
      if !bitOf (c.param 5) 0 then c1.setReply 0 []
      else if all.isEmpty then c1.setReply 2 []
      else
        (((c1.sendDiag r.fdf r.brs all).doIf (all.headD 0 == 0x7F && all.getD 2 0 != 0x78) fun d =>
          d.incFld F.canCounts_DIAG_NEGATIVE).endForward).setReply 0 []

/-- SERVICE_FORWARD (R670). -/
def serviceForward (c : Chip) : Chip :=
  let flags := c.param 2
  let t := c.param 3
  if t < 100 ∨ 60000 < t then c.setReply 2 []
  else
    (((c.setFlag F.canDiagCfg_FWD_EN (bitOf flags 0)).setFlag F.canDiagCfg_DID (bitOf flags 1)).modCan fun q =>
      { q with fwdTime := t }).setReply 0 []

end Chip

open Chip

/-- CAN_TX_COMPLETE (R646, R653): a frame has been sent: that of the highest priority among those of `queued`, the buffers queued when
its transmission began; the reset of service 0x11 follows its response. -/
def execCanTxComplete (queued : Word) (s : State) : Host.Outcome State Fault Refusal :=
  s.run fun c => (c.txComplete queued.toNat).resetWhenSent

/-- SINGLE_FRAME (R647): the supervisor takes a single frame from buffer 0 or 1. -/
def execSingleFrame (s : State) : Host.Outcome State Fault Refusal := s.run (withFrame 0 takeSingle)

/-- FIRST_FRAME (R647): the supervisor takes a first frame. -/
def execFirstFrame (s : State) : Host.Outcome State Fault Refusal := s.run (withFrame 1 fun _ => takeFirst)

/-- CONSECUTIVE_FRAME (R647): the supervisor takes a consecutive frame. -/
def execConsecutiveFrame (s : State) : Host.Outcome State Fault Refusal := s.run (withFrame 2 fun _ => takeConsecutive)

/-- FLOW_CONTROL (R647): the supervisor takes a flow control of the tester. -/
def execFlowControl (s : State) : Host.Outcome State Fault Refusal := s.run (withFrame 3 fun _ => takeFlow)

/-- STMIN_ELAPSED (R647): `us` have passed since the last consecutive frame; once the separation time is over the next leaves. -/
def execStminElapsed (s : State) (us : DWord := 0) : Host.Outcome State Fault Refusal :=
  s.run fun c => match c.can.tx with
    | some t => if t.go && t.due && c.diagRuns && decide (t.st ≤ us.toNat) then c.sendConsecutive else c
    | none => c

/-- ISOTP_TIMEOUT (R647): N_Bs while `sending`, else N_Cr, has passed: the transfer that waits for a flow control, or the one that
waits for a consecutive frame, ends. -/
def execIsotpTimeout (sending : Bool) (s : State) : Host.Outcome State Fault Refusal :=
  s.run fun c =>
    if c.supRuns then c.modCan fun q => if sending then { q with tx := q.tx.filter (·.go) } else { q with rx := none } else c

/-- DIAGNOSTIC_SESSION_CONTROL (R649): service 0x10. -/
def execDiagnosticSessionControl (s : State) : Host.Outcome State Fault Refusal :=
  s.run (serve (fun r => sid r == 0x10) sessionControl)

/-- ECU_RESET (R653): service 0x11. -/
def execEcuReset (s : State) : Host.Outcome State Fault Refusal := s.run (serve (fun r => sid r == 0x11) ecuReset)

/-- CLEAR_DIAGNOSTIC_INFORMATION (R663 to R665): service 0x14. -/
def execClearDiagnosticInformation (s : State) (fails : Nat := 0) : Host.Outcome State Fault Refusal :=
  s.run (serve (fun r => sid r == 0x14) (clearCodes fails))

/-- REPORT_NUMBER_OF_DTC_BY_STATUS_MASK (R667): service 0x19, sub-function 0x01. -/
def execReportNumberOfDtcByStatusMask (s : State) : Host.Outcome State Fault Refusal := s.run (serve (isSub 0x19 1) reportCount)

/-- REPORT_DTC_BY_STATUS_MASK (R667): service 0x19, sub-function 0x02. -/
def execReportDtcByStatusMask (s : State) : Host.Outcome State Fault Refusal := s.run (serve (isSub 0x19 2) reportCodes)

/-- REPORT_DTC_SNAPSHOT_RECORD (R667): service 0x19, sub-function 0x04. -/
def execReportDtcSnapshotRecord (s : State) : Host.Outcome State Fault Refusal :=
  s.run (serve (isSub 0x19 4) (reportRecords 4 snapshots))

/-- REPORT_DTC_EXTENDED_DATA_RECORD (R667): service 0x19, sub-function 0x06. -/
def execReportDtcExtendedDataRecord (s : State) : Host.Outcome State Fault Refusal :=
  s.run (serve (isSub 0x19 6) (reportRecords 6 extendeds))

/-- READ_DATA_BY_IDENTIFIER (R655): service 0x22. -/
def execReadDataByIdentifier (s : State) : Host.Outcome State Fault Refusal :=
  s.run (serve (fun r => sid r == 0x22) readIdentifiers)

/-- WRITE_DATA_BY_IDENTIFIER (R655): service 0x2E. -/
def execWriteDataByIdentifier (s : State) : Host.Outcome State Fault Refusal :=
  s.run (serve (fun r => sid r == 0x2E) writeIdentifier)

/-- REQUEST_SEED (R658): service 0x27, sub-functions 0x01 and 0x03. -/
def execRequestSeed (s : State) : Host.Outcome State Fault Refusal :=
  s.run (serve (fun r => isSub 0x27 1 r || isSub 0x27 3 r) fun r => requestSeed ((sub r + 1) / 2) r)

/-- SEND_KEY (R660, R661): service 0x27, sub-functions 0x02 and 0x04; `time` as for KEY_ALARM. -/
def execSendKey (time : Word) (s : State) : Host.Outcome State Fault Refusal :=
  s.run (serve (fun r => isSub 0x27 2 r || isSub 0x27 4 r) fun r => sendKey (sub r / 2) time.toNat r)

/-- SECURITY_DELAY_END (R661): the 10 s delay is over. -/
def execSecurityDelayEnd (s : State) : Host.Outcome State Fault Refusal := s.run (setFlag F.canDiagStatus_DELAY false)

/-- COMMUNICATION_CONTROL (R654): service 0x28. -/
def execCommunicationControl (s : State) : Host.Outcome State Fault Refusal :=
  s.run (serve (fun r => sid r == 0x28) communication)

/-- ROUTINE_JOURNAL_READ (R656): routine 0xFE10. -/
def execRoutineJournalRead (s : State) : Host.Outcome State Fault Refusal := s.run (serve (isRoutine 0xFE10) routineJournal)

/-- TAG_REFRESH (R656, R691): routine 0xFE11. -/
def execTagRefresh (s : State) : Host.Outcome State Fault Refusal := s.run (serve (isRoutine 0xFE11) routineTag)

/-- ROUTINE_KEY_PURGE (R656): routine 0xFE12; `time` as for KEY_ALARM. -/
def execRoutineKeyPurge (time : Word) (s : State) : Host.Outcome State Fault Refusal :=
  s.run (serve (isRoutine 0xFE12) (routinePurge time.toNat))

/-- TESTER_PRESENT (R652): service 0x3E. -/
def execTesterPresent (s : State) : Host.Outcome State Fault Refusal := s.run (serve (fun r => sid r == 0x3E) stillHere)

/-- CONTROL_DTC_SETTING (R663, R665): service 0x85. -/
def execControlDtcSetting (s : State) (fails : Nat := 0) : Host.Outcome State Fault Refusal :=
  s.run (serve (fun r => sid r == 0x85) (dtcSetting fails))

/-- UNSUPPORTED_SERVICE (R652, R668): a request that no other operation answers or forwards. -/
def execUnsupportedService (s : State) : Host.Outcome State Fault Refusal :=
  s.run (serve (fun r => !answered r) fun r c => c.negative r (c.unansweredCode r))

/-- FORWARDED_REQUEST (R669): a forwardable request is handed to the host. -/
def execForwardedRequest (s : State) : Host.Outcome State Fault Refusal := s.run forwardRequest

/-- FORWARD_TIMEOUT (R669): `ms` have passed since the request. -/
def execForwardTimeout (s : State) (ms : Word := 0) : Host.Outcome State Fault Refusal := s.run (forwardTimeout ms.toNat)

/-- RESPONSE_PENDING (R650): the response to the request in service is not ready. -/
def execResponsePending (s : State) : Host.Outcome State Fault Refusal :=
  s.run fun c => match c.can.req with
    | some r => if c.diagRuns then c.sendNegative r 0x78 else c
    | none => c

/-- SESSION_TIMEOUT (R649): the S3 timer has run out. -/
def execSessionTimeout (s : State) : Host.Outcome State Fault Refusal := s.run fun c => if c.supRuns then c.setSession 1 else c

/-- SERVICE_GET (R670): the outstanding mailbox command 0x0A01. -/
def execServiceGet (s : State) : Host.Outcome State Fault Refusal := s.run (withCommand 0x0A01 serviceGet)

/-- SERVICE_PUT (R670): the outstanding mailbox command 0x0A02. -/
def execServicePut (s : State) : Host.Outcome State Fault Refusal := s.run (withCommand 0x0A02 servicePut)

/-- SERVICE_FORWARD (R670): the outstanding mailbox command 0x0A03. -/
def execServiceForward (s : State) : Host.Outcome State Fault Refusal := s.run (withCommand 0x0A03 serviceForward)

end Sys2Proof.Machine
end

