-- ==== Sys2Proof/Machine/Twin.lean ====
section
/-!
DEFINITION. Twin pairs and Equinox (13): the digest (R582 to R584), the twin frame (R573 to R576), mirroring (R585 to R588),
rejoin and CAPTURE (R589 to R591), claims, hand-over and takeover (R592 to R600), and their commands.
-/

namespace Sys2Proof.Machine

/-! ## CRC-64 (R582) -/

/-- One bit into the CRC-64 register. -/
def crc64Bit (r : BitVec 64) (b : Bool) : BitVec 64 :=
  if r.msb != b then (r <<< 1) ^^^ 0x42F0E1EBA9EA3693#64 else r <<< 1

/-- CRC-64 of a byte string, every byte taken least significant bit first (R582). -/
def crc64 (l : List Byte) : BitVec 64 :=
  l.foldl (fun r b => (List.range 8).foldl (fun q i => crc64Bit q (b.getLsbD i)) r) 0xFFFFFFFFFFFFFFFF#64

/-- A byte of a number. -/
def byteOf (n : Nat) : Byte := BitVec.ofNat 8 n

namespace Chip

/-! ## The digest (R582) -/

/-- The edges that the digest holds. -/
def digestEdges (c : Chip) : List Edge :=
  c.sched.next.filter fun x => decide (x.chan < 0x30) || (decide (0x40 ≤ x.chan) && decide (x.chan < 0x48))

/-- An edge drives its output active. -/
def activeEdge (x : Edge) : Bool := x.kind = .start && x.action != 3

/-- The digest record of the frame. -/
def digestRecord (c : Chip) : List Byte :=
  let es := c.digestEdges
  leBytes 3 c.pub.angle ++ leBytes 2 c.pub.sync ++ leBytes 2 (c.get R.schedCycle).toNat ++ [byteOf es.length] ++
    es.flatMap fun x => [byteOf x.chan, byteOf (b2n (activeEdge x) * 128 + x.step / 256 % 2), byteOf x.step]

/-- The digest of the frame that ends, over every edge that was committed in it (R582); the last four are kept. -/
def formDigest (c : Chip) : Chip :=
  if !c.twinEn then c
  else c.modTwin fun t =>
    { t with digests := ({ frame := c.tb.frame, mcount := t.mcount, value := crc64 c.digestRecord } :: t.digests).take 4 }

/-! ## Frame numbers and instants (R577) -/

/-- PFN less FRAME_COUNT. -/
def pfnShift (c : Chip) : BitVec 32 := if c.isOwner then 0 else c.twin.offset.getD 0

/-- The pair frame number with the low byte `lo` that is nearest to the frame before the running one. -/
def fullPfn (c : Chip) (lo : Nat) : BitVec 32 :=
  let p := c.pfn - 1
  let d := (lo + 256 - p.toNat % 256) % 256
  if d < 128 then p + BitVec.ofNat 32 d else p - BitVec.ofNat 32 (256 - d)

/-- The local time of the tick of a frame of the pair; frames before the oldest kept one count 400 steps each. -/
def tickOf (c : Chip) (p : BitVec 32) : Int :=
  let f := p - c.pfnShift
  match c.tb.history.find? fun x => x.frame == f with
  | some x => (x.steps : Int)
  | none => match c.tb.history.getLast? with
    | some x => (x.steps : Int) - 400 * (x.frame - f).toInt
    | none => (c.tb.ticks : Int) - 400 * (c.tb.frame - f).toInt

/-- The frame of the pair whose tick precedes an instant, in steps of local time, and the offset from that tick. -/
def frameOf (c : Chip) (steps : Int) : BitVec 32 × Nat :=
  match c.tb.history.find? fun x => decide ((x.steps : Int) ≤ steps) with
  | some x => (x.frame + c.pfnShift, (steps - x.steps).toNat)
  | none =>
    let old := (c.tb.history.getLast?).getD c.thisTick
    let k := ceilDivI ((old.steps : Int) - steps) 400
    (old.frame - BitVec.ofInt 32 k + c.pfnShift, (steps - ((old.steps : Int) - 400 * k)).toNat)

/-! ## The mirror stream: sending (R586) -/

/-- The bytes of a BLOCK packet (R586). -/
def blockPacket (n : Nat) (bs : List Byte) : List Byte := 1 :: leBytes 2 n ++ bs ++ leBytes 2 (crc16 bs).toNat

/-- The bytes of a packet that begins in the twin frame of frame `f` (R586, R588, R591). -/
def packetBytes (c : Chip) (f : BitVec 32) : Packet → List Byte
  | .block n => blockPacket n (c.bytes (256 * n) 256)
  | .mirror n bs => blockPacket n bs
  | .commit a v => 2 :: leBytes 3 a ++ leBytes 4 v.toNat
  | .direct a v => 3 :: byteOf (a / 2) :: leBytes 2 v.toNat
  | .apply m => [4, byteOf m]
  | .capture bs => 5 :: bs
  | .hello =>
    6 :: leBytes 2 c.partId ++ [byteOf (c.fld F.twinCfg_SEAT), byteOf (c.fld F.ringAddr_NODE)] ++
      leBytes 2 Config.firmwareRelease.toNat ++ leBytes 4 f.toNat

/-- The packet at the head of those to be sent begins: a block of a rejoin's copy once the device holds it (R114), and not at all
where a word of it is damaged (R139). -/
def beginPacket (f : BitVec 32) (p : Packet) (rest : List Packet) (c : Chip) : Chip :=
  match p with
  | .block n =>
    if !c.deviceHeld n then c
    else
      let q := c.readBlock n
      q.2.modTwin fun t => { t with send := rest, sending := t.sending ++ (q.1.map (blockPacket n)).getD [] }
  | _ => c.modTwin fun t => { t with send := rest, sending := t.sending ++ c.packetBytes f p }

/-- Packets begin until `k` bytes wait; a packet has at least two bytes. -/
def fillStream (f : BitVec 32) (k : Nat) (c : Chip) : Chip :=
  stepN (fun d => match d.twin.send with
    | p :: rest => if d.twin.sending.length < k then d.beginPacket f p rest else d
    | [] => d) 4 c

/-! ## The twin frame: sending (R574) -/

/-- Edge `x` is put before the first edge of a list with a later instant. -/
def pairInsert (x : PairEdge) : List PairEdge → List PairEdge
  | [] => [x]
  | y :: l => if x.steps < y.steps then x :: y :: l else y :: pairInsert x l

/-- The owner's EDGE items of the frame that began at `tick`, in the order of their instants (R194, R574). An edge that was accepted
in the frame but lies before its tick is sent with the offset 0 (log entry 97). -/
def edgeItems (c : Chip) (tick : Nat) : List Byte :=
  if !c.isOwner then [] else
  ((c.twin.edges.foldl (fun l x => pairInsert x l) []).take 4).flatMap fun x =>
    let s := x.steps - tick
    [byteOf (0x40 + 16 * x.input + 8 * b2n x.pol + s / 256 % 2), byteOf s]

/-- FLAGS; `hand` is HANDOVER. -/
def twinFlags (c : Chip) (hand : Bool) : Nat :=
  c.twinState + b2n c.isOwner * 4 + b2n (c.flag F.outStatus_ARMED) * 8 + b2n (c.flag F.outStatus_SAFE_LATCH) * 16 +
    b2n hand * 32 + b2n c.twin.capOk * 64

/-- The twin frame that describes frame `f`, which began at the local time `tick`, lasted `len` CCLK cycles and ran under the
MCOUNT `mc` (R574). -/
def sendTwin (f : BitVec 32) (tick len mc : Nat) (hand : Bool) (c : Chip) : Chip :=
  if !c.twinEn then c.modTwin fun t => { t with edges := [], frame := [] }
  else
    let items := c.edgeItems tick
    let room := 8 - items.length
    let c1 := c.fillStream f (room - 1)
    let k := min (room - 1) c1.twin.sending.length
    let pay := fitBytes 8 (items ++ (if k = 0 then [] else byteOf (0x20 + k) :: c1.twin.sending.take k))
    let dig := match c1.twin.digests.find? fun d => d.frame == f with
      | some d => d.value
      | none => 0
    let body := [byteOf (c1.twinFlags hand), byteOf ((len - 199) * 64 + mc), byteOf (f + c1.pfnShift).toNat] ++
      leBytes 8 dig.toNat ++ leBytes 2 c1.twin.arrival ++ pay
    c1.modTwin fun t =>
      { t with sending := t.sending.drop k, edges := [], frame := 0xFB :: body ++ leBytes 2 (crc16 body).toNat }

/-! ## Rejoin: the non-owner's side (R580, R589) -/

/-- The rejoin stands at step 2 (R589). -/
def beginCopy (c : Chip) : Chip :=
  ((((c.setFld F.twinProgress_REJOIN_PHASE 1).setFld F.twinProgress_COPY_LEFT 150).setFld F.twinProgress_WRAPS 0).setFld
    F.twinProgress_MATCH_RUN 0).modTwin fun t => { t with capOk := false, capture := none }

/-- A rejoin starts where R580 lets it. -/
def rejoin (c : Chip) : Chip :=
  if c.twinState = 0 ∧ c.paired ∧ c.partnerState = 3 ∧ ¬ c.twin.refused then
    ((c.twinMove 1 1 0 []).beginCopy).modTwin fun t => { t with group := [], due := none, badRun := 0, wrong := 0 }
  else c

/-- Step 5 counts matches: the second passage has come, or the device is READY (R589). -/
def counting (c : Chip) : Bool :=
  c.twinState == 2 || (c.twinState == 1 && c.fld F.twinProgress_REJOIN_PHASE == 3 && c.fld F.twinProgress_WRAPS == 2)

/-- A match (R584, R589). -/
def digestMatch (c : Chip) : Chip :=
  let c1 := c.modTwin fun t => { t with matched := true, badRun := 0 }
  if !c1.counting then c1
  else
    let c2 := c1.incFld F.twinProgress_MATCH_RUN
    if c2.twinState = 1 ∧ 1000 ≤ c2.fld F.twinProgress_MATCH_RUN then
      (c2.twinMove 1 2 0 []).setFld F.twinProgress_REJOIN_PHASE 0
    else c2

/-- As many compared frames in a row are mismatches as diverge a pair (R584). -/
def diverged (c : Chip) : Bool := decide (c.twin.badRun = max 1 (c.fld F.twinCfg_DIVERGE_LIMIT))

/-- The owner's part of a mismatch: a partner that restarts its rejoin with CAPTURE_OK 0 shows no change in its twin frames, so that
the owner sends the copy again by its own count (R584, R589; log entry 98). -/
def mismatchOwner (c : Chip) : Chip :=
  if c.diverged && c.flag F.twinCfg_AUTO_REJOIN && c.partnerState == 1 && !c.twin.pCapOk then
    c.modTwin fun t => { t with copyDue := true, capturing := false }
  else c

/-- A non-owner's part of a mismatch (R584, R589). -/
def mismatchShadow (c : Chip) : Chip :=
  let c1 := c.setFld F.twinProgress_MATCH_RUN 0
  let c2 := if c1.twinState = 2 then
      ((c1.twinMove 1 1 0 []).setFld F.twinProgress_REJOIN_PHASE 3).setFld F.twinProgress_WRAPS 2
    else c1
  if c2.diverged then (c2.twinFault 0x0804 0 0).doIf (c2.flag F.twinCfg_AUTO_REJOIN && c2.shadows) beginCopy
  else c2

/-- The words of a digest in a twin log entry. -/
def digestWords (w : Nat) (d : BitVec 64) : List (Nat × Nat) :=
  (List.range 4).map fun i => (w + i, d.toNat / 2 ^ (16 * i) % 65536)

/-- A mismatch (R584). -/
def digestMismatch (own theirs : BitVec 64) (c : Chip) : Chip :=
  let c1 := (c.incFld F.twinCounts_MISMATCHES).setFlag F.twinStatus_DIGEST_MISMATCH true
  let c2 := if c.twin.matched then
      (c1.twinLog 2 c.twinState c.twinState 0 (digestWords 11 own ++ digestWords 15 theirs)).twinFault 0x0803 0 0
    else c1
  let c3 := c2.modTwin fun t => { t with matched := false, badRun := t.badRun + 1 }
  if c3.isOwner then c3.mismatchOwner else c3.mismatchShadow

/-- The partner's digest of the frame `p` of the pair under its MCOUNT is compared, in every STATE of a member that knows the pair
frame number (R577, R583). -/
def compareDigest (p : BitVec 32) (mc : Nat) (value : BitVec 64) (c : Chip) : Chip :=
  if !c.isOwner && !c.follows then c
  else match c.twin.digests.find? fun d => d.frame + c.pfnShift == p && d.mcount == mc with
    | some d => if d.value = value then c.digestMatch else c.digestMismatch d.value value
    | none => c

/-! ## The link (R575, R576) -/

/-- LINK_UP becomes 1: HELLO is sent, and AUTO_REJOIN acts (R575, R580, R588). -/
def linkRise (c : Chip) : Chip :=
  let c1 := (c.setFlag F.twinStatus_LINK_UP true).modTwin fun t =>
    { t with send := t.send ++ [.hello], refused := false, seen := Vector.replicate 4 0, bad := [] }
  c1.doIf (c1.flag F.twinCfg_AUTO_REJOIN) rejoin

/-- LINK_UP becomes 0 (R575, R577, R580, R598). -/
def linkFall (c : Chip) : Chip :=
  let c1 := (c.setFlag F.twinStatus_LINK_UP false).modTwin fun t =>
    { t with validRun := 0, offset := none, wrong := 0, mine := [], theirs := [], stream := [], send := [], sending := []
             copyDue := false, capturing := false, lastEdge := Vector.replicate 4 none }
  let c2 := if c1.partnerState = 0 then c1 else c1.twinFault 0x0801 0 0
  if c2.shadows then c2.isolate 1 0 else c2

/-- A frame tick without a valid twin frame since the last one counts (R575). -/
def linkTick (c : Chip) : Chip :=
  if !c.twinEn && !c.linkUp then c
  else
    let c1 := c.modTwin fun t => { t with missRun := t.missRun + 1, validRun := if t.missRun = 0 then t.validRun else 0 }
    if c1.linkUp && decide (5 ≤ c1.twin.missRun) then c1.linkFall else c1

/-- Both members are LOCKED to a ring: the partner says so in its status entry (R522, R576; log entry 99). -/
def bothLocked (c : Chip) : Bool := c.locked && c.ring.pairLocked

/-- Skew and delay from the two arrivals, and the non-owner's steering (R576). -/
def twinSkew (own theirs : Nat) (c : Chip) : Chip :=
  let skew := Int.fdiv ((own : Int) - theirs) 2
  let c1 := ((c.setFld F.twinSync_SKEW (unsignedOf 16 skew)).setFld F.twinSync_DELAY
    (unsignedOf 16 (Int.fdiv ((own : Int) + theirs) 2 - 40))).modTwin fun t => { t with arrival := own }
  if c1.paired && !c1.isOwner && c1.partnerState == 3 && !c1.bothLocked then { c1 with tb := { c1.tb with steer := -skew, steerTo := 20 } } else c1

/-- Pair time follows the length that the owner's frame `p` had (R577): the ticks after it move by the difference. -/
def adjustPair (p : BitVec 32) (len : Nat) (c : Chip) : Chip :=
  if !c.follows then c
  else
    let f := p - c.pfnShift
    match c.tb.history.find? (fun x => x.frame == f), c.tb.history.find? (fun x => x.frame == f + 1) with
    | some a, some b =>
      let d : Int := 2 * len - ((b.steps : Int) - a.steps)
      let move (n : Nat) : Nat := ((n : Int) + d).toNat
      if d = 0 then c
      else { c with tb := { c.tb with ticks := move c.tb.ticks
                                      history := c.tb.history.map fun x => if a.steps < x.steps then { x with steps := move x.steps } else x } }
    | _, _ => c

/-! ## The twin frame: receiving (R574) -/

/-- The items of a payload: MIRROR bytes and EDGE items by input, polarity and offset; none where an item is undefined or
does not fit. -/
def readItems : Nat → List Byte → Option (List Byte × List (Nat × Bool × Nat))
  | 0, _ => some ([], [])
  | _, [] => some ([], [])
  | n + 1, b :: l =>
    let x := b.toNat
    if x = 0 then some ([], [])
    else if 0x21 ≤ x ∧ x ≤ 0x27 then
      if l.length < x - 0x20 then none
      else (readItems n (l.drop (x - 0x20))).map fun r => (l.take (x - 0x20) ++ r.1, r.2)
    else if 0x40 ≤ x ∧ x ≤ 0x7F ∧ x / 2 % 4 = 0 then
      match l with
      | [] => none
      | y :: rest => (readItems n rest).map fun r => (r.1, (x / 16 % 4, bitOf x 3, x % 2 * 256 + y.toNat) :: r.2)
    else none

/-- The tick from which an edge of frame `p` of the pair is stamped (R20). -/
def stampTick (c : Chip) (p : BitVec 32) : TickMark :=
  (c.tb.history.find? fun x => x.frame == p - c.pfnShift).getD c.thisTick

/-- An owner edge of frame `p` of the pair enters the queue of its input for phase A of frame p + 2 (R578), stamped from the tick
of its own frame (R20). -/
def takeItem (p : BitVec 32) (x : Nat × Bool × Nat) (c : Chip) : Chip :=
  let steps := (c.tickOf p + x.2.2).toNat
  let m := c.stampTick p
  let off := Int.fdiv (((steps : Int) - m.steps) * 5) 2
  let e : EdgeIn := { steps := steps, epoch := m.epoch, time := m.time + BitVec.ofInt 64 off, pol := x.2.1
                      peak := Config.freeNat c.free % 256, arm := (c.wheel x.1).threshold, accepted := steps }
  let q : PairEdge := { input := x.1, pol := x.2.1, steps := steps }
  (c.useFree.modWheel x.1 fun w => { w with queue := queueEdge e w.queue }).modTwin fun t =>
    { t with theirs := t.theirs ++ [q], lastEdge := modAt t.lastEdge x.1 fun _ => some p, seen := modAt t.seen x.1 (· + 1) }

/-- The partner's FLAGS and MCOUNT (R574), and what an owner does on a change of its partner (R589). -/
def partnerFlags (fl mc : Nat) (c : Chip) : Chip :=
  let st := fl % 4
  let was := c.partnerState
  let cap := bitOf fl 6
  let c1 := (((c.setFld F.twinPartner_STATE st).setFlag F.twinPartner_ARMED (bitOf fl 3)).setFlag F.twinPartner_SAFE_LATCH
    (bitOf fl 4)).modTwin fun t => { t with pMcount := mc, pHand := bitOf fl 5, pCapOk := cap }
  if c1.isOwner && c1.linkUp then
    if st = 1 ∧ ¬cap ∧ (was = 0 ∨ was = 3 ∨ c.twin.pCapOk) then c1.modTwin fun t => { t with copyDue := true, capturing := false }
    else if st = 0 ∨ st = 3 then c1.modTwin fun t => { t with copyDue := false, capturing := false }
    else c1.modTwin fun t => { t with capturing := t.capturing && !cap }
  else c1

/-- The frames in a row in which the partner is not OWNER while its line stays asserted (R580). -/
def checkPartner (c : Chip) : Chip :=
  if !c.shadows then c
  else if c.partnerState = 3 ∨ ¬ c.flag F.twinStatus_PARTNER_OWN then c.modTwin fun t => { t with wrong := 0 }
  else if c.twin.wrong + 1 < 4 then c.modTwin fun t => { t with wrong := t.wrong + 1 }
  else (c.isolate 1 0).modTwin fun t => { t with wrong := 0 }

/-- The hand-over as a received frame moves it (R594): the owner notes a partner that is not READY, a READY partner learns H. -/
def checkHand (c : Chip) : Chip :=
  if c.isOwner then
    match c.twin.hand with
    | some k => if k ≤ 3 ∧ c.partnerState ≠ 2 then c.modTwin fun t => { t with handBad := true } else c
    | none => c
  else if c.twinState = 2 ∧ c.partnerState = 3 then
    if c.twin.pHand then c.modTwin fun t => { t with hand := some (t.hand.getD 3) } else c.modTwin fun t => { t with hand := none }
  else c

/-- From the moment a device follows its partner's edges, its own are not taken in (R577, R578). -/
def dropOwnEdges (was : Bool) (c : Chip) : Chip :=
  if was || !c.follows then c
  else (List.range 4).foldl (fun d n => d.modWheel n fun w => { w with queue := [] }) c

/-- A valid twin frame: FLAGS, LEN_MC, PFN_LO, DIGEST, ARRIVAL and the items (R574 to R584). -/
def takeValid (l : List Byte) (items : List Byte × List (Nat × Bool × Nat)) (arrival : Nat) (c : Chip) : Chip :=
  let b (i n : Nat) : Nat := leValue ((l.drop i).take n)
  let run := c.twin.validRun + 1
  let c1 := (c.modTwin fun t => { t with missRun := 0, validRun := run }).partnerFlags (b 0 1) (b 1 1 % 64)
  let c2 := if !c1.linkUp && decide (64 ≤ run) then c1.linkRise else c1
  let p := c2.fullPfn (b 2 1)
  let c3 := (c2.twinSkew arrival (b 11 2)).adjustPair p (199 + b 1 1 / 64)
  let c4 := c3.modTwin fun t => { t with stream := t.stream ++ items.1.map fun x => (x, c3.tb.frame) }
  let c5 := if c4.follows then items.2.foldl (fun d x => d.takeItem p x) (c4.dropOwnEdges c.follows) else c4
  ((if c5.linkUp then c5.compareDigest p (b 1 1 % 64) (BitVec.ofNat 64 (b 3 8)) else c5).checkPartner).checkHand

/-- The twin frame's bytes 1 to 23 as they arrived; a valid frame has no symbol error, a good CRC and defined items (R574). -/
def takeTwinFrame (l : List Byte) (symErr : Bool) (arrival : Nat) (c : Chip) : Chip :=
  if !c.twinEn || !c.frameRuns then c
  else
    let bad := (c.incFld F.twinCounts_LINK_ERRORS).modTwin fun t => { t with validRun := 0 }
    if symErr || (crc16 (l.take 21)).toNat != leValue ((l.drop 21).take 2) then bad
    else match readItems 8 ((l.drop 13).take 8) with
      | some items => c.takeValid l items arrival
      | none => bad

/-! ## The mirror stream: receiving (R586 to R588) -/

/-- The length of the packet that begins a byte string; 0 for a type that is not defined, none while it is not yet known. -/
def packetLength : List Byte → Option Nat
  | [] => none
  | b :: l =>
    match b.toNat with
    | 1 => some 261
    | 2 => some 8
    | 3 => some 4
    | 4 => some 2
    | 5 => if l.length < 2 then none else some (max 3 (1 + leValue (l.take 2)))
    | 6 => some 11
    | _ => some 0

/-- The complete packet at the head of the stream: its bytes and the FRAME_COUNT at the receipt of its type byte. -/
def headPacket (c : Chip) : Option (List Byte × BitVec 32) :=
  match c.twin.stream with
  | [] => none
  | x :: rest =>
    match packetLength ((x :: rest).map (·.1)) with
    | some n =>
      if n = 0 then some ([x.1], x.2)
      else if (x :: rest).length < n then none else some (((x :: rest).take n).map (·.1), x.2)
    | none => none

/-- The blocks of a group. -/
def groupHas (g : List Mirror) (b : Nat) : Bool :=
  g.any fun x => match x with
    | .block n _ => n == b
    | _ => false

/-- The blocks of the copy that a group still lacks (R589). -/
def copyLeft (g : List Mirror) : Nat := ((List.range 150).filter fun i => !groupHas g (10 + i)).length

/-- A change joins the group in reception; only SHADOW and READY take it. -/
def joinGroup (x : Mirror) (c : Chip) : Chip :=
  if !c.shadows then c
  else
    let c1 := c.modTwin fun t => { t with group := t.group ++ [x] }
    c1.doIf (c1.fld F.twinProgress_REJOIN_PHASE == 1) (setFld F.twinProgress_COPY_LEFT (copyLeft c1.twin.group))

/-- A BLOCK packet (R586): one whose CRC fails is left out. -/
def takeBlockPacket (l : List Byte) (c : Chip) : Chip :=
  let bs := (l.drop 3).take 256
  if (crc16 bs).toNat = leValue ((l.drop 259).take 2) then c.joinGroup (.block (leValue ((l.drop 1).take 2)) bs) else c

/-- A COMMIT packet (R586). -/
def takeCommitPacket (l : List Byte) (c : Chip) : Chip :=
  c.joinGroup (.commit (leValue ((l.drop 1).take 3) % 2 ^ 23) (BitVec.ofNat 32 (leValue ((l.drop 4).take 4))))

/-- A DIRECT packet (R586). -/
def takeDirectPacket (l : List Byte) (c : Chip) : Chip :=
  c.joinGroup (.direct (2 * leValue ((l.drop 1).take 1)) (BitVec.ofNat 16 (leValue ((l.drop 2).take 2))))

/-- An APPLY packet completes the group (R586). -/
def takeApplyPacket (l : List Byte) (c : Chip) : Chip :=
  if c.shadows then c.modTwin fun t => { t with due := some (leValue ((l.drop 1).take 1) % 64, t.group.length) } else c

/-- A CAPTURE packet waits for the next tick (R590). -/
def takeCapturePacket (l : List Byte) (c : Chip) : Chip := c.modTwin fun t => { t with capture := some (l.drop 1) }

/-- A HELLO packet: the partner's identity, and the offset of the pair frame number (R577, R588). After a mismatch neither member
joins the other until the link rises anew (R9). -/
def takeHello (l : List Byte) (at' : BitVec 32) (c : Chip) : Chip :=
  let b (i n : Nat) : Nat := leValue ((l.drop i).take n)
  let c1 := (((c.setFld F.twinPartner_ID_PART (b 1 2)).setFld F.twinPartner_NODE (b 4 1)).setFld F.twinPartner_SEAT (b 3 1)).modTwin
    fun t => { t with offset := some (BitVec.ofNat 32 (b 7 4) - (at' - 1)) }
  let c2 := c1.dropOwnEdges c.follows
  if b 1 2 != c.partId || b 3 1 % 2 == c.fld F.twinCfg_SEAT then
    let c3 := c2.modTwin fun t => { t with refused := true }
    if c.isOwner then c3 else (c3.isolate 1 0).twinFault 0x0802 0 0
  else c2

/-- The packet at the head of the stream is taken if it is complete and of type `k`; a byte that begins no packet is dropped. -/
def takePacket (k : Nat) (f : List Byte → BitVec 32 → Chip → Chip) (c : Chip) : Chip :=
  match c.headPacket with
  | some (l, at') =>
    if (l.headD 0).toNat = k then f l at' (c.modTwin fun t => { t with stream := t.stream.drop l.length }) else c
  | none => c

/-- The next complete packet, whatever its type. -/
def takeAnyPacket (c : Chip) : Chip :=
  match c.headPacket with
  | some (l, at') =>
    let d := c.modTwin fun t => { t with stream := t.stream.drop l.length }
    match (l.headD 0).toNat with
    | 1 => d.takeBlockPacket l
    | 2 => d.takeCommitPacket l
    | 3 => d.takeDirectPacket l
    | 4 => d.takeApplyPacket l
    | 5 => d.takeCapturePacket l
    | 6 => d.takeHello l at'
    | _ => d
  | none => c

/-- The block of a group is written, or refused where the host holds it (R113, R587). -/
def writeMirror (x : Mirror) (c : Chip) : Chip :=
  match x with
  | .block n bs =>
    if c.hostOwned n then (c.twinLog 6 c.twinState c.twinState 0 []).twinFault 0x0807 n 0 else c.putBytes (256 * n) bs
  | .commit a v => if regionOf a = 3 ∨ regionOf a = 4 ∨ regionOf a = 10 then c.applyCommit a v else c
  | .direct a v => if a = R.schedControl ∨ a = R.invalBlock then c.applyCommit a (v.setWidth 32) else c

/-- The blocks of a group that are taken in. -/
def mirrorBlocks (c : Chip) (g : List Mirror) : List Nat :=
  (g.filterMap fun x => match x with
    | .block n _ => some n
    | _ => none).filter fun n => !c.hostOwned n

/-- A complete group takes effect (R586): first the writes, then the blocks, as on the owner; MCOUNT takes its value. -/
def takeGroup (c : Chip) : Chip :=
  match c.twin.due with
  | none => c
  | some (m, n) =>
    let g := c.twin.group.take n
    let writes := g.filter fun x => match x with
      | .block _ _ => false
      | _ => true
    let blocks := g.filter fun x => match x with
      | .block _ _ => true
      | _ => false
    let c1 := (writes ++ blocks).foldl (fun d x => d.writeMirror x)
      (c.modTwin fun t => { t with group := t.group.drop n, due := none, mcount := m })
    let c2 := c1.takeInBlocks (c1.mirrorBlocks g)
    if c2.fld F.twinProgress_REJOIN_PHASE != 1 then c2
    else if copyLeft g = 0 then (c2.setFld F.twinProgress_REJOIN_PHASE 2).setFld F.twinProgress_COPY_LEFT 0
    else c2.setFld F.twinProgress_COPY_LEFT (copyLeft c2.twin.group)

end Chip

end Sys2Proof.Machine
end

