-- ==== Sys2Proof/Machine/Equinox.lean ====
section
/-!
DEFINITION. Equinox (13): CAPTURE as sent and applied (R590, R591), the check of shared edges (R579), claims and takeover
(R592 to R600), TWIN_CONTROL (R601), what a frame tick does on the twin side, and the commands of the chapter.
-/

namespace Sys2Proof.Machine

/-- A 32-bit field of R591 that holds an angle: ad in bits 23 to 0, 1/256 ad in bits 31 to 24. -/
def angleField (x : Int) : Nat :=
  let u := (Int.fdiv x 16777216).toNat
  u / 256 % 2 ^ 24 + u % 256 * 2 ^ 24

/-- The angle, in 2^-32 ad, that such a field holds. -/
def fieldAngle (n : Nat) : Int := ((n % 2 ^ 24 * 256 + n / 2 ^ 24 % 256 : Nat) : Int) * 16777216

namespace Chip

/-! ## CAPTURE as sent (R590, R591) -/

/-- A model record. -/
def modelRecord (c : Chip) (m : Model) : List Byte :=
  let f := c.frameOf (Int.fdiv m.t (5 * 2147483648))
  let off := m.t - stepsFx (c.tickOf f.1).toNat
  let u (x : Int) : List Byte := leBytes 8 (unsignedOf 64 x)
  [byteOf m.ref.code, byteOf (b2n m.rev + 2 * m.left), 0, 0] ++ u m.ang ++ leBytes 4 f.1.toNat ++ u off ++ u m.w ++ u m.wPrev ++
    u m.dPrev ++ u m.alpha ++ u m.sA

/-- The intervals between the edges of a history, newest first. -/
def intervals : List (Nat × Bool) → List Nat
  | (a, _) :: (b, q) :: l => (a - b) :: intervals ((b, q) :: l)
  | _ => []

/-- An input record. -/
def inputRecord (c : Chip) (n : Nat) : List Byte :=
  let w := c.wheel n
  let k := w.cand.getD { pos := 0, known := false, rev := false, left := 0 }
  let last := match w.hist.head? with
    | some x => c.frameOf x.1
    | none => (0, 0)
  let ds := ((intervals w.hist) ++ List.replicate 5 0).take 5
  [byteOf (c.fld (F.wheelStatus_ACQ n)), byteOf (c.fld (F.wheelStatus_POSITION n)),
   byteOf (b2n w.cand.isSome + 2 * b2n k.known + 4 * b2n k.rev), byteOf k.pos, byteOf k.left, byteOf w.badRun, byteOf w.taken, 0] ++
    leBytes 4 last.1.toNat ++ leBytes 2 last.2 ++ [0, 0] ++ ds.flatMap (leBytes 4) ++ [0, 0, 0, 0]

/-- The record of a reference's qualification. -/
def qualRecord (q : Qual) : List Byte :=
  [byteOf q.count, byteOf (b2n q.qualified)] ++ leBytes 4 (unsignedOf 32 (Int.fdiv q.first 16777216))

/-- The header and the reference state, without LENGTH. -/
def captureHead (c : Chip) (models : Nat) : List Byte :=
  let p := c.pred
  let blend := p.blend.getD { start := 0, len := 0 }
  leBytes 4 c.pfn.toNat ++ [byteOf models, byteOf (b2n p.phase + 2 * b2n p.frozen + 4 * b2n p.stall)] ++ leBytes 2 c.pub.sync ++
    leBytes 4 (c.get R.predStatus).toNat ++ leBytes 4 (c.get R.schedCycle).toNat ++ leBytes 2 c.sched.scan ++
    leBytes 4 (if p.frozen then angleField p.th2 else 0) ++ [byteOf p.camRun, 0, 0, 0] ++
    [byteOf (match p.target with
      | some r => r.code
      | none => 7), byteOf (match p.source with
      | some m => m.ref.code
      | none => 7)] ++
    leBytes 4 (angleField blend.start) ++ leBytes 4 (Int.fdiv blend.len oneFx).toNat ++ leBytes 4 (Int.fdiv p.drTravel oneFx).toNat ++
    [0, 0] ++ p.quals.toList.flatMap qualRecord

/-- The bytes of a CAPTURE after its type byte. -/
def captureBytes (c : Chip) (m : Model) : List Byte :=
  let models := m :: (if c.pred.blend.isSome then c.pred.source.toList else [])
  let body := leBytes 2 (230 + 64 * models.length) ++ c.captureHead models.length ++ (List.range 4).flatMap c.inputRecord ++
    models.flatMap c.modelRecord
  body ++ leBytes 2 (crc16 body).toNat

/-- The owner sends a CAPTURE after an anchor of its active reference (R590); one not yet begun gives way to it. -/
def sendCapture (c : Chip) : Chip :=
  match c.pred.model with
  | some m =>
    if !c.mirrors || !c.twin.capturing || c.twin.anchorAt == m.t then c
    else
      let waiting (p : Packet) : Bool := match p with
        | .capture _ => true
        | _ => false
      c.modTwin fun t => { t with anchorAt := m.t, send := t.send.filter (fun p => !waiting p) ++ [.capture (c.captureBytes m)] }
  | none => c

/-- The owner sends the copy of step 2 once it holds every block (R589). -/
def sendCopy (c : Chip) : Chip :=
  if !c.twin.copyDue || !c.mirrors || !((List.range 150).all fun i => c.deviceHeld (10 + i)) then c
  else c.modTwin fun t =>
    { t with copyDue := false, capturing := true, anchorAt := (c.pred.model.map fun m => m.t).getD 0
             send := t.send ++ (List.range 150).map (fun i => Packet.block (10 + i)) ++ [.apply t.mcount] }

/-! ## CAPTURE as applied (R590, R591) -/

/-- `n` bytes at byte `i` of a CAPTURE, as a number. -/
def cap (l : List Byte) (i n : Nat) : Nat := leValue ((l.drop i).take n)

/-- A CAPTURE whose CRC passes and whose LENGTH agrees with N_MODELS. -/
def captureOk (l : List Byte) : Bool :=
  let n := cap l 6 1
  (n == 1 || n == 2) && cap l 0 2 == 230 + 64 * n && l.length == 230 + 64 * n &&
    (crc16 (l.take (228 + 64 * n))).toNat == cap l (228 + 64 * n) 2

/-- The model of record `i`. -/
def readModel (c : Chip) (l : List Byte) (i : Nat) : Option Model :=
  let o := 228 + 64 * i
  let s (j : Nat) : Int := signedOf 64 (cap l (o + j) 8)
  (Ref.ofCode (cap l o 1)).map fun r => c.noteTable
    { ref := r, ang := cap l (o + 4) 8, t := stepsFx (c.tickOf (BitVec.ofNat 32 (cap l (o + 12) 4))).toNat + cap l (o + 16) 8
      w := s 24, wPrev := s 32, dPrev := cap l (o + 40) 8, alpha := s 48, sA := cap l (o + 56) 8
      rev := bitOf (cap l (o + 1) 1) 0, left := cap l (o + 1) 1 / 2 % 8
      entry := match c.refInput r with
        | some n => cap l (69 + 40 * n) 1
        | none => 0
      clamp := none, sigma := 0, whole := false }

/-- The edges of an input record, newest first, with the polarities that the tooth table gives. -/
def readHist (c : Chip) (l : List Byte) (n : Nat) : List (Nat × Bool) :=
  let o := 68 + 40 * n
  if cap l (o + 6) 1 = 0 then []
  else
    let t0 := (c.tickOf (BitVec.ofNat 32 (cap l (o + 8) 4)) + cap l (o + 12) 2).toNat
    let ds := ((List.range 5).map fun i => cap l (o + 16 + 4 * i) 4).takeWhile fun d => d != 0
    let times := ds.foldl (fun ts d => ts ++ [ts.getLastD t0 - d]) [t0]
    let pol (i : Nat) : Bool := match (c.wheel n).table with
      | some tb => ToothTable.pol tb ((cap l (o + 1) 1 + tb.teeth.length * 8 - i) % max 1 tb.teeth.length)
      | none => c.onePolarity n
    (times.zip (List.range times.length)).map fun x => (x.1, if c.bothEdges n then pol x.2 else c.onePolarity n)

/-- The last fitting edge of a history whose newest `k` edges are misfits (R184, R195). -/
def fitOf (c : Chip) (n pos k : Nat) (h : List (Nat × Bool)) : Option FitEdge :=
  match (c.wheel n).table, h.drop k with
  | some tb, (t1, _) :: (t0, _) :: _ => some { t1 := t1, t0 := t0, entry := tb.back pos k (c.pred.dir == 2) }
  | _, _ => none

/-- The match state of input `n`. -/
def applyInput (l : List Byte) (n : Nat) (c : Chip) : Chip :=
  let o := 68 + 40 * n
  let f := cap l (o + 2) 1
  ((c.setFld (F.wheelStatus_ACQ n) (cap l o 1)).setFld (F.wheelStatus_POSITION n) (cap l (o + 1) 1)).modWheel n fun w =>
    { w with fit := if cap l o 1 = 2 then c.fitOf n (cap l (o + 1) 1) (cap l (o + 5) 1) (c.readHist l n) else none
             hist := c.readHist l n, badRun := cap l (o + 5) 1, taken := cap l (o + 6) 1
             cand := if bitOf f 0 then
                 some { pos := cap l (o + 3) 1, known := bitOf f 1, rev := bitOf f 2, left := cap l (o + 4) 1 }
               else none }

/-- The qualification of a reference. -/
def readQual (l : List Byte) (r : Nat) : Qual :=
  let o := 44 + 6 * r
  { count := cap l o 1, qualified := bitOf (cap l (o + 1) 1) 0, first := signedOf 32 (cap l (o + 2) 4) * 16777216 }

/-- A predictor state that a CAPTURE has put in place shows its changes of STATE and DIR (R175, R183). -/
def showSteps (state dir : Nat) (c : Chip) : Chip :=
  (c.doIf (c.pred.state != state) (raise 4)).doIf (c.pred.dir != dir) (raise 6)

/-- The predictor as a CAPTURE carries it. -/
def applyPredictor (l : List Byte) (c : Chip) : Chip :=
  let fl := cap l 7 1
  let sync := cap l 8 2
  let ps := cap l 10 4
  let held := fieldAngle (cap l 20 4)
  let m := c.readModel l 0
  let two := cap l 6 1 == 2
  let frozen := bitOf fl 1
  c.modPred fun p =>
    { p with
      active := m.map fun x => x.ref, lastRef := bitsOf sync 8 6, state := sync % 8, dir := bitsOf sync 4 3, resync := bitOf sync 10
      stall := bitOf fl 2, phase := bitOf fl 0, frozen := frozen, model := m, source := if two then c.readModel l 1 else none
      blend := if two then some { start := fieldAngle (cap l 30 4), len := (cap l 34 4 : Int) * oneFx } else none
      target := Ref.ofCode (cap l 28 1), quals := Vector.ofFn fun (i : Fin 4) => readQual l i.val
      drTravel := (cap l 38 4 : Int) * oneFx, camRun := cap l 24 1, needConfirm := bitOf ps 12, featureSeen := bitOf ps 11
      fwdEdges := bitsOf ps 10 8, fresh := !frozen, anchored := true, emptyInterval := false, step := none
      th1 := if frozen then held else p.th1, th2 := if frozen then held else p.th2 }

/-- The CAPTURE takes effect: predictor, matchers, scheduler, and step 4 of the rejoin begins (R589, R590). -/
def applyCapture (l : List Byte) (c : Chip) : Chip :=
  let c1 := (List.range 4).foldl (fun d n => d.applyInput l n) c
  let c2 := (((c1.applyPredictor l).showSteps c.pred.state c.pred.dir).put R.predStatus (BitVec.ofNat 32 (cap l 10 4))).put R.schedCycle (BitVec.ofNat 32 (cap l 14 4))
  let c3 := c2.modSched fun s => { s with scan := cap l 18 2 % 2048, evalTo := none, unserved := 0, resyncDue := false }
  (((c3.setFld F.twinProgress_REJOIN_PHASE 3).setFld F.twinProgress_WRAPS 0).setFld F.twinProgress_MATCH_RUN 0).modTwin
    fun t => { t with capOk := true }

/-- An owner edge of a later anchor has arrived: one of a frame that phase A takes in after PFN_A (R578, R590). -/
def anchorPassed (c : Chip) (l : List Byte) : Bool :=
  match (Ref.ofCode (cap l 228 1)).bind c.refInput with
  | some n => match at? c.twin.lastEdge n none with
    | some p => decide (0 < (p + 2 - BitVec.ofNat 32 (cap l 2 4)).toInt)
    | none => false
  | none => false

/-- A CAPTURE is applied or discarded at the first tick after its receipt (R590). -/
def captureTick (c : Chip) : Chip :=
  match c.twin.capture with
  | none => c
  | some l =>
    let c1 := c.modTwin fun t => { t with capture := none }
    if captureOk l && c1.shadows && c1.fld F.twinProgress_REJOIN_PHASE == 2 && !c1.anchorPassed l then c1.applyCapture l else c1

/-! ## The check of shared edges (R579) -/

/-- EDGE_TOL in steps of 2.5 ns. -/
def edgeTol (c : Chip) : Nat := max 1 (c.fld F.twinCfg_EDGE_TOL) * 4

/-- A disagreement on input `n`; the eighth within 256 owner edges is a fault. -/
def disagree (n : Nat) (c : Chip) : Chip :=
  let k := at? c.twin.seen n 0
  let l := (c.twin.bad ++ [(n, k)]).filter fun x => x.1 != n || decide (k < x.2 + 256)
  let c1 := c.incFld F.twinCounts_EDGE_DISAGREE
  if 8 ≤ (l.filter fun x => x.1 == n).length then
    (c1.modTwin fun t => { t with bad := l.filter fun x => x.1 != n }).twinFault 0x0809 n 0
  else c1.modTwin fun t => { t with bad := l }

/-- An edge has a counterpart of its input and polarity in a list. -/
def hasCounterpart (tol : Nat) (l : List PairEdge) (x : PairEdge) : Bool :=
  l.any fun y => y.input == x.input && y.pol == x.pol && decide (((x.steps : Int) - y.steps).natAbs ≤ tol)

/-- Both members have the input configured: its tooth table is adopted, and the partner's is the same by the mirror (R164, R579,
R585). -/
def pairInput (c : Chip) (n : Nat) : Bool := c.fld (F.wheelStatus_ACQ n) != 0

/-- At a tick that followed `before`: edges three frames and the tolerance old are judged, older ones forgotten. -/
def pairTick (before : Nat) (c : Chip) : Chip :=
  if !c.follows then c
  else
    let tol := c.edgeTol
    let age := tol + 1200
    let due (x : PairEdge) : Bool := decide (before < x.steps + age) && decide (x.steps + age ≤ c.tb.ticks) && c.pairInput x.input
    let wrong := (c.twin.theirs.filter fun x => due x && !hasCounterpart tol c.twin.mine x) ++
      (c.twin.mine.filter fun x => due x && !hasCounterpart tol c.twin.theirs x)
    let fresh (x : PairEdge) : Bool := decide (c.tb.ticks < x.steps + age + tol + 400)
    wrong.foldl (fun d x => d.disagree x.input)
      (c.modTwin fun t => { t with mine := t.mine.filter fresh, theirs := t.theirs.filter fresh })

/-! ## Claims (R592 to R600) -/

/-- At least 100 µs of the pulse of channel `k` remain (R597). -/
def pulseRemains (c : Chip) (k : Nat) : Bool :=
  match c.entry? (c.injOf k).idx with
  | none => false
  | some e => match e.endAt with
    | some t => decide (c.local' + 40000 ≤ t)
    | none =>
      let a := c.angleAt c.tickFx
      let b := c.angleAt (c.tickFx + 100000 * oneFx)
      let left := if c.reversing then fwdDist c.modulus (c.angleFx e.endAngle) a else fwdDist c.modulus a (c.angleFx e.endAngle)
      decide (((sgnDiff c.modulus a b).natAbs : Int) ≤ left)

/-- A channel in HOLD whose bank current has fallen below LO boosts again where enough of its pulse remains (R597). -/
def resumeHold (k : Nat) (c : Chip) : Chip :=
  let n := bankOf k
  let lo := ((bankChannels n).filter c.inHold).map fun j => c.fld (F.profI_I_HOLD_LO (c.injOf j).profile)
  if c.inHold k && decide (c.fld (F.bankStatus_I_NOW n) < min 255 lo.sum) && c.pulseRemains k then
    (c.modInj k fun y => { y with phase := .boost, boostAt := c.local' + 60, judged := none }).showBank n
  else c

/-- What a claim drives from 150 ns on: the channels in HOLD, and the PWM of the valves (R597). -/
def resumeOutputs (c : Chip) : Chip :=
  let c1 := (List.range 24).foldl (fun d k => d.resumeHold k) c
  (List.range 16).foldl (fun d v =>
    d.modValve v fun x => if x.active && x.pwm then { x with level := true, onAt := c.local' + 60, periodAt := c.local' + 60 } else x) c1

/-- The device becomes OWNER (R593); the line is sampled anew from 120 ns on. -/
def claimGates (kind detail : Nat) (c : Chip) : Chip :=
  let g := c.gatesInUse
  let c1 := (((c.twinMove kind 3 detail (if kind = 1 then [] else [(19, g)])).setFld F.twinProgress_REJOIN_PHASE 0).setFld
    F.twinProgress_COPY_LEFT 0).setFlag F.twinStatus_PARTNER_OWN false
  (c1.modTwin fun t =>
    { t with capOk := false, capture := none, group := [], due := none, hand := none, handBad := false, copyDue := false
             capturing := false, wrong := 0, send := t.send.filter fun p => p = .hello }).resumeOutputs

/-- A takeover on owner loss (R596, R600). -/
def takeover (c : Chip) : Chip :=
  if c.twinState != 2 then c
  else
    let detail := if c.twin.mcount = c.twin.pMcount then 1 else 2
    let c1 := ((c.incFld F.twinCounts_TAKEOVERS).claimGates 3 detail).twinFault 0x0805 0 detail
    c1.doIf (c1.flag F.ringAddr_POS_MASTER && !c1.flag F.ringJoinStatus_SLOT_HELD) fun d =>
      d.modRing fun r => { r with regain := some 0 }

/-- A refused HANDOVER (R592, R594). -/
def refuseHand (detail : Nat) (c : Chip) : Chip := c.twinFault 0x0806 0 detail

/-- HANDOVER takes effect: a founding claim (R592), or the request of a planned hand-over (R594). `free` says that
TWIN_OWN_IN_N has been released for 200 ns. -/
def askHand (free : Bool) (c : Chip) : Chip :=
  if !c.isOwner then
    if c.twinEn && free then c.claimGates 1 0 else c.refuseHand 4
  else if c.twin.hand.isSome then c
  else if c.partnerState != 2 then c.refuseHand 1
  else if !c.linkUp then c.refuseHand 2
  else if !c.twin.send.isEmpty || !c.twin.sending.isEmpty || c.twin.mcount != c.twin.pMcount then c.refuseHand 3
  else c.modTwin fun t => { t with hand := some 5, handBad := false }

/-- Tick H: the owner releases and becomes READY, or its READY partner claims, and samples the line anew from 120 ns on (R572, R594). -/
def executeHand (c : Chip) : Chip :=
  let c1 := c.modTwin fun t => { t with hand := none, handBad := false }
  if c.isOwner then
    (c1.twinMove 4 2 0 [(19, c.gatesInUse)]).modTwin fun t =>
      { t with send := t.send.filter (fun p => p = .hello), copyDue := false, capturing := false }
  else if c.twinState = 2 then
    (c1.claimGates 4 0).modSched fun s => { s with edges := s.edges.map fun x => { x with step := max 60 x.step } }
  else c1

/-- A tick on the way to H: the owner gives up where its partner was seen not READY (R594). -/
def countHand (c : Chip) : Chip :=
  match c.twin.hand with
  | none => c
  | some k =>
    if c.isOwner && c.twin.handBad && decide (k ≤ 2) then
      (c.modTwin fun t => { t with hand := none, handBad := false }).refuseHand 1
    else c.modTwin fun t => { t with hand := some (k - 1) }

/-- HANDOVER of the twin frame sent at the tick after which the device is `d`; the frame before H still carries it when the owner
has just released at tick H (R594). -/
def handFlag (c d : Chip) : Bool :=
  (d.isOwner && (match d.twin.hand with
    | some k => decide (k ≤ 3)
    | none => false)) || (c.isOwner && !d.isOwner && c.twin.hand == some 1)

/-- Both members assert ownership: seat B releases (R593). -/
def collide (c : Chip) : Chip :=
  if !c.isOwner then c
  else if c.flag F.twinCfg_SEAT then (c.isolate 5 0).twinFault 0x0808 0 0
  else (c.twinLog 5 3 3 0 []).twinFault 0x0808 0 0

/-! ## TWIN_CONTROL (R569, R580, R601) -/

/-- A write of TWIN_CONTROL takes effect at its tick: of two transitions that become due the one that R580 lists first is made. -/
def commitTwinControl (v : Nat) (free : Bool) (c : Chip) : Chip :=
  let was := c.twinEn
  let c1 := c.setFlag F.twinControl_TWIN_EN (bitOf v 0 && c.twin.sel)
  if bitOf v 3 || (was && !c1.twinEn) then c1.isolate 1 0
  else
    let c2 := c1.doIf (bitOf v 2) rejoin
    c2.doIf (bitOf v 1 && c2.twinState == c1.twinState) (askHand free)

/-- A host write of TWIN_CONTROL (R79, R601): HANDOVER is protected. -/
def writeTwinControl (v : Nat) (phaseG : Bool) (c : Chip) : Chip :=
  let p := if bitOf v 1 then c.useUnlock else (true, c)
  p.2.queueTick R.twinControl (BitVec.ofNat 32 (if p.1 then v % 16 else v % 16 - b2n (bitOf v 1) * 2)) phaseG

/-! ## A frame tick -/

/-- The commits that take effect at the next tick, in order. -/
def dueCommits (c : Chip) : List (Nat × DWord) := (c.bus.commits.filter fun x => decide (x.wait ≤ 1)).map fun x => (x.addr, x.value)

/-- At this tick ISOLATE or a clear of TWIN_EN takes effect, which comes before every other change of STATE (R580). -/
def isolates (c : Chip) : Bool :=
  c.dueCommits.any fun x => x.1 == R.twinControl && (bitOf x.2.toNat 3 || (c.twinEn && !bitOf x.2.toNat 0))

/-- A crossing at the tick at which the host clears WM_HIT leaves it set (R78, R419). -/
def keepHits (was : Chip) (due : List (Nat × DWord)) (c : Chip) : Chip :=
  (List.range 16).foldl (fun d r =>
    if due.any (fun x => x.1 == R.resStatus r) && !was.flag (F.resStatus_WM_ABOVE r) && d.flag (F.resStatus_WM_ABOVE r) then
      d.setFlag (F.resStatus_WM_HIT r) true
    else d) c

/-- A tick passes for the commits: those due take effect together (R43). -/
def takeCommits (free : Bool) (c : Chip) : Chip :=
  let due := c.dueCommits
  let c1 : Chip := { c with bus := { c.bus with
    commits := (c.bus.commits.filter fun x => decide (1 < x.wait)).map fun x => { x with wait := x.wait - 1 } } }
  keepHits c due (due.foldl (fun d x => if x.1 = R.twinControl then d.commitTwinControl x.2.toNat free else d.applyCommit x.1 x.2) c1)

/-- The changes that this tick takes in, as the owner mirrors them (R585, R629). -/
def tickChanges (c : Chip) : List Packet :=
  c.dueCommits.filterMap mirrored ++ c.calChanges ++ c.dueReturns.filterMap mirroredBlock ++ (c.twin.wrote.filter c.deviceHeld).filterMap mirroredBlock

/-- The line of the partner at a tick (R572, R593). -/
def senseOwner (ownIn : Bool) (c : Chip) : Chip :=
  let rise := ownIn && !c.flag F.twinStatus_PARTNER_OWN
  (c.setFlag F.twinStatus_PARTNER_OWN ownIn).doIf rise collide

/-- What the twin side does at a tick before anything is taken in: the line, the link, received packets, the count to H, and
the takeover of a READY member whose partner's line has been released (R575, R594, R596). -/
def twinTick (ownIn ownFree : Bool) (c : Chip) : Chip :=
  if !c.twin.sel then c
  else
    let c1 := stepN takeAnyPacket 8 ((c.senseOwner ownIn).linkTick)
    let c2 := c1.countHand
    c2.doIf (c2.twinState == 2 && ownFree && !ownIn && c2.twin.hand != some 0 && !c2.isolates) takeover

/-- The changes of this tick take effect, those of a mirror group and a CAPTURE among them (R43, R120, R586, R590, R627). -/
def takeChanges (free : Bool) (c : Chip) : Chip :=
  let ps := c.tickChanges
  let c1 := ((c.takeCommits free).calTick).takeReturns
  ((c1.mirrorGroup ps).modTwin fun t => { t with wrote := [] }).takeGroup.captureTick

/-- The tick is kept (R20, R577). -/
def noteTick (c : Chip) : Chip := { c with tb := { c.tb with history := (c.thisTick :: c.tb.history).take 128 } }

/-- A forward passage of step 4 (R589). -/
def countWrap (c : Chip) : Chip :=
  if c.pred.passed && c.twinState == 1 && c.fld F.twinProgress_REJOIN_PHASE == 3 && decide (c.fld F.twinProgress_WRAPS < 2) then
    c.setFld F.twinProgress_WRAPS (c.fld F.twinProgress_WRAPS + 1)
  else c

end Chip

open Chip

/-! ## Commands -/

/-- TWIN_FRAME_RECEIVE (R574): the bytes 1 to 23 of a twin frame, whether it had a symbol error, and ARRIVAL as measured, in
0.5 ns. -/
def execTwinFrameReceive (bytes : Vector Byte 23) (symErr : Bool) (arrival : Word) (s : State) : Host.Outcome State Fault Refusal :=
  s.run (takeTwinFrame bytes.toList symErr arrival.toNat)

/-- TWIN_LINK_LOST (R575, R598): the fourth frame period without a valid twin frame ends. -/
def execTwinLinkLost (s : State) : Host.Outcome State Fault Refusal := s.run fun c => if c.linkUp then c.linkFall else c

/-- MIRROR_BLOCK (R586): a BLOCK packet is complete. -/
def execMirrorBlock (s : State) : Host.Outcome State Fault Refusal := s.run (takePacket 1 fun l _ => takeBlockPacket l)

/-- MIRROR_COMMIT (R586): a COMMIT packet is complete. -/
def execMirrorCommit (s : State) : Host.Outcome State Fault Refusal := s.run (takePacket 2 fun l _ => takeCommitPacket l)

/-- MIRROR_DIRECT (R586): a DIRECT packet is complete. -/
def execMirrorDirect (s : State) : Host.Outcome State Fault Refusal := s.run (takePacket 3 fun l _ => takeDirectPacket l)

/-- MIRROR_APPLY (R586): an APPLY packet is complete. -/
def execMirrorApply (s : State) : Host.Outcome State Fault Refusal := s.run (takePacket 4 fun l _ => takeApplyPacket l)

/-- CAPTURE_PACKET (R590): a CAPTURE packet is complete. -/
def execCapturePacket (s : State) : Host.Outcome State Fault Refusal := s.run (takePacket 5 fun l _ => takeCapturePacket l)

/-- HELLO (R588): a HELLO packet is complete. -/
def execHello (s : State) : Host.Outcome State Fault Refusal := s.run (takePacket 6 takeHello)

/-- MIRROR_GROUP_TAKE_IN (R586): the frame tick after the receipt of an APPLY. -/
def execMirrorGroupTakeIn (s : State) : Host.Outcome State Fault Refusal := s.run fun c => if c.frameRuns then c.takeGroup else c

/-- CAPTURE_APPLY (R590): the frame tick after the receipt of a CAPTURE. -/
def execCaptureApply (s : State) : Host.Outcome State Fault Refusal := s.run fun c => if c.frameRuns then c.captureTick else c

/-- TWIN_ENABLE (R580, R601): TWIN_CONTROL is written with TWIN_EN and nothing else. -/
def execTwinEnable (en phaseG : Bool) (s : State) : Host.Outcome State Fault Refusal :=
  s.run (hostWrite (writeTwinControl (b2n en) phaseG))

/-- TWIN_ISOLATE (R580, R601): TWIN_CONTROL is written with ISOLATE = 1. -/
def execTwinIsolate (en phaseG : Bool) (s : State) : Host.Outcome State Fault Refusal :=
  s.run (hostWrite (writeTwinControl (8 + b2n en) phaseG))

/-- TWIN_REJOIN (R580, R601): TWIN_CONTROL is written with REJOIN = 1. -/
def execTwinRejoin (en phaseG : Bool) (s : State) : Host.Outcome State Fault Refusal :=
  s.run (hostWrite (writeTwinControl (4 + b2n en) phaseG))

/-- FOUNDING_CLAIM (R592): TWIN_CONTROL is written with HANDOVER = 1, on a device that is not OWNER. -/
def execFoundingClaim (en phaseG : Bool) (s : State) : Host.Outcome State Fault Refusal :=
  s.run (hostWrite (writeTwinControl (2 + b2n en) phaseG))

/-- PLANNED_HANDOVER (R594): TWIN_CONTROL is written with HANDOVER = 1, on the OWNER. -/
def execPlannedHandover (en phaseG : Bool) (s : State) : Host.Outcome State Fault Refusal :=
  s.run (hostWrite (writeTwinControl (2 + b2n en) phaseG))

/-- HANDOVER_EXECUTE (R594): tick H of an accepted hand-over. -/
def execHandoverExecute (s : State) : Host.Outcome State Fault Refusal :=
  s.run fun c => if c.twin.hand.isSome then c.executeHand else c

/-- TWIN_TAKEOVER (R596): a frame tick at which TWIN_OWN_IN_N has been released for 200 ns. -/
def execTwinTakeover (s : State) : Host.Outcome State Fault Refusal :=
  s.run fun c => (c.setFlag F.twinStatus_PARTNER_OWN false).takeover

/-- TWIN_OWNER_COLLISION (R593): an OWNER finds TWIN_OWN_IN_N asserted. -/
def execTwinOwnerCollision (s : State) : Host.Outcome State Fault Refusal :=
  s.run fun c => if c.isOwner then (c.setFlag F.twinStatus_PARTNER_OWN true).collide else c

end Sys2Proof.Machine
end

