-- ==== Sys2Proof/Machine/HostBus.lean ====
section
/-!
DEFINITION. The host bus (02, 03): what each access of the host does. Reads and writes of the direct registers (R77 to R88), the
unlock window (R79, R80), the port (R89 to R103), the mailbox (R104 to R107), block ownership (R118 to R123), and the shared
window with its latch and its ECC (R112, R125 to R127, R134 to R140).
-/

namespace Sys2Proof.Machine

namespace Chip

/-! ## The unlock window (R80) -/

/-- A write of DEV_UNLOCK. -/
def writeDevUnlock (v : Nat) (c : Chip) : Chip :=
  let armed := c.bus.keyArmed
  if v = 0xC35A then
    let c1 := c.doIf armed (incFld F.devUnlock_REJECT_COUNT)
    { c1 with bus := { c1.bus with keyArmed := true } }
  else if v = 0x3CA5 then
    if armed then { c with bus := { c.bus with keyArmed := false, openTicks := 100 } } else c
  else
    let c1 := c.doIf armed (incFld F.devUnlock_REJECT_COUNT)
    { c1 with bus := { c1.bus with keyArmed := false, openTicks := 0 } }

/-- The window closes at its 100th tick. -/
def closeUnlock (c : Chip) : Chip := if c.bus.openTicks ≤ 1 then { c with bus := { c.bus with openTicks := 0 } } else c

/-! ## Registers with a protected field (R79) -/

/-- A write of DEV_CONTROL: SOFT_RESET and TEST_PORT_DIS are protected. -/
def writeDevControl (v : Nat) (c : Chip) : Chip :=
  let dis := bitOf v 4 && !c.flag F.devControl_TEST_PORT_DIS
  let p := if bitOf v 0 || dis then c.useUnlock else (false, c)
  let c1 := (p.2.setFlag F.devControl_IRQ_B_OD (bitOf v 2)).setFlag F.devControl_IRQ_A_OD (bitOf v 1)
  let c2 := c1.doIf (p.1 && dis) (setFlag F.devControl_TEST_PORT_DIS true)
  if p.1 && bitOf v 0 then c2.resetWith 3 else c2

/-- An accepted write to NODE (R561, R562): CONFIGURED is set, and a duplicate address no longer keeps the node out. -/
def setNode (n : Nat) (c : Chip) : Chip :=
  ((c.setFld F.ringAddr_NODE n).setFlag F.ringAddr_CONFIGURED true).modRing fun r => { r with blocked := false }

/-- A write of RING_ADDR: NODE is protected. -/
def writeRingAddr (v : Nat) (c : Chip) : Chip :=
  let reaches := !c.flag F.ringAddr_CONFIGURED || v % 256 != c.node
  let p := if reaches then c.useUnlock else (false, c)
  let c1 := ((p.2.setFlag F.ringAddr_PIN_MASTER (bitOf v 10)).setFlag F.ringAddr_POS_MASTER (bitOf v 9)).setFlag
    F.ringAddr_MASTER_CAPABLE (bitOf v 8)
  ringEvent listen (c1.doIf p.1 (setNode (v % 256)))

/-! ## Port (R89 to R103) -/

/-- PORT_ADDR. -/
def portAddr (c : Chip) : Nat := (c.get R.portAddrH).toNat * 65536 + (c.get R.portAddrL).toNat

/-- A write of PORT_DATA_H: a posted remote write, or a local commit (R92, R98, R101). -/
def writePortDataH (hi : Nat) (phaseG : Bool) (c : Chip) : Chip :=
  let a := c.portAddr
  let v := BitVec.ofNat 32 (hi * 65536 + (c.get R.portDataL).toNat)
  let target := bitsOf a 30 23
  if bitOf a 31 && target != c.node then ringEvent (postWrite target (a % 2 ^ 23) v) c
  else c.localCommit (a % 2 ^ 23) v phaseG

/-- A read of PORT_DATA_L: the port fetches the register, clears its RC bits and latches the high half (R94 to R96, R102); the
highest occupancy of the cache since a read is at least the present one (R306). A commit that still waits for its effect (R43, R46)
is not in the register yet, so a read answers the old value (log entry 108). -/
def portRead (c : Chip) : Nat × Chip :=
  let a := c.portAddr
  let refused (k : Nat) : Nat × Chip := (0, (c.put R.portDataH 0).portErr k)
  if bitOf a 31 then refused 3
  else if lateRegion (a % 2 ^ 23) && !c.ready then refused 4
  else match extRow? (a % 2 ^ 23) with
    | none => refused 1
    | some r =>
      let v := c.view (a % 2 ^ 23)
      let c1 := if r.rc = 0 then c else c.put (a % 2 ^ 23) (c.get (a % 2 ^ 23) &&& ~~~ r.rc)
      (v % 65536, (c1.doIf (a % 2 ^ 23 == R.cacheStatus) fun d =>
        d.setFld F.cacheStatus_PEAK (d.fld F.cacheStatus_OCCUPANCY)).put R.portDataH (BitVec.ofNat 32 (v / 65536)))

/-! ## The mailbox (R104 to R107) -/

/-- A write of MBX_DOORBELL with RING = 1 (R97, R106). -/
def ringDoorbell (c : Chip) : Chip :=
  if !c.ready then c.setFlag F.mbxStatus_MBX_BUSY true
  else if c.hostOwned 0 then c.setFlag F.mbxStatus_NOT_RETURNED true
  else if c.flag F.mbxStatus_BUSY then c.setFlag F.mbxStatus_MBX_BUSY true
  else { c.setFlag F.mbxStatus_BUSY true with bus := { c.bus with reply := none } }

/-- The mailbox commands that need nothing beyond their parameters, by code. -/
def mailboxCommands : List (Nat × (Chip → Chip)) :=
  [(0x0601, powerOff), (0x0701, ringSetTime), (0x0901, calCommand), (0x0902, raiseFloor),
   (0x0903, fun c => (c.keyAlarm 3 0).setReply 0 []), (0x0A01, serviceGet), (0x0A02, servicePut), (0x0A03, serviceForward),
   (0x0B01, tagUpdate), (0x0C01, replyJournalInfo), (0x0C02, replyJournalRead), (0x0C03, replyJournalNote)]

/-- The supervisor reads block 0 and executes the outstanding command, unless it has done so already; an unknown code is answered
with 0x0001 (R105). -/
def executeCommand (c : Chip) : Chip :=
  c.onCommand fun d => match mailboxCommands.find? fun x => x.1 == d.win16 0 with
    | some x => x.2 d
    | none => d.setReply 1 []

/-- The reply is complete: block 1, SEQ, DONE, BUSY and source 60, in this order (R107); a command word with a double error is
returned as it is stored (log entry 12). -/
def sendReply (r : Reply) (c : Chip) : Chip :=
  let ws := c.soundWord 0 :: c.soundWord 1 :: r.result :: (List.range 125).map fun i => (r.data.getD i 0).toNat
  let c1 := (c.putWords 256 ws).setFld F.mbxStatus_SEQ (c.soundWord 1 % 256)
  let c2 := ((c1.setFlag F.mbxStatus_DONE true).setFlag F.mbxStatus_BUSY false).raise 60
  { c2 with bus := { c2.bus with reply := none } }

/-- The supervisor completes the outstanding command. -/
def completeCommand (c : Chip) : Chip :=
  let d := c.executeCommand
  match d.bus.reply with
  | some r => if d.flag F.mbxStatus_BUSY && d.supRuns then d.sendReply r else d
  | none => d

/-! ## Ownership (R117 to R123) -/

/-- OWN_STATUS describes a request and its result. -/
def ownResult (b result : Nat) (c : Chip) : Chip :=
  ((c.setFld F.ownStatus_BLOCK b).setFld F.ownStatus_RESULT result).setFlag F.ownStatus_OWNER (c.hostOwned b)

/-- A take is refused (R119). -/
def takeRefused (c : Chip) (b : Nat) : Bool := (b == 0 && c.flag F.mbxStatus_BUSY) || c.jobNames b

/-- The window's ownership lists passed through `f`. -/
def modWin (f : Window → Window) (c : Chip) : Chip := { c with win := f c.win }

/-- OWN_REQ with OP = 01 (R118, R119); with a learned block goes the learning pass of its input (R213). -/
def takeBlock (b : Nat) (c : Chip) : Chip :=
  if 496 ≤ b then c.ownResult b 2
  else if !transferable b then c.ownResult b 3
  else if c.hostOwned b then c.ownResult b 2
  else if c.takeRefused b then c.ownResult b 3
  else
    let c1 := (c.modWin fun w =>
      { w with taken := w.taken ++ [b], returning := w.returning.filter fun r => r.1 != b }).doIf
        (decide (26 ≤ b) && decide (b ≤ 29)) (modWheel ((b - 26) / 2) fun w => { w with pass := none })
    (c1.doIf (decide (32 ≤ b) && decide (b ≤ 159)) (takeEvents b)).ownResult b 2

/-- OWN_REQ with OP = 10 (R118, R120). -/
def returnBlock (b : Nat) (phaseG : Bool) (c : Chip) : Chip :=
  if 496 ≤ b then c.ownResult b 3
  else if !transferable b then c.ownResult b 2
  else if c.hostOwned b then
    (c.modWin fun w =>
      { w with taken := w.taken.filter fun x => x != b, returning := w.returning ++ [(b, c.tickWait phaseG)] }).ownResult b 1
  else c.ownResult b (if c.isReturning b then 1 else 2)

/-- A write of OWN_REQ. -/
def writeOwnReq (v : Nat) (phaseG : Bool) (c : Chip) : Chip :=
  match bitsOf v 15 14 with
  | 1 => c.takeBlock (v % 512)
  | 2 => c.returnBlock (v % 512) phaseG
  | _ => c

/-! ## The shared window (R112, R125 to R127, R134 to R140) -/

/-- A performed write to word `w`: the word is replaced whole and the latch tag of that word is cleared (R127, R135). -/
def performWrite (w v : Nat) (c : Chip) : Chip :=
  (c.putWin16 (2 * w) v).modWin fun x => { x with latchTag := if x.latchTag = some w then none else x.latchTag }

/-- A byte merged into a word. -/
def mergeByte (old data : Nat) (low : Bool) : Nat :=
  if low then old / 256 * 256 + data % 256 else data / 256 * 256 + old % 256

/-- A byte write that R112 performs reads and corrects the word first (R135, R138). -/
def byteWrite (w data : Nat) (low : Bool) (c : Chip) : Chip :=
  match Sparse.find? c.win.ecc w with
  | none => c.performWrite w (mergeByte (c.win16 (2 * w)) data low)
  | some (.single b) => (c.performWrite w (mergeByte (c.corrected w b) data low)).eccSingle w
  | some (.double _ _) => c.eccDouble w 2
  | some (.many _) =>
    let q := c.readMany w 2
    if q.2.1 then q.2.2.performWrite w (mergeByte q.1 data low) else q.2.2

/-- A host write to window word `w`, with the bytes enabled (R70, R112). -/
def windowWrite (w data : Nat) (low high : Bool) (c : Chip) : Chip :=
  if !low && !high then c
  else if !c.hostOwned (w / 128) then c.incFld ⟨R.ownViolCount, 15, 0⟩
  else if low && high then c.performWrite w data
  else c.byteWrite w data low

/-- A read of the array by a reader: the data it returns, and the repair and the reports of R136 to R140. -/
def readWord (w detail : Nat) (c : Chip) : Nat × Chip :=
  match Sparse.find? c.win.ecc w with
  | none => (c.win16 (2 * w), c)
  | some (.single b) => (c.corrected w b, c.repair w b)
  | some (.double _ _) => (c.win16 (2 * w), c.eccDouble w detail)
  | some (.many _) =>
    let q := c.readMany w detail
    (q.1, q.2.2)

/-- A host read of window word `w`: at a multiple of 4 it also loads the latch, with the word as the same array access finds it,
before anything that the read itself reports is stored; at 2 mod 4 it returns the latch when the tag equals its address (R125,
R126). -/
def windowRead (w : Nat) (c : Chip) : Nat × Chip :=
  if w % 2 = 0 then
    let p := c.readWord w 1
    let v := (({ p.2 with win := c.win }).readWord (w + 1) 1).1
    let q := p.2.readWord (w + 1) 1
    (p.1, q.2.modWin fun x => { x with latchTag := some (w + 1), latch := BitVec.ofNat 16 v })
  else if c.win.latchTag = some w then (c.win.latch.toNat, c)
  else c.readWord w 1

/-- The background scrubber reads word `w` of blocks 0 to 495 (R140). -/
def scrub (w : Nat) (c : Chip) : Chip := if w / 128 < 496 then (c.readWord w 4).2 else c

/-- A full pass of the scrubber. -/
def scrubAll (c : Chip) : Chip := c.win.ecc.foldl (fun d x => d.scrub x.1) c

/-! ## Reads of direct registers (R77, R86) -/

/-- The set that stands `steps` vernier steps after the tick: that of the frame before until phase A ends at 240 ns (R34). -/
def standingSet (c : Chip) (steps : Nat) : AngleSet := if steps < 96 then c.pubOld else c.pub

/-- A read of ANGLE_L latches the rest of the set `p` (R86). -/
def latchSet (p : AngleSet) (c : Chip) : Nat × Chip :=
  (p.angle % 65536,
    ((c.put R.angleH (BitVec.ofNat 32 (p.sigma * 256 + p.angle / 65536))).put R.speed (BitVec.ofNat 32 p.speed)).put
      R.syncStatus (BitVec.ofNat 32 p.sync))

/-- A read of ANGLE_L `steps` vernier steps after the tick (R34, R86). -/
def angleRead (steps : Nat) (c : Chip) : Nat × Chip := c.latchSet (c.standingSet steps)

/-- A read of FRAME_COUNT_L latches the high half (R86). -/
def frameCountRead (c : Chip) : Nat × Chip :=
  (c.tb.frame.toNat % 65536, c.put R.frameCountH (BitVec.ofNat 32 (c.tb.frame.toNat / 65536)))

/-- A read of a register whose fields are RC. -/
def clearRead (a : Nat) (c : Chip) : Nat × Chip := ((c.get a).toNat, c.put a 0)

/-- A read of the direct register at byte address `a`, with its side effects; a reserved address returns 0x0000 (R69). -/
def readDirect (a : Nat) (c : Chip) : Nat × Chip :=
  if a = R.angleL then c.angleRead 400
  else if a = R.frameCountL then c.frameCountRead
  else if a = R.portDataL then c.portRead
  else if a = R.irqClaimA then c.claim .a
  else if a = R.irqClaimB then c.claim .b
  else if a = R.irqAnomalyCount ∨ a = R.ownViolCount then c.clearRead a
  else (if a < 0x60 then c.view a % 65536 else 0, c)

/-- What the host bus returns for the direct register at byte address `a`, side effects apart: in RETAIN, and after its wake until
PWR_STATE reads RUN or IDLE, the always-on logic serves PWR_STATE and returns 0x0000 for the rest (R75, R76). -/
def busView (c : Chip) (a : Nat) : Nat :=
  if c.busOpen then (c.readDirect a).1
  else if c.fld F.pwrState_STATE = 3 && !c.power.isOff && a = R.pwrState then c.view R.pwrState
  else 0

/-! ## Writes of direct registers (R70, R77) -/

/-- The capture of TIME_SNAPSHOT (R22). -/
def snapshot (c : Chip) : Chip :=
  let t := c.ringNow
  (((c.put R.ringCapTimeL (t.setWidth 32)).put R.ringCapTimeH ((t >>> 32).setWidth 32)).put R.ringCapEpoch
    (c.tb.epoch.setWidth 32)).put R.ringCapFrame c.tb.frame

/-- A write of INVAL_BLOCK (R83, R301). -/
def writeInval (v : Nat) (phaseG : Bool) (c : Chip) : Chip :=
  let b := v % 512
  if 10 ≤ b ∧ b ≤ 159 then c.queueTick R.invalBlock (BitVec.ofNat 32 b) phaseG else c

/-- The writes with an effect beyond the access codes, by register (R77). -/
def specialWrites : List (Nat × (Word → Bool → Chip → Chip)) :=
  [(R.devStatus, fun v _ c => (c.storeMasked R.devStatus (v.setWidth 32)).doIf (v.getLsbD 6) (setFld F.devStatus_PORT_ERR_CAUSE 0)),
   (R.devControl, fun v _ => writeDevControl v.toNat),
   (R.ringAddr, fun v _ => writeRingAddr v.toNat),
   (R.faultAck, fun v _ => ackFault v.toNat),
   (R.irqCompleteA, fun v _ => complete .a (v.toNat % 64)),
   (R.irqCompleteB, fun v _ => complete .b (v.toNat % 64)),
   (R.irqGlobal, fun v _ c => samplePins (c.storeMasked R.irqGlobal (v.setWidth 32))),
   (R.irqSetPend, fun v _ => setPend (v.toNat % 64)),
   (R.ownReq, fun v g => writeOwnReq v.toNat g),
   (R.portDataH, fun v g => writePortDataH v.toNat g),
   (R.mbxDoorbell, fun v _ c => c.doIf (v.getLsbD 0) ringDoorbell)] ++
  [(R.schedControl, fun v g => queueTick R.schedControl (v.setWidth 32) g),
   (R.invalBlock, fun v g => writeInval v.toNat g),
   (R.twinControl, fun v g => writeTwinControl v.toNat g),
   (R.ringControl, fun v _ => ringEvent (writeRingControl (v.toNat % 8))),
   (R.safeControl, fun v g => writeSafeControl (v.toNat % 2048) g),
   (R.wdtKick, fun v _ => wdtKicked v),
   (R.timeSnapshot, fun _ _ => snapshot),
   (R.devUnlock, fun v _ => writeDevUnlock v.toNat)]

/-- A 16-bit write of the direct register at byte address `a`; a reserved address ignores it (R69). -/
def writeDirect (a : Nat) (v : Word) (phaseG : Bool) (c : Chip) : Chip :=
  match specialWrites.find? fun x => x.1 == a with
  | some x => x.2 v phaseG c
  | none => if a < 0x60 then c.storeMasked a (v.setWidth 32) else c

/-- A write of the host bus to byte address `a` with the bytes enabled (R65, R70, R76). -/
def busWrite (a : Nat) (v : Word) (low high phaseG : Bool) (c : Chip) : Chip :=
  if 0x20000 ≤ a then c.hostWrite (windowWrite ((a - 0x20000) / 2) v.toNat low high)
  else if !low || !high then c
  else if a / 2 * 2 = R.ltr then c.writeLtr v
  else c.hostWrite (writeDirect (a / 2 * 2) v phaseG)

/-! ## Aborted accesses (R719) -/

/-- An aborted read: its side effects take place, and the data it returns is open (log entry 2). -/
def abortRead (f : Chip → Nat × Chip) (c : Chip) : Chip :=
  if c.busOpen then ((f c).2.useFree).answer (Config.freeWord (f c).2.free) else c.useFree.answer (Config.freeWord c.free)

/-- An access that the host aborts while WAIT_N is low. -/
def abortAccess : HostAccess → Chip → Chip
  | .readRegister a, c => c.abortRead (readDirect (a.toNat / 2 * 2))
  | .readWindow w, c => c.abortRead (windowRead w.toNat)
  | .write _ _, c => c

end Chip

open Chip

/-! ## Commands -/

/-- WINDOW_WRITE (R112): a host write to word `w` of the window; `be0` and `be1` enable D_0 to D_7 and D_8 to D_15. -/
def execWindowWrite (w : BitVec 16) (data : Word) (be0 be1 : Bool) (s : State) : Host.Outcome State Fault Refusal :=
  s.run (hostWrite (windowWrite w.toNat data.toNat be0 be1))

/-- WINDOW_READ (R115, R125, R126): a host read of word `w` of the window. -/
def execWindowRead (w : BitVec 16) (s : State) : Host.Outcome State Fault Refusal := s.run (hostRead (windowRead w.toNat))

/-- SCRUBBER_READ (R140): in RUN and IDLE the scrubber reads word `w`. -/
def execScrubberRead (w : BitVec 16) (s : State) : Host.Outcome State Fault Refusal :=
  s.run fun c => if c.frameRuns then c.scrub w.toNat else c

/-- ANGLE_L_READ (R34, R86): a read of ANGLE_L `steps` vernier steps after the last tick. -/
def execAngleLRead (s : State) (steps : Fin 401 := 0) : Host.Outcome State Fault Refusal := s.run (hostRead (angleRead steps.val))

/-- FRAME_COUNT_L_READ (R86). -/
def execFrameCountLRead (s : State) : Host.Outcome State Fault Refusal := s.run (hostRead frameCountRead)

/-- PORT_DATA_L_WRITE (R91). -/
def execPortDataLWrite (data : Word) (s : State) : Host.Outcome State Fault Refusal :=
  s.run (hostWrite (put R.portDataL (data.setWidth 32)))

/-- PORT_COMMIT (R92): PORT_DATA_H is written with REMOTE = 0. -/
def execPortCommit (hi : Word) (phaseG : Bool) (s : State) : Host.Outcome State Fault Refusal :=
  s.run (hostWrite (writePortDataH hi.toNat phaseG))

/-- REMOTE_WRITE_POST (R98): PORT_DATA_H is written with REMOTE = 1. -/
def execRemoteWritePost (hi : Word) (phaseG : Bool) (s : State) : Host.Outcome State Fault Refusal :=
  s.run (hostWrite (writePortDataH hi.toNat phaseG))

/-- PORT_READ (R94): a read of PORT_DATA_L. -/
def execPortRead (s : State) : Host.Outcome State Fault Refusal := s.run (hostRead portRead)

/-- UNLOCK_FIRST_KEY (R80): DEV_UNLOCK is written with 0xC35A. -/
def execUnlockFirstKey (s : State) : Host.Outcome State Fault Refusal := s.run (hostWrite (writeDevUnlock 0xC35A))

/-- UNLOCK_SECOND_KEY (R80): DEV_UNLOCK is written with 0x3CA5. -/
def execUnlockSecondKey (s : State) : Host.Outcome State Fault Refusal := s.run (hostWrite (writeDevUnlock 0x3CA5))

/-- UNLOCK_WRONG_KEY (R80): DEV_UNLOCK is written with a value other than the two keys. -/
def execUnlockWrongKey (data : Word) (s : State) : Host.Outcome State Fault Refusal :=
  s.run (hostWrite (writeDevUnlock data.toNat))

/-- UNLOCK_WINDOW_EXPIRE (R80): the 100th frame tick since the window opened. -/
def execUnlockWindowExpire (s : State) : Host.Outcome State Fault Refusal := s.run fun c => if c.frameRuns then c.closeUnlock else c

/-- REGISTER_WRITE (R77): a write of the host bus at a byte address. -/
def execRegisterWrite (a : BitVec 18) (data : Word) (be0 be1 phaseG : Bool) (s : State) : Host.Outcome State Fault Refusal :=
  s.run (busWrite a.toNat data be0 be1 phaseG)

/-- HOST_ACCESS_ABORT (R719): a strobe ends while WAIT_N is low. -/
def execHostAccessAbort (access : HostAccess) (s : State) : Host.Outcome State Fault Refusal := s.run (abortAccess access)

/-- BLOCK_TAKE (R118): OWN_REQ is written with OP = 01. -/
def execBlockTake (b : Fin 512) (s : State) : Host.Outcome State Fault Refusal := s.run (hostWrite (takeBlock b.val))

/-- BLOCK_RETURN (R118, R120): OWN_REQ is written with OP = 10. -/
def execBlockReturn (b : Fin 512) (phaseG : Bool) (s : State) : Host.Outcome State Fault Refusal :=
  s.run (hostWrite (returnBlock b.val phaseG))

/-- OWN_VIOL_COUNT_READ (R77, R112). -/
def execOwnViolCountRead (s : State) : Host.Outcome State Fault Refusal := s.run (hostRead (clearRead R.ownViolCount))

/-- IRQ_ANOMALY_COUNT_READ (R77, R434). -/
def execIrqAnomalyCountRead (s : State) : Host.Outcome State Fault Refusal := s.run (hostRead (clearRead R.irqAnomalyCount))

/-- TIME_SNAPSHOT (R22): a write of TIME_SNAPSHOT that reaches the CCLK domain `steps` vernier steps after the last tick. -/
def execTimeSnapshot (steps : Fin 401) (s : State) : Host.Outcome State Fault Refusal :=
  s.run (hostWrite fun c => (c.atStep steps.val).snapshot)

/-- INVAL_BLOCK (R83, R301): a write of INVAL_BLOCK. -/
def execInvalBlock (data : Word) (phaseG : Bool) (s : State) : Host.Outcome State Fault Refusal :=
  s.run (hostWrite (writeInval data.toNat phaseG))

/-- SCHED_CONTROL_WRITE (R43, R276): a write of SCHED_CONTROL. -/
def execSchedControlWrite (data : Word) (phaseG : Bool) (s : State) : Host.Outcome State Fault Refusal :=
  s.run (hostWrite (queueTick R.schedControl (data.setWidth 32) phaseG))

/-- RING_ADDR_WRITE (R79): a write of RING_ADDR. -/
def execRingAddrWrite (data : Word) (s : State) : Host.Outcome State Fault Refusal :=
  s.run (hostWrite (writeRingAddr data.toNat))

/-- TEST_PORT_DISABLE (R79, R747): DEV_CONTROL is written with TEST_PORT_DIS = 1 and its other fields as they are. -/
def execTestPortDisable (s : State) : Host.Outcome State Fault Refusal :=
  s.run (hostWrite fun c => c.writeDevControl (16 + 4 * c.fld F.devControl_IRQ_B_OD + 2 * c.fld F.devControl_IRQ_A_OD))

/-- MAILBOX_COMPLETE (R107): the supervisor completes the outstanding command. -/
def execMailboxComplete (s : State) : Host.Outcome State Fault Refusal := s.run completeCommand

/-- MBX_DOORBELL (R106): a write of MBX_DOORBELL with RING = 1. -/
def execMbxDoorbell (s : State) : Host.Outcome State Fault Refusal := s.run (hostWrite ringDoorbell)

end Sys2Proof.Machine
end

