-- ==== Sys2Proof/Machine/Frame.lean ====
section
/-!
DEFINITION. The frame (01): the execution of placed edges (R41, R333, R334), the frame tick with its phases (R37 to R50), and the
first frame tick after a reset (R58, R496).
-/

namespace Sys2Proof.Machine

namespace Chip

/-! ## Edges (R41, R333, R334) -/

/-- The edge is an inactive one. -/
def offEdge (x : Edge) : Bool := x.kind = .finish || x.kind = .off || x.action == 3

/-- An edge of injector channel `k` moves its channel (R320, R318, R296). -/
def injEdge (k : Nat) (x : Edge) (c : Chip) : Chip :=
  match x.kind with
  | .off => c.injCut k
  | .finish => c.injFinish k x.idx
  | .start => if x.action = 3 then c.injEnd k else c.injStart k x.idx x.word x.param

/-- An edge of valve `v` moves its pin: a SET uses regulation set 0 (R329, R330). -/
def valveEdge (v : Nat) (x : Edge) (c : Chip) : Chip :=
  match x.kind with
  | .off => c.valveCut v
  | .finish => c.valveStop v
  | .start =>
    if x.action = 3 then c.valveStop v
    else c.valveStart v (if x.action = 1 then x.param % 8 else 0) (some (x.idx, x.word))

/-- An edge of TIO pin `k` moves its active level (R378). -/
def tioEdge (k : Nat) (x : Edge) (c : Chip) : Chip :=
  match x.kind with
  | .off => c.tioOff k
  | .finish => c.modTio k fun y => { y with active := false, tag := none }
  | .start =>
    if x.action = 3 then c.modTio k fun y => { y with active := false, tag := none }
    else c.modTio k fun y => { y with active := true, tag := some (x.idx, x.word) }

/-- An edge of converter request `r`: a window's open or close, or a SYNC of the core it names (R395, R396, R404). -/
def convEdgeOf (r : Nat) (x : Edge) (c : Chip) : Chip :=
  if x.action = 5 then c.convSync (c.reqCore r) x.step
  else if x.kind = .start then c.convStart r x.idx x.step x.timeMode x.dur
  else if x.timeMode then c else c.convEnd r x.idx x.step

/-- What an edge drives. -/
def driveEdge (x : Edge) (c : Chip) : Chip :=
  if x.chan < 0x18 then c.injEdge x.chan x
  else if x.chan < 0x30 then c.valveEdge (x.chan - 0x20) x
  else if x.chan < 0x48 then c.tioEdge (x.chan - 0x40) x
  else if x.chan < 0x60 then c.triggerTimer ((x.chan - 0x50) / 4) ((x.chan - 0x50) % 4)
  else if x.chan < 0x70 then c.convEdgeOf (x.chan - 0x60) x
  else c.setPend x.param

/-- An edge executes at its vernier step; a withheld one does not move its pin (R305), and the last edge of an entry takes it
out of the cache (R283). -/
def runEdge (x : Edge) (c : Chip) : Chip :=
  let c1 := c.atStep x.step
  let c2 := if x.hidden then c1 else c1.driveEdge x
  if x.last then c2.leaveCache x.idx else c2

/-- Edge `x` executes before edge `y`: the earlier one, an inactive one before an active one (R334), the lower channel before
the higher (R320). -/
def edgeBefore (x y : Edge) : Bool :=
  x.step < y.step || (x.step == y.step &&
    ((offEdge x && !offEdge y) || (offEdge x == offEdge y && x.chan < y.chan)))

/-- The edge that executes next. -/
def firstEdge (c : Chip) : Option Edge :=
  c.sched.edges.foldl (fun b x => match b with
    | none => some x
    | some y => if edgeBefore x y then some x else some y) none

/-- An active edge of the pin of the inactive edge `x`, on the same step, moves one step on (R334). -/
def stepAside (x y : Edge) : Edge :=
  if offEdge x && !offEdge y && y.chan == x.chan && y.step == x.step && decide (x.chan < 0x48) then { y with step := y.step + 1 }
  else y

/-- The next edge executes. -/
def executeNext (c : Chip) : Chip :=
  match c.firstEdge with
  | none => c
  | some x =>
    let rest := dropFirst (fun y => y == x) c.sched.edges
    let c1 := c.modSched fun s => { s with edges := rest.map (stepAside x) }
    ((rest.filter fun y => stepAside x y != y && y.timeMode).foldl (fun d y => d.shiftEnd y.idx) c1).runEdge x

/-- Every edge placed in the running frame executes. -/
def executeAll (c : Chip) : Chip := stepN executeNext c.sched.edges.length c

/-- The edges placed before step `k` of the running frame execute. -/
def executeBefore (k : Int) (c : Chip) : Chip :=
  stepN (fun d => match d.firstEdge with
    | some x => if (x.step : Int) < k then d.executeNext else d
    | none => d) c.sched.edges.length c

/-- What is left of the running frame happens in the order of its instants: its placed edges and its last `n` BCLK edges, one every
16 steps of local time, a BCLK edge before a placed edge of the same instant (R41, R370). -/
def finishFrame (n : Nat) (c : Chip) : Chip :=
  let last : Int := ((c.nextTick - 1) / 16 * 16 : Nat) - (c.tb.ticks : Int)
  ((List.range n).foldl (fun d i => (d.executeBefore (last - 16 * ((n - 1 - i : Nat) : Int))).nextEdge [] []) c).executeAll

/-! ## Time at a tick (R19, R23, R25, R38) -/

/-- Ring time, local time and FRAME_COUNT at a tick; the CONV edges of the frame have passed (R391). -/
def advance (c : Chip) : Chip :=
  let slews := 0 < c.ring.slew
  { c with
    tb := { c.tb with ticks := c.tb.ticks + 2 * c.tb.length, now := 0, frame := c.tb.frame + 1
                      time := c.tb.time + (if slews then 999 else 1000) }
    ring := { c.ring with slew := c.ring.slew - 1 }
    conv := { c.conv with base := c.conv.base + 10 } }

/-- The length of the frame that begins: the guard trim steers the next tick (R38, R534, R576). It is settled before the phases
run, so that the edges they place count whole frames at their actual lengths (R25). -/
def trim (c : Chip) : Chip :=
  let t := c.tb
  { c with tb :=
    if (t.steerTo : Int) < t.steer then { t with length := 199, steer := t.steer - 10 }
    else if t.steer < -(t.steerTo : Int) then { t with length := 201, steer := t.steer + 10 }
    else { t with length := 200 } }

/-- The counts that a frame of `n` CCLK cycles advances: the watchdog (R461), the unlock window (R80), operating time and the
hour while the engine rotates (R465). -/
def countFrame (n : Nat) (c : Chip) : Chip :=
  let c1 := (c.wdtCount n)
  let c2 : Chip := { c1 with bus := { c1.bus with openTicks := c1.bus.openTicks - 1 } }
  if c2.flag F.pwrState_ROTATING then
    let t := c2.jnl.opSub + n
    c2.modJnl fun j =>
      let h := j.hour + n
      if 72000000000 ≤ t then { j with hour := h, opSub := t - 72000000000, opTime := j.opTime + 1 }
      else { j with hour := h, opSub := t }
  else c2

/-- The shunt currents sampled at a tick. -/
def sampleShunts (v : Vector Byte 6) (c : Chip) : Chip :=
  (List.range 6).foldl (fun d n => d.setFld (F.bankStatus_I_NOW n) (at? v n 0).toNat) c

/-! ## Phases (R37, R39, R47 to R49) -/

/-- Phase A of a frame. -/
def runA (before : Nat) (c : Chip) : Chip := (((((c.takeEdges (c.edgeLimit before)).phaseA).checkPasses).sendCapture).countWrap)

/-- Phase A does not finish: the frame publishes nothing, and the work is left to the next (R47 to R49). -/
def missA (c : Chip) : Chip := (c.modPred fun p => { p with missed := p.missed + 1, passed := false }).skipE false

/-- Phase E does not finish, and phase C does not run: no edge is placed (R47, R48). -/
def missE (c : Chip) : Chip := ((c.countCycle.modPred fun p => { p with passed := false })).skipE true

/-- A phase overran: source 1 and FRAME_OVERRUN; the eighth frame in a row stops the outputs (R47, R50). -/
def overrun (unit : Nat) (c : Chip) : Chip :=
  let c1 := (c.raise 1).fault 0x0101 unit 0
  let c2 : Chip := { c1 with tb := { c1.tb with overrunRun := c1.tb.overrunRun + 1 } }
  c2.doIf (decide (c2.tb.overrunRun = 8)) (faultF3 0x0102 0 0)

/-- The phases of a frame, of which one may overrun: an overrun frame places no new edges (R48). -/
def phases (lost : Option Phase) (before : Nat) (c : Chip) : Chip :=
  match lost with
  | some .a => c.missA.overrun 0
  | some .e => (c.runA before).missE.overrun 1
  | some .c => ((c.runA before).phaseEOnly).overrun 2
  | some .g => ((c.runA before).phaseEOnly).overrun 3
  | none =>
    let d := (c.runA before).phaseE
    { d with tb := { d.tb with overrunRun := 0 } }

/-- A frame of the clock monitor (R253, R255). Until a switch must be over, SWITCHING is a free value (log entry 54). From then on the
crystal qualifies, a lapse restarts its 10 ms, and QUAL_LEFT shows what is left of them. -/
def qualTick (lapse : Bool) (c : Chip) : Chip :=
  let c1 : Chip := { c with tb := { c.tb with switching := c.tb.switching - 1 } }
  let c2 := if c.tb.switching = 0 then c1
    else if c.tb.switching = 1 then c1.setFld F.clockMon_SWITCHING 0
    else c1.useFree.setFld F.clockMon_SWITCHING (Config.freeNat c1.free % 2)
  if c.flag F.devStatus_XTAL_OK then c2
  else
    let k := if lapse then 10000 else if c.tb.switching = 0 then c.tb.qualLeft - 1 else c.tb.qualLeft
    ({ c2 with tb := { c2.tb with qualLeft := k } }).setFld F.clockMon_QUAL_LEFT ((k + 99) / 100)

/-- Open angle windows end where the prediction was broken (R405), and the status registers that a frame renews are shown. -/
def renew (lapse : Bool) (c : Chip) : Chip := ((c.settleAngles.refreshSupply).showBoost.showConv).qualTick lapse

/-! ## The frame tick -/

/-- The first frame tick after a wake from WATCH: the watchdog restarts with a full window, and the first CONV edge acts as a SYNC
of the continuous cores (R409, R464). -/
def afterWake (c : Chip) : Chip :=
  if !c.power.woke then c
  else
    let c1 := (c.modPower fun p => { p with woke := false }).modConv fun v =>
      { v with cores := v.cores.map fun x => { x with outputs := 0, syncAt := v.base, comb := (0, 0) } }
    c1.doIf (c1.flag F.safeControl_WDT_EN) wdtStart

/-- What takes effect at a tick, after the time has advanced (R43, R335, R342, R586). -/
def tickEffects (t : TickInput) (c : Chip) : Chip :=
  let c1 := (c.handOver).twinTick t.ownIn t.ownFree
  let c2 := c1.doIf (decide (c1.twin.hand = some 0) && !c1.isolates) executeHand
  ((c2.takeChanges t.ownFree).clearLatch).armTick

/-- A frame tick (R37): the frame that ends is completed, changes take effect, and the phases of the next one run. -/
def frameTick (t : TickInput) (c : Chip) : Chip :=
  let c1 := c.formDigest.finishFrame t.bclk
  let c2 := ((c1.advance.sampleShunts t.shunts).noteTick).countFrame c1.tb.length
  let c3 := c2.afterWake.tickEffects t
  let c4 := (((c3.pairTick c1.tb.ticks).sendCopy).sendTwin c1.tb.frame c1.tb.ticks c1.tb.length c1.twin.mcount (c2.handFlag c3)).trim
  (({ c4 with pubOld := c4.pub }.phases t.overrun c1.tb.ticks).renew t.lapse).tagPoll

/-! ## The first tick (R58, R496) -/

/-- The first frame tick after a reset; after a wake from RETAIN the scrubber has passed once (R140), the power state is chosen,
FRAME_COUNT goes on, the watchdog restarts, and a waiting TIO_SEL_k takes effect, and blocks 10 to 30 are taken in with the returns that
waited (R23, R123, R377, R464, R496); the safe stop latch clears where it may (R342). -/
def firstTick (c : Chip) : Chip :=
  if c.tb.running || c.power.isOff then c
  else
    let wake := c.fld F.pwrState_STATE == 3
    let c1 := ({ (c.doIf wake scrubAll) with tb := { c.tb with running := true } }).setFlag F.devStatus_SUP_RUN true
    let c2 := if wake then
        let d := c1.setPower (min 1 c1.chosenState)
        let e := ({ d with tb := { d.tb with frame := d.tb.frame + 1 } }).doIf (d.flag F.safeControl_WDT_EN) wdtStart
        let e := e.takeCommits false
        let bs := e.win.returning.map (·.1)
        let g := bs.foldl (fun x b => x.endReturn b) e
        g.takeInBlocks (bs ++ ((List.range 21).map (· + 10)).filter fun b => g.deviceHeld b && !bs.contains b)
      else c1
    (((c2.clearLatch.noteTick).phases none 0).renew false).samplePins

end Chip

open Chip

/-! ## Commands -/

/-- RESET_RELEASE (R17, R23, R58, R75): the internal reset is released and the first frame tick comes. -/
def execResetRelease (s : State) : Host.Outcome State Fault Refusal := s.run firstTick

/-- FRAME_TICK (R37): a frame tick in RUN or IDLE. -/
def execFrameTick (t : TickInput) (s : State) : Host.Outcome State Fault Refusal :=
  s.run fun c => if c.frameRuns then c.frameTick t else c

/-- FRAME_OVERRUN_PERSIST (R50): the eighth frame in a row has overrun; a run that has already been reported is not reported
again. -/
def execFrameOverrunPersist (s : State) : Host.Outcome State Fault Refusal :=
  s.run fun c =>
    if !c.frameRuns || decide (8 ≤ c.tb.overrunRun) then c
    else ({ c with tb := { c.tb with overrunRun := 8 } }).faultF3 0x0102 0 0

/-- COMMIT_TAKE_EFFECT (R43): a frame tick as the committed writes see it. -/
def execCommitTakeEffect (s : State) : Host.Outcome State Fault Refusal :=
  s.run fun c =>
    if c.frameRuns then c.mirrorsOf (c.dueCommits.filterMap mirrored) (takeCommits (!c.flag F.twinStatus_PARTNER_OWN)) else c

/-- OUTPUT_EDGE_EXECUTE (R41): the next edge placed in the running frame executes. -/
def execOutputEdgeExecute (s : State) : Host.Outcome State Fault Refusal :=
  s.run fun c => if c.frameRuns then c.executeNext else c

/-- TIME_MODE_END_DUE (R261): the end of entry `i`, which has fallen due, is committed for the next frame. -/
def execTimeModeEndDue (i : BitVec 11) (s : State) : Host.Outcome State Fault Refusal :=
  s.run fun c => if c.frameRuns then c.commitTimeEnd i.toNat else c

/-! ## Wheel commands that may end angle windows (R405) -/

/-- EDGE_TAKE_IN (R158): phase A of the running frame takes in the oldest edge of input `n`, where R55 gives it to that phase A. -/
def execEdgeTakeIn (n : Fin 4) (s : State) : Host.Outcome State Fault Refusal :=
  s.run fun c =>
    match (c.wheel n).queue.head? with
    | some e => if c.frameRuns && decide (e.accepted ≤ c.edgeLimit c.tickBefore) then (c.takeEdge n).flushRows.settleAngles else c
    | none => c

/-- STALL_TIMEOUT (R249): STALL_TIME has passed without an accepted edge on any configured input while the engine rotates. -/
def execStallTimeout (s : State) : Host.Outcome State Fault Refusal :=
  s.run fun c =>
    match c.lastEdgeAt with
    | some t =>
      if c.frameRuns && c.flag F.pwrState_ROTATING && decide (t + max 1 (c.fld F.predCfg_STALL_TIME) * 400000 ≤ c.nextTick) then
        c.declareStall.settleAngles
      else c
    | none => c

/-- DR_LIMIT_REACHED (R249): dead reckoning has travelled DR_LIMIT since the loss. -/
def execDrLimitReached (s : State) : Host.Outcome State Fault Refusal :=
  s.run fun c =>
    if c.frameRuns && c.pred.active = some .dead && decide ((c.pred.cfg.drLimit : Int) * oneFx ≤ c.pred.drTravel) then
      c.declareStall.settleAngles
    else c

end Sys2Proof.Machine
end

