-- ==== Sys2Proof/Machine/TestPort.lean ====
section
/-!
DEFINITION. The test access port (19): its instructions and data registers (R747 to R749). Nothing of it reaches the core.
-/

namespace Sys2Proof.Machine

namespace Chip

/-- The test port passed through `f`. -/
def modTap (f : Tap → Tap) (c : Chip) : Chip := { c with tap := f c.tap }

/-- IDCODE of the part (R748): version 1, ID_PART, 0x4E5 and the mandatory 1. -/
def idcode (c : Chip) : BitVec 32 := BitVec.ofNat 32 (0x10000000 + c.partId * 4096 + 0x4E5 * 2 + 1)

/-- The 32 bits of IDCODE as they are shifted out, least significant first. -/
def idcodeBits (c : Chip) : List Bool := (List.range 32).map c.idcode.getLsbD

/-- An instruction is selected; IDCODE and BYPASS capture their data registers. -/
def selectTap (i : TapInstr) (c : Chip) : Chip :=
  c.modTap fun t =>
    { t with instr := i, data := match i with
        | .idcode => c.idcodeBits
        | .bypass => [false]
        | _ => t.data }

/-- A scan of the boundary register: the levels sampled are shifted out, the cells loaded. -/
def scanBoundary (x : Option DrScan) (c : Chip) : Chip :=
  match x with
  | some d => c.modTap fun t => { t with data := d.sampled, boundary := d.loaded }
  | none => c

end Chip

open Chip

/-! ## Commands -/

/-- TAP_RESET (R747): TRST_N low, or five TCK edges with TMS high. -/
def execTapReset (s : State) : Host.Outcome State Fault Refusal := s.run (selectTap .idcode)

/-- EXTEST (R749): the instruction is selected, with a scan of the boundary register if one follows. -/
def execExtest (scan : Option DrScan) (s : State) : Host.Outcome State Fault Refusal :=
  s.run fun c => (c.selectTap .extest).scanBoundary scan

/-- IDCODE (R748). -/
def execIdcode (s : State) : Host.Outcome State Fault Refusal := s.run fun c => c.selectTap .idcode

/-- SAMPLE/PRELOAD (R749): the instruction is selected, with a scan of the boundary register if one follows. -/
def execSamplePreload (scan : Option DrScan) (s : State) : Host.Outcome State Fault Refusal :=
  s.run fun c => (c.selectTap .samplePreload).scanBoundary scan

/-- BYPASS (R747). -/
def execBypass (s : State) : Host.Outcome State Fault Refusal := s.run (selectTap .bypass)

end Sys2Proof.Machine
end

