-- ==== Sys2Proof/Machine/Dispatch.lean ====
section
/-!
DEFINITION. The dispatch of commands to their meanings: one arm per constructor of Instr.
-/

namespace Sys2Proof.Machine

/-- A command's effect on everything but the queue. -/
def exec (i : Instr) (s : State) : Host.Outcome State Fault Refusal :=
  match i with
  | .powerOnReset twinSel => Sys2Proof.Machine.execPowerOnReset twinSel s
  | .brownout => Sys2Proof.Machine.execBrownout s
  | .pinReset => Sys2Proof.Machine.execPinReset s
  | .softReset => Sys2Proof.Machine.execSoftReset s
  | .lockstepReset => Sys2Proof.Machine.execLockstepReset s
  | .clockLossReset => Sys2Proof.Machine.execClockLossReset s
  | .thermalReset => Sys2Proof.Machine.execThermalReset s
  | .retainWake => Sys2Proof.Machine.execRetainWake s
  | .resetRelease => Sys2Proof.Machine.execResetRelease s
  | .bootComplete patch => Sys2Proof.Machine.execBootComplete s patch
  | .clockFallback => Sys2Proof.Machine.execClockFallback s
  | .clockRestored => Sys2Proof.Machine.execClockRestored s
  | .debugHalt => Sys2Proof.Machine.execDebugHalt s
  | .debugResume => Sys2Proof.Machine.execDebugResume s
  | .frameTick t => Sys2Proof.Machine.execFrameTick t s
  | .frameOverrunPersist => Sys2Proof.Machine.execFrameOverrunPersist s
  | .commitTakeEffect => Sys2Proof.Machine.execCommitTakeEffect s
  | .blockReturnTakeEffect => Sys2Proof.Machine.execBlockReturnTakeEffect s
  | .outputEdgeExecute => Sys2Proof.Machine.execOutputEdgeExecute s
  | .timeModeEndDue x => Sys2Proof.Machine.execTimeModeEndDue x s
  | .windowWrite w data be0 be1 => Sys2Proof.Machine.execWindowWrite w data be0 be1 s
  | .windowRead w => Sys2Proof.Machine.execWindowRead w s
  | .scrubberRead w => Sys2Proof.Machine.execScrubberRead w s
  | .angleLRead steps => Sys2Proof.Machine.execAngleLRead s steps
  | .frameCountLRead => Sys2Proof.Machine.execFrameCountLRead s
  | .portDataLWrite data => Sys2Proof.Machine.execPortDataLWrite data s
  | .portCommit hi phaseG => Sys2Proof.Machine.execPortCommit hi phaseG s
  | .remoteWritePost hi phaseG => Sys2Proof.Machine.execRemoteWritePost hi phaseG s
  | .portRead => Sys2Proof.Machine.execPortRead s
  | .unlockFirstKey => Sys2Proof.Machine.execUnlockFirstKey s
  | .unlockSecondKey => Sys2Proof.Machine.execUnlockSecondKey s
  | .unlockWrongKey data => Sys2Proof.Machine.execUnlockWrongKey data s
  | .unlockWindowExpire => Sys2Proof.Machine.execUnlockWindowExpire s
  | .registerWrite a data be0 be1 phaseG => Sys2Proof.Machine.execRegisterWrite a data be0 be1 phaseG s
  | .hostAccessAbort access => Sys2Proof.Machine.execHostAccessAbort access s
  | .blockTake b => Sys2Proof.Machine.execBlockTake b s
  | .blockReturn b phaseG => Sys2Proof.Machine.execBlockReturn b phaseG s
  | .ownViolCountRead => Sys2Proof.Machine.execOwnViolCountRead s
  | .irqAnomalyCountRead => Sys2Proof.Machine.execIrqAnomalyCountRead s
  | .timeSnapshot steps => Sys2Proof.Machine.execTimeSnapshot steps s
  | .ltrWrite data => Sys2Proof.Machine.execLtrWrite data s
  | .invalBlock data phaseG => Sys2Proof.Machine.execInvalBlock data phaseG s
  | .schedControlWrite data phaseG => Sys2Proof.Machine.execSchedControlWrite data phaseG s
  | .ringAddrWrite data => Sys2Proof.Machine.execRingAddrWrite data s
  | .testPortDisable => Sys2Proof.Machine.execTestPortDisable s
  | .journalInfo => Sys2Proof.Machine.execJournalInfo s
  | .journalRead => Sys2Proof.Machine.execJournalRead s
  | .journalNote => Sys2Proof.Machine.execJournalNote s
  | .powerOff => Sys2Proof.Machine.execPowerOff s
  | .ringSetTime => Sys2Proof.Machine.execRingSetTime s
  | .calApply => Sys2Proof.Machine.execCalApply s
  | .calApplyTick => Sys2Proof.Machine.execCalApplyTick s
  | .calRaiseFloor => Sys2Proof.Machine.execCalRaiseFloor s
  | .keyPurge time => Sys2Proof.Machine.execKeyPurge time s
  | .serviceGet => Sys2Proof.Machine.execServiceGet s
  | .servicePut => Sys2Proof.Machine.execServicePut s
  | .serviceForward => Sys2Proof.Machine.execServiceForward s
  | .tagUpdate => Sys2Proof.Machine.execTagUpdate s
  | .mailboxComplete => Sys2Proof.Machine.execMailboxComplete s
  | .irqClaim x => Sys2Proof.Machine.execIrqClaim x s
  | .irqComplete x data => Sys2Proof.Machine.execIrqComplete x data s
  | .irqSetPend data => Sys2Proof.Machine.execIrqSetPend data s
  | .irqPendClr high mask => Sys2Proof.Machine.execIrqPendClr high mask s
  | .supSourceClaim => Sys2Proof.Machine.execSupSourceClaim s
  | .sourceEventFlush x => Sys2Proof.Machine.execSourceEventFlush x s
  | .faultAck data => Sys2Proof.Machine.execFaultAck data s
  | .safeNFall => Sys2Proof.Machine.execSafeNFall s
  | .safeNRise => Sys2Proof.Machine.execSafeNRise s
  | .forceF3 => Sys2Proof.Machine.execForceF3 s
  | .armRequest phaseG => Sys2Proof.Machine.execArmRequest phaseG s
  | .disarmRequest phaseG => Sys2Proof.Machine.execDisarmRequest phaseG s
  | .watchdogEnable window => Sys2Proof.Machine.execWatchdogEnable window s
  | .wdtKick data => Sys2Proof.Machine.execWdtKick data s
  | .watchdogExpired => Sys2Proof.Machine.execWatchdogExpired s
  | .journalWrite ok eraseOk => Sys2Proof.Machine.execJournalWrite ok eraseOk s
  | .journalAllowanceRegain => Sys2Proof.Machine.execJournalAllowanceRegain s
  | .hours => Sys2Proof.Machine.execHours s
  | .wheelEdge n at' pol peak dip held => Sys2Proof.Machine.execWheelEdge n at' pol peak s dip held
  | .edgeTakeIn n => Sys2Proof.Machine.execEdgeTakeIn n s
  | .vrThresholdDecay n => Sys2Proof.Machine.execVrThresholdDecay n s
  | .wheelNoSignal n => Sys2Proof.Machine.execWheelNoSignal n s
  | .stallTimeout => Sys2Proof.Machine.execStallTimeout s
  | .drLimitReached => Sys2Proof.Machine.execDrLimitReached s
  | .snapshotTimeout => Sys2Proof.Machine.execSnapshotTimeout s
  | .bankGrant k at' => Sys2Proof.Machine.execBankGrant k at' s
  | .bankWaitTimeout k at' => Sys2Proof.Machine.execBankWaitTimeout k at' s
  | .boostThresholdReached k at' => Sys2Proof.Machine.execBoostThresholdReached k at' s
  | .boostTimeLimit k code at' => Sys2Proof.Machine.execBoostTimeLimit k code at' s
  | .transitionEnd k fell at' => Sys2Proof.Machine.execTransitionEnd k fell at' s
  | .holdChop n on at' => Sys2Proof.Machine.execHoldChop n on at' s
  | .injHoldLost n code => Sys2Proof.Machine.execInjHoldLost n code s
  | .injOvercurrent n => Sys2Proof.Machine.execInjOvercurrent n s
  | .injIdleCurrent n code => Sys2Proof.Machine.execInjIdleCurrent n code s
  | .bankTripClear n still => Sys2Proof.Machine.execBankTripClear n still s
  | .injEnableCommit v => Sys2Proof.Machine.execInjEnableCommit v s
  | .valvePullEnd v at' => Sys2Proof.Machine.execValvePullEnd v at' s
  | .valveStartDelayEnd v at' => Sys2Proof.Machine.execValveStartDelayEnd v at' s
  | .valveOpen v => Sys2Proof.Machine.execValveOpen v s
  | .valveShort v at' => Sys2Proof.Machine.execValveShort v at' s
  | .shortLatchClear mask => Sys2Proof.Machine.execShortLatchClear mask s
  | .timerMatch lead => Sys2Proof.Machine.execTimerMatch lead s
  | .timerOverflow lead => Sys2Proof.Machine.execTimerOverflow lead s
  | .timerPinCapture k level lead held => Sys2Proof.Machine.execTimerPinCapture k level lead s held
  | .chValueCommit n v lead => Sys2Proof.Machine.execChValueCommit n v lead s
  | .chCtrlCommit n v lead => Sys2Proof.Machine.execChCtrlCommit n v lead s
  | .tuCfgCommit u v lead => Sys2Proof.Machine.execTuCfgCommit u v lead s
  | .timerSnap lead => Sys2Proof.Machine.execTimerSnap lead s
  | .tioSelCommit k v => Sys2Proof.Machine.execTioSelCommit k v s
  | .convWindowOpen r => Sys2Proof.Machine.execConvWindowOpen r s
  | .convWindowClose r raw clip => Sys2Proof.Machine.execConvWindowClose r raw s clip
  | .timeWindowComplete k raw clip => Sys2Proof.Machine.execTimeWindowComplete k raw s clip
  | .pendingWindowStart k at' => Sys2Proof.Machine.execPendingWindowStart k at' s
  | .pendingWindowExpire r at' => Sys2Proof.Machine.execPendingWindowExpire r at' s
  | .windowTruncate k raw clip => Sys2Proof.Machine.execWindowTruncate k raw s clip
  | .convSyncApply k => Sys2Proof.Machine.execConvSyncApply k s
  | .decimatorOutput k raw varies clip => Sys2Proof.Machine.execDecimatorOutput k raw s varies clip
  | .convStart mask => Sys2Proof.Machine.execConvStart mask s
  | .convSync mask => Sys2Proof.Machine.execConvSync mask s
  | .ringTailCommit r v => Sys2Proof.Machine.execRingTailCommit r v s
  | .monitorBurst => Sys2Proof.Machine.execMonitorBurst s
  | .vbatBandChange mv => Sys2Proof.Machine.execVbatBandChange mv s
  | .holdupUpdate vhold vpre => Sys2Proof.Machine.execHoldupUpdate vhold vpre s
  | .boostChargeControl meas => Sys2Proof.Machine.execBoostChargeControl meas s
  | .boostStartTimeout ms => Sys2Proof.Machine.execBoostStartTimeout s ms
  | .boostOvercurrent code => Sys2Proof.Machine.execBoostOvercurrent s code
  | .boostOcPauseEnd => Sys2Proof.Machine.execBoostOcPauseEnd s
  | .railOutOfReg r => Sys2Proof.Machine.execRailOutOfReg r s
  | .powerStateChange => Sys2Proof.Machine.execPowerStateChange s
  | .deferredEntry => Sys2Proof.Machine.execDeferredEntry s
  | .wake code => Sys2Proof.Machine.execWake code s
  | .wakeDwellEnd ms => Sys2Proof.Machine.execWakeDwellEnd s ms
  | .keyInChange high => Sys2Proof.Machine.execKeyInChange high s
  | .keyoffDelayExpire held => Sys2Proof.Machine.execKeyoffDelayExpire s held
  | .ringCycleStart run grants => Sys2Proof.Machine.execRingCycleStart run grants s
  | .beaconReceive bytes errors arrive run => Sys2Proof.Machine.execBeaconReceive bytes errors arrive run s
  | .cycleReturn bytes errors areas => Sys2Proof.Machine.execCycleReturn bytes errors s areas
  | .snapshotReceive bytes errors previous => Sys2Proof.Machine.execSnapshotReceive bytes errors previous s
  | .statusEntryReceive node entry errors => Sys2Proof.Machine.execStatusEntryReceive node entry s errors
  | .writeMessage cell phaseG => Sys2Proof.Machine.execWriteMessage cell phaseG s
  | .nackMessage cell => Sys2Proof.Machine.execNackMessage cell s
  | .confirmMessage cell => Sys2Proof.Machine.execConfirmMessage cell s
  | .joinMessage cell => Sys2Proof.Machine.execJoinMessage cell s
  | .joinAckMessage cell => Sys2Proof.Machine.execJoinAckMessage cell s
  | .leaveMessage cell => Sys2Proof.Machine.execLeaveMessage cell s
  | .hostMessage cell => Sys2Proof.Machine.execHostMessage cell s
  | .cellReturned cell => Sys2Proof.Machine.execCellReturned cell s
  | .outboundEntrySend => Sys2Proof.Machine.execOutboundEntrySend s
  | .outboundDelivered e => Sys2Proof.Machine.execOutboundDelivered e s
  | .ringRxTailCommit v => Sys2Proof.Machine.execRingRxTailCommit v s
  | .remoteWriteExpire tag => Sys2Proof.Machine.execRemoteWriteExpire tag s
  | .remoteWriteJudge tag => Sys2Proof.Machine.execRemoteWriteJudge tag s
  | .ringMasterLost => Sys2Proof.Machine.execRingMasterLost s
  | .masterElection periods => Sys2Proof.Machine.execMasterElection s periods
  | .ringBroken => Sys2Proof.Machine.execRingBroken s
  | .ringJoinFailed => Sys2Proof.Machine.execRingJoinFailed s
  | .joinRetry => Sys2Proof.Machine.execJoinRetry s
  | .ringFound periods => Sys2Proof.Machine.execRingFound s periods
  | .insertEnable => Sys2Proof.Machine.execInsertEnable s
  | .ringLeave => Sys2Proof.Machine.execRingLeave s
  | .twinFrameReceive bytes symErr arrival => Sys2Proof.Machine.execTwinFrameReceive bytes symErr arrival s
  | .twinLinkLost => Sys2Proof.Machine.execTwinLinkLost s
  | .mirrorBlock => Sys2Proof.Machine.execMirrorBlock s
  | .mirrorCommit => Sys2Proof.Machine.execMirrorCommit s
  | .mirrorDirect => Sys2Proof.Machine.execMirrorDirect s
  | .mirrorApply => Sys2Proof.Machine.execMirrorApply s
  | .mirrorGroupTakeIn => Sys2Proof.Machine.execMirrorGroupTakeIn s
  | .capturePacket => Sys2Proof.Machine.execCapturePacket s
  | .captureApply => Sys2Proof.Machine.execCaptureApply s
  | .hello => Sys2Proof.Machine.execHello s
  | .twinEnable en phaseG => Sys2Proof.Machine.execTwinEnable en phaseG s
  | .twinIsolate en phaseG => Sys2Proof.Machine.execTwinIsolate en phaseG s
  | .twinRejoin en phaseG => Sys2Proof.Machine.execTwinRejoin en phaseG s
  | .foundingClaim en phaseG => Sys2Proof.Machine.execFoundingClaim en phaseG s
  | .plannedHandover en phaseG => Sys2Proof.Machine.execPlannedHandover en phaseG s
  | .handoverExecute => Sys2Proof.Machine.execHandoverExecute s
  | .twinTakeover => Sys2Proof.Machine.execTwinTakeover s
  | .twinOwnerCollision => Sys2Proof.Machine.execTwinOwnerCollision s
  | .cipherStart mask => Sys2Proof.Machine.execCipherStart mask s
  | .gcmEncrypt wait => Sys2Proof.Machine.execGcmEncrypt wait s
  | .gcmDecrypt wait => Sys2Proof.Machine.execGcmDecrypt wait s
  | .ctr wait => Sys2Proof.Machine.execCtr wait s
  | .cmacGenerate wait => Sys2Proof.Machine.execCmacGenerate wait s
  | .cmacVerify wait => Sys2Proof.Machine.execCmacVerify wait s
  | .derive wait => Sys2Proof.Machine.execDerive wait s
  | .unwrap wait => Sys2Proof.Machine.execUnwrap wait s
  | .cipherErase mask time => Sys2Proof.Machine.execCipherErase mask time s
  | .keyAlarm cause time => Sys2Proof.Machine.execKeyAlarm cause time s
  | .alarmLatchClear persists => Sys2Proof.Machine.execAlarmLatchClear persists s
  | .canFrameReceive f => Sys2Proof.Machine.execCanFrameReceive f s
  | .mbTxRequest b v => Sys2Proof.Machine.execMbTxRequest b v s
  | .mbTxAbort b v sending => Sys2Proof.Machine.execMbTxAbort b v sending s
  | .canTxComplete queued => Sys2Proof.Machine.execCanTxComplete queued s
  | .mbFullClear b v => Sys2Proof.Machine.execMbFullClear b v s
  | .canCfgCommit v => Sys2Proof.Machine.execCanCfgCommit v s
  | .canBusOff => Sys2Proof.Machine.execCanBusOff s
  | .canBusoffRecovery => Sys2Proof.Machine.execCanBusoffRecovery s
  | .singleFrame => Sys2Proof.Machine.execSingleFrame s
  | .firstFrame => Sys2Proof.Machine.execFirstFrame s
  | .consecutiveFrame => Sys2Proof.Machine.execConsecutiveFrame s
  | .flowControl => Sys2Proof.Machine.execFlowControl s
  | .isotpTimeout sending => Sys2Proof.Machine.execIsotpTimeout sending s
  | .diagnosticSessionControl => Sys2Proof.Machine.execDiagnosticSessionControl s
  | .ecuReset => Sys2Proof.Machine.execEcuReset s
  | .clearDiagnosticInformation fails => Sys2Proof.Machine.execClearDiagnosticInformation s fails
  | .reportNumberOfDtcByStatusMask => Sys2Proof.Machine.execReportNumberOfDtcByStatusMask s
  | .reportDtcByStatusMask => Sys2Proof.Machine.execReportDtcByStatusMask s
  | .reportDtcSnapshotRecord => Sys2Proof.Machine.execReportDtcSnapshotRecord s
  | .reportDtcExtendedDataRecord => Sys2Proof.Machine.execReportDtcExtendedDataRecord s
  | .readDataByIdentifier => Sys2Proof.Machine.execReadDataByIdentifier s
  | .writeDataByIdentifier => Sys2Proof.Machine.execWriteDataByIdentifier s
  | .requestSeed => Sys2Proof.Machine.execRequestSeed s
  | .sendKey time => Sys2Proof.Machine.execSendKey time s
  | .securityDelayEnd => Sys2Proof.Machine.execSecurityDelayEnd s
  | .communicationControl => Sys2Proof.Machine.execCommunicationControl s
  | .routineJournalRead => Sys2Proof.Machine.execRoutineJournalRead s
  | .tagRefresh => Sys2Proof.Machine.execTagRefresh s
  | .routineKeyPurge time => Sys2Proof.Machine.execRoutineKeyPurge time s
  | .testerPresent => Sys2Proof.Machine.execTesterPresent s
  | .controlDtcSetting fails => Sys2Proof.Machine.execControlDtcSetting s fails
  | .unsupportedService => Sys2Proof.Machine.execUnsupportedService s
  | .forwardedRequest => Sys2Proof.Machine.execForwardedRequest s
  | .forwardTimeout ms => Sys2Proof.Machine.execForwardTimeout s ms
  | .responsePending => Sys2Proof.Machine.execResponsePending s
  | .sessionTimeout => Sys2Proof.Machine.execSessionTimeout s
  | .tagPumpReady => Sys2Proof.Machine.execTagPumpReady s
  | .tagDrivePhaseEnd => Sys2Proof.Machine.execTagDrivePhaseEnd s
  | .tagJournalDone ok eraseOk fails => Sys2Proof.Machine.execTagJournalDone ok eraseOk s fails
  | .tagFailed => Sys2Proof.Machine.execTagFailed s
  | .tagRecoveryStart => Sys2Proof.Machine.execTagRecoveryStart s
  | .tagSkipped => Sys2Proof.Machine.execTagSkipped s
  | .tagDueRecompute => Sys2Proof.Machine.execTagDueRecompute s
  | .tapReset => Sys2Proof.Machine.execTapReset s
  | .extest scan => Sys2Proof.Machine.execExtest scan s
  | .idcode => Sys2Proof.Machine.execIdcode s
  | .samplePreload scan => Sys2Proof.Machine.execSamplePreload scan s
  | .bypass => Sys2Proof.Machine.execBypass s
  | .mbxDoorbell => Sys2Proof.Machine.execMbxDoorbell s
  | .supervisorCommitTakeIn time persists sending => Sys2Proof.Machine.execSupervisorCommitTakeIn time persists sending s
  | .railInRegulation r => Sys2Proof.Machine.execRailInRegulation r s
  | .canBusError kind tec rec => Sys2Proof.Machine.execCanBusError kind tec rec s
  | .stminElapsed us => Sys2Proof.Machine.execStminElapsed s us
  | .valveOpenClear v => Sys2Proof.Machine.execValveOpenClear v s
  | .valvePwmTransition v at' => Sys2Proof.Machine.execValvePwmTransition v at' s

end Sys2Proof.Machine
end

