-- ==== Sys2Proof/Machine/RegNames.lean ====
section
/-!
DEFINITION. The registers by name (02 and the register maps of every chapter), for statements about which registers a command
writes. A name stands for all the registers of its kind: INJ_DIAG_k for every k, CH_CTRL_u_c for every u and c.
-/

namespace Sys2Proof.Machine

/-- The name of a register, or of registers that differ in their indices only. -/
inductive RegName where
  | idPart | idRev | devStatus | devControl | frameCountL | frameCountH | ringAddr | ltr | pwrState | supplyStatus
  | faultSummary | faultAck | irqClaimA | irqCompleteA | irqClaimB | irqCompleteB | irqGlobal | irqSetPend | irqAnomalyCount
  | ownReq | ownStatus | ownViolCount | portAddrL | portAddrH | portDataL | portDataH | mbxDoorbell | mbxStatus | angleL
  | angleH | speed | syncStatus | schedStatus | schedControl | invalBlock | twinStatus | twinControl | ringStatus | ringControl
  | remoteErr | safeControl | wdtKick | timeEpoch | timeSnapshot | scratchA | scratchB | resetCause | devUnlock | tuCfg
  | tuCount | tuStatus | chCtrl | chValue | chInterval | chStatus | timerPre | timerSnap | timerCounts | tioLevel | tuSnap
  | convStatus | convStart | convSync | convCounts | coreCfg | monCfg | monResult | reqCfg | reqTime | resHead | resTail
  | resWm | resStatus | outStatus | injEnable | injEffective | valveStatus | injCh | valveCfg | vreg | profI | profT | profCtrl
  | bankCfg | bankStatus | bankCounts | injDiag | wheelCfg | wheelVr | wheelFilt | wheelVerify | wheelStatus | wheelCounts
  | wheelEdges | wheelSys | predStatus | predSigma | predW | predAccel | predCfg | predLearn | predReverse | predCounts
  | clockMon | irqSrc | irqPendingL | irqPendingH | irqActiveL | irqActiveH | irqPendClrL | irqPendClrH | irqThresh
  | faultQueue | faultCounts | faultCfg | faultOrdinal | wdtStatus | cipherStatus | cipherStart | cipherErase | cipherAlarm
  | cipherUidL | cipherUidH | calFloor | cipherCounts | jobResult | slotInfo | canCfg | canNbt | canDbt | canStatus | canCounts
  | canDiagId | canDiagCfg | canDiagStatus | mbCfg | mbId | mbMask | mbStatus | mbRxid | mbStamp | mbData | tagCfg
  | tagHostImage | tagStatus | tagImage | tagDue | tagCounts | pwrCfg | pwrStatus | supplyMeas | holdupCfg | holdupStatus
  | boostCtrl | boostTiming | boostStatus | thermalStatus | pwrCounts | tioSel | schedCycle | cacheStatus | loadPeak | cntALate
  | cntAOver | cntBDeferred | cntBExpired | cntCRefused | cntGateDeferred | cntGateRefused | cntLateFired | cntLateSkipped
  | cntMissed | cntCacheFull | cntEcc | cntOrphaned | cntInvalid | cntWithheld | cntResyncSkip | ringCfg | ringJoinStatus
  | ringHop | ringPhase | ringCapTimeL | ringCapTimeH | ringCapEpoch | ringCapFrame | ringCycle | ringSlew | ringCounts
  | ringRxHead | ringRxTail | ringErrTail | ringRemoteCfg | ringMembers | twinCfg | twinPartner | twinSync | twinProgress
  | twinCounts | twinLogHead | twinLogTail
  deriving DecidableEq, Repr

/-- The register of a name with its indices, which a name without indices ignores. -/
def RegName.addr : RegName → Nat → Nat → Nat
  | .idPart, _, _ => R.idPart
  | .idRev, _, _ => R.idRev
  | .devStatus, _, _ => R.devStatus
  | .devControl, _, _ => R.devControl
  | .frameCountL, _, _ => R.frameCountL
  | .frameCountH, _, _ => R.frameCountH
  | .ringAddr, _, _ => R.ringAddr
  | .ltr, _, _ => R.ltr
  | .pwrState, _, _ => R.pwrState
  | .supplyStatus, _, _ => R.supplyStatus
  | .faultSummary, _, _ => R.faultSummary
  | .faultAck, _, _ => R.faultAck
  | .irqClaimA, _, _ => R.irqClaimA
  | .irqCompleteA, _, _ => R.irqCompleteA
  | .irqClaimB, _, _ => R.irqClaimB
  | .irqCompleteB, _, _ => R.irqCompleteB
  | .irqGlobal, _, _ => R.irqGlobal
  | .irqSetPend, _, _ => R.irqSetPend
  | .irqAnomalyCount, _, _ => R.irqAnomalyCount
  | .ownReq, _, _ => R.ownReq
  | .ownStatus, _, _ => R.ownStatus
  | .ownViolCount, _, _ => R.ownViolCount
  | .portAddrL, _, _ => R.portAddrL
  | .portAddrH, _, _ => R.portAddrH
  | .portDataL, _, _ => R.portDataL
  | .portDataH, _, _ => R.portDataH
  | .mbxDoorbell, _, _ => R.mbxDoorbell
  | .mbxStatus, _, _ => R.mbxStatus
  | .angleL, _, _ => R.angleL
  | .angleH, _, _ => R.angleH
  | .speed, _, _ => R.speed
  | .syncStatus, _, _ => R.syncStatus
  | .schedStatus, _, _ => R.schedStatus
  | .schedControl, _, _ => R.schedControl
  | .invalBlock, _, _ => R.invalBlock
  | .twinStatus, _, _ => R.twinStatus
  | .twinControl, _, _ => R.twinControl
  | .ringStatus, _, _ => R.ringStatus
  | .ringControl, _, _ => R.ringControl
  | .remoteErr, _, _ => R.remoteErr
  | .safeControl, _, _ => R.safeControl
  | .wdtKick, _, _ => R.wdtKick
  | .timeEpoch, _, _ => R.timeEpoch
  | .timeSnapshot, _, _ => R.timeSnapshot
  | .scratchA, _, _ => R.scratchA
  | .scratchB, _, _ => R.scratchB
  | .resetCause, _, _ => R.resetCause
  | .devUnlock, _, _ => R.devUnlock
  | .tuCfg, i, _ => R.tuCfg i
  | .tuCount, i, _ => R.tuCount i
  | .tuStatus, i, _ => R.tuStatus i
  | .chCtrl, i, j => R.chCtrl i j
  | .chValue, i, j => R.chValue i j
  | .chInterval, i, j => R.chInterval i j
  | .chStatus, i, j => R.chStatus i j
  | .timerPre, _, _ => R.timerPre
  | .timerSnap, _, _ => R.timerSnap
  | .timerCounts, _, _ => R.timerCounts
  | .tioLevel, _, _ => R.tioLevel
  | .tuSnap, i, _ => R.tuSnap i
  | .convStatus, _, _ => R.convStatus
  | .convStart, _, _ => R.convStart
  | .convSync, _, _ => R.convSync
  | .convCounts, _, _ => R.convCounts
  | .coreCfg, i, _ => R.coreCfg i
  | .monCfg, _, _ => R.monCfg
  | .monResult, i, _ => R.monResult i
  | .reqCfg, i, _ => R.reqCfg i
  | .reqTime, i, _ => R.reqTime i
  | .resHead, i, _ => R.resHead i
  | .resTail, i, _ => R.resTail i
  | .resWm, i, _ => R.resWm i
  | .resStatus, i, _ => R.resStatus i
  | .outStatus, _, _ => R.outStatus
  | .injEnable, _, _ => R.injEnable
  | .injEffective, _, _ => R.injEffective
  | .valveStatus, _, _ => R.valveStatus
  | .injCh, i, _ => R.injCh i
  | .valveCfg, i, _ => R.valveCfg i
  | .vreg, i, _ => R.vreg i
  | .profI, i, _ => R.profI i
  | .profT, i, _ => R.profT i
  | .profCtrl, i, _ => R.profCtrl i
  | .bankCfg, i, _ => R.bankCfg i
  | .bankStatus, i, _ => R.bankStatus i
  | .bankCounts, i, _ => R.bankCounts i
  | .injDiag, i, _ => R.injDiag i
  | .wheelCfg, i, _ => R.wheelCfg i
  | .wheelVr, i, _ => R.wheelVr i
  | .wheelFilt, i, _ => R.wheelFilt i
  | .wheelVerify, i, _ => R.wheelVerify i
  | .wheelStatus, i, _ => R.wheelStatus i
  | .wheelCounts, i, _ => R.wheelCounts i
  | .wheelEdges, i, _ => R.wheelEdges i
  | .wheelSys, _, _ => R.wheelSys
  | .predStatus, _, _ => R.predStatus
  | .predSigma, _, _ => R.predSigma
  | .predW, _, _ => R.predW
  | .predAccel, _, _ => R.predAccel
  | .predCfg, _, _ => R.predCfg
  | .predLearn, _, _ => R.predLearn
  | .predReverse, _, _ => R.predReverse
  | .predCounts, _, _ => R.predCounts
  | .clockMon, _, _ => R.clockMon
  | .irqSrc, i, _ => R.irqSrc i
  | .irqPendingL, _, _ => R.irqPendingL
  | .irqPendingH, _, _ => R.irqPendingH
  | .irqActiveL, _, _ => R.irqActiveL
  | .irqActiveH, _, _ => R.irqActiveH
  | .irqPendClrL, _, _ => R.irqPendClrL
  | .irqPendClrH, _, _ => R.irqPendClrH
  | .irqThresh, _, _ => R.irqThresh
  | .faultQueue, _, _ => R.faultQueue
  | .faultCounts, _, _ => R.faultCounts
  | .faultCfg, _, _ => R.faultCfg
  | .faultOrdinal, _, _ => R.faultOrdinal
  | .wdtStatus, _, _ => R.wdtStatus
  | .cipherStatus, _, _ => R.cipherStatus
  | .cipherStart, _, _ => R.cipherStart
  | .cipherErase, _, _ => R.cipherErase
  | .cipherAlarm, _, _ => R.cipherAlarm
  | .cipherUidL, _, _ => R.cipherUidL
  | .cipherUidH, _, _ => R.cipherUidH
  | .calFloor, _, _ => R.calFloor
  | .cipherCounts, _, _ => R.cipherCounts
  | .jobResult, i, _ => R.jobResult i
  | .slotInfo, i, _ => R.slotInfo i
  | .canCfg, _, _ => R.canCfg
  | .canNbt, _, _ => R.canNbt
  | .canDbt, _, _ => R.canDbt
  | .canStatus, _, _ => R.canStatus
  | .canCounts, _, _ => R.canCounts
  | .canDiagId, _, _ => R.canDiagId
  | .canDiagCfg, _, _ => R.canDiagCfg
  | .canDiagStatus, _, _ => R.canDiagStatus
  | .mbCfg, i, _ => R.mbCfg i
  | .mbId, i, _ => R.mbId i
  | .mbMask, i, _ => R.mbMask i
  | .mbStatus, i, _ => R.mbStatus i
  | .mbRxid, i, _ => R.mbRxid i
  | .mbStamp, i, _ => R.mbStamp i
  | .mbData, i, j => R.mbData i j
  | .tagCfg, _, _ => R.tagCfg
  | .tagHostImage, _, _ => R.tagHostImage
  | .tagStatus, _, _ => R.tagStatus
  | .tagImage, _, _ => R.tagImage
  | .tagDue, _, _ => R.tagDue
  | .tagCounts, _, _ => R.tagCounts
  | .pwrCfg, _, _ => R.pwrCfg
  | .pwrStatus, _, _ => R.pwrStatus
  | .supplyMeas, _, _ => R.supplyMeas
  | .holdupCfg, _, _ => R.holdupCfg
  | .holdupStatus, _, _ => R.holdupStatus
  | .boostCtrl, _, _ => R.boostCtrl
  | .boostTiming, _, _ => R.boostTiming
  | .boostStatus, _, _ => R.boostStatus
  | .thermalStatus, _, _ => R.thermalStatus
  | .pwrCounts, _, _ => R.pwrCounts
  | .tioSel, i, _ => R.tioSel i
  | .schedCycle, _, _ => R.schedCycle
  | .cacheStatus, _, _ => R.cacheStatus
  | .loadPeak, _, _ => R.loadPeak
  | .cntALate, _, _ => R.cntALate
  | .cntAOver, _, _ => R.cntAOver
  | .cntBDeferred, _, _ => R.cntBDeferred
  | .cntBExpired, _, _ => R.cntBExpired
  | .cntCRefused, _, _ => R.cntCRefused
  | .cntGateDeferred, _, _ => R.cntGateDeferred
  | .cntGateRefused, _, _ => R.cntGateRefused
  | .cntLateFired, _, _ => R.cntLateFired
  | .cntLateSkipped, _, _ => R.cntLateSkipped
  | .cntMissed, _, _ => R.cntMissed
  | .cntCacheFull, _, _ => R.cntCacheFull
  | .cntEcc, _, _ => R.cntEcc
  | .cntOrphaned, _, _ => R.cntOrphaned
  | .cntInvalid, _, _ => R.cntInvalid
  | .cntWithheld, _, _ => R.cntWithheld
  | .cntResyncSkip, _, _ => R.cntResyncSkip
  | .ringCfg, _, _ => R.ringCfg
  | .ringJoinStatus, _, _ => R.ringJoinStatus
  | .ringHop, _, _ => R.ringHop
  | .ringPhase, _, _ => R.ringPhase
  | .ringCapTimeL, _, _ => R.ringCapTimeL
  | .ringCapTimeH, _, _ => R.ringCapTimeH
  | .ringCapEpoch, _, _ => R.ringCapEpoch
  | .ringCapFrame, _, _ => R.ringCapFrame
  | .ringCycle, _, _ => R.ringCycle
  | .ringSlew, _, _ => R.ringSlew
  | .ringCounts, _, _ => R.ringCounts
  | .ringRxHead, _, _ => R.ringRxHead
  | .ringRxTail, _, _ => R.ringRxTail
  | .ringErrTail, _, _ => R.ringErrTail
  | .ringRemoteCfg, _, _ => R.ringRemoteCfg
  | .ringMembers, i, _ => R.ringMembers i
  | .twinCfg, _, _ => R.twinCfg
  | .twinPartner, _, _ => R.twinPartner
  | .twinSync, _, _ => R.twinSync
  | .twinProgress, _, _ => R.twinProgress
  | .twinCounts, _, _ => R.twinCounts
  | .twinLogHead, _, _ => R.twinLogHead
  | .twinLogTail, _, _ => R.twinLogTail

end Sys2Proof.Machine
end

