-- ==== Sys2Proof/Safety.lean ====
section
/-!
DEFINITION. What a sound state is, and what a frame says, in the terms the statements use: the register file and the window memory
in canonical form, every transferable block in one of the three ownership states of R118; the components of the block, and that a
command changes only some of them.
-/

namespace Sys2Proof.Machine

/-- The register file is in canonical form: rising numbers, no register listed at its reset value. -/
def RegsOk (l : List (Nat × DWord)) : Prop := Sparse.wf regReset l = true

/-- The window memory is in canonical form: rising offsets, no byte listed that reads as an unlisted one. -/
def Memory.wf (l : List Host.Cell) : Bool := Sparse.wf (fun _ => 0#8) l

/-- Every block the host has taken and every RETURNING block is a transferable one, and no block is both (R109, R118). -/
def OwnOk (w : Window) : Prop :=
  (∀ b ∈ w.taken, Chip.transferable b = true) ∧ (∀ r ∈ w.returning, Chip.transferable r.1 = true) ∧
    (∀ r ∈ w.returning, r.1 ∉ w.taken)

/-- The window is sound. -/
def WinOk (w : Window) : Prop := Memory.wf w.mem = true ∧ OwnOk w

/-- The block is sound. -/
def Chip.Ok (c : Chip) : Prop := RegsOk c.regs ∧ WinOk c.win

/-- The invariant that every step keeps. -/
def State.Inv (s : State) : Prop := s.chip.Ok

/-! ## Frames -/

/-- The components of the block, one for each field of `Chip`; of the shared window the fault queue and the ownership are components of
their own. -/
inductive Comp where
  /-- The part. -/
  | part
  /-- The register file. -/
  | regs
  /-- The shared window outside the fault queue, with its check bits, and the host's read latch. -/
  | win
  /-- The fault queue in the window (R445). -/
  | faultQueue
  /-- The ownership of the window's blocks. -/
  | own
  /-- Time and frames. -/
  | tb
  /-- The host bus, commits, mailbox. -/
  | bus
  /-- The published angle set. -/
  | pub
  /-- The angle set of the frame before (R34). -/
  | pubOld
  /-- The interrupt controller. -/
  | irq
  /-- Fault bookkeeping. -/
  | flt
  /-- The journal. -/
  | jnl
  /-- The tooth wheels. -/
  | wheels
  /-- The predictor. -/
  | pred
  /-- The model's own count of free values. -/
  | free
  /-- The scheduler. -/
  | sched
  /-- The outputs. -/
  | outs
  /-- The timers. -/
  | timers
  /-- The converters. -/
  | conv
  /-- The power controller. -/
  | power
  /-- The cipher engine. -/
  | cipher
  /-- The ring node. -/
  | ring
  /-- The twin side. -/
  | twin
  /-- The service port. -/
  | can
  /-- The service tag. -/
  | tag
  /-- The test access port. -/
  | tap
  deriving DecidableEq, Repr

/-- A byte of the window that belongs to the fault queue (R445). -/
def inFaultQueue (off : Nat) : Bool := decide (0x200 ≤ off) && decide (off < 0xA00)

/-- The window's bytes and check bits where `p` holds of the offset, and 0 elsewhere. -/
def Window.part (w : Window) (p : Nat → Bool) : (Nat → Byte) × (Nat → Option EccErr) :=
  (fun o => if p o then Sparse.get (fun _ => 0#8) w.mem o else 0, fun i => if p (2 * i) then Sparse.find? w.ecc i else none)

/-- A component is the same in two blocks. -/
def Comp.same (k : Comp) (c d : Chip) : Prop :=
  match k with
  | .part => d.part = c.part
  | .regs => d.regs = c.regs
  | .win =>
    (d.win.part fun o => !inFaultQueue o, d.win.latchTag, d.win.latch, d.win.rows) =
      (c.win.part fun o => !inFaultQueue o, c.win.latchTag, c.win.latch, c.win.rows)
  | .faultQueue => d.win.part inFaultQueue = c.win.part inFaultQueue
  | .own => (d.win.taken, d.win.returning) = (c.win.taken, c.win.returning)
  | .tb => d.tb = c.tb
  | .bus => d.bus = c.bus
  | .pub => d.pub = c.pub
  | .pubOld => d.pubOld = c.pubOld
  | .irq => d.irq = c.irq
  | .flt => d.flt = c.flt
  | .jnl => d.jnl = c.jnl
  | .wheels => d.wheels = c.wheels
  | .pred => d.pred = c.pred
  | .free => d.free = c.free
  | .sched => d.sched = c.sched
  | .outs => d.outs = c.outs
  | .timers => d.timers = c.timers
  | .conv => d.conv = c.conv
  | .power => d.power = c.power
  | .cipher => d.cipher = c.cipher
  | .ring => d.ring = c.ring
  | .twin => d.twin = c.twin
  | .can => d.can = c.can
  | .tag => d.tag = c.tag
  | .tap => d.tap = c.tap

/-- At most the listed components changed from `c` to `d`; of the others nothing did. -/
def ChangesOnly (l : List Comp) (c d : Chip) : Prop := ∀ k : Comp, k ∉ l → k.same c d

/-- No register but the listed ones changed. -/
def RegsOnly (l : List Nat) (c d : Chip) : Prop := ∀ a, a ∉ l → d.get a = c.get a

/-- No register changed but those of the listed names. -/
def RegsFrom (l : List RegName) (c d : Chip) : Prop := ∀ a, (∀ r ∈ l, ∀ i j, r.addr i j ≠ a) → d.get a = c.get a

/-- The command `i` completes at `s`: `exec` answers a next state with the same queue, whose block satisfies `P`. -/
def Runs (i : Instr) (s : State) (P : Chip → Prop) : Prop :=
  ∃ t, exec i s = .next t ∧ t.pending = s.pending ∧ P t.chip

/-- The command `i` completes at `s` with `P`, and of the block it changes at most the components of `l` and the registers of
`rs`. -/
def RunsIn (i : Instr) (s : State) (l : List Comp) (rs : List Nat) (P : Chip → Prop) : Prop :=
  Runs i s fun d => P d ∧ RegsOnly rs s.chip d ∧ ChangesOnly l s.chip d

/-- The command `i` completes at `s` with `P`, and of the block it changes at most the components of `l` and the registers of the
names in `rs`. -/
def RunsBy (i : Instr) (s : State) (l : List Comp) (rs : List RegName) (P : Chip → Prop) : Prop :=
  Runs i s fun d => P d ∧ RegsFrom rs s.chip d ∧ ChangesOnly l s.chip d

/-- The command `i` completes at `s` and changes nothing. -/
def NoEffect (i : Instr) (s : State) : Prop := Runs i s fun d => d = s.chip

/-- What becomes of the mirror stream when the changes `ps` take effect at one tick: the owner of a pair that mirrors queues them behind
what waits to be sent and counts the group, and any other device leaves the twin side as it is (R585). -/
def Chip.Mirrored (ps : List Packet) (c d : Chip) : Prop :=
  let m := (c.twin.mcount + 1) % 64
  (c.mirrors = false → d.twin = c.twin) ∧
    (c.mirrors = true → d.twin = { c.twin with mcount := m, send := c.twin.send ++ ps ++ [.apply m] })

/-! ## Faults on record -/

/-- The fault queue holds a record of the fault with this code and unit (R445). -/
def Chip.onRecord (c : Chip) (code unit : Nat) : Prop :=
  ∃ k ∈ Chip.slots, c.slotWord k 1 = code ∧ c.slotWord k 2 = unit % 65536

/-- A slot of the fault queue is free (R445). -/
def Chip.hasFreeSlot (c : Chip) : Prop := ∃ k ∈ Chip.slots, c.slotUsed k = false

end Sys2Proof.Machine
end

