-- ==== Sys2Proof/Certificates/Slice0/Obligations.lean ====
section
/-!
DEFINITION. The statements for the provers, one `Prop` each (OBLIGATIONS.json lists them). A frame names the components and registers that a
command may change (Safety); a statement that rests on a choice of the model says so with the log entry.
-/

open Sys2Proof Sys2Proof.Machine

/-! ## The machine -/

/-- A step takes the command at the front of the queue and executes it with the rest of the queue. -/
def Obligations.StepRunsTheFrontCommand : Prop :=
  ∀ (c : Instr) (rest : List Instr) (s : State),
    step { s with pending := c :: rest } = exec c { s with pending := rest }

/-- On an empty queue the block idles (the model's choice: log entry 1). -/
def Obligations.AnEmptyQueueIdles : Prop := ∀ s : State, s.pending = [] → step s = .next s

/-- Right after a power-on reset RESET_CAUSE holds the POR bit alone (R85), every other register reads its reset value as its map
gives it, the window reads zero everywhere with every transferable block DEVICE-owned, and no command waits. The reset values that no
map gives and the contents of memory are the model's choice (log entries 3 and 4). -/
def Obligations.ResetValues : Prop :=
  State.reset.chip.get R.resetCause = 1 ∧ (∀ a, a ≠ R.resetCause → State.reset.chip.get a = regReset a) ∧
    (∀ o, State.reset.chip.winByte o = 0) ∧ (∀ b, b < 496 → State.reset.chip.hostOwned b = false) ∧
    State.reset.chip.busOpen = false ∧ State.reset.pending = []

/-- The invariant holds right after reset. -/
def Obligations.InvAtReset : Prop := State.reset.Inv

/-- Every step keeps the invariant: the register file and the window memory stay in canonical form, and every transferable block
stays in exactly one of the three ownership states of R118. -/
def Obligations.InvKept : Prop := ∀ s t : State, s.Inv → step s = .next t → t.Inv

/-- No command stops the block: whatever the state, every command answers a next state, leaves the commands that wait as they are,
and cannot change which part the device is. -/
def Obligations.EveryCommandCompletes : Prop :=
  ∀ (i : Instr) (s : State), ∃ t, exec i s = .next t ∧ t.pending = s.pending ∧ t.chip.part = s.chip.part

/-! ## Resets (R75, R82, R85, R116, R509) -/

/-- Each reset sets the bit of its cause in RESET_CAUSE and, POR apart, keeps the bits already set; after POR the register holds the
POR bit alone. In OFF the resets of the core domain, which is unpowered, do nothing; SOFT_RESET with the unlock window closed is
counted and resets nothing; without an accepted wake event of RETAIN nothing wakes. -/
def Obligations.ResetsSetTheirCause : Prop :=
  ∀ s : State, s.Inv →
    (∀ sel, Runs (.powerOnReset sel) s fun d => d.get R.resetCause = 1) ∧
    (s.chip.power.isOff = false →
      Runs .brownout s (fun d => d.get R.resetCause = s.chip.get R.resetCause ||| 0x02) ∧
      Runs .pinReset s (fun d => d.get R.resetCause = s.chip.get R.resetCause ||| 0x04) ∧
      Runs .lockstepReset s (fun d => d.get R.resetCause = s.chip.get R.resetCause ||| 0x10) ∧
      Runs .clockLossReset s (fun d => d.get R.resetCause = s.chip.get R.resetCause ||| 0x20) ∧
      Runs .thermalReset s (fun d => d.get R.resetCause = s.chip.get R.resetCause ||| 0x80)) ∧
    (s.chip.busOpen = true → 0 < s.chip.bus.openTicks →
      Runs .softReset s (fun d => d.get R.resetCause = s.chip.get R.resetCause ||| 0x08)) ∧
    (s.chip.fld F.pwrState_STATE = 3 → s.chip.power.wakeCode.isSome = true →
      Runs .retainWake s (fun d => d.get R.resetCause = s.chip.get R.resetCause ||| 0x40)) ∧
    (s.chip.power.isOff = true → ∀ i ∈ [Instr.brownout, .lockstepReset, .clockLossReset, .thermalReset], NoEffect i s) ∧
    (s.chip.busOpen = true → s.chip.bus.openTicks = 0 → RunsIn .softReset s [.regs] [R.devUnlock] fun d =>
      d.fld F.devUnlock_REJECT_COUNT = min 255 (s.chip.fld F.devUnlock_REJECT_COUNT + 1)) ∧
    (s.chip.fld F.pwrState_STATE ≠ 3 ∨ s.chip.power.wakeCode = none → NoEffect .retainWake s)

/-- What every reset leaves: the host bus closed until the first frame tick (R75), the scratch registers cleared (R82), the output stage
inactive (R509), DEV_STATUS at its reset value with READY and SUP_RUN 0; and the window of R116: blocks 0 to 495 cleared but for a wake
from RETAIN, host scratch cleared by POR and BROWNOUT only, the flags back to DEVICE. Nothing changes the part. -/
def Obligations.ResetsClearTheBlock : Prop :=
  let swept (d : Chip) : Prop := d.busOpen = false ∧ d.get R.scratchA = 0 ∧ d.get R.scratchB = 0 ∧ d.outs = {} ∧
    d.get R.devStatus = regReset R.devStatus
  ∀ s : State, s.Inv →
    (∀ sel, Runs (.powerOnReset sel) s fun d =>
      swept d ∧ (∀ o, d.winByte o = 0) ∧ d.win.taken = [] ∧ ChangesOnly [.regs, .win, .tb, .bus, .pub, .pubOld, .irq, .flt, .jnl,
        .wheels, .pred, .sched, .outs, .timers, .conv, .power, .cipher, .ring, .twin, .can, .tag, .tap, .own, .faultQueue] s.chip d) ∧
    (s.chip.power.isOff = false →
      Runs .brownout s (fun d => swept d ∧ (∀ o, d.winByte o = 0) ∧ d.win.taken = []) ∧
      (∀ i ∈ [Instr.pinReset, .lockstepReset, .clockLossReset, .thermalReset], Runs i s fun d =>
        swept d ∧ (∀ o, o < 496 * 256 → d.winByte o = 0) ∧ (∀ o, 496 * 256 ≤ o → d.winByte o = s.chip.winByte o) ∧
          d.win.taken = [])) ∧
    (s.chip.busOpen = true → 0 < s.chip.bus.openTicks → Runs .softReset s fun d =>
      swept d ∧ (∀ o, o < 496 * 256 → d.winByte o = 0) ∧ (∀ o, 496 * 256 ≤ o → d.winByte o = s.chip.winByte o) ∧
        d.win.taken = []) ∧
    (s.chip.fld F.pwrState_STATE = 3 → s.chip.power.wakeCode.isSome = true → Runs .retainWake s fun d =>
      swept d ∧ (∀ o, d.winByte o = s.chip.winByte o) ∧ d.win.taken = s.chip.win.taken ∧
        d.win.returning = s.chip.win.returning)

/-! ## The clock monitor and the debug port (R56, R253, R255, R747) -/

/-- A failed crystal clears XTAL_OK, is counted in CLOCK_MON.FALLBACKS, which saturates, and puts CLOCK_FALLBACK (0x0110) on record; its
return sets XTAL_OK and puts CLOCK_RESTORED (0x0111) on record. A debug halt clears SUP_RUN and nothing else; a resume sets it, after
which the supervisor derives its key again, takes up the display update that the halt held and makes the reset that a service left to it,
and with none of these to do it does nothing else. While the frame tick runs, the crystal's return takes what is left of its 10 ms first.
TEST_PORT_DIS blocks both. -/
def Obligations.ClockMonitorAndDebugPort : Prop :=
  ∀ s : State, s.Inv →
    let supRun (v : DWord) (d : Chip) : Prop := d.get R.devStatus = (s.chip.get R.devStatus &&& ~~~ 4#32) ||| v
    (s.chip.power.isOff = false → s.chip.hasFreeSlot →
      (s.chip.flag F.devStatus_XTAL_OK = true →
        RunsIn .clockFallback s [.regs, .tb, .free, .faultQueue, .irq, .flt, .jnl] [R.devStatus, R.clockMon, R.faultCounts] fun d =>
          d.flag F.devStatus_XTAL_OK = false ∧ d.fld F.clockMon_FALLBACKS = min 255 (s.chip.fld F.clockMon_FALLBACKS + 1) ∧
            d.fld F.devStatus_READY = s.chip.fld F.devStatus_READY ∧ d.onRecord 0x0110 0) ∧
      (s.chip.flag F.devStatus_XTAL_OK = false → s.chip.frameRuns = false ∨ s.chip.tb.qualLeft = 0 →
        RunsIn .clockRestored s [.regs, .tb, .free, .faultQueue, .irq, .flt, .jnl] [R.devStatus, R.clockMon, R.faultCounts] fun d =>
          d.flag F.devStatus_XTAL_OK = true ∧ d.fld F.clockMon_FALLBACKS = s.chip.fld F.clockMon_FALLBACKS ∧
            d.fld F.devStatus_READY = s.chip.fld F.devStatus_READY ∧ d.onRecord 0x0111 0)) ∧
    (s.chip.frameRuns = true → s.chip.tb.qualLeft ≠ 0 → NoEffect .clockRestored s) ∧
    (s.chip.flag F.devControl_TEST_PORT_DIS = false → RunsIn .debugHalt s [.regs] [R.devStatus] (supRun 0)) ∧
    (s.chip.flag F.devControl_TEST_PORT_DIS = false → s.chip.tb.running = true → s.chip.fld F.pwrState_STATE < 3 →
      s.chip.can.resetAfter = false ∨ s.chip.can.out ≠ [] ∨ s.chip.can.tx.isSome = true →
      (RunsIn .debugResume s [.regs, .cipher, .tag] [R.devStatus, R.slotInfo 15, R.tagStatus, R.tagImage] fun d => supRun 4 d) ∧
        (s.chip.tag.ended = false → s.chip.ready = false ∨ (s.chip.keyAt 15).isSome = true →
          RunsIn .debugResume s [.regs] [R.devStatus] (supRun 4))) ∧
    (s.chip.flag F.devControl_TEST_PORT_DIS = false → s.chip.tb.running = true → s.chip.fld F.pwrState_STATE < 3 →
      s.chip.can.resetAfter = true → s.chip.can.out = [] → s.chip.can.tx = none → Runs .debugResume s fun d =>
        d.get R.resetCause = s.chip.get R.resetCause ||| 0x08 ∧ d.busOpen = false) ∧
    (s.chip.flag F.devControl_TEST_PORT_DIS = true → NoEffect .debugHalt s ∧ NoEffect .debugResume s)

/-! ## The unlock window (R79, R80) -/

/-- The three kinds of write to DEV_UNLOCK, and the 100th tick: the first key arms the sequence, and counts as a wrong second key where it
was armed already; the second key opens the window for 100 ticks where the sequence is armed and has no effect where it is not; any other
value disarms and closes, and counts where the sequence was armed. No key closes an open window. The end of the window has its effect at
the last of its ticks and no sooner, so not while the frame tick stands still. While the host bus is closed, none of the writes has an
effect. -/
def Obligations.UnlockKeys : Prop :=
  let counted (c d : Chip) : Prop := d.fld F.devUnlock_REJECT_COUNT =
    (if c.bus.keyArmed then min 255 (c.fld F.devUnlock_REJECT_COUNT + 1) else c.fld F.devUnlock_REJECT_COUNT)
  ∀ s : State, s.Inv →
    (s.chip.busOpen = true →
      RunsIn .unlockFirstKey s [.regs, .bus] [R.devUnlock] (fun d =>
        d.bus = { s.chip.bus with keyArmed := true } ∧ counted s.chip d) ∧
      (s.chip.bus.keyArmed = true → RunsIn .unlockSecondKey s [.regs, .bus] [] fun d =>
        d.bus = { s.chip.bus with keyArmed := false, openTicks := 100 }) ∧
      (s.chip.bus.keyArmed = false → NoEffect .unlockSecondKey s) ∧
      (∀ v : Word, v ≠ 0xC35A → v ≠ 0x3CA5 → RunsIn (.unlockWrongKey v) s [.regs, .bus] [R.devUnlock] fun d =>
        d.bus = { s.chip.bus with keyArmed := false, openTicks := 0 } ∧ counted s.chip d)) ∧
    (s.chip.frameRuns = true → s.chip.bus.openTicks ≤ 1 →
      RunsIn .unlockWindowExpire s [.bus] [] fun d => d.bus = { s.chip.bus with openTicks := 0 }) ∧
    (s.chip.frameRuns = false ∨ 1 < s.chip.bus.openTicks → NoEffect .unlockWindowExpire s) ∧
    (s.chip.busOpen = false →
      NoEffect .unlockFirstKey s ∧ NoEffect .unlockSecondKey s ∧ ∀ v, NoEffect (.unlockWrongKey v) s)

/-! ## The shared window (R112, R115, R125 to R127, R135 to R140) -/

/-- Host writes to the window. A word of a HOST-owned block takes the enabled bytes, every other byte stays, and the read latch lets
go of that word; a 16-bit write repairs a word that holds an error. A byte write reads the word first: a single error is put right in
the other byte and reported as WINDOW_ECC_SINGLE (0x0103), a double error keeps the word as it is and is reported as WINDOW_ECC_DOUBLE
(0x0104). A word of a block that the host does not own stays, and OWN_VIOL_COUNT counts the write, saturating. -/
def Obligations.WindowWrites : Prop :=
  ∀ (s : State) (w : BitVec 16) (data : Word), s.Inv → s.chip.busOpen = true →
    let written (word : Word) (low high : Bool) (d : Chip) : Prop :=
      d.winByte (2 * w.toNat) = (if low then data.setWidth 8 else word.setWidth 8) ∧
        d.winByte (2 * w.toNat + 1) = (if high then (data >>> 8).setWidth 8 else (word >>> 8).setWidth 8) ∧
        Sparse.find? d.win.ecc w.toNat = none ∧
        d.win.latchTag = (if s.chip.win.latchTag = some w.toNat then none else s.chip.win.latchTag)
    let others (d : Chip) : Prop :=
      ∀ o, (o < 0x200 ∨ 0xA00 ≤ o) → o ≠ 2 * w.toNat → o ≠ 2 * w.toNat + 1 → d.winByte o = s.chip.winByte o
    let held : Word := s.chip.winByte (2 * w.toNat + 1) ++ s.chip.winByte (2 * w.toNat)
    let reporting : List Comp := [.regs, .win, .irq, .flt, .jnl, .faultQueue]
    (s.chip.hostOwned (w.toNat / 128) = true →
      (RunsIn (.windowWrite w data true true) s [.win] [] fun d => written held true true d ∧ others d) ∧
      ∀ high : Bool,
        (Sparse.find? s.chip.win.ecc w.toNat = none →
          RunsIn (.windowWrite w data (!high) high) s [.win] [] fun d => written held (!high) high d ∧ others d) ∧
        (s.chip.hasFreeSlot →
          (∀ b, Sparse.find? s.chip.win.ecc w.toNat = some (.single b) →
            RunsIn (.windowWrite w data (!high) high) s reporting [R.faultCounts] fun d =>
              written (held ^^^ (if b.val < 16 then BitVec.ofNat 16 (2 ^ b.val) else 0)) (!high) high d ∧ others d ∧
                d.onRecord 0x0103 w.toNat) ∧
          (∀ b b', Sparse.find? s.chip.win.ecc w.toNat = some (.double b b') →
            RunsIn (.windowWrite w data (!high) high) s [.regs, .irq, .flt, .jnl, .faultQueue] [R.faultCounts] fun d =>
              d.onRecord 0x0104 w.toNat))) ∧
    (s.chip.hostOwned (w.toNat / 128) = false → ∀ be0 be1, (be0 || be1) = true →
      RunsIn (.windowWrite w data be0 be1) s [.regs] [R.ownViolCount] fun d =>
        (d.get R.ownViolCount).toNat % 65536 = min 65535 ((s.chip.get R.ownViolCount).toNat % 65536 + 1)) ∧
    NoEffect (.windowWrite w data false false) s

/-- Host reads of the window: a read at a multiple of 4 answers its word and loads the latch with the next one as it stood (where that
holds no error), a read at 2 mod 4 answers the latch when the tag names it and the array when it does not. A word with a single error is
answered corrected and reported as WINDOW_ECC_SINGLE (0x0103), and outside host scratch written back; one with a double error is answered
as stored and reported as WINDOW_ECC_DOUBLE (0x0104). -/
def Obligations.WindowReads : Prop :=
  ∀ (s : State) (w : BitVec 16), s.Inv → s.chip.busOpen = true →
    let word (n : Nat) : Word := s.chip.winByte (2 * n + 1) ++ s.chip.winByte (2 * n)
    let put (b : Fin 22) (v : Word) : Word := v ^^^ (if b.val < 16 then BitVec.ofNat 16 (2 ^ b.val) else 0)
    let err (n : Nat) : Option EccErr := Sparse.find? s.chip.win.ecc n
    let reporting : List Comp := [.regs, .win, .bus, .irq, .flt, .jnl, .faultQueue]
    let stored (d : Chip) (v : Word) : Prop :=
      (d.winByte (2 * w.toNat + 1) ++ d.winByte (2 * w.toNat) : Word) = v ∧
        ∀ o, (o < 0x200 ∨ 0xA00 ≤ o) → o ≠ 2 * w.toNat → o ≠ 2 * w.toNat + 1 → d.winByte o = s.chip.winByte o
    (w.toNat % 2 = 0 → err w.toNat = none → err (w.toNat + 1) = none →
      Runs (.windowRead w) s fun d =>
        d.bus = { s.chip.bus with read := word w.toNat } ∧
          d.win = { s.chip.win with latchTag := some (w.toNat + 1), latch := word (w.toNat + 1) } ∧
          ChangesOnly [.win, .bus] s.chip d) ∧
    (w.toNat % 2 = 1 → s.chip.win.latchTag = some w.toNat →
      Runs (.windowRead w) s fun d => d = { s.chip with bus := { s.chip.bus with read := s.chip.win.latch } }) ∧
    (w.toNat % 2 = 1 → s.chip.win.latchTag ≠ some w.toNat → err w.toNat = none →
      Runs (.windowRead w) s fun d => d = { s.chip with bus := { s.chip.bus with read := word w.toNat } }) ∧
    (s.chip.hasFreeSlot → 0x500 ≤ w.toNat →
      (w.toNat % 2 = 1 → s.chip.win.latchTag ≠ some w.toNat →
        (∀ b, err w.toNat = some (.single b) → RunsIn (.windowRead w) s reporting [R.faultCounts] fun d =>
          d.bus = { s.chip.bus with read := put b (word w.toNat) } ∧ d.onRecord 0x0103 w.toNat ∧
            stored d (if w.toNat < 496 * 128 then put b (word w.toNat) else word w.toNat)) ∧
        (∀ b b', err w.toNat = some (.double b b') → RunsIn (.windowRead w) s reporting [R.faultCounts] fun d =>
          d.bus = { s.chip.bus with read := word w.toNat } ∧ d.onRecord 0x0104 w.toNat ∧ stored d (word w.toNat))) ∧
      (w.toNat % 2 = 0 → err (w.toNat + 1) = none →
        (∀ b, err w.toNat = some (.single b) → RunsIn (.windowRead w) s reporting [R.faultCounts] fun d =>
          d.bus = { s.chip.bus with read := put b (word w.toNat) } ∧ d.onRecord 0x0103 w.toNat ∧
            d.win.latchTag = some (w.toNat + 1) ∧ d.win.latch = word (w.toNat + 1) ∧
            stored d (if w.toNat < 496 * 128 then put b (word w.toNat) else word w.toNat)) ∧
        (∀ b b', err w.toNat = some (.double b b') → RunsIn (.windowRead w) s reporting [R.faultCounts] fun d =>
          d.bus = { s.chip.bus with read := word w.toNat } ∧ d.onRecord 0x0104 w.toNat ∧
            d.win.latchTag = some (w.toNat + 1) ∧ d.win.latch = word (w.toNat + 1) ∧ stored d (word w.toNat))))

/-- The scrubber: in RUN and IDLE it leaves a word without an error alone, puts a single error right and reports it as WINDOW_ECC_SINGLE
(0x0103), and reports a double error as WINDOW_ECC_DOUBLE (0x0104), leaving the word as it is; host scratch it never reads. Words of the
fault queue, in which the report itself is written, are left out of what is said of bytes. -/
def Obligations.ScrubberReads : Prop :=
  ∀ (s : State) (w : BitVec 16), s.Inv →
    (s.chip.frameRuns = false → NoEffect (.scrubberRead w) s) ∧
    (s.chip.frameRuns = true →
      (Sparse.find? s.chip.win.ecc w.toNat = none ∨ 496 * 128 ≤ w.toNat → NoEffect (.scrubberRead w) s) ∧
      (∀ b, s.chip.hasFreeSlot → w.toNat < 496 * 128 → (2 * w.toNat < 0x200 ∨ 0xA00 ≤ 2 * w.toNat) →
        Sparse.find? s.chip.win.ecc w.toNat = some (.single b) →
        RunsIn (.scrubberRead w) s [.regs, .win, .faultQueue, .irq, .flt, .jnl] [R.faultCounts] fun d =>
          d.win16 (2 * w.toNat) = (s.chip.win16 (2 * w.toNat)) ^^^ (if b.val < 16 then 2 ^ b.val else 0) ∧
            Sparse.find? d.win.ecc w.toNat = none ∧
            (∀ o, (o < 0x200 ∨ 0xA00 ≤ o) → o ≠ 2 * w.toNat → o ≠ 2 * w.toNat + 1 → d.winByte o = s.chip.winByte o) ∧
            d.onRecord 0x0103 w.toNat) ∧
      (∀ b b', s.chip.hasFreeSlot → w.toNat < 496 * 128 → Sparse.find? s.chip.win.ecc w.toNat = some (.double b b') →
        RunsIn (.scrubberRead w) s [.regs, .faultQueue, .irq, .flt, .jnl] [R.faultCounts] fun d => d.onRecord 0x0104 w.toNat))

/-! ## Ownership (R118 to R122) -/

/-- The table of R118 for both requests, with R119 and R120: which state a block is in afterwards and what OWN_STATUS then shows. No
request changes the state of another block, and none stores a byte. -/
def Obligations.OwnershipRequests : Prop :=
  let shows (d : Chip) (b r : Nat) : Prop :=
    d.fld F.ownStatus_BLOCK = b ∧ d.fld F.ownStatus_RESULT = r ∧ d.flag F.ownStatus_OWNER = d.hostOwned b
  let others (c d : Chip) (b : Nat) : Prop :=
    ∀ b', b' ≠ b → d.hostOwned b' = c.hostOwned b' ∧ d.isReturning b' = c.isReturning b'
  ∀ (s : State) (b : Fin 512), s.Inv → s.chip.busOpen = true →
    let keeps (i : Instr) (r : Nat) : Prop := RunsIn i s [.regs] [R.ownStatus] fun d => shows d b.val r
    (Chip.transferable b.val = true → s.chip.hostOwned b.val = false → s.chip.takeRefused b.val = false →
      RunsIn (.blockTake b) s [.regs, .own, .wheels, .sched] [R.ownStatus] fun d =>
        (b.val < 26 ∨ 29 < b.val → d.wheels = s.chip.wheels) ∧ (b.val < 32 ∨ 159 < b.val → d.sched = s.chip.sched) ∧
        d.hostOwned b.val = true ∧ d.isReturning b.val = false ∧ others s.chip d b.val ∧ shows d b.val 2) ∧
    (s.chip.hostOwned b.val = true → keeps (.blockTake b) 2) ∧
    (Chip.transferable b.val = false → b.val < 496 → keeps (.blockTake b) 3) ∧
    (Chip.transferable b.val = true → s.chip.hostOwned b.val = false → s.chip.takeRefused b.val = true → keeps (.blockTake b) 3) ∧
    ∀ phaseG,
      (Chip.transferable b.val = true → s.chip.hostOwned b.val = true →
        RunsIn (.blockReturn b phaseG) s [.regs, .own] [R.ownStatus] fun d =>
          d.hostOwned b.val = false ∧ d.isReturning b.val = true ∧ others s.chip d b.val ∧ shows d b.val 1) ∧
      (Chip.transferable b.val = true → s.chip.hostOwned b.val = false →
        keeps (.blockReturn b phaseG) (if s.chip.isReturning b.val then 1 else 2)) ∧
      (Chip.transferable b.val = false → b.val < 496 → keeps (.blockReturn b phaseG) 2) ∧
      (496 ≤ b.val → keeps (.blockReturn b phaseG) 3)

/-- At a frame tick the blocks whose return tick it is leave RETURNING, and no other block does; the host's blocks stay the host's. -/
def Obligations.ReturnsEndAtTheirTick : Prop :=
  ∀ s : State, s.Inv → s.chip.frameRuns = true → Runs .blockReturnTakeEffect s fun d =>
    (∀ b, d.isReturning b = (s.chip.isReturning b && !s.chip.win.returning.contains (b, 1))) ∧
      d.win.taken = s.chip.win.taken ∧
      (∀ b n, (b, n) ∈ d.win.returning → (b, n + 1) ∈ s.chip.win.returning ∨ (n = 0 ∧ (b, 0) ∈ s.chip.win.returning)) ∧
      ChangesOnly [.regs, .win, .faultQueue, .own, .irq, .flt, .jnl, .wheels, .pred, .free, .sched, .twin] s.chip d

/-! ## Registers that latch, and registers that a read clears (R22, R77, R86) -/

/-- The reads of R86 answer their half and latch the rest of the same published set, ANGLE_L's the set of the frame before in the first
240 ns of a frame (R34); a read of an RC register answers it and clears it;
TIME_SNAPSHOT captures epoch, ring time and FRAME_COUNT of the instant the write arrives. -/
def Obligations.LatchingAndClearingReads : Prop :=
  ∀ s : State, s.Inv → s.chip.busOpen = true →
    (∀ steps : Fin 401, let set := if steps.val < 96 then s.chip.pubOld else s.chip.pub
      RunsIn (.angleLRead steps) s [.regs, .bus] [R.angleH, R.speed, R.syncStatus] fun d =>
        d.bus = { s.chip.bus with read := BitVec.ofNat 16 set.angle } ∧
          d.get R.angleH = BitVec.ofNat 32 (set.sigma * 256 + set.angle / 65536) ∧
          d.get R.speed = BitVec.ofNat 32 set.speed ∧ d.get R.syncStatus = BitVec.ofNat 32 set.sync) ∧
    RunsIn .frameCountLRead s [.regs, .bus] [R.frameCountH] (fun d =>
      d.bus = { s.chip.bus with read := s.chip.tb.frame.setWidth 16 } ∧
        d.get R.frameCountH = (s.chip.tb.frame >>> 16)) ∧
    RunsIn .ownViolCountRead s [.regs, .bus] [R.ownViolCount] (fun d =>
      d.bus = { s.chip.bus with read := (s.chip.get R.ownViolCount).setWidth 16 } ∧ d.get R.ownViolCount = 0) ∧
    RunsIn .irqAnomalyCountRead s [.regs, .bus] [R.irqAnomalyCount] (fun d =>
      d.bus = { s.chip.bus with read := (s.chip.get R.irqAnomalyCount).setWidth 16 } ∧ d.get R.irqAnomalyCount = 0) ∧
    ∀ steps : Fin 401,
      RunsIn (.timeSnapshot steps) s [.regs, .tb] [R.ringCapTimeL, R.ringCapTimeH, R.ringCapEpoch, R.ringCapFrame] fun d =>
        let t := s.chip.tb.time + BitVec.ofNat 64 (steps.val * 5 / 2)
        d.tb = { s.chip.tb with now := steps.val } ∧ d.get R.ringCapTimeL = t.setWidth 32 ∧
          d.get R.ringCapTimeH = (t >>> 32).setWidth 32 ∧ d.get R.ringCapEpoch = s.chip.tb.epoch.setWidth 32 ∧
          d.get R.ringCapFrame = s.chip.tb.frame

/-- Until the first frame tick after a reset, and in RETAIN and OFF, the host bus serves nothing (R75, R76): a read answers 0x0000 and
has no other effect, and a write has none; in RETAIN PWR_STATE alone is still read. -/
def Obligations.AClosedBusServesNothing : Prop :=
  ∀ s : State, s.Inv → s.chip.busOpen = false →
    (∀ a, a ≠ R.pwrState ∨ s.chip.fld F.pwrState_STATE ≠ 3 ∨ s.chip.power.isOff = true → s.chip.busView a = 0) ∧
    (s.chip.fld F.pwrState_STATE = 3 → s.chip.power.isOff = false → s.chip.busView R.pwrState = s.chip.view R.pwrState) ∧
    (∀ steps, Runs (.angleLRead steps) s fun d => d = { s.chip with bus := { s.chip.bus with read := 0 } }) ∧
    (∀ i ∈ [Instr.frameCountLRead, .portRead, .ownViolCountRead, .irqAnomalyCountRead, .irqClaim .a, .irqClaim .b],
      Runs i s fun d => d = { s.chip with bus := { s.chip.bus with read := 0 } }) ∧
    (∀ w, Runs (.windowRead w) s fun d => d = { s.chip with bus := { s.chip.bus with read := 0 } }) ∧
    (∀ i ∈ [Instr.softReset, .forceF3, .testPortDisable, .mbxDoorbell, .insertEnable, .ringLeave], NoEffect i s) ∧
    (∀ w v b0 b1, NoEffect (.windowWrite w v b0 b1) s) ∧ (∀ b g, NoEffect (.blockTake b) s ∧ NoEffect (.blockReturn b g) s) ∧
    (∀ v g, NoEffect (.portCommit v g) s ∧ NoEffect (.remoteWritePost v g) s ∧ NoEffect (.schedControlWrite v g) s ∧
      NoEffect (.invalBlock v g) s) ∧
    (∀ v, NoEffect (.portDataLWrite v) s ∧ NoEffect (.ringAddrWrite v) s ∧ NoEffect (.faultAck v) s ∧ NoEffect (.irqSetPend v) s ∧
      NoEffect (.wdtKick v) s ∧ ∀ x, NoEffect (.irqComplete x v) s) ∧
    (∀ g, NoEffect (.armRequest g) s ∧ NoEffect (.disarmRequest g) s) ∧ (∀ x, NoEffect (.watchdogEnable x) s) ∧
    ∀ e g, NoEffect (.twinEnable e g) s ∧ NoEffect (.twinIsolate e g) s ∧ NoEffect (.twinRejoin e g) s ∧
      NoEffect (.foundingClaim e g) s ∧ NoEffect (.plannedHandover e g) s

/-! ## The port (R91 to R103) -/

/-- A write of PORT_DATA_L is held, and nothing else happens. A local commit is refused with cause 4, 1 or 2 as R95 and R96 say, and
then sets PORT_ERR with the cause and waits nowhere, unless only some of the fields it writes are read-only: then it sets PORT_ERR and
goes on with the others. A commit to a register that the LB8612 does not have is ignored. A commit that goes on carries {written half,
held half} to the extended address, and waits for the frame tick (R43), for a commit edge of the timers, or for the supervisor or the
block it is for (R46), or is stored at once in the interrupt region. -/
def Obligations.PortCommits : Prop :=
  ∀ s : State, s.Inv → s.chip.busOpen = true →
    let c := s.chip
    let a := c.portAddr % 2 ^ 23
    let ticks (phaseG : Bool) : Nat := if phaseG && c.frameRuns then 2 else 1
    (∀ v, RunsIn (.portDataLWrite v) s [.regs] [R.portDataL] fun d => d.get R.portDataL = v.setWidth 32) ∧
    (bitOf c.portAddr 31 = false ∨ bitsOf c.portAddr 30 23 = c.node → ∀ hi phaseG,
      let v := BitVec.ofNat 32 (hi.toNat * 65536 + (c.get R.portDataL).toNat)
      let late := Chip.lateRegion a && !c.ready
      let refused (k : Nat) : Prop := RunsIn (.portCommit hi phaseG) s [.regs] [R.devStatus] fun d =>
        d.flag F.devStatus_PORT_ERR = true ∧ d.fld F.devStatus_PORT_ERR_CAUSE = k
      (late = true → refused 4) ∧ (late = false → Chip.extRow? a = none → refused 1) ∧
      (late = false → c.absent a = true → NoEffect (.portCommit hi phaseG) s) ∧
      ∀ r, late = false → Chip.extRow? a = some r → c.absent a = false →
        (r.rw ||| r.w1c ||| r.wo = 0 → refused 2) ∧
        (r.rw ||| r.w1c ||| r.wo ≠ 0 → c.ruleRefuses a v.toNat = true → refused 2) ∧
        (r.rw ||| r.w1c ||| r.wo ≠ 0 → c.ruleRefuses a v.toNat = false →
          let told (d : Chip) : Prop :=
            (v &&& (r.ro ||| r.rc) = 0 → d.get R.devStatus = c.get R.devStatus) ∧
              (v &&& (r.ro ||| r.rc) ≠ 0 → d.flag F.devStatus_PORT_ERR = true ∧ d.fld F.devStatus_PORT_ERR_CAUSE = 2)
          let waits (b : Bus) : Prop := RunsIn (.portCommit hi phaseG) s [.regs, .bus] [R.devStatus] fun d => d.bus = b ∧ told d
          let stored : Prop := RunsIn (.portCommit hi phaseG) s [.regs, .irq] [R.devStatus, a] fun d =>
            d.get a = ((c.get a &&& ~~~ r.rw) ||| (v &&& r.rw)) &&& ~~~ (v &&& r.w1c) ∧ d.irq.pend = c.irq.pend ∧ told d
          let boost := a = R.boostCtrl ∨ a = R.boostStatus
          (regionOf a ∈ [2, 3, 4, 10, 13] ∨ boost → waits
            { c.bus with commits := c.bus.commits ++ [{ addr := a, value := v, wait := ticks phaseG }] }) ∧
          (regionOf a = 1 → waits { c.bus with timerCommits := c.bus.timerCommits ++ [(a, v)] }) ∧
          (regionOf a ∈ [6, 7, 8, 9, 12] → ¬ boost → waits { c.bus with supCommits := c.bus.supCommits ++ [(a, v)] }) ∧
          (regionOf a = 5 → a ≠ R.irqPendClrL → a ≠ R.irqPendClrH → stored)))

/-- A posted remote write takes the next tag, shows it in LAST_TAG and, where the transmit queue has room, waits there with its target,
address and data; a full queue refuses it, which is logged under its tag with reason 7 and raises source 55; a node that is not inserted
refuses it with cause 5 and no tag. -/
def Obligations.RemoteWrites : Prop :=
  ∀ (s : State) (hi : Word) (phaseG : Bool), s.Inv → s.chip.busOpen = true →
    let c := s.chip
    bitOf c.portAddr 31 = true → bitsOf c.portAddr 30 23 ≠ c.node →
      (c.link ≠ 3 → RunsIn (.remoteWritePost hi phaseG) s [.regs, .irq] [R.devStatus] fun d =>
        d.flag F.devStatus_PORT_ERR = true ∧ d.fld F.devStatus_PORT_ERR_CAUSE = 5) ∧
      (c.link = 3 → c.ring.tx.length < 32 →
        RunsIn (.remoteWritePost hi phaseG) s [.regs, .bus, .ring, .irq] [R.devStatus, R.remoteErr] fun d =>
          d.bus = { c.bus with nextTag := c.bus.nextTag + 1 } ∧ d.fld F.remoteErr_LAST_TAG = c.bus.nextTag.toNat ∧
            d.ring.tx.length = c.ring.tx.length + 1 ∧
            d.ring.writes.getLast? = some { target := bitsOf c.portAddr 30 23, tag := c.bus.nextTag.toNat, pseq := 0
                                            addr := c.portAddr % 2 ^ 23
                                            data := BitVec.ofNat 32 (hi.toNat * 65536 + (c.get R.portDataL).toNat) }) ∧
      (c.link = 3 → 32 ≤ c.ring.tx.length →
        RunsIn (.remoteWritePost hi phaseG) s [.regs, .win, .bus, .ring, .irq] [R.devStatus, R.remoteErr, R.ringCounts] fun d =>
          let log := 0x1D000 + 256 * c.fld F.remoteErr_HEAD
          d.bus = { c.bus with nextTag := c.bus.nextTag + 1 } ∧ d.fld F.remoteErr_LAST_TAG = c.bus.nextTag.toNat ∧
            d.ring.tx = c.ring.tx ∧ d.ring.writes = c.ring.writes ∧ d.irq.pend.getLsbD 55 = true ∧
            d.win16 (log + 2) = 256 * c.bus.nextTag.toNat + 7 ∧ d.win16 (log + 4) / 256 = bitsOf c.portAddr 30 23)

/-- A port read answers the low half of the register, latches the high half and clears the register's RC bits, CACHE_STATUS.PEAK
beginning again at OCCUPANCY (R306); a remote address, a
region that waits for READY and an unimplemented address answer and latch 0x0000 and set PORT_ERR with cause 3, 4 and 1. -/
def Obligations.PortReads : Prop :=
  ∀ s : State, s.Inv → s.chip.busOpen = true →
    let c := s.chip
    let a := c.portAddr % 2 ^ 23
    let late := Chip.lateRegion a && !c.ready
    let refused (k : Nat) : Prop := RunsIn .portRead s [.regs, .bus] [R.portDataH, R.devStatus] fun d =>
      d.bus = { c.bus with read := 0 } ∧ d.get R.portDataH = 0 ∧ d.flag F.devStatus_PORT_ERR = true ∧
        d.fld F.devStatus_PORT_ERR_CAUSE = k
    (bitOf c.portAddr 31 = true → refused 3) ∧ (bitOf c.portAddr 31 = false →
      (late = true → refused 4) ∧ (late = false → Chip.extRow? a = none → refused 1) ∧
      ∀ r, late = false → Chip.extRow? a = some r → RunsIn .portRead s [.regs, .bus] [R.portDataH, a] fun d =>
        d.bus = { c.bus with read := BitVec.ofNat 16 (c.view a % 65536) } ∧
          d.get R.portDataH = BitVec.ofNat 32 (c.view a / 65536) ∧
          (a ≠ R.cacheStatus → d.get a = c.get a &&& ~~~ r.rc) ∧
          (a = R.cacheStatus → d.fld F.cacheStatus_PEAK = c.fld F.cacheStatus_OCCUPANCY ∧
            d.fld F.cacheStatus_OCCUPANCY = c.fld F.cacheStatus_OCCUPANCY))

/-! ## Writes that a frame tick takes in, and the arming request (R43, R79, R83, R276, R301, R335, R338, R580, R592, R594) -/

/-- Writes of direct registers that the pipeline reads at a frame tick wait for it: one tick, or two where they arrive in phase G of a
running frame. A block outside 10 to 159 is ignored. HANDOVER is protected: with the unlock window open it waits with the rest of the
write and closes the window, with the window closed it is left out and counted. An arming request waits likewise, and a disarming request
needs no unlock. -/
def Obligations.WritesThatWaitForATick : Prop :=
  ∀ (s : State) (g : Bool), s.Inv → s.chip.busOpen = true →
    let wait : Nat := if g && s.chip.frameRuns then 2 else 1
    let waits (i : Instr) (a : Nat) (v : DWord) : Prop := RunsIn i s [.bus] [] fun d =>
      d.bus = { s.chip.bus with commits := s.chip.bus.commits ++ [{ addr := a, value := v, wait := wait }] }
    let rejected : Nat := min 255 (s.chip.fld F.devUnlock_REJECT_COUNT + 1)
    (∀ data, waits (.schedControlWrite data g) R.schedControl (data.setWidth 32)) ∧
    (∀ data : Word, 10 ≤ data.toNat % 512 → data.toNat % 512 ≤ 159 →
      waits (.invalBlock data g) R.invalBlock (BitVec.ofNat 32 (data.toNat % 512))) ∧
    (∀ data : Word, data.toNat % 512 < 10 ∨ 159 < data.toNat % 512 → NoEffect (.invalBlock data g) s) ∧
    (∀ en : Bool, let e : DWord := if en then 1 else 0
      waits (.twinEnable en g) R.twinControl e ∧ waits (.twinRejoin en g) R.twinControl (4 + e) ∧
        waits (.twinIsolate en g) R.twinControl (8 + e) ∧
        ∀ i ∈ [Instr.foundingClaim en g, .plannedHandover en g],
          (0 < s.chip.bus.openTicks → RunsIn i s [.bus] [] fun d =>
            d.bus = { s.chip.bus with openTicks := 0
                                      commits := s.chip.bus.commits ++ [{ addr := R.twinControl, value := 2 + e, wait := wait }] }) ∧
          (s.chip.bus.openTicks = 0 → RunsIn i s [.bus, .regs] [R.devUnlock] fun d =>
            d.fld F.devUnlock_REJECT_COUNT = rejected ∧
              d.bus = { s.chip.bus with commits := s.chip.bus.commits ++ [{ addr := R.twinControl, value := e, wait := wait }] })) ∧
    (0 < s.chip.bus.openTicks →
      RunsIn (.armRequest g) s [.regs, .bus, .outs] [R.safeControl] fun d =>
        d.outs = { s.chip.outs with armWait := s.chip.outs.armWait ++ [wait] } ∧ d.bus = { s.chip.bus with openTicks := 0 } ∧
          d.fld F.safeControl_WDT_WINDOW = s.chip.fld F.safeControl_WDT_WINDOW ∧
          d.fld F.safeControl_WDT_EN = s.chip.fld F.safeControl_WDT_EN) ∧
    (s.chip.bus.openTicks = 0 →
      RunsIn (.armRequest g) s [.regs] [R.devUnlock] fun d =>
        d.fld F.devUnlock_REJECT_COUNT = rejected) ∧
    RunsIn (.disarmRequest g) s [.outs] [] fun d => d.outs = { s.chip.outs with disarmWait := s.chip.outs.disarmWait ++ [wait] }

/-! ## Safe stops and the watchdog (R50, R341, R342, R450, R457 to R464, R668) -/

/-- A safe stop sets the latch, disarms, and leaves no gate of the output stage driven to its active level. The fall of SAFE_N, FORCE_F3
and eight overrun frames in a row cause one and are put on record. The rise of SAFE_N ends the standing condition. In OFF, which has no
fault manager, only the level of SAFE_N is noted. -/
def Obligations.SafeStops : Prop :=
  let stopped (d : Chip) : Prop :=
    d.flag F.outStatus_SAFE_LATCH = true ∧ d.flag F.outStatus_ARMED = false ∧ (∀ k, d.lowSideOn k = false) ∧
      (∀ n, d.boostSwitchOn n = false ∧ d.batterySwitchOn n = false) ∧ (∀ v, d.valvePin v = false) ∧ ∀ k, d.tioPin k = false
  let regs : List RegName := [.devStatus, .schedStatus, .outStatus, .bankStatus, .injDiag, .faultCounts, .cntOrphaned, .cntWithheld]
  ∀ s : State, s.Inv → s.chip.hasFreeSlot →
    (s.chip.power.isOff = true → ∀ i ∈ [Instr.safeNFall, .safeNRise], RunsIn i s [.flt] [] fun d =>
      d.flt = { s.chip.flt with safeN := decide (i = .safeNRise) }) ∧
    (s.chip.power.isOff = false → s.chip.flt.safeN = true → RunsBy .safeNFall s [.regs, .win, .irq, .flt, .jnl, .sched, .outs, .faultQueue] regs fun d =>
      stopped d ∧ d.flt.safeN = false ∧ d.onRecord 0x0105 0) ∧
    (s.chip.power.isOff = false → s.chip.flt.safeN = false → RunsBy .safeNRise s [.flt, .faultQueue] [] fun d =>
      d.flt = { s.chip.flt with safeN := true } ∧
        ∀ k ∈ Chip.slots, s.chip.slotWord k 1 = 0x0105 → s.chip.slotWord k 2 = 0 →
          (∀ j ∈ Chip.slots, s.chip.slotWord j 1 = 0x0105 → s.chip.slotWord j 2 = 0 → j = k) → d.slotStanding k = false) ∧
    (s.chip.busOpen = true →
      RunsBy .forceF3 s [.regs, .win, .irq, .flt, .jnl, .sched, .outs, .power, .twin, .faultQueue]
        (regs ++ [.twinStatus, .twinProgress, .twinLogHead]) fun d => stopped d ∧ d.onRecord 0x0107 0) ∧
    (s.chip.frameRuns = true → s.chip.tb.overrunRun < 8 →
      RunsBy .frameOverrunPersist s [.regs, .win, .tb, .irq, .flt, .jnl, .sched, .outs, .power, .twin, .faultQueue]
        (regs ++ [.twinStatus, .twinProgress, .twinLogHead]) fun d =>
          stopped d ∧ d.onRecord 0x0102 0 ∧ d.tb = { s.chip.tb with overrunRun := 8 })

/-- The host watchdog: a kick of the expected value restarts the window and makes the other value the expected one; any other value, and
the end of the window within the running frame, expire it, which is a safe stop on record with service forwarding off, and the watchdog
runs on from 0x5AA5; while it is off, or pauses in WATCH and RETAIN and until the first tick after them, its window does not end, and
while it is off a kick does nothing. It is switched on, with its window, only through the unlock window. -/
def Obligations.Watchdog : Prop :=
  ∀ s : State, s.Inv →
    let expired (i : Instr) : Prop :=
      RunsBy i s [.regs, .win, .irq, .flt, .jnl, .sched, .outs, .power, .twin, .faultQueue] [.devStatus, .schedStatus, .twinStatus,
          .outStatus, .bankStatus, .injDiag, .faultCounts, .canDiagCfg, .cntOrphaned, .cntWithheld, .twinProgress, .twinLogHead] fun d =>
        d.flag F.outStatus_SAFE_LATCH = true ∧ d.flag F.outStatus_ARMED = false ∧ d.onRecord 0x0106 0 ∧
          d.flt.wdtExpired = true ∧ d.flt.wdtExpect = 0x5AA5 ∧
          d.flt.wdtLeft = min 100 (max 1 (s.chip.fld F.safeControl_WDT_WINDOW)) * 200000 ∧ d.flag F.canDiagCfg_FWD_EN = false
    (s.chip.flag F.safeControl_WDT_EN = true → s.chip.fld F.pwrState_STATE < 2 → s.chip.power.woke = false →
      (s.chip.flt.wdtLeft ≤ s.chip.tb.length → s.chip.hasFreeSlot → expired .watchdogExpired) ∧
        (s.chip.tb.length < s.chip.flt.wdtLeft → NoEffect .watchdogExpired s)) ∧
    (s.chip.flag F.safeControl_WDT_EN = false ∨ 2 ≤ s.chip.fld F.pwrState_STATE ∨ s.chip.power.woke = true →
      NoEffect .watchdogExpired s) ∧
    (s.chip.busOpen = true →
      (∀ v, s.chip.flag F.safeControl_WDT_EN = false → NoEffect (.wdtKick v) s) ∧
      (∀ v, s.chip.flag F.safeControl_WDT_EN = true → v ≠ s.chip.flt.wdtExpect → s.chip.hasFreeSlot → expired (.wdtKick v)) ∧
      (s.chip.flag F.safeControl_WDT_EN = true → RunsIn (.wdtKick s.chip.flt.wdtExpect) s [.flt] [] fun d =>
        d.flt = { s.chip.flt with wdtExpect := if s.chip.flt.wdtExpect = 0x5AA5 then 0xA55A else 0x5AA5
                                  wdtLeft := min 100 (max 1 (s.chip.fld F.safeControl_WDT_WINDOW)) * 200000 }) ∧
      ∀ window : BitVec 7,
        (s.chip.flag F.safeControl_WDT_EN = false → 0 < s.chip.bus.openTicks →
          RunsIn (.watchdogEnable window) s [.regs, .bus, .flt] [R.safeControl] fun d =>
            d.flag F.safeControl_WDT_EN = true ∧ d.fld F.safeControl_WDT_WINDOW = window.toNat ∧
              d.bus = { s.chip.bus with openTicks := 0 } ∧
              d.flt = { s.chip.flt with wdtExpect := 0x5AA5, wdtLeft := min 100 (max 1 window.toNat) * 200000 }) ∧
        (s.chip.flag F.safeControl_WDT_EN = false → s.chip.bus.openTicks = 0 →
          RunsIn (.watchdogEnable window) s [.regs] [R.devUnlock] fun d =>
            d.fld F.devUnlock_REJECT_COUNT = min 255 (s.chip.fld F.devUnlock_REJECT_COUNT + 1)) ∧
        (s.chip.flag F.safeControl_WDT_EN = true → NoEffect (.watchdogEnable window) s))

/-! ## Interrupts (R6, R429 to R439) -/

/-- A claim answers, of the eligible sources of its target, the one of the highest PRIO and among those of the lowest number; the source
stops being pending and becomes active for the target. With none eligible it answers 63 and counts a spurious claim when the pin has
been asserted since the last claim of the target, and 0 otherwise. A completion ends an active source, and one that is not active is
counted; 0 and 63 name no source. IRQ_SET_PEND sets a pending bit and a commit of IRQ_PEND_CLR clears those of its mask. -/
def Obligations.InterruptClaims : Prop :=
  ∀ (s : State) (x : HostTarget), s.Inv →
    let c := s.chip
    let n : Nat := match x with
      | .a => 0
      | .b => 1
    let act (q : Irq) : BitVec 64 := match x with
      | .a => q.actA
      | .b => q.actB
    let pin : Bool := match x with
      | .a => c.irq.seenA || c.pinA
      | .b => c.irq.seenB || c.pinB
    (c.busOpen = true →
      (∀ k, 1 ≤ k → k ≤ 62 → c.eligible n k = true →
        (∀ j, 1 ≤ j → j ≤ 62 → c.eligible n j = true →
          c.fld (F.irqSrc_PRIO j) < c.fld (F.irqSrc_PRIO k) ∨ (c.fld (F.irqSrc_PRIO j) = c.fld (F.irqSrc_PRIO k) ∧ k ≤ j)) →
        RunsIn (.irqClaim x) s [.bus, .irq] [] fun d =>
          d.bus = { c.bus with read := BitVec.ofNat 16 k } ∧
            d.irq.pend = c.irq.pend &&& ~~~ (BitVec.ofNat 64 (2 ^ k)) ∧ act d.irq = act c.irq ||| BitVec.ofNat 64 (2 ^ k) ∧
            d.irq.actS = c.irq.actS) ∧
      ((∀ j, 1 ≤ j → j ≤ 62 → c.eligible n j = false) →
        (pin = true → RunsIn (.irqClaim x) s [.regs, .bus, .irq] [R.irqAnomalyCount] fun d =>
          d.bus = { c.bus with read := 63 } ∧
            d.fld F.irqAnomalyCount_SPURIOUS = min 255 (c.fld F.irqAnomalyCount_SPURIOUS + 1) ∧
            d.irq.pend = c.irq.pend ∧ act d.irq = act c.irq ∧ d.irq.actS = c.irq.actS) ∧
        (pin = false → RunsIn (.irqClaim x) s [.bus, .irq] [] fun d =>
          d.bus = { c.bus with read := 0 } ∧ d.irq.pend = c.irq.pend ∧ act d.irq = act c.irq ∧ d.irq.actS = c.irq.actS)) ∧
      (∀ v : Word, let k := v.toNat % 64
        (k = 0 ∨ k = 63 → NoEffect (.irqComplete x v) s ∧ NoEffect (.irqSetPend v) s) ∧
        (k ≠ 0 → k ≠ 63 → Chip.srcBit (act c.irq) k = true → RunsIn (.irqComplete x v) s [.irq] [] fun d =>
          act d.irq = act c.irq &&& ~~~ (BitVec.ofNat 64 (2 ^ k)) ∧ d.irq.pend = c.irq.pend ∧ d.irq.actS = c.irq.actS) ∧
        (k ≠ 0 → k ≠ 63 → Chip.srcBit (act c.irq) k = false → RunsIn (.irqComplete x v) s [.regs] [R.irqAnomalyCount] fun d =>
          d.fld F.irqAnomalyCount_BAD_COMPLETE = min 255 (c.fld F.irqAnomalyCount_BAD_COMPLETE + 1)) ∧
        (k ≠ 0 → k ≠ 63 → ¬ (c.part = .lb8612 ∧ 12 ≤ k ∧ k ≤ 14) → RunsIn (.irqSetPend v) s [.irq] [] fun d =>
          d.irq.pend = c.irq.pend ||| BitVec.ofNat 64 (2 ^ k) ∧ d.irq.actA = c.irq.actA ∧ d.irq.actB = c.irq.actB ∧
            d.irq.actS = c.irq.actS))) ∧
    ∀ (high : Bool) (mask : DWord), RunsIn (.irqPendClr high mask) s [.irq] [] fun d =>
      d.irq = { c.irq with pend := c.irq.pend &&&
        ~~~ (BitVec.ofNat 64 (if high then mask.toNat % 2 ^ 31 * 2 ^ 32 else mask.toNat - mask.toNat % 2)) }

/-- The supervisor, while it runs, claims of its own eligible sources the one of the highest PRIO and the lowest number: its pending
bit is cleared, it is complete at once, and the first claim of a second is journaled as SOURCE_EVENT with count 1 while the others are
merged and counted. A second later
merged claims are journaled with their number, and a source with none merged is free again. -/
def Obligations.SupervisorClaims : Prop :=
  ∀ s : State, s.Inv → s.chip.supRuns = true →
    let c := s.chip
    (∀ k, 1 ≤ k → k ≤ 62 → c.eligible 2 k = true →
      (∀ j, 1 ≤ j → j ≤ 62 → c.eligible 2 j = true →
        c.fld (F.irqSrc_PRIO j) < c.fld (F.irqSrc_PRIO k) ∨ (c.fld (F.irqSrc_PRIO j) = c.fld (F.irqSrc_PRIO k) ∧ k ≤ j)) →
      RunsIn .supSourceClaim s [.irq, .jnl] [] fun d =>
        d.irq.pend = c.irq.pend &&& ~~~ (BitVec.ofNat 64 (2 ^ k)) ∧
          d.irq.actA = c.irq.actA ∧ d.irq.actB = c.irq.actB ∧ d.irq.actS = c.irq.actS ∧
          ((∀ e ∈ c.irq.supEvents, e.1 ≠ k) →
            d.irq.supEvents = c.irq.supEvents ++ [(k, 0)] ∧
              d.jnl = { c.jnl with waiting := c.jnl.waiting ++ [{ kind := 6, code := BitVec.ofNat 16 k, detail := 1, frame := c.tb.frame }] }) ∧
          ∀ l r n, c.irq.supEvents = l ++ (k, n) :: r → (∀ e ∈ l, e.1 ≠ k) →
            d.irq.supEvents = l ++ (k, n + 1) :: r ∧ d.jnl = c.jnl) ∧
    ((∀ j, 1 ≤ j → j ≤ 62 → c.eligible 2 j = false) → NoEffect .supSourceClaim s) ∧
    ∀ x : Fin 64,
      ((∀ e ∈ c.irq.supEvents, e.1 ≠ x.val) → NoEffect (.sourceEventFlush x) s) ∧
      (∀ l r n, c.irq.supEvents = l ++ (x.val, n) :: r → (∀ e ∈ l, e.1 ≠ x.val) →
        RunsIn (.sourceEventFlush x) s [.irq, .jnl] [] fun d =>
          (n = 0 → d.irq = { c.irq with supEvents := l ++ r } ∧ d.jnl = c.jnl) ∧
            (0 < n → d.irq = { c.irq with supEvents := l ++ (x.val, 0) :: r } ∧
              d.jnl = { c.jnl with waiting := c.jnl.waiting ++
                [{ kind := 6, code := BitVec.ofNat 16 x.val, detail := BitVec.ofNat 16 (min 0xFFFF n), frame := c.tb.frame }] }))

/-- A write of FAULT_ACK names a slot and the SEQ of its record. It is refused with result 2 for a free slot, 3 for another SEQ and 4
for a standing record, and counted. Otherwise the slot is freed, DROPPED is cleared, and a record that had repeats leaves a
REPEAT_SUMMARY entry to journal. -/
def Obligations.FaultAcknowledgement : Prop :=
  ∀ (s : State) (v : Word), s.Inv → s.chip.busOpen = true →
    let c := s.chip
    let k := v.toNat % 16
    let refused (r : Nat) : Prop := RunsIn (.faultAck v) s [.regs, .flt] [R.faultCounts] fun d =>
      d.flt = { c.flt with ackResult := r } ∧
        d.fld F.faultCounts_ACK_REFUSED = min 255 (c.fld F.faultCounts_ACK_REFUSED + 1)
    (c.slotUsed k = false → refused 2) ∧
    (c.slotUsed k = true → c.slotWord k 0 % 256 ≠ v.toNat / 256 → refused 3) ∧
    (c.slotUsed k = true → c.slotWord k 0 % 256 = v.toNat / 256 → c.slotStanding k = true → refused 4) ∧
    (c.slotUsed k = true → c.slotWord k 0 % 256 = v.toNat / 256 → c.slotStanding k = false → c.flt.lostClass = none →
      RunsIn (.faultAck v) s [.flt, .jnl, .faultQueue] [] fun d =>
        d.flt = { c.flt with ackResult := 1, dropped := false } ∧ d.slotWord k 0 = (c.slotWord k 0 + 2) % 65536 ∧
          (∀ w, 0 < w → w < 64 → d.slotWord k w = 0) ∧
          (∀ j w, j < 16 → j ≠ k → w < 64 → d.slotWord j w = c.slotWord j w) ∧
          d.jnl = { c.jnl with waiting := c.jnl.waiting ++
            (if c.slotWord k 4 ≠ 0 ∧ c.slotWord k 1 ≠ 0x0C01 then
              [{ kind := 2, cls := c.slotClass k, code := BitVec.ofNat 16 (c.slotWord k 1), unit := BitVec.ofNat 16 (c.slotWord k 2)
                 rep := BitVec.ofNat 16 (c.slotWord k 4), detail := BitVec.ofNat 16 (c.slotWord k 15), frame := c.tb.frame }]
            else []) })

/-! ## Writes of direct registers (R69, R70, R76 to R80, R497, R719) -/

/-- A 16-bit write of a direct register without an effect of its own: the fields of access RW take the value, a W1C field written 1
is cleared, all other bits stay; a reserved address takes none. A write of a register that a command of its own names is that command.
A write with one byte enabled does nothing below the window, and in the window is the write of that byte. Nothing comes of a write
that is aborted; an aborted read has the side effects of the read, that of ANGLE_L the ones it has at the end of the frame (log entry
2), and answers an open value. -/
def Obligations.RegisterWrites : Prop :=
  ∀ (s : State) (a : BitVec 18) (data : Word) (g : Bool), s.Inv →
    let c := s.chip
    (∀ be0 be1, a.toNat < 0x20000 → (be0 && be1) = false → NoEffect (.registerWrite a data be0 be1 g) s) ∧
    (∀ be0 be1, 0x20000 ≤ a.toNat → exec (.registerWrite a data be0 be1 g) s =
      exec (.windowWrite (BitVec.ofNat 16 ((a.toNat - 0x20000) / 2)) data be0 be1) s) ∧
    NoEffect (.hostAccessAbort (.write a data)) s ∧
    (c.busOpen = true →
      (∀ x ∈ [(0x2C, 0xFFFC, 0), (0x2E, 0xFFFF, 0), (0x30, 0xFFFF, 0), (0x58, 0xFFFF, 0), (0x5A, 0xFFFF, 0),
          (0x36, 0, 0x000E), (0x40, 0, 0x0037), (0x46, 0, 0x0020), (0x4E, 0, 0x0080), (0x5C, 0, 0x00FF),
          (0x00, 0, 0), (0x02, 0, 0), (0x08, 0, 0), (0x0A, 0, 0), (0x10, 0, 0), (0x12, 0, 0), (0x14, 0, 0), (0x18, 0, 0),
          (0x1C, 0, 0), (0x24, 0, 0), (0x28, 0, 0), (0x2A, 0, 0), (0x38, 0, 0), (0x3A, 0, 0), (0x3C, 0, 0), (0x3E, 0, 0),
          (0x4A, 0, 0), (0x54, 0, 0)], a.toNat / 2 * 2 = x.1 →
        RunsIn (.registerWrite a data true true g) s [.regs] [x.1] fun d =>
          d.get x.1 = ((c.get x.1 &&& ~~~ (BitVec.ofNat 32 x.2.1)) ||| (data.setWidth 32 &&& BitVec.ofNat 32 x.2.1)) &&&
            ~~~ (data.setWidth 32 &&& BitVec.ofNat 32 x.2.2)) ∧
      (0x60 ≤ a.toNat → a.toNat < 0x20000 → NoEffect (.registerWrite a data true true g) s) ∧
      (∀ x ∈ [(R.portDataL, Instr.portDataLWrite data), (R.portDataH, .portCommit data g), (R.faultAck, .faultAck data),
          (R.irqCompleteA, .irqComplete .a data), (R.irqCompleteB, .irqComplete .b data), (R.irqSetPend, .irqSetPend data),
          (R.ringAddr, .ringAddrWrite data), (R.ltr, .ltrWrite data), (R.wdtKick, .wdtKick data),
          (R.schedControl, .schedControlWrite data g), (R.invalBlock, .invalBlock data g)], a.toNat / 2 * 2 = x.1 →
        exec (.registerWrite a data true true g) s = exec x.2 s) ∧
      (a.toNat / 2 * 2 = R.mbxDoorbell → data.getLsbD 0 = true →
        exec (.registerWrite a data true true g) s = exec .mbxDoorbell s) ∧
      (a.toNat / 2 * 2 = R.devUnlock →
        (data = 0xC35A → exec (.registerWrite a data true true g) s = exec .unlockFirstKey s) ∧
          (data = 0x3CA5 → exec (.registerWrite a data true true g) s = exec .unlockSecondKey s) ∧
          (data ≠ 0xC35A → data ≠ 0x3CA5 → exec (.registerWrite a data true true g) s = exec (.unlockWrongKey data) s)) ∧
      (∀ x ∈ [(R.angleL, Instr.angleLRead 400), (R.frameCountL, .frameCountLRead), (R.portDataL, .portRead),
          (R.irqClaimA, .irqClaim .a), (R.irqClaimB, .irqClaim .b), (R.ownViolCount, .ownViolCountRead),
          (R.irqAnomalyCount, .irqAnomalyCountRead)], a.toNat / 2 * 2 = x.1 →
        ∃ t, exec x.2 s = .next t ∧ exec (.hostAccessAbort (.readRegister a)) s = .next { t with chip := { t.chip with
          free := c.free + 1, bus := { t.chip.bus with read := Config.freeWord c.free } } }) ∧
      ∀ w : BitVec 16, ∃ t, exec (.windowRead w) s = .next t ∧
        exec (.hostAccessAbort (.readWindow w)) s = .next { t with chip := { t.chip with
          free := t.chip.free + 1, bus := { t.chip.bus with read := Config.freeWord t.chip.free } } })

/-- The protected fields that no other statement names, and LTR. A write of TEST_PORT_DIS or of NODE acts while the unlock window is
open, and closes it; with a closed window the field stays and REJECT_COUNT counts, and the other fields take effect. A write of the
present NODE of a configured ring address reaches no protected field. In RUN and IDLE a write of LTR stores its value, and one that ends OFF
as the chosen state abandons an entry to it. -/
def Obligations.ProtectedAndToleranceWrites : Prop :=
  ∀ s : State, s.Inv →
    let c := s.chip
    (∀ v, c.fld F.pwrState_STATE < 2 → c.power.isOff = false → c.tb.running = true →
      (c.power.offEntry = false → RunsIn (.ltrWrite v) s [.regs] [R.ltr] fun d => d.get R.ltr = v.setWidth 32) ∧
        (c.power.offEntry = true → RunsIn (.ltrWrite v) s [.regs, .power] [R.ltr, R.tagStatus] fun d =>
          d.get R.ltr = v.setWidth 32 ∧ (c.chosenState = 4 → d.power.offEntry = decide (d.chosenState = 4)))) ∧
    (c.busOpen = true →
      (c.flag F.devControl_TEST_PORT_DIS = false → 0 < c.bus.openTicks →
        RunsIn .testPortDisable s [.regs, .bus] [R.devControl] fun d =>
          d.flag F.devControl_TEST_PORT_DIS = true ∧ d.bus = { c.bus with openTicks := 0 } ∧
            d.flag F.devControl_IRQ_A_OD = c.flag F.devControl_IRQ_A_OD ∧
            d.flag F.devControl_IRQ_B_OD = c.flag F.devControl_IRQ_B_OD) ∧
      (c.flag F.devControl_TEST_PORT_DIS = false → c.bus.openTicks = 0 →
        RunsIn .testPortDisable s [.regs] [R.devControl, R.devUnlock] fun d =>
          d.flag F.devControl_TEST_PORT_DIS = false ∧
            d.fld F.devUnlock_REJECT_COUNT = min 255 (c.fld F.devUnlock_REJECT_COUNT + 1)) ∧
      (c.flag F.devControl_TEST_PORT_DIS = true →
        RunsIn .testPortDisable s [.regs] [R.devControl] fun d => d.flag F.devControl_TEST_PORT_DIS = true) ∧
      ∀ v : Word,
        let reaches := c.flag F.ringAddr_CONFIGURED = false ∨ v.toNat % 256 ≠ c.fld F.ringAddr_NODE
        let writes (P : Chip → Prop) : Prop :=
          RunsBy (.ringAddrWrite v) s [.regs, .tb, .bus, .irq, .ring]
            [.devStatus, .ringAddr, .ringStatus, .devUnlock, .ringJoinStatus, .ringMembers] fun d =>
              d.flag F.ringAddr_PIN_MASTER = v.getLsbD 10 ∧ d.flag F.ringAddr_POS_MASTER = v.getLsbD 9 ∧
                d.flag F.ringAddr_MASTER_CAPABLE = v.getLsbD 8 ∧ P d
        (reaches → 0 < c.bus.openTicks → writes fun d =>
          d.fld F.ringAddr_NODE = v.toNat % 256 ∧ d.flag F.ringAddr_CONFIGURED = true ∧ d.bus = { c.bus with openTicks := 0 }) ∧
        (reaches → c.bus.openTicks = 0 → writes fun d =>
          d.fld F.ringAddr_NODE = c.fld F.ringAddr_NODE ∧ d.flag F.ringAddr_CONFIGURED = c.flag F.ringAddr_CONFIGURED ∧
            d.fld F.devUnlock_REJECT_COUNT = min 255 (c.fld F.devUnlock_REJECT_COUNT + 1)) ∧
        (¬ reaches → writes fun d =>
          d.fld F.ringAddr_NODE = c.fld F.ringAddr_NODE ∧ d.bus = c.bus ∧
            d.fld F.devUnlock_REJECT_COUNT = c.fld F.devUnlock_REJECT_COUNT))

/-! ## The journal (R465 to R469) -/

/-- The supervisor deals with the oldest waiting cause. A kind that is rate-limited and finds no allowance is skipped and counted; any
other takes the next NUMBER, with its cause's values, the entries skipped so far, operating time and boot count, and draws on the
allowance if it is rate-limited. The source of a SOURCE_EVENT that is skipped has had no entry written, so that its claims merge no longer
and those merged already are journaled. A failed write keeps its NUMBER as an entry that fails its CRC and raises JOURNAL_WRITE_FAIL; a
sector that still holds entries of an earlier pass is erased first, and an entry that finds its erase failed is one that fails.
Nothing is written while the supervisor is halted or not READY. Every 4 s the allowance regains one of its 64, and an hour of
rotation since the last entry, counted in CCLK cycles, journals its HOURS entry. -/
def Obligations.JournalEntries : Prop :=
  ∀ s : State, s.Inv →
    let c := s.chip
    let limited (k : Nat) : Prop := k ∈ [1, 2, 6, 7, 8]
    let sector (n : BitVec 32) : Nat := n.toNat / 128 % 16
    let old (e : JEntry) : Prop := sector e.number = sector c.jnl.next ∧ e.number.toNat / 128 < c.jnl.next.toNat / 128
    let entry (x : JCause) (ok : Bool) : JEntry :=
      { number := c.jnl.next, kind := x.kind, cls := x.cls, code := x.code, unit := x.unit, rep := x.rep, detail := x.detail
        skipped := BitVec.ofNat 16 (min 0xFFFF c.jnl.skipped), opTime := c.jnl.opTime, boot := c.jnl.boots, frame := x.frame
        valid := ok }
    (c.supRuns = false ∨ c.ready = false → ∀ ok er, NoEffect (.journalWrite ok er) s) ∧
    (c.supRuns = true → c.ready = true →
      (c.jnl.waiting = [] → ∀ ok er, NoEffect (.journalWrite ok er) s) ∧
      ∀ x rest, c.jnl.waiting = x :: rest →
        (limited x.kind → c.jnl.allowance = 0 → ∀ ok er,
          let skips (sup : List (Nat × Nat)) (more : List JCause) : Prop := RunsIn (.journalWrite ok er) s [.irq, .jnl] [] fun d =>
            d.irq = { c.irq with supEvents := sup } ∧ d.jnl = { c.jnl with waiting := rest ++ more, skipped := c.jnl.skipped + 1 }
          (x.kind ≠ 6 ∨ (∀ e ∈ c.irq.supEvents, e.1 ≠ x.code.toNat) → skips c.irq.supEvents []) ∧
          ∀ l r n, x.kind = 6 → c.irq.supEvents = l ++ (x.code.toNat, n) :: r → (∀ e ∈ l, e.1 ≠ x.code.toNat) →
            (n = 0 → skips (l ++ r) []) ∧
            (0 < n → skips (l ++ (x.code.toNat, 0) :: r)
              [{ kind := 6, code := x.code, detail := BitVec.ofNat 16 (min 0xFFFF n), frame := c.tb.frame }])) ∧
        (¬ (limited x.kind ∧ c.jnl.allowance = 0) → (∀ e ∈ c.jnl.entries, ¬ old e) → ∀ er,
          (RunsIn (.journalWrite true er) s [.jnl] [] fun d =>
            d.jnl = { c.jnl with waiting := rest, entries := c.jnl.entries ++ [entry x true], next := c.jnl.next + 1, skipped := 0, hour := 0
                                 allowance := c.jnl.allowance - (if limited x.kind then 1 else 0) }) ∧
          (c.hasFreeSlot → RunsIn (.journalWrite false er) s [.regs, .irq, .flt, .jnl, .faultQueue] [R.faultCounts] fun d =>
            d.jnl.entries = c.jnl.entries ++ [entry x false] ∧ d.jnl.next = c.jnl.next + 1 ∧ d.jnl.skipped = c.jnl.skipped ∧
              d.onRecord 0x0C01 (sector c.jnl.next))) ∧
        (¬ (limited x.kind ∧ c.jnl.allowance = 0) → (∃ e ∈ c.jnl.entries, old e) →
          (∀ k : Fin 16, k.val = sector c.jnl.next → c.jnl.erases[k] + 1 ≠ 100000) →
          RunsIn (.journalWrite true true) s [.jnl] [] fun d =>
            (∀ e ∈ d.jnl.entries, ¬ old e) ∧ (∀ e ∈ c.jnl.entries, ¬ old e → e ∈ d.jnl.entries) ∧ entry x true ∈ d.jnl.entries ∧
              d.jnl.next = c.jnl.next + 1 ∧
              ∀ k : Fin 16, d.jnl.erases[k] = c.jnl.erases[k] + (if k.val = sector c.jnl.next then 1 else 0)) ∧
        (¬ (limited x.kind ∧ c.jnl.allowance = 0) → (∃ e ∈ c.jnl.entries, old e) → c.hasFreeSlot → ∀ ok,
          RunsIn (.journalWrite ok false) s [.regs, .irq, .flt, .jnl, .faultQueue] [R.faultCounts] fun d =>
            d.jnl.entries.getLast? = some (entry x false) ∧ d.jnl.next = c.jnl.next + 1 ∧ d.jnl.erases = c.jnl.erases ∧
              d.onRecord 0x0C01 (sector c.jnl.next))) ∧
    (c.power.isOff = false → RunsIn .journalAllowanceRegain s [.jnl] [] fun d =>
      d.jnl = { c.jnl with allowance := min 64 (c.jnl.allowance + 1) }) ∧
    (c.power.isOff = true → NoEffect .journalAllowanceRegain s) ∧
    (720000000000 ≤ c.jnl.hour → RunsIn .hours s [.jnl] [] fun d =>
      d.jnl = { c.jnl with hour := 0, waiting := c.jnl.waiting ++ [{ kind := 8, frame := c.tb.frame }] }) ∧
    (c.jnl.hour < 720000000000 → NoEffect .hours s)

/-- The journal's mailbox commands: what JOURNAL_INFO, JOURNAL_READ and JOURNAL_NOTE answer to a command in an undamaged
block 0. An empty journal has no range, so its two numbers are free values (log entry 46); an entry that fails its check is put on
record as JOURNAL_CORRUPT (0x0C03) and its words are free values. -/
def Obligations.JournalCommands : Prop :=
  ∀ s : State, s.Inv → s.chip.commandWaits = true → (∀ e ∈ s.chip.win.ecc, 128 ≤ e.1) →
    let c := s.chip
    let word (i : Nat) : Nat := c.win16 (2 * i)
    let low (n : BitVec 32) : List Word := [n.setWidth 16, (n >>> 16).setWidth 16]
    let reply (r : Nat) (data : List Word) : Bus := { c.bus with reply := some { result := r, data := data } }
    let replies (i : Instr) (r : Nat) (data : List Word) : Prop := RunsIn i s [.bus] [] fun d => d.bus = reply r data
    (word 0 = 0x0C01 → ∀ a b top, c.jnl.entries.head? = some a → c.jnl.entries.getLast? = some b →
      (∃ k : Fin 16, c.jnl.erases[k] = top) → (∀ k : Fin 16, c.jnl.erases[k] ≤ top) →
      replies .journalInfo 0 (low a.number ++ low b.number ++ low c.jnl.opTime ++ [c.jnl.boots, BitVec.ofNat 16 (top / 1000)])) ∧
    (word 0 = 0x0C01 → c.jnl.entries = [] → ∀ top, (∃ k : Fin 16, c.jnl.erases[k] = top) → (∀ k : Fin 16, c.jnl.erases[k] ≤ top) →
      RunsIn .journalInfo s [.bus, .free] [] fun d => d.free = c.free + 4 ∧
        d.bus = reply 0 ((List.range 4).map (fun i => Config.freeWord (c.free + i)) ++ low c.jnl.opTime ++
          [c.jnl.boots, BitVec.ofNat 16 (top / 1000)])) ∧
    (word 0 = 0x0C02 →
      let first := word 2 + 65536 * word 3
      let asked := c.jnl.entries.filter fun e => decide (first ≤ e.number.toNat) && decide (e.number.toNat < first + word 4)
      (word 4 = 0 ∨ 7 < word 4 → replies .journalRead 2 []) ∧
      (1 ≤ word 4 → word 4 ≤ 7 → c.jnl.entries = [] → replies .journalRead 0x0100 []) ∧
      (1 ≤ word 4 → word 4 ≤ 7 → ∀ a b, c.jnl.entries.head? = some a → c.jnl.entries.getLast? = some b →
        (first < a.number.toNat ∨ b.number.toNat < first → replies .journalRead 0x0100 []) ∧
        (a.number.toNat ≤ first → first ≤ b.number.toNat → (∀ e ∈ asked, e.valid = true) →
          replies .journalRead 0 (BitVec.ofNat 16 asked.length :: asked.flatMap Chip.entryWithCrc)) ∧
        (a.number.toNat ≤ first → first ≤ b.number.toNat → ∀ e, asked = [e] → e.valid = false → c.hasFreeSlot →
          RunsIn .journalRead s [.regs, .bus, .irq, .flt, .jnl, .free, .faultQueue] [R.faultCounts] fun d =>
            d.free = c.free + 16 ∧ d.onRecord 0x0C03 (e.number.toNat / 128 % 16) ∧
              d.bus = reply 0 (1 :: (List.range 16).map fun i => Config.freeWord (c.free + i))))) ∧
    (word 0 = 0x0C03 → RunsIn .journalNote s [.bus, .jnl] [] fun d =>
      d.bus = reply 0 [] ∧
        d.jnl = { c.jnl with waiting := c.jnl.waiting ++
          [{ kind := 7, code := BitVec.ofNat 16 (word 2), detail := BitVec.ofNat 16 (word 3), frame := c.tb.frame }] })

/-! ## The mailbox (R104 to R107, R508, R539, R630, R670, R691) -/

/-- The doorbell, and the completion of a command whose reply is ready. A doorbell is judged by the first of: READY is 0, block 0 is
HOST-owned, BUSY is 1; each sets only its flag. Otherwise BUSY is set. At completion block 1 holds the command code and the sequence
number (a word with a single error as it is put right, one with a double error as it is stored: log entry 12), the result and the data,
SEQ the low byte of the sequence number, DONE is set, BUSY is cleared and source 60 is raised. A command of an unknown code in an
undamaged block 0 is completed with result 0x0001. With no command outstanding, or the supervisor halted, nothing is completed. -/
def Obligations.MailboxProtocol : Prop :=
  ∀ s : State, s.Inv →
    let c := s.chip
    (c.busOpen = true →
      let sets (f : Fld) : Prop := RunsIn .mbxDoorbell s [.regs] [R.mbxStatus] fun d =>
        d.flag f = true ∧ ∀ g ∈ [F.mbxStatus_MBX_BUSY, F.mbxStatus_NOT_RETURNED, F.mbxStatus_BUSY, F.mbxStatus_DONE],
          g ≠ f → d.flag g = c.flag g
      (c.ready = false → sets F.mbxStatus_MBX_BUSY) ∧
      (c.ready = true → c.hostOwned 0 = true → sets F.mbxStatus_NOT_RETURNED) ∧
      (c.ready = true → c.hostOwned 0 = false → c.flag F.mbxStatus_BUSY = true → sets F.mbxStatus_MBX_BUSY) ∧
      (c.ready = true → c.hostOwned 0 = false → c.flag F.mbxStatus_BUSY = false →
        RunsIn .mbxDoorbell s [.regs, .bus] [R.mbxStatus] fun d =>
          d.flag F.mbxStatus_BUSY = true ∧ d.bus = { c.bus with reply := none } ∧
            ∀ g ∈ [F.mbxStatus_MBX_BUSY, F.mbxStatus_NOT_RETURNED, F.mbxStatus_DONE], d.flag g = c.flag g)) ∧
    (∀ r, c.bus.reply = some r → c.flag F.mbxStatus_BUSY = true → c.supRuns = true →
      RunsIn .mailboxComplete s [.regs, .win, .bus, .irq] [R.mbxStatus] fun d =>
        let echoed (i v : Nat) : Prop :=
          ((∀ b, Sparse.find? c.win.ecc i ≠ some (.single b)) → v = c.win16 (2 * i)) ∧
            ∀ b, Sparse.find? c.win.ecc i = some (.single b) → v = (c.win16 (2 * i)) ^^^ (if b.val < 16 then 2 ^ b.val else 0)
        echoed 0 (d.win16 256) ∧ echoed 1 (d.win16 258) ∧ d.win16 260 = r.result % 65536 ∧
        (∀ i, i < 125 → d.win16 (262 + 2 * i) = (r.data.getD i 0).toNat) ∧
        (∀ o, o < 256 ∨ 512 ≤ o → d.winByte o = c.winByte o) ∧
        d.fld F.mbxStatus_SEQ = d.win16 258 % 256 ∧ d.flag F.mbxStatus_DONE = true ∧ d.flag F.mbxStatus_BUSY = false ∧
        d.irq.pend.getLsbD 60 = true ∧ d.bus = { c.bus with reply := none }) ∧
    (c.commandWaits = true → (∀ e ∈ c.win.ecc, 128 ≤ e.1) →
      (∀ code ∈ [0x0601, 0x0701, 0x0901, 0x0902, 0x0903, 0x0A01, 0x0A02, 0x0A03, 0x0B01, 0x0C01, 0x0C02, 0x0C03], c.win16 0 ≠ code) →
      RunsIn .mailboxComplete s [.regs, .win, .bus, .irq] [R.mbxStatus] fun d =>
        d.win16 256 = c.win16 0 ∧ d.win16 258 = c.win16 2 ∧ d.win16 260 = 1 ∧ (∀ i, i < 125 → d.win16 (262 + 2 * i) = 0) ∧
          d.flag F.mbxStatus_DONE = true ∧ d.flag F.mbxStatus_BUSY = false ∧ d.irq.pend.getLsbD 60 = true) ∧
    (c.flag F.mbxStatus_BUSY = false ∨ c.supRuns = false → NoEffect .mailboxComplete s)

/-- The mailbox commands with no chapter of their own here, in an undamaged block 0: what each does and answers. POWER_OFF is refused
while the engine rotates, and otherwise begins an entry to OFF, which is forced where OFF is not the chosen state; RING_SET_TIME gives the
ring master its time in whole microseconds; CAL_RAISE_FLOOR only raises the floor, to 64 at most, and not on a weak supply; SERVICE_GET
and SERVICE_PUT carry the forwarded request and its response, whose last part, or one beyond 4095 bytes, ends the request; TAG_UPDATE
starts an update of the display or is refused. -/
def Obligations.MailboxCommands : Prop :=
  ∀ s : State, s.Inv → s.chip.commandWaits = true → (∀ e ∈ s.chip.win.ecc, 128 ≤ e.1) →
    let c := s.chip
    let word (i : Nat) : Nat := c.win16 (2 * i)
    let reply (r : Nat) (data : List Word) : Bus := { c.bus with reply := some { result := r, data := data } }
    let replies (i : Instr) (r : Nat) (data : List Word) : Prop := RunsIn i s [.bus] [] fun d => d.bus = reply r data
    (word 0 = 0x0601 →
      (c.flag F.pwrState_ROTATING = true → replies .powerOff 0x0100 []) ∧
      (c.flag F.pwrState_ROTATING = false →
        RunsBy .powerOff s [.regs, .win, .tb, .bus, .irq, .flt, .jnl, .sched, .outs, .power, .ring, .tag, .faultQueue]
          [.devStatus, .schedStatus, .outStatus, .bankStatus, .injDiag, .faultCounts, .tagStatus, .cntOrphaned, .cntWithheld,
            .ringStatus, .ringJoinStatus, .ringMembers] fun d =>
            d.bus = reply 0 [] ∧ d.power.offEntry = true ∧ d.power.forced = decide (c.chosenState ≠ 4))) ∧
    (word 0 = 0x0701 →
      (c.isMaster = false → replies .ringSetTime 0x0100 []) ∧
      (c.isMaster = true →
        let time := word 2 + 65536 * word 3 + 2 ^ 32 * word 4 + 2 ^ 48 * word 5
        RunsIn .ringSetTime s [.bus, .ring] [] fun d =>
          d.bus = reply 0 [] ∧ d.ring = { c.ring with setTime := some (BitVec.ofNat 64 (time / 1000 * 1000)) })) ∧
    (word 0 = 0x0902 →
      let weak := c.flag F.supplyStatus_VBAT_REDUCED || c.flag F.supplyStatus_CRANK_DIP
      (64 < word 2 → replies .calRaiseFloor 2 []) ∧
      (word 2 ≤ 64 → word 2 ≤ c.cipher.calFloor → replies .calRaiseFloor 0 []) ∧
      (word 2 ≤ 64 → c.cipher.calFloor < word 2 → weak = true → replies .calRaiseFloor 0x0100 []) ∧
      (word 2 ≤ 64 → c.cipher.calFloor < word 2 → weak = false → RunsIn .calRaiseFloor s [.bus, .cipher] [] fun d =>
        d.bus = reply 0 [] ∧ d.cipher = { c.cipher with calFloor := word 2 })) ∧
    (word 0 = 0x0A01 →
      (c.pendingForward = none → replies .serviceGet 0x0100 []) ∧
      ∀ h r, c.pendingForward = some (h, r) →
        (r.data.length ≤ word 2 → replies .serviceGet 2 []) ∧
        (word 2 < r.data.length → replies .serviceGet 0
          ([BitVec.ofNat 16 h, BitVec.ofNat 16 r.data.length, BitVec.ofNat 16 (min 240 (r.data.length - word 2))] ++
            Chip.packWords ((r.data.drop (word 2)).take 240)))) ∧
    (word 0 = 0x0A02 →
      (c.pendingForward = none → replies .servicePut 0x0101 []) ∧
      ∀ h r, c.pendingForward = some (h, r) →
        (word 2 ≠ h → replies .servicePut 0x0101 []) ∧
        (word 2 = h → 240 < word 4 ∨ c.can.put.length < word 3 → replies .servicePut 2 []) ∧
        (word 2 = h → word 4 ≤ 240 → word 3 ≤ c.can.put.length → word 3 + word 4 ≤ 4095 → word 5 % 2 = 0 →
          let all := c.can.put.take (word 3) ++ (List.range (word 4)).map (fun i => c.winByte (12 + i)) ++
            c.can.put.drop (word 3 + word 4)
          RunsIn .servicePut s [.bus, .can] [] fun d => d.bus = reply 0 [] ∧ d.can = { c.can with put := all }) ∧
        (word 2 = h → word 4 ≤ 240 → word 3 ≤ c.can.put.length → 4095 < word 3 + word 4 →
          RunsIn .servicePut s [.regs, .bus, .can] [R.canCounts, R.canDiagStatus] fun d =>
            d.bus = reply 2 [] ∧ d.pendingForward = none ∧ d.can.put = []) ∧
        (word 2 = h → word 4 ≤ 240 → word 3 ≤ c.can.put.length → 0 < word 3 + word 4 → word 3 + word 4 ≤ 4095 → word 5 % 2 = 1 →
          RunsIn .servicePut s [.regs, .bus, .can] [R.canCounts, R.canDiagStatus] fun d =>
            d.bus = reply 0 [] ∧ d.pendingForward = none ∧ d.can.put = [] ∧ d.flag F.canDiagStatus_FWD_PENDING = false)) ∧
    (word 0 = 0x0A03 →
      (word 3 < 100 ∨ 60000 < word 3 → replies .serviceForward 2 []) ∧
      (100 ≤ word 3 → word 3 ≤ 60000 → RunsIn .serviceForward s [.regs, .bus, .can] [R.canDiagCfg] fun d =>
        d.bus = reply 0 [] ∧ d.can = { c.can with fwdTime := word 3 } ∧
          d.flag F.canDiagCfg_FWD_EN = decide (word 2 % 2 = 1) ∧ d.flag F.canDiagCfg_DID = decide (word 2 / 2 % 2 = 1))) ∧
    (word 0 = 0x0B01 →
      (∀ r, c.tagRefusal 2 = some r → RunsIn .tagUpdate s [.regs, .bus] [R.tagCounts] fun d =>
        d.bus = reply r [] ∧ d.fld F.tagCounts_REFUSED = min 255 (c.fld F.tagCounts_REFUSED + 1)) ∧
      (c.tagRefusal 2 = none → RunsIn .tagUpdate s [.regs, .bus, .tag] [R.tagStatus] fun d =>
        d.bus = reply 0 [] ∧ d.fld F.tagStatus_PHASE = 1 ∧ d.fld F.tagStatus_LAST_REASON = 2 ∧
          d.tag.image = (c.get R.tagDue).toNat ∧ d.tag.clear = decide (word 2 % 2 = 1)))

/-! ## Frame ticks (R37 to R50, R58, R80, R261, R334, R511) -/

/-- A frame tick advances FRAME_COUNT by one, the unlock window by one tick and, where no phase overruns, ends the run of overrun
frames; an overrun lengthens it. The frame it begins lasts 199, 200 or 201 CCLK cycles. The first tick after a reset sets the frames
going and lets the supervisor run, FRAME_COUNT unchanged; after a wake from RETAIN it is counted and the state is RUN or IDLE
(the counting is a choice of the model, log entry 55). The end of the boot sets READY, shows in PATCH_OK whether an authenticated
patch is loaded (after a wake from RETAIN the one that was), derives the provisioning key into slot 15 and journals a BOOT entry with
the reset's cause and the firmware release 3.2 of R2. -/
def Obligations.FrameTicks : Prop :=
  ∀ s : State, s.Inv →
    let c := s.chip
    (c.frameRuns = true → ∀ t : TickInput, Runs (.frameTick t) s fun d =>
      d.tb.frame = c.tb.frame + 1 ∧ d.bus.openTicks = c.bus.openTicks - 1 ∧ d.tb.length ∈ [199, 200, 201] ∧
        d.tb.overrunRun = (if t.overrun.isNone then 0 else c.tb.overrunRun + 1) ∧
        ChangesOnly [.regs, .win, .tb, .bus, .pub, .pubOld, .irq, .flt, .jnl, .wheels, .pred, .free, .sched, .outs, .timers, .conv,
          .power, .cipher, .ring, .twin, .tag, .own, .faultQueue] c d) ∧
    (c.frameRuns = false → ∀ t, NoEffect (.frameTick t) s) ∧
    (c.tb.running = false → c.power.isOff = false → Runs .resetRelease s fun d =>
      d.tb.running = true ∧ d.flag F.devStatus_SUP_RUN = true ∧
        (c.fld F.pwrState_STATE ≠ 3 → d.tb.frame = c.tb.frame ∧ d.fld F.pwrState_STATE = c.fld F.pwrState_STATE) ∧
        (c.fld F.pwrState_STATE = 3 → d.tb.frame = c.tb.frame + 1 ∧ d.fld F.pwrState_STATE ≤ 1) ∧
        ChangesOnly [.regs, .win, .tb, .bus, .pub, .irq, .flt, .jnl, .wheels, .pred, .free, .sched, .outs, .conv, .power, .twin,
          .own, .faultQueue] c d) ∧
    (c.tb.running = true ∨ c.power.isOff = true → NoEffect .resetRelease s) ∧
    ∀ patch, (c.tb.running = true → c.ready = false → c.supRuns = true →
      RunsBy (.bootComplete patch) s [.regs, .tb, .irq, .flt, .jnl, .power, .cipher, .ring, .can, .faultQueue] [.devStatus, .supplyStatus,
          .ringStatus, .faultCounts, .slotInfo, .canStatus, .tagStatus, .tagImage, .tagDue, .boostStatus, .pwrCounts,
          .ringJoinStatus, .ringMembers] fun d =>
        d.flag F.devStatus_READY = true ∧ d.flag F.devStatus_PATCH_OK = c.power.patch.getD patch ∧
          (∃ x ∈ d.jnl.waiting, x.kind = 3 ∧ x.code = (c.get R.resetCause).setWidth 16 ∧ x.detail = 0x0302) ∧
          ∃ key, (∀ k : Fin 16, d.cipher.slots[k] = if k = 15 then some key else c.cipher.slots[k]) ∧ key.role = 1) ∧
    (c.tb.running = false ∨ c.ready = true ∨ c.supRuns = false → NoEffect (.bootComplete patch) s)

/-- The commits that wait for a frame tick: at it those that are due act and leave the queue, and the others come one tick closer. A
current profile takes the value, and the owner of a pair mirrors the tick's commits as one group, MCOUNT going up by one; a tick without a
due commit changes nothing else. The supervisor and the
blocks take the first waiting commit that one of them can act on: the running supervisor a PWR_CFG commit, and while it is halted the
cipher engine its own before it. -/
def Obligations.CommitsTakeEffect : Prop :=
  ∀ s : State, s.Inv →
    let c := s.chip
    let left : List Commit := (c.bus.commits.filter fun x => decide (1 < x.wait)).map fun x => { x with wait := x.wait - 1 }
    let due : List (Nat × DWord) := (c.bus.commits.filter fun x => decide (x.wait ≤ 1)).map fun x => (x.addr, x.value)
    (c.frameRuns = false → NoEffect .commitTakeEffect s) ∧
    (c.frameRuns = true →
      (due = [] → RunsIn .commitTakeEffect s [.bus] [] fun d => d.bus = { c.bus with commits := left }) ∧
      (∀ (p : Fin 8) (v : DWord), due = [(R.profI p, v)] →
        RunsIn .commitTakeEffect s [.regs, .bus, .twin] [R.profI p] fun d =>
          d.get (R.profI p) = v ∧ d.bus = { c.bus with commits := left } ∧ c.Mirrored [.commit (R.profI p) v] d) ∧
      (∀ (p : Fin 8) (v w : DWord), due = [(R.profI p, v), (R.profI p, w)] →
        RunsIn .commitTakeEffect s [.regs, .bus, .twin] [R.profI p] fun d =>
          d.get (R.profI p) = w ∧ d.bus = { c.bus with commits := left } ∧
            c.Mirrored [.commit (R.profI p) v, .commit (R.profI p) w] d)) ∧
    (c.bus.supCommits = [] → ∀ t p b, NoEffect (.supervisorCommitTakeIn t p b) s) ∧
    ∀ v rest t p b, c.bus.supCommits = (R.pwrCfg, v) :: rest →
      (c.supRuns = true → RunsIn (.supervisorCommitTakeIn t p b) s [.regs, .bus] [R.pwrCfg] fun d =>
        d.get R.pwrCfg = (c.get R.pwrCfg &&& ~~~ 0x00FFF1FF#32) ||| (v &&& 0x00FFF1FF#32) ∧ d.bus = { c.bus with supCommits := rest }) ∧
      (c.supRuns = false → rest = [] → NoEffect (.supervisorCommitTakeIn t p b) s) ∧
      ∀ w more, c.supRuns = false → rest = (R.cipherAlarm, w) :: more → w.msb = false →
        RunsIn (.supervisorCommitTakeIn t p b) s [.bus] [] fun d =>
          d.bus = { c.bus with supCommits := (R.pwrCfg, v) :: more }

/-- Placed edges. The earliest edge of the running frame executes at its step and leaves the frame; a withheld one moves no pin, the start
or end of a TIO pin's action does. A time-mode end that falls in the next frame, at its longest length, is placed for its step, once; one
whose instant has passed is placed at the start of that frame, its start's status then reads SERVED_LATE with the frames it was late,
A_LATE is set, and source 2 is raised when that begins; one beyond the frame's 32 evaluations and 48 edges is carried over (R262, R286,
R297, R299). -/
def Obligations.PlacedEdges : Prop :=
  ∀ s : State, s.Inv → s.chip.frameRuns = true →
    let c := s.chip
    (c.sched.edges = [] → NoEffect .outputEdgeExecute s) ∧
    (∀ l x r, c.sched.edges = l ++ x :: r → (∀ y ∈ l ++ r, x.step < y.step) → x.last = false →
      (x.hidden = true → RunsIn .outputEdgeExecute s [.tb, .sched] [] fun d =>
        d.tb = { c.tb with now := x.step } ∧ d.sched = { c.sched with edges := l ++ r }) ∧
      (x.hidden = false → ∀ k : Fin 8, x.chan = 0x40 + k.val →
        (x.kind = .start → x.action ≠ 3 → RunsIn .outputEdgeExecute s [.tb, .sched, .outs] [] fun d =>
          d.sched = { c.sched with edges := l ++ r } ∧
            ∀ j : Fin 8, d.outs.tio[j] =
              if j = k then { c.outs.tio[j] with active := true, tag := some (x.idx, x.word) } else c.outs.tio[j]) ∧
        (x.kind = .finish → RunsIn .outputEdgeExecute s [.tb, .sched, .outs] [] fun d =>
          d.sched = { c.sched with edges := l ++ r } ∧
            ∀ j : Fin 8, d.outs.tio[j] =
              if j = k then { c.outs.tio[j] with active := false, tag := none } else c.outs.tio[j]))) ∧
    ∀ (i : BitVec 11) l e r, c.sched.entries = l ++ e :: r → e.idx = i.toNat → (∀ y ∈ l, y.idx ≠ i.toNat) →
      ∀ at', e.endAt = some at' → e.started = true → e.endDone = false → e.d.action ∈ [1, 4] →
        let tick := c.tb.ticks + 2 * c.tb.length
        let edge (st w : Nat) : Edge :=
          { step := st, chan := e.d.chan, action := e.d.action, param := e.d.param, kind := .finish, idx := i.toNat, word := w
            hidden := false, last := true, timeMode := e.d.timeMode, dur := e.d.dur }
        (tick + 402 ≤ at' → NoEffect (.timeModeEndDue i) s) ∧
        (e.carried = true → NoEffect (.timeModeEndDue i) s) ∧
        (e.carried = false → at' < tick + 402 → 32 ≤ c.sched.used ∨ 48 ≤ c.sched.next.length →
          RunsIn (.timeModeEndDue i) s [.sched] [] fun d => d.sched.next = c.sched.next ∧
            d.sched.entries = l ++ { e with carried := true, wait := e.wait + 1 } :: r) ∧
        (e.hidden = false → c.withheldNow e.d.chan = false → e.carried = false → c.sched.used < 32 → c.sched.next.length < 48 →
          (tick ≤ at' → at' < tick + 402 → RunsIn (.timeModeEndDue i) s [.sched] [] fun d =>
            d.sched.entries = l ++ { e with endDone := true, wait := 0 } :: r ∧
              d.sched.next = c.sched.next ++ [edge (at' - tick) e.word]) ∧
          (at' < tick → e.word / 2 ^ 28 = 2 →
            RunsBy (.timeModeEndDue i) s [.regs, .win, .irq, .sched, .outs] [.schedStatus, .cntALate] fun d =>
              let word := 3 * 2 ^ 28 + e.word / 2 ^ 24 % 16 * 2 ^ 24 + min 255 (max 1 c.sched.unserved) * 2 ^ 16 +
                e.word % 65536
              d.flag F.schedStatus_A_LATE = true ∧
                (c.flag F.schedStatus_A_LATE = false → d.irq.pend.getLsbD 2 = true) ∧
                (c.sched.enabled = true → d.win16 (0xA000 + 4 * i.toNat + 2) = word / 65536) ∧
                d.sched.entries = l ++ { e with endDone := true, carried := false, wait := 0, word := word } :: r ∧
                d.sched.next = c.sched.next ++ [edge 0 word]))

/-! ## Wheel inputs and stall (R152, R155 to R158, R187, R218, R249) -/

/-- Wheel edges. An edge that the input does not select is none; nor is one of a VR input that has not swung beyond -DISARM since the
last, or whose lobe did not exceed the threshold while no rejected edge had left the input armed, or a Hall level that did not hold for
HALL_FILT cycles. An edge is stamped from the tick at or before it. One inside MIN_ABS of the last accepted edge is a glitch, which is
counted, leaves a VR input armed and waits only to be logged; an accepted edge is counted, ends NO_SIGNAL, moves the
VR threshold and uses up the arming, makes the engine rotate unless the ring is the reference, and waits for phase A with its
instants. Phase A takes in the oldest waiting edge that R55 gives it. -/
def Obligations.WheelEdges : Prop :=
  ∀ (s : State) (n : Fin 4) (at' : Int) (pol : Bool) (peak dip held : Byte), s.Inv →
    let c := s.chip
    let w := c.wheels[n]
    let i : Instr := .wheelEdge n at' pol peak dip held
    let vr : Bool := c.wheelMode n == 1
    let t := ((c.tb.ticks : Int) + at').toNat
    let m := c.markBefore t
    let edge : EdgeIn :=
      { steps := t, epoch := m.epoch, pol := pol
        time := BitVec.ofInt 64 ((m.time.toNat : Int) + Int.fdiv (((t : Int) - m.steps) * 5) 2)
        peak := peak.toNat, arm := w.threshold
        accepted := if c.wheelMode n = 2 then (t + 15) / 16 * 16 + 16 * c.fld (F.wheelFilt_HALL_FILT n) else t }
    let unarmed := vr = true ∧ w.spent = true ∧ dip.toNat ≤ c.fld (F.wheelVr_DISARM n)
    let short := vr = false ∧ held.toNat < c.fld (F.wheelFilt_HALL_FILT n)
    let runs (P : Chip → Prop) : Prop :=
      RunsBy i s [.regs, .irq, .flt, .jnl, .wheels, .twin, .faultQueue]
        [.pwrState, .wheelStatus, .wheelCounts, .wheelEdges, .faultCounts] P
    let queued (q : List EdgeIn) (e : EdgeIn) : Prop := (∀ x ∈ w.queue, x.steps ≤ e.steps) → q = w.queue ++ [e]
    (c.frameRuns = false ∨ c.selects n pol = false ∨ unarmed ∨ short → NoEffect i s) ∧
    (c.frameRuns = true → c.selects n pol = true → ¬ unarmed → ¬ short →
      (vr = true → w.armed = false → peak.toNat ≤ w.threshold → RunsIn i s [.wheels] [] fun d =>
        ∀ k : Fin 4, d.wheels[k] = if k = n then { w with spent := false } else c.wheels[k]) ∧
      ((vr = true → w.armed = true ∨ w.threshold < peak.toNat) →
        (∀ t0, w.lastStep = some t0 → t - t0 < max 625 (c.fld (F.wheelFilt_MIN_ABS n)) * 16 →
          runs fun d =>
            d.fld (F.wheelCounts_GLITCHES n) = min 255 (c.fld (F.wheelCounts_GLITCHES n) + 1) ∧
              d.get (R.wheelEdges n) = c.get (R.wheelEdges n) ∧ queued d.wheels[n].queue { edge with glitch := true } ∧
              d.wheels[n].lastStep = w.lastStep ∧ d.wheels[n].threshold = w.threshold ∧ d.wheels[n].armed = vr ∧
              (∀ k : Fin 4, k ≠ n → d.wheels[k] = c.wheels[k]) ∧ d.flag F.pwrState_ROTATING = c.flag F.pwrState_ROTATING) ∧
        (c.isGlitch n t = false →
          runs fun d =>
            d.get (R.wheelEdges n) = c.get (R.wheelEdges n) + 1 ∧ d.flag (F.wheelStatus_NO_SIGNAL n) = false ∧
              (vr = true → d.fld (F.wheelStatus_LAST_AMPL n) = peak.toNat ∧ d.wheels[n].threshold =
                max (c.fld (F.wheelVr_ARM_FLOOR n)) (max 1 (c.fld (F.wheelVr_ARM_FRAC n)) * peak.toNat / 16)) ∧
              (c.wheelMode n = 2 → d.fld (F.wheelStatus_LAST_AMPL n) = 0) ∧
              d.wheels[n].spent = vr ∧ d.wheels[n].armed = false ∧ d.wheels[n].lastStep = some t ∧
              (c.follows = false → queued d.wheels[n].queue edge) ∧ (∀ k : Fin 4, k ≠ n → d.wheels[k] = c.wheels[k]) ∧
              (c.pred.active ≠ some .ring → d.flag F.pwrState_ROTATING = true)))) ∧
    (w.queue = [] ∨ c.frameRuns = false → NoEffect (.edgeTakeIn n) s) ∧
    ∀ e rest, w.queue = e :: rest → c.frameRuns = true →
      (c.edgeLimit c.tickBefore < e.accepted → NoEffect (.edgeTakeIn n) s) ∧
      (e.accepted ≤ c.edgeLimit c.tickBefore →
        RunsBy (.edgeTakeIn n) s [.regs, .win, .irq, .flt, .jnl, .wheels, .pred, .free, .conv, .twin, .faultQueue]
          [.convStatus, .convCounts, .resHead, .resStatus, .wheelStatus, .wheelCounts, .predCounts, .faultCounts] fun d =>
            d.wheels[n].queue = rest) ∧
      (e.accepted ≤ c.edgeLimit c.tickBefore → c.fld (F.wheelCfg_LOG n) = 0 → c.win.rows = [] → c.pred.turned = false →
        (e.glitch = true → RunsIn (.edgeTakeIn n) s [.wheels] [] fun d =>
          ∀ k : Fin 4, d.wheels[k] = if k = n then { w with queue := rest } else c.wheels[k]) ∧
        (e.glitch = false → w.table = none → n ≠ 0 → RunsIn (.edgeTakeIn n) s [.wheels, .pred] [] fun d =>
          (∀ k : Fin 4, d.wheels[k] = if k = n then { w with queue := rest, hist := ((e.steps, e.pol) :: w.hist).take 7
                                                             taken := min 255 (w.taken + 1) } else c.wheels[k]) ∧
            d.pred = { c.pred with
              lastCrankB := if n = 1 then some e.steps else c.pred.lastCrankB
              crankBTwice := c.pred.crankBTwice || (n == 1 && c.pred.lastCrankB.isSome) }))

/-- What the inputs' timers bring about. An input without an edge for four times its last interval falls back to ARM_FLOOR; a configured
input on which the angle has advanced by more than twice the largest interval of its table without an edge, while another reference is
active, shows NO_SIGNAL and raises WHEEL_NO_SIGNAL once; a ring without snapshots is unavailable; and a stall, by STALL_TIME without
an edge while the engine rotates or by DR_LIMIT under dead reckoning, ends the rotation and the model, restarts every input at
its ARM_FLOOR and raises PRED_STALL (0x0209) and source 7, once. -/
def Obligations.SignalLoss : Prop :=
  ∀ s : State, s.Inv →
    let c := s.chip
    let tick := c.tb.ticks + 2 * c.tb.length
    (∀ n : Fin 4,
      (∀ t, c.frameRuns = true → c.wheels[n].lastStep = some t → 0 < c.wheels[n].lastInterval →
        t + 4 * c.wheels[n].lastInterval ≤ tick → RunsIn (.vrThresholdDecay n) s [.wheels] [] fun d => ∀ k : Fin 4, d.wheels[k] =
          if k = n then { c.wheels[k] with threshold := c.fld (F.wheelVr_ARM_FLOOR k) } else c.wheels[k]) ∧
      (c.frameRuns = false ∨ c.wheels[n].lastStep = none ∨ c.wheels[n].lastInterval = 0 ∨
        (∃ t, c.wheels[n].lastStep = some t ∧ tick < t + 4 * c.wheels[n].lastInterval) → NoEffect (.vrThresholdDecay n) s)) ∧
    (RunsIn .snapshotTimeout s [.pred] [] fun d => d.pred = { c.pred with ringFresh := false }) ∧
    (∀ n : Fin 4,
      (c.frameRuns = true → c.configured n = true → c.pred.active.isSome = true → c.pred.active ≠ c.inputRef n → c.quietTooLong n = true →
        c.flag (F.wheelStatus_NO_SIGNAL n) = false → c.hasFreeSlot →
        RunsIn (.wheelNoSignal n) s [.regs, .irq, .flt, .jnl, .faultQueue] [R.wheelStatus n, R.faultCounts] fun d =>
          d.flag (F.wheelStatus_NO_SIGNAL n) = true ∧ d.onRecord 0x0202 n.val) ∧
      (c.frameRuns = false ∨ c.configured n = false ∨ c.quietTooLong n = false ∨ c.flag (F.wheelStatus_NO_SIGNAL n) = true →
        NoEffect (.wheelNoSignal n) s) ∧
      ∀ tb : ToothTable, c.wheels[n].table = some tb → tb.teeth ≠ [] → (c.quietTooLong n = true ↔ ∀ j, j < tb.teeth.length →
        2 * (tb.interval j false : Int) * 2 ^ 32 < c.wheels[n].quiet)) ∧
    (let stalls (i : Instr) : Prop :=
      (c.pred.stall = true → c.pred.turned = false → NoEffect i s) ∧
        (c.pred.stall = false → c.hasFreeSlot →
          RunsBy i s [.regs, .win, .irq, .flt, .jnl, .wheels, .pred, .conv, .faultQueue]
              [.pwrState, .convStatus, .convCounts, .resHead, .resStatus, .wheelStatus, .predCounts, .faultCounts] fun d =>
            d.pred.stall = true ∧ d.pred.active = none ∧ d.pred.model = none ∧ d.flag F.pwrState_ROTATING = false ∧
              (∀ n : Fin 4, d.wheels[n].threshold = c.fld (F.wheelVr_ARM_FLOOR n) ∧ d.wheels[n].cand = none ∧
                (c.wheels[n].table = none → d.fld (F.wheelStatus_ACQ n) = 0)) ∧
              d.irq.pend.getLsbD 7 = true ∧ d.onRecord 0x0209 c.pred.lastRef)
     let limit := max 1 (c.fld F.predCfg_STALL_TIME) * 400000
     let last (t : Nat) : Prop := (∃ n : Fin 4, c.configured n = true ∧ c.wheels[n].lastStep = some t) ∧
       ∀ n : Fin 4, c.configured n = true → ∀ t0, c.wheels[n].lastStep = some t0 → t0 ≤ t
     (∀ t, last t → c.frameRuns = true → c.flag F.pwrState_ROTATING = true →
       (t + limit ≤ tick → stalls .stallTimeout) ∧ (tick < t + limit → NoEffect .stallTimeout s)) ∧
     (c.flag F.pwrState_ROTATING = false ∨ c.frameRuns = false → NoEffect .stallTimeout s) ∧
     (c.frameRuns = true → c.pred.active = some .dead → (c.pred.cfg.drLimit : Int) * 2 ^ 32 ≤ c.pred.drTravel →
       stalls .drLimitReached) ∧
     (c.frameRuns = false ∨ c.pred.active ≠ some .dead ∨ c.pred.drTravel < (c.pred.cfg.drLimit : Int) * 2 ^ 32 →
       NoEffect .drLimitReached s))

/-! ## The injector output stage (R309 to R328, R344 to R346) -/

/-- One injection's way through its bank. The first waiting channel is granted when no other is in its peak section, the bank is not
tripped, its rest is over, its profile is usable and VBOOST suffices; an unusable profile refuses it, and with too low a VBOOST LOW_BOOST
decides between a peak from the battery, waiting on and a refusal. It is refused when its wait reaches MAX_DELAY. The boost ends at its
threshold, which records T_PEAK, or at T_BOOST_MAX; a threshold before T_PEAK_MIN is a short, T_BOOST_MAX below the open threshold an open
load: both end the pulse and are on record. After the transition, which under slow decay a fallen current ends early, comes HOLD, in which
the bank chops once its battery switch has kept its state for the CHOP_MIN of every holding channel. -/
def Obligations.InjectionPhases : Prop :=
  ∀ (s : State) (k : Fin 24) (at' : Fin 403), s.Inv →
    let c := s.chip
    let n := k.val / 4
    let now := c.tb.ticks + at'.val
    let x := c.outs.inj[k]
    let others (P : Fin 24 → Prop) : Prop := ∀ j : Fin 24, j.val / 4 = n → j ≠ k → P j
    let alone := others fun j => c.outs.inj[j].phase ≠ .wait
    let runs (i : Instr) (P : Chip → Prop) : Prop := Runs i s fun d =>
      P d ∧ d.tb = { c.tb with now := at'.val } ∧ ChangesOnly [.regs, .win, .tb, .irq, .flt, .jnl, .sched, .outs, .faultQueue] c d
    let failed (i : Instr) (result code : Nat) : Prop := runs i fun d =>
      d.outs.inj[k].phase = .idle ∧ d.fld (F.injDiag_RESULT k) = result ∧ d.onRecord code (n * 256 + k.val) ∧
        d.irq.pend.getLsbD (9 + n) = true
    (x.phase = .wait → (others fun j => c.outs.inj[j].phase = .wait → x.startAt < c.outs.inj[j].startAt ∨
        (x.startAt = c.outs.inj[j].startAt ∧ k.val < j.val)) →
      (others fun j => c.outs.inj[j].phase ≠ .boost ∧ c.outs.inj[j].phase ≠ .transition) →
      c.flag (F.bankStatus_TRIPPED n) = false → (∀ t, x.endAt = some t → t + c.fld (F.bankCfg_T_REST n) * 400 ≤ now) →
      let granted (battery : Bool) : Prop := runs (.bankGrant k at') fun d =>
        d.outs.inj[k].phase = .boost ∧ d.outs.inj[k].boostAt = now ∧ d.outs.inj[k].battery = battery ∧
          (∀ j : Fin 24, j ≠ k → d.outs.inj[j].phase = c.outs.inj[j].phase) ∧ d.fld (F.injDiag_T_PEAK k) = 0xFFFF ∧
          d.fld (F.bankCounts_DELAYED n) = (if x.startAt < now then min 255 (c.fld (F.bankCounts_DELAYED n) + 1)
            else c.fld (F.bankCounts_DELAYED n))
      (c.profileUsable n x.profile = true →
        (c.boostEnough x.profile = true → granted false) ∧
        (c.boostEnough x.profile = false →
          (c.fld (F.profCtrl_LOW_BOOST x.profile) = 1 → granted true) ∧
          (c.fld (F.profCtrl_LOW_BOOST x.profile) = 2 → runs (.bankGrant k at') fun d => d.outs.inj = c.outs.inj) ∧
          (c.fld (F.profCtrl_LOW_BOOST x.profile) ∉ [1, 2] → c.shadows = false → c.hasFreeSlot →
            failed (.bankGrant k at') 6 0x0407))) ∧
      (c.profileUsable n x.profile = false → c.shadows = false → c.hasFreeSlot → failed (.bankGrant k at') 6 0x0407)) ∧
    (x.phase = .wait → x.startAt + c.fld (F.bankCfg_MAX_DELAY n) * 400 ≤ now → alone → c.shadows = false → c.hasFreeSlot →
      failed (.bankWaitTimeout k at') 6 0x0407) ∧
    (x.phase = .boost → c.fld (F.profT_T_PEAK_MIN x.profile) * 40 ≤ now - x.boostAt →
      (c.fld (F.profT_T_TRANS x.profile) ≠ 0 → runs (.boostThresholdReached k at') fun d =>
        d.outs.inj[k] = { x with phase := .transition, transAt := now } ∧
          d.fld (F.injDiag_T_PEAK k) = min 0xFFFE ((now - x.boostAt) / 10) ∧
          (∀ j : Fin 24, j ≠ k → d.outs.inj[j] = c.outs.inj[j])) ∧
      (c.fld (F.profT_T_TRANS x.profile) = 0 → alone → runs (.boostThresholdReached k at') fun d =>
        d.outs.inj[k].phase = .hold ∧ d.fld (F.injDiag_T_PEAK k) = min 0xFFFE ((now - x.boostAt) / 10))) ∧
    (x.phase = .boost → now - x.boostAt < c.fld (F.profT_T_PEAK_MIN x.profile) * 40 → alone → c.shadows = false → c.hasFreeSlot →
      failed (.boostThresholdReached k at') 3 0x0403) ∧
    (x.phase = .boost → x.boostAt + c.boostMax k ≤ now → ∀ code : Byte, c.shadows = false → c.hasFreeSlot → alone →
      let open' := min 255 (c.fld (F.profI_I_OPEN x.profile) + c.holdSum F.profI_I_HOLD_LO k)
      (code.toNat < open' → failed (.boostTimeLimit k code at') 1 0x0401) ∧
      (open' ≤ code.toNat → code.toNat < c.boostThreshold k → c.fld (F.profT_T_TRANS x.profile) ≠ 0 →
        runs (.boostTimeLimit k code at') fun d =>
          d.outs.inj[k].phase = .transition ∧ d.fld (F.injDiag_RESULT k) = 2 ∧ d.onRecord 0x0402 (n * 256 + k.val)) ∧
      (open' ≤ code.toNat → c.boostThreshold k ≤ code.toNat →
        exec (.boostTimeLimit k code at') s = exec (.boostThresholdReached k at') s)) ∧
    (x.phase = .transition → ∀ fell, x.transAt + c.fld (F.profT_T_TRANS x.profile) * 40 ≤ now ∨
        (fell = true ∧ c.flag (F.profCtrl_TRANS_DECAY x.profile) = false) →
      runs (.transitionEnd k fell at') fun d => d.outs.inj[k].phase = .hold) ∧
    ∀ on : Bool, (∀ j : Fin 24, j.val / 4 = n → c.outs.inj[j].phase ≠ .boost ∧ c.outs.inj[j].phase ≠ .transition) →
      x.phase = .hold → ∀ b : Fin 6, b.val = n → c.outs.chop[b] ≠ on →
        (∀ j : Fin 24, j.val / 4 = n → c.outs.inj[j].phase = .hold →
          c.outs.chopAt[b] + max 1 (c.fld (F.profT_CHOP_MIN c.outs.inj[j].profile)) * 40 ≤ now) →
        RunsIn (.holdChop b on at') s [.tb, .outs] [] fun d =>
          d.tb = { c.tb with now := at'.val } ∧ d.outs.inj = c.outs.inj ∧
            ∀ m : Fin 6, d.outs.chop[m] = (if m = b then on else c.outs.chop[m]) ∧
              d.outs.chopAt[m] = (if m = b then now else c.outs.chopAt[m])

/-- Banks as a whole. A hold current still lost after 20 µs of the battery switch is the result of every holding channel, whose pulse
goes on; overcurrent, and current in a bank whose gates have been inactive for 20 µs, trip a bank that the part has while CCLK runs: TRIPPED
and OUT_STATUS show it, every channel of the bank is idle, pulses in flight end with RESULT 7 and waiting starts are refused, and the
fault is on record. A non-owner's bank never trips. Clearing TRIPPED ends it, unless the current is still at I_OC, which trips the bank
again. INJ_ENABLE switches the channels off whose bit is cleared, and leaves those whose bit is set to their cycle wrap. The owner of a
pair mirrors both commits. -/
def Obligations.BankTrips : Prop :=
  ∀ s : State, s.Inv →
    let c := s.chip
    let inBank (n : Fin 6) (P : Fin 24 → Prop) : Prop := ∀ k : Fin 24, k.val / 4 = n.val → P k
    let pulse (k : Fin 24) : Prop := c.outs.inj[k].phase ∈ [InjPhase.boost, .transition, .hold]
    let present (n : Fin 6) : Prop := c.part = .lb8620 ∨ n.val < 3
    let trips (n : Fin 6) (i : Instr) (code : Nat) : Prop := Runs i s fun d =>
      d.flag (F.bankStatus_TRIPPED n) = true ∧ d.bit R.outStatus n = true ∧
        (inBank n fun k => d.outs.inj[k].phase = .idle ∧ (pulse k → d.fld (F.injDiag_RESULT k) = 7) ∧
          (c.outs.inj[k].phase = .wait → d.fld (F.injDiag_RESULT k) = 6)) ∧
        d.irq.pend.getLsbD (9 + n.val) = true ∧
        (c.hasFreeSlot → ∃ k ∈ Chip.bankChannels n, d.onRecord code (Chip.injUnit k)) ∧
        ((∀ m, i ≠ .bankTripClear m true) → d.twin = c.twin) ∧
        ChangesOnly [.regs, .win, .bus, .irq, .flt, .jnl, .free, .sched, .outs, .twin, .faultQueue] c d
    let cleared (n : Fin 6) : List Packet := [.commit (R.bankStatus n) (BitVec.ofNat 32 (2 ^ (F.bankStatus_TRIPPED n).lo))]
    (∀ (n : Fin 6) (code : Byte),
      let holding : List (Fin 24) := (List.finRange 24).filter fun k => k.val / 4 == n.val && c.outs.inj[k].phase == .hold
      c.outs.chop[n] = true → (inBank n fun k => c.outs.inj[k].phase ∉ [InjPhase.boost, .transition]) →
      code.toNat < min 255 ((holding.map fun k => c.fld (F.profI_I_HOLD_LO c.outs.inj[k].profile)).sum) →
      (c.outs.chopAt[n] + 8000 ≤ c.tb.ticks + 2 * c.tb.length →
        RunsBy (.injHoldLost n code) s [.regs, .irq, .flt, .jnl, .outs, .faultQueue] [.injDiag, .faultCounts] fun d =>
          ∀ k ∈ holding, d.fld (F.injDiag_RESULT k) = 4 ∧ d.outs.inj[k] = { c.outs.inj[k] with judged := some 4 }) ∧
      (c.tb.ticks + 2 * c.tb.length < c.outs.chopAt[n] + 8000 → NoEffect (.injHoldLost n code) s)) ∧
    (∀ (n : Fin 6) (code : Byte),
      (c.cclkRuns = true → present n → c.shadows = false →
        trips n (.injOvercurrent n) 0x0405 ∧
          ∀ t, c.outs.idleAt[n] = some t → t + 8000 ≤ c.tb.ticks + 2 * c.tb.length → 16 ≤ code.toNat →
            trips n (.injIdleCurrent n code) 0x0406) ∧
      (c.cclkRuns = false ∨ ¬ present n ∨ c.shadows = true → NoEffect (.injOvercurrent n) s ∧ NoEffect (.injIdleCurrent n code) s) ∧
      (c.outs.idleAt[n] = none ∨ code.toNat < 16 → NoEffect (.injIdleCurrent n code) s)) ∧
    (∀ n : Fin 6, c.frameRuns = true → present n → c.flag (F.bankStatus_TRIPPED n) = true →
      (RunsIn (.bankTripClear n false) s [.regs, .bus, .twin] [R.bankStatus n, R.outStatus] fun d => c.Mirrored (cleared n) d ∧
        d.flag (F.bankStatus_TRIPPED n) = false ∧ d.bit R.outStatus n = false ∧ d.bus = (c.takeCommit (R.bankStatus n)).bus ∧
          ∀ m : Nat, m < 32 → m ≠ n.val → d.bit R.outStatus m = c.bit R.outStatus m) ∧
      (c.shadows = false → trips n (.bankTripClear n true) 0x0405 ∧
        Runs (.bankTripClear n true) s (c.Mirrored (cleared n)))) ∧
    (∀ (n : Fin 6) (still : Bool), c.frameRuns = true → ¬ present n ∨ c.flag (F.bankStatus_TRIPPED n) = false →
      RunsIn (.bankTripClear n still) s [.bus, .twin] [] fun d =>
        d.bus = (c.takeCommit (R.bankStatus n)).bus ∧ c.Mirrored (cleared n) d) ∧
    (c.frameRuns = false → (∀ n still, NoEffect (.bankTripClear n still) s) ∧ ∀ v, NoEffect (.injEnableCommit v) s) ∧
    ∀ v : DWord, c.frameRuns = true → Runs (.injEnableCommit v) s fun d =>
      let chans := if c.part = .lb8620 then 24 else 12
      d.get R.injEnable = BitVec.ofNat 32 (v.toNat % 2 ^ chans) ∧ d.bus = (c.takeCommit R.injEnable).bus ∧
        (∀ k : Fin 24, k.val < chans → c.bit R.injEnable k = true → v.getLsbD k = false →
          d.outs.inj[k].phase = .idle ∧ d.bit R.injEffective k = false ∧ k.val ∉ d.outs.reenable) ∧
        (∀ k : Fin 24, k.val < chans → c.bit R.injEnable k = false → v.getLsbD k = true → k.val ∈ d.outs.reenable ∧
          d.bit R.injEffective k = c.bit R.injEffective k) ∧
        c.Mirrored [.commit R.injEnable v] d ∧ ChangesOnly [.regs, .win, .bus, .irq, .flt, .jnl, .sched, .outs, .twin, .faultQueue] c d

/-! ## Valve outputs and TIO pins (R330 to R332, R347, R377, R379, R380) -/

/-- A valve's course: after T_PULL the hold PWM begins, unless the set holds with duty 0; within a period, whose length F_SEL gives, the
pin goes off when its on time has passed, and on again with the next one; a start that OFF_MIN delayed executes when it is over. An open
load is shown after 50 µs of the inactive pin, raised as source 15 and put on record, and OPEN clears when the feedback goes high; a short
puts the pin off and latches it until a commit writes its bit. -/
def Obligations.ValveOutputs : Prop :=
  ∀ (s : State) (v : Fin 16) (at' : Fin 403), s.Inv →
    let c := s.chip
    let now := c.tb.ticks + at'.val
    let x := c.outs.valves[v]
    let becomes (i : Instr) (y : Valve) : Prop := RunsIn i s [.tb, .outs] [] fun d =>
      d.tb = { c.tb with now := at'.val } ∧ d.outs.inj = c.outs.inj ∧ d.outs.tio = c.outs.tio ∧
        ∀ w : Fin 16, d.outs.valves[w] = if w = v then y else c.outs.valves[w]
    let diagnosed : Bool := !c.shadows && c.flag (F.valveCfg_DIAG_EN v)
    let pulled := x.onAt + c.fld (F.vreg_T_PULL x.vset) * 4000
    let period := 400000000 / [1000, 2000, 5000, 10000].getD (c.fld (F.vreg_F_SEL x.vset)) 20000
    (x.active = true → x.pwm = false → c.fld (F.vreg_HOLD_DUTY x.vset) ≠ 0 → pulled ≤ now →
      becomes (.valvePullEnd v at') { x with pwm := true, level := true, periodAt := pulled }) ∧
    (x.active = false ∨ x.pwm = true ∨ c.fld (F.vreg_HOLD_DUTY x.vset) = 0 ∨ now < pulled → becomes (.valvePullEnd v at') x) ∧
    (x.pwm = true →
      (now < x.periodAt + period →
        (x.level = true → c.pwmOn x.vset ≤ now - x.periodAt → becomes (.valvePwmTransition v at') { x with level := false }) ∧
        (x.level = false ∨ now - x.periodAt < c.pwmOn x.vset → becomes (.valvePwmTransition v at') x)) ∧
      (x.periodAt + period ≤ now → becomes (.valvePwmTransition v at')
        { x with level := true, periodAt := x.periodAt + (now - x.periodAt) / period * period
                 onAt := if x.level then x.onAt else now })) ∧
    (x.pwm = false → becomes (.valvePwmTransition v at') x) ∧
    (∀ set tag, x.delayed = some (set, tag) →
      let restEnd := x.offAt.getD 0 + c.fld (F.valveCfg_OFF_MIN v) * 40
      (restEnd ≤ now → becomes (.valveStartDelayEnd v at')
        { x with active := true, level := true, vset := set, onAt := now, tag := tag, delayed := none, periodAt := now
                 pwm := c.fld (F.vreg_T_PULL set) == 0 && c.fld (F.vreg_HOLD_DUTY set) != 0 }) ∧
      (now < restEnd → becomes (.valveStartDelayEnd v at') x)) ∧
    (c.cclkRuns = true → diagnosed = true → x.active = false → x.offAt.getD 0 + 20000 ≤ c.tb.ticks + 2 * c.tb.length →
      bitOf (c.fld F.valveStatus_OPEN) v = false → c.hasFreeSlot →
      RunsIn (.valveOpen v) s [.regs, .irq, .flt, .jnl, .faultQueue] [R.valveStatus, R.faultCounts] fun d =>
        d.fld F.valveStatus_OPEN = c.fld F.valveStatus_OPEN + 2 ^ v.val ∧
          d.fld F.valveStatus_SHORT_LATCH = c.fld F.valveStatus_SHORT_LATCH ∧ d.irq.pend.getLsbD 15 = true ∧
          d.onRecord 0x0409 (0x1000 + v.val)) ∧
    (c.cclkRuns = false ∨ diagnosed = false ∨ x.active = true ∨ bitOf (c.fld F.valveStatus_OPEN) v = true →
      NoEffect (.valveOpen v) s) ∧
    (RunsIn (.valveOpenClear v) s [.regs] [R.valveStatus] fun d =>
      ∀ i, i < 32 → d.bit R.valveStatus i = (decide (i ≠ v.val) && c.bit R.valveStatus i)) ∧
    (diagnosed = true → x.level = true → x.onAt + 2000 < now → c.hasFreeSlot →
      RunsIn (.valveShort v at') s [.regs, .tb, .irq, .flt, .jnl, .outs, .faultQueue] [R.valveStatus, R.faultCounts] fun d =>
        bitOf (d.fld F.valveStatus_SHORT_LATCH) v = true ∧ d.outs.valves[v].active = false ∧ d.outs.valves[v].level = false ∧
          d.irq.pend.getLsbD 15 = true ∧ d.onRecord 0x040A (0x1000 + v.val)) ∧
    (diagnosed = false ∨ x.level = false ∨ now ≤ x.onAt + 2000 → becomes (.valveShort v at') x) ∧
    ∀ mask : Word, (c.frameRuns = false → NoEffect (.shortLatchClear mask) s) ∧
      (c.frameRuns = true → RunsIn (.shortLatchClear mask) s [.regs, .bus, .twin] [R.valveStatus] fun d =>
        d.bus = (c.takeCommit R.valveStatus).bus ∧ c.Mirrored [.commit R.valveStatus (mask.setWidth 32)] d ∧ d.fld F.valveStatus_OPEN = c.fld F.valveStatus_OPEN ∧
          ∀ i, i < 16 →
            bitOf (d.fld F.valveStatus_SHORT_LATCH) i = (bitOf (c.fld F.valveStatus_SHORT_LATCH) i && !mask.getLsbD i))

/-- A commit of TIO_SEL acts unless it would move a pin in use, which is on record as 0x0108, or name a timer channel that another
pin has, which is on record as 0x0112; a pin whose function changes is inactive. -/
def Obligations.PinSelection : Prop :=
  ∀ (s : State) (k : Fin 8) (v : DWord), s.Inv →
    (s.chip.frameRuns = false → NoEffect (.tioSelCommit k v) s) ∧ (s.chip.frameRuns = true →
    let c := s.chip
    let bus := (c.takeCommit (R.tioSel k)).bus
    let func := v.toNat % 4
    let chan := v.toNat / 4 % 16
    let moves := func ≠ c.fld (F.tioSel_FUNC k) ∨ chan ≠ c.fld (F.tioSel_CHANNEL k)
    let refused (code unit : Nat) : Prop :=
      RunsIn (.tioSelCommit k v) s [.regs, .bus, .irq, .flt, .jnl, .twin, .faultQueue] [R.faultCounts] fun d =>
        d.bus = bus ∧ d.onRecord code unit ∧ c.Mirrored [.commit (R.tioSel k) v] d
    (moves → c.tioHeld k = true → c.hasFreeSlot → refused 0x0108 k.val) ∧
    (¬ (moves ∧ c.tioHeld k = true) → func % 2 = 1 → c.channelNamed k chan = true → c.hasFreeSlot →
      refused 0x0112 (k.val * 256 + chan)) ∧
    (¬ (moves ∧ c.tioHeld k = true) → ¬ (func % 2 = 1 ∧ c.channelNamed k chan = true) →
      RunsIn (.tioSelCommit k v) s [.regs, .bus, .outs, .twin] [R.tioSel k] fun d =>
        d.bus = bus ∧ c.Mirrored [.commit (R.tioSel k) v] d ∧ d.fld (F.tioSel_FUNC k) = func ∧ d.fld (F.tioSel_CHANNEL k) = chan ∧ d.fld (F.tioSel_FILT k) = v.toNat / 256 % 16 ∧
          d.flag (F.tioSel_POL k) = v.getLsbD 6 ∧
          ∀ j : Fin 8, d.outs.tio[j] =
            if j = k ∧ func ≠ c.fld (F.tioSel_FUNC k) then { active := false, tag := none, lk := false } else c.outs.tio[j]))

/-! ## Timer units (R351 to R376) -/

/-- One BCLK edge of units that are INDEPENDENT, with nothing else waiting for it: PRE goes on and each unit whose prescale bits it
completes counts. A count that wraps sets OVF and raises source 33 + u; a waiting compare that its count reaches is flagged, a second
time as an overrun, raises source 17 + 4u + c, and ends its wait or takes its INTERVAL on; a pin level that has held for 2 + FILT edges
captures the count, and any other makes no difference. No register outside the timers region but TIO_LEVEL changes. An edge that a
command names with a lead comes after that many such edges. Without a clock, in reset and in OFF, nothing happens. -/
def Obligations.TimerEdges : Prop :=
  (∀ s : State, s.Inv → s.chip.tb.running = false ∨ s.chip.power.isOff = true → ∀ lead,
    NoEffect (.timerMatch lead) s ∧ NoEffect (.timerOverflow lead) s ∧ ∀ k l h, NoEffect (.timerPinCapture k l lead h) s) ∧
  (∀ (s : State) (k : Fin 8) (l : Bool) (lead h : Nat), s.Inv →
    s.chip.bit R.tioLevel k = l ∨ h < 2 + s.chip.fld (F.tioSel_FILT k) →
    exec (.timerPinCapture k l lead h) s = exec (.timerMatch lead) s) ∧
  ∀ (s : State) (u j : Fin 4), s.Inv → s.chip.bus.timerCommits = [] → s.chip.tb.running = true → s.chip.power.isOff = false →
    s.chip.fld F.pwrState_STATE < 2 → s.chip.timers.begun = true → (∀ x : Fin 4, s.chip.fld (F.tuCfg_CHAIN x) = 0) → (∀ x : Fin 16, s.chip.timers.ch[x].fresh = false) →
    let c := s.chip
    let pre := (c.fld F.timerPre_PRE + 1) % 2 ^ 15
    let count (x : Fin 4) : DWord := c.get (R.tuCount x) + (if pre % 2 ^ c.fld (F.tuCfg_PRESCALE x) = 0 then 1 else 0)
    let runs (i : Instr) (P : Chip → Prop) : Prop := Runs i s fun d =>
      P d ∧ d.fld F.timerPre_PRE = pre ∧ (∀ x : Fin 4, d.get (R.tuCount x) = count x) ∧ d.bus = c.bus ∧
        (∀ a, a / 0x10000 ≠ 1 → a ≠ R.tioLevel → d.get a = c.get a) ∧ ChangesOnly [.regs, .irq, .outs, .timers] c d
    let flagged (d : Chip) : Prop :=
      d.flag (F.chStatus_FLAG u j) = true ∧
        d.flag (F.chStatus_OVR u j) = (c.flag (F.chStatus_OVR u j) || c.flag (F.chStatus_FLAG u j)) ∧
        d.irq.pend.getLsbD (17 + 4 * u.val + j.val) = true
    (c.get (R.tuCount u) = 0xFFFFFFFF → count u = 0 → runs (.timerOverflow 0) fun d =>
      d.flag (F.tuStatus_OVF u) = true ∧ d.irq.pend.getLsbD (33 + u.val) = true) ∧
    (c.fld (F.chCtrl_MODE u j) = 1 → c.flag (F.chStatus_WAITING u j) = true → count u ≠ c.get (R.tuCount u) →
      c.get (R.chValue u j) = count u → runs (.timerMatch 0) fun d =>
        flagged d ∧
          d.get (R.chValue u j) =
            (if c.flag (F.chCtrl_AUTO_ADD u j) then c.get (R.chValue u j) + c.get (R.chInterval u j) else c.get (R.chValue u j)) ∧
          d.flag (F.chStatus_WAITING u j) = c.flag (F.chCtrl_AUTO_ADD u j)) ∧
    (∀ (k : Fin 8) (level : Bool) (held : Nat), c.bit R.tioLevel k ≠ level → 2 + c.fld (F.tioSel_FILT k) ≤ held → c.fld (F.tioSel_FUNC k) = 1 →
      c.fld (F.tioSel_CHANNEL k) = 4 * u.val + j.val → c.fld (F.chCtrl_MODE u j) = 2 → c.flag (F.chCtrl_CAP_SRC u j) = false →
      (c.fld (F.chCtrl_CAP_EDGE u j) = 0 → level = true) → (c.fld (F.chCtrl_CAP_EDGE u j) = 1 → level = false) →
      runs (.timerPinCapture k level 0 held) fun d =>
        flagged d ∧ d.get (R.chValue u j) = count u ∧ d.bit R.tioLevel k = level) ∧
    ∀ lead, ∃ t, exec (.timerMatch lead) s = .next t ∧ exec (.timerMatch (lead + 1)) s = exec (.timerMatch 0) t ∧
      exec (.timerOverflow (lead + 1)) s = exec (.timerOverflow 0) t ∧
        ∀ k level held, exec (.timerPinCapture k level (lead + 1) held) s = exec (.timerPinCapture k level 0 held) t

/-- Commits of the timers region at their commit edge, the next BCLK edge: one that the port has issued and that waits is taken by
whatever brings that edge, as one that arrives with it is. Of the latter, under the conditions of TimerEdges: CH_VALUE arms a compare, which
then waits, and is refused (PORT_ERR, cause 2) in CAPTURE; CH_CTRL arms a channel that it turns to COMPARE and ends the wait of one
that it turns away; TU_CFG takes its value, and its prescale acts at once; TIMER_SNAP copies the four counts after the update. -/
def Obligations.TimerCommits : Prop :=
  (∀ s : State, s.Inv → s.chip.tb.running = false ∨ s.chip.power.isOff = true → ∀ n u v lead,
    NoEffect (.chValueCommit n v lead) s ∧ NoEffect (.chCtrlCommit n v lead) s ∧ NoEffect (.tuCfgCommit u v lead) s ∧
      NoEffect (.timerSnap lead) s) ∧
  (∀ s : State, s.Inv → ∀ (n : Fin 16) (u : Fin 4) (v : DWord) (lead : Nat),
    let waiting (l : List (Nat × DWord)) : State := { s with chip := { s.chip with bus := { s.chip.bus with timerCommits := l } } }
    ∀ x ∈ [((R.chValue (n / 4) (n % 4), v), Instr.chValueCommit n v), ((R.chCtrl (n / 4) (n % 4), v), .chCtrlCommit n v),
        ((R.tuCfg u, v), .tuCfgCommit u v), ((R.timerSnap, 0), .timerSnap)],
      (x.1 ∈ s.chip.bus.timerCommits → exec (x.2 lead) s = exec (.timerMatch lead) s) ∧
        (s.chip.tb.running = true → s.chip.power.isOff = false → exec (.timerMatch 0) (waiting [x.1]) = exec (x.2 0) (waiting []))) ∧
  ∀ (s : State) (n : Fin 16) (v : DWord), s.Inv → s.chip.bus.timerCommits = [] → s.chip.tb.running = true →
    s.chip.power.isOff = false → s.chip.fld F.pwrState_STATE < 2 → s.chip.timers.begun = true → (∀ x : Fin 4, s.chip.fld (F.tuCfg_CHAIN x) = 0) → (∀ x : Fin 16, s.chip.timers.ch[x].fresh = false) →
    let c := s.chip
    let u := n.val / 4
    let j := n.val % 4
    let pre := (c.fld F.timerPre_PRE + 1) % 2 ^ 15
    let count (x p : Nat) : DWord := c.get (R.tuCount x) + (if pre % 2 ^ p = 0 then 1 else 0)
    let now (x : Nat) : DWord := count x (c.fld (F.tuCfg_PRESCALE x))
    let runs (i : Instr) (P : Chip → Prop) : Prop := Runs i s fun d =>
      P d ∧ d.fld F.timerPre_PRE = pre ∧ d.bus = c.bus ∧
        (∀ a, a / 0x10000 ≠ 1 → a ≠ R.tioLevel → a ≠ R.devStatus → d.get a = c.get a) ∧ ChangesOnly [.regs, .irq, .outs, .timers] c d
    let passed (value : DWord) (late : Bool) : Bool :=
      (value == now u || decide (2 ^ 31 ≤ (value - now u).toNat)) && !late
    (c.fld (F.chCtrl_MODE u j) = 1 → runs (.chValueCommit n v 0) fun d =>
      d.get (R.chValue u j) = v ∧ d.flag (F.chStatus_WAITING u j) = true ∧
        d.timers.ch[n] = { now := passed v (c.flag (F.chCtrl_WRITE_SEM u j)), fresh := false, sched := false } ∧
        d.get R.devStatus = c.get R.devStatus) ∧
    (c.fld (F.chCtrl_MODE u j) = 0 → runs (.chValueCommit n v 0) fun d =>
      d.get (R.chValue u j) = v ∧ d.flag (F.chStatus_WAITING u j) = c.flag (F.chStatus_WAITING u j) ∧
        d.get R.devStatus = c.get R.devStatus) ∧
    (c.fld (F.chCtrl_MODE u j) = 2 → runs (.chValueCommit n v 0) fun d =>
      d.get (R.chValue u j) = c.get (R.chValue u j) ∧ d.flag F.devStatus_PORT_ERR = true ∧ d.fld F.devStatus_PORT_ERR_CAUSE = 2) ∧
    (c.fld (F.chCtrl_MODE u j) ≠ 1 → v.toNat % 4 = 1 → runs (.chCtrlCommit n v 0) fun d =>
      d.get (R.chCtrl u j) &&& 0xF7F = v &&& 0xF7F ∧ d.flag (F.chStatus_WAITING u j) = true ∧
        d.timers.ch[n] = { now := passed (c.get (R.chValue u j)) (v.getLsbD 2), fresh := false, sched := false }) ∧
    (c.fld (F.chCtrl_MODE u j) = 1 → v.toNat % 4 ≠ 1 → runs (.chCtrlCommit n v 0) fun d =>
      d.get (R.chCtrl u j) &&& 0xF7F = v &&& 0xF7F ∧ d.flag (F.chStatus_WAITING u j) = false) ∧
    (∀ x : Fin 4, v.toNat / 16 % 4 = 0 → runs (.tuCfgCommit x v 0) fun d =>
      d.fld (F.tuCfg_PRESCALE x) = v.toNat % 16 ∧ d.fld (F.tuCfg_MASTER x) = v.toNat / 256 % 4 ∧
        d.fld (F.tuCfg_EVENT x) = v.toNat / 1024 % 8 ∧ d.fld (F.tuCfg_CHAIN x) = 0 ∧
        d.flag (F.tuStatus_CHAINED x) = false ∧ d.get (R.tuCount x) = count x (v.toNat % 16)) ∧
    (runs (.timerSnap 0) fun d => ∀ x : Fin 4, d.get (R.tuSnap x) = now x ∧ d.get (R.tuCount x) = now x) ∧
    ∀ lead, ∃ t, exec (.timerMatch lead) s = .next t ∧ exec (.chValueCommit n v (lead + 1)) s = exec (.chValueCommit n v 0) t ∧
      exec (.chCtrlCommit n v (lead + 1)) s = exec (.chCtrlCommit n v 0) t ∧
      (∀ x, exec (.tuCfgCommit x v (lead + 1)) s = exec (.tuCfgCommit x v 0) t) ∧
      exec (.timerSnap (lead + 1)) s = exec (.timerSnap 0) t

/-! ## The integrating converter (R389 to R420) -/

/-- Opening windows. A waiting open acts at its CONV edge: an angle window opens on a free core and aborts a time window that is open
there; a time window opens on a free core and otherwise waits up to MAX_LAT. An open that finds an angle window on its core, its
request busy or its core continuous, or that may not wait, is missed, which its ring and CONV_WINDOW_MISSED (0x0504) show. The first
pending window starts when its core is free, not before its own open and the end of the window that freed the core, nor after MAX_LAT.
A SYNC aborts an open window and restarts a continuous core, whose decimator it clears. Commits of CONV_START and
CONV_SYNC queue what they name, in order, and the monitor's burst opens its VBAT window every 100 frames, once in such a frame, unless the
supervisor is halted. With the frames stopped nothing of this happens. -/
def Obligations.ConversionWindows : Prop :=
  ∀ (s : State) (k : Fin 2), s.Inv →
    let c := s.chip
    let core := c.conv.cores[k]
    let runs (i : Instr) (P : Chip → Prop) : Prop := RunsBy i s [.regs, .win, .irq, .flt, .jnl, .conv, .faultQueue]
      [.convStatus, .convCounts, .resHead, .resStatus, .faultCounts] P
    let opens (i : Instr) (w : ConvWin) : Prop := runs i fun d => d.conv = { c.conv with
      inbox := [], cores := c.conv.cores.set k { core with win := some w } }
    let settled := c.conv.second = none ∨ c.reqBusy 16 = true
    (c.frameRuns = false → ∀ (r : Fin 16) (t : Fin 403) (m : Word) (n : BitVec 2), NoEffect (.convWindowOpen r) s ∧
      NoEffect (.pendingWindowStart k t) s ∧ NoEffect (.convSyncApply k) s ∧ NoEffect (.convStart m) s ∧ NoEffect (.convSync n) s) ∧
    (c.frameRuns = false ∨ c.supRuns = false ∨ c.tb.frame.toNat % 100 ≠ 0 ∨ c.conv.burst = some c.conv.base → NoEffect .monitorBurst s) ∧
    (c.frameRuns = true →
      (∀ (r : Fin 16) (e : Nat) (w : ConvWin), c.conv.inbox = [(e, .open w)] → w.req = r.val → c.reqCore r = k.val → settled →
        let missed : Prop := c.ringFill r ≠ 512 → c.conv.tags[r] < 16 → c.hasFreeSlot → runs (.convWindowOpen r) fun d =>
          d.conv.inbox = [] ∧ d.conv.cores = c.conv.cores ∧ d.conv.waiting = c.conv.waiting ∧
            d.fld F.convCounts_MISSED = min 65535 (c.fld F.convCounts_MISSED + 1) ∧
            d.win16 (256 * (192 + 8 * r.val) + 4 * ((c.get (R.resHead r)).toNat % 512) + 2) / 8192 = 2 ∧
            d.onRecord 0x0504 (k.val * 256 + r.val)
        let ready := ∀ x, core.win = some x → x.angle = true ∨ e < x.opened + x.len
        (c.isContinuous k = true ∨ c.reqBusy r = true → ready → missed) ∧
        (c.isContinuous k = false → c.reqBusy r = false →
          (w.angle = true → core.win = none → opens (.convWindowOpen r) { w with opened := e }) ∧
          (∀ x, w.angle = true → core.win = some x → x.angle = true → missed) ∧
          (∀ x, w.angle = true → core.win = some x → x.angle = false → e < x.opened + x.len → ∀ q : Fin 16, x.req = q.val →
            c.ringFill q ≠ 512 → c.conv.tags[q] < 16 → runs (.convWindowOpen r) fun d =>
              d.conv.cores[k].win = some { w with opened := e } ∧ d.conv.tags[q] = (c.conv.tags[q] + 1) % 16 ∧
                d.fld F.convCounts_ABORTED = min 65535 (c.fld F.convCounts_ABORTED + 1) ∧
                d.win16 (256 * (192 + 8 * q.val) + 4 * ((c.get (R.resHead q)).toNat % 512) + 2) / 8192 = 3) ∧
          (w.angle = false → core.win = none → (∀ y ∈ c.conv.waiting, y.1 ≠ k.val) →
            opens (.convWindowOpen r) { w with opened := e }) ∧
          (w.angle = false → (core.win ≠ none ∨ ∃ y ∈ c.conv.waiting, y.1 = k.val) → ready →
            (c.fld (F.reqCfg_MAX_LAT r) ≠ 0 → runs (.convWindowOpen r) fun d => d.conv = { c.conv with
              inbox := [], waiting := c.conv.waiting ++ [(k.val, e, w)] }) ∧
            (c.fld (F.reqCfg_MAX_LAT r) = 0 → missed)))) ∧
      (∀ (at' : Fin 403) (e : Nat) (w : ConvWin) (rest : List (Nat × Nat × ConvWin)), c.conv.waiting = (k.val, e, w) :: rest →
        let edge := c.conv.base + min 10 ((at'.val + 39) / 40)
        let last := e + 10 * (if w.req = 16 then 50 else c.fld (F.reqCfg_MAX_LAT w.req))
        (core.win = none → (∀ y ∈ c.conv.inbox, c.actCore y.2 = k.val → edge < y.1) → e ≤ edge → core.freed ≤ edge → edge ≤ last →
          runs (.pendingWindowStart k at') fun d => d.conv = { c.conv with
            waiting := rest, cores := c.conv.cores.set k { core with win := some { w with opened := edge } } }) ∧
        (core.win ≠ none ∨ edge < e ∨ edge < core.freed ∨ last < edge → NoEffect (.pendingWindowStart k at') s)) ∧
      (∀ e, c.conv.inbox = [(e, .sync k)] → settled →
        (c.isContinuous k = true → core.win = none → runs (.convSyncApply k) fun d => d.conv = { c.conv with
          inbox := [], cores := c.conv.cores.set k { core with outputs := 0, syncAt := e, comb := (0, 0) } }) ∧
        (c.isContinuous k = false → core.win = none → runs (.convSyncApply k) fun d => d.conv = { c.conv with inbox := [] }) ∧
        (∀ x (q : Fin 16), c.isContinuous k = false → core.win = some x → (x.angle = true ∨ e < x.opened + x.len) →
          x.req = q.val → c.ringFill q ≠ 512 → c.conv.tags[q] < 16 → runs (.convSyncApply k) fun d => d.conv.cores[k].win = none ∧
            d.win16 (256 * (192 + 8 * q.val) + 4 * ((c.get (R.resHead q)).toNat % 512) + 2) / 8192 = 3)) ∧
      (c.conv.inbox = [] →
        (∀ mask : Word, RunsIn (.convStart mask) s [.regs, .bus, .conv] [R.convStatus] fun d =>
          d.bus = (c.takeCommit R.convStart).bus ∧ d.conv = { c.conv with
            inbox := ((List.range 16).filter fun r => mask.getLsbD r).map fun r =>
              let n := max 1 (min 1000000 ((c.get (R.reqTime r)).toNat % 2 ^ 20))
              (c.conv.base, .open { req := r, angle := false, len := n, short := decide (n < 100) }) }) ∧
        (∀ mask : BitVec 2, RunsIn (.convSync mask) s [.regs, .bus, .conv] [R.convStatus] fun d =>
          d.bus = (c.takeCommit R.convSync).bus ∧ d.conv = { c.conv with
            inbox := ((List.range 2).filter fun j => mask.getLsbD j).map fun j => (c.conv.base, .sync j) })) ∧
      (c.supRuns = true → c.tb.frame.toNat % 100 = 0 → (c.get R.monCfg).toNat % 2 = k.val → c.isContinuous k = false →
        c.reqBusy 16 = false → core.win = none → (∀ y ∈ c.conv.waiting, y.1 ≠ k.val) → c.conv.burst ≠ some c.conv.base →
        (∀ y ∈ c.conv.inbox, c.actCore y.2 = k.val → c.conv.base < y.1) →
        runs .monitorBurst fun d => d.conv.slot = (c.conv.slot + 1) % 9 ∧ d.conv.burst = some c.conv.base ∧
          d.conv.cores[k].win = some { req := 16, code := 9, angle := false, len := 100, opened := c.conv.base } ∧
          d.conv.second = some (if c.conv.slot = 0 then (8, 0) else if c.conv.slot = 1 then (8, 1)
            else if c.conv.slot = 7 then (15, 0) else if 8 ≤ c.conv.slot then (15, 1) else (c.conv.slot + 8, k.val))))

/-- Results. A window that closes, completes or reaches its limit, an output of a continuous core and a pending window whose wait is over
each put one entry into the ring of their request: STAT, SUSPECT in the place of OK, SHORT and TRUNCATED on a suspect core in window mode,
CLIP where the input left the span, TAG and VALUE: the mean as the residue's steps resolve it, to within half a step of 5.5 V / (256 n)
(the steps' origin is free, log entry 116), or an output of the sinc³ decimator, in the span (where 24 bits do not hold it, the image is
free, log entry 40); HEAD and TAG go on. A full ring drops the entry and counts it. The host moves TAIL, but not past HEAD. With the
frames stopped nothing of this happens. -/
def Obligations.ConversionResults : Prop :=
  (∀ (n : Nat) (v : Int), 0 < n →
    2 * n * (10 * Chip.quantised n v - 10 * v).natAbs ≤ 360448 + 10 * n ∧ (36045 ≤ n → Chip.quantised n v = v)) ∧
  ∀ (s : State) (k : Fin 2) (r : Fin 16) (raw : Int) (left : Bool), s.Inv →
    (s.chip.frameRuns = false → NoEffect (.convWindowClose r raw left) s ∧ NoEffect (.timeWindowComplete k raw left) s ∧
      NoEffect (.windowTruncate k raw left) s ∧ (∀ parts, NoEffect (.decimatorOutput k raw parts left) s) ∧
      ∀ q t v, NoEffect (.pendingWindowExpire q t) s ∧ NoEffect (.ringTailCommit r v) s) ∧
    (s.chip.frameRuns = true → s.chip.conv.tags[r] < 16 →
    let c := s.chip
    let core := c.conv.cores[k]
    let head := (c.get (R.resHead r)).toNat
    let at' := 256 * (192 + 8 * r.val) + 4 * (head % 512)
    let held (v : Int) : Int := max (-419430) (min 8808038 v)
    let shown (v : Int) : Nat := if held v ≤ 8388607 then (held v % 16777216).toNat else Config.wideValue (held v) % 2 ^ 24
    let value (n : Nat) : Nat := if n = 0 then Config.freeNat c.free % 2 ^ 24 else shown (Chip.quantised n (held raw))
    let clip : Nat := if left = true ∨ held raw ≠ raw then 1 else 0
    let written (d : Chip) (stat clip value : Nat) : Prop :=
      let st := if core.suspect = true ∧ c.isContinuous k = false ∧ stat ∈ [0, 4, 5] then 6 else stat
      d.win16 at' = value % 65536 ∧ d.win16 (at' + 2) = st * 8192 + clip * 4096 + c.conv.tags[r] * 256 + value / 65536 ∧
        d.get (R.resHead r) = BitVec.ofNat 32 ((head + 1) % 1024) ∧ d.conv.tags[r] = (c.conv.tags[r] + 1) % 16
    let runs (i : Instr) (P : Chip → Prop) : Prop := Runs i s fun d =>
      P d ∧ ChangesOnly [.regs, .win, .irq, .flt, .jnl, .free, .conv, .faultQueue] c d
    (c.ringFill r ≠ 512 →
      (∀ e i w, c.conv.inbox = [(e, .close r i)] → core.win = some w → w.angle = true → w.req = r.val → w.idx = i →
        (∀ j : Fin 2, j ≠ k → ∀ x, c.conv.cores[j].win = some x → x.req ≠ r.val) → runs (.convWindowClose r raw left) fun d =>
          written d (if w.short then 5 else 0) clip (value (e - w.opened)) ∧ d.conv.cores[k].win = none ∧ d.conv.inbox = []) ∧
      (∀ w, core.win = some w → w.angle = false → w.req = r.val → w.opened + w.len ≤ c.conv.base + 10 →
        runs (.timeWindowComplete k raw left) fun d =>
          written d (if w.trunc then 4 else if w.short then 5 else 0) clip (value w.len) ∧ d.conv.cores[k].win = none) ∧
      (∀ w, core.win = some w → w.angle = true → w.req = r.val → w.opened + 2 ^ 28 ≤ c.conv.base + 10 →
        runs (.windowTruncate k raw left) fun d => written d 4 clip (value (2 ^ 28)) ∧ d.conv.cores[k].win = none) ∧
      (∀ w, core.win = some w → w.angle = false → w.req = r.val → w.trunc = true → w.opened + w.len ≤ c.conv.base + 10 →
        runs (.windowTruncate k raw left) fun d => written d 4 clip (value w.len) ∧ d.conv.cores[k].win = none) ∧
      (c.isContinuous k = true → c.fld (F.coreCfg_CONT_REQ k) = r.val → c.reqCore r = k.val →
        core.syncAt + (core.outputs + 1) * 2 ^ max 6 (min 10 (c.fld (F.coreCfg_OSR_LOG k))) ≤ c.conv.base + 10 →
        ∀ parts : Option (Int × Int), runs (.decimatorOutput k raw parts left) fun d =>
          let x := parts.getD (raw, raw)
          written d (if core.outputs < 2 then 1 else 0) (if clip = 1 ∨ held x.1 ≠ x.1 ∨ held x.2 ≠ x.2 then 1 else 0)
              (shown ((held raw + core.comb.1 + 3) / 6)) ∧
            d.conv.cores[k] = { core with outputs := core.outputs + 1, comb := (4 * held x.1 + core.comb.2, held x.2) }) ∧
      (∀ (t : Fin 403) (q : Fin 17) e w, c.conv.waiting = [(k.val, e, w)] → w.req = r.val → q.val = r.val →
        core.win ≠ none → c.conv.second = none ∨ c.reqBusy 16 = true → c.hasFreeSlot →
        let edge := c.conv.base + min 10 ((t.val + 39) / 40)
        (∀ y ∈ c.conv.inbox, c.actCore y.2 = k.val → edge < y.1) → e + 10 * c.fld (F.reqCfg_MAX_LAT r) ≤ edge →
        runs (.pendingWindowExpire q t) fun d =>
          written d 2 0 0 ∧ d.conv.waiting = [] ∧ d.fld F.convCounts_MISSED = min 65535 (c.fld F.convCounts_MISSED + 1) ∧
            d.onRecord 0x0504 (k.val * 256 + r.val))) ∧
    (c.ringFill r = 512 → c.hasFreeSlot → ∀ w, core.win = some w → w.angle = false → w.req = r.val →
      w.opened + w.len ≤ c.conv.base + 10 → runs (.timeWindowComplete k raw left) fun d =>
        d.fld (F.resStatus_DROPPED r) = min 255 (c.fld (F.resStatus_DROPPED r) + 1) ∧ d.flag (F.resStatus_OVF r) = true ∧
          d.get (R.resHead r) = c.get (R.resHead r) ∧ d.onRecord 0x0503 (k.val * 256 + r.val)) ∧
    ∀ v : DWord,
      let fill := (head + 1024 - v.toNat % 1024) % 1024
      (512 < fill → RunsIn (.ringTailCommit r v) s [.regs, .bus] [R.devStatus] fun d =>
        d.bus = (c.takeCommit (R.resTail r)).bus ∧ d.flag F.devStatus_PORT_ERR = true ∧ d.fld F.devStatus_PORT_ERR_CAUSE = 2) ∧
      (fill ≤ 512 → RunsIn (.ringTailCommit r v) s [.regs, .bus, .irq] [R.resTail r, R.resStatus r] fun d =>
        d.bus = (c.takeCommit (R.resTail r)).bus ∧ d.get (R.resTail r) = BitVec.ofNat 32 (v.toNat % 1024) ∧ d.fld (F.resStatus_FILL r) = fill))

/-! ## Supplies and power states (R477 to R508) -/

/-- The bands of VBAT with their hysteresis, the hold-up reserves, the boost controller's hysteresis and faults, and the rails, of which
the supervisor watches VIO. In OFF nothing measures but VBAT itself goes on. -/
def Obligations.Supplies : Prop :=
  ∀ s : State, s.Inv →
    let c := s.chip
    let p := c.power
    (∀ mv : Nat,
      let dip := if p.dip then decide (mv < 3250) || !p.vpreOk else decide (mv < 3000)
      let low := decide (mv < (if p.low then 4750 else 4500))
      let reduced := !dip && low
      let ov := decide ((if p.ov then 57750 else 58000) < mv)
      let counted (f : Fld) (rises : Bool) (d : Chip) : Prop := d.fld f = if rises then min 255 (c.fld f + 1) else c.fld f
      (p.isOff = true → RunsIn (.vbatBandChange mv) s [.power] [] fun d => d.power = { p with vbat := mv }) ∧
      (p.isOff = false → c.hasFreeSlot → RunsBy (.vbatBandChange mv) s [.regs, .irq, .flt, .jnl, .power, .faultQueue]
          [.faultCounts, .boostStatus, .pwrCounts] fun d =>
        d.power = { p with vbat := mv, dip := dip, low := low, reduced := reduced, ov := ov, reached := p.reached && !p.dip && !p.ov } ∧
          counted F.pwrCounts_DIPS (dip && !p.dip) d ∧ counted F.pwrCounts_REDUCED (reduced && !p.reduced) d ∧
          counted F.pwrCounts_OV (ov && !p.ov) d ∧ (dip = true → p.dip = false → d.onRecord 0x0602 0) ∧
          (reduced = true → p.reduced = false → d.onRecord 0x0601 0) ∧ (ov = true → p.ov = false → d.onRecord 0x0603 0))) ∧
    (∀ vhold vpre : BitVec 10,
      let state := c.fld F.pwrState_STATE
      let load := (if state = 0 then 1900 else if state = 1 then 900 else if state = 2 then 120 else 6) + 10 * c.fld F.holdupCfg_P_EXT
      let ve := 400 + c.fld F.holdupCfg_V_DIODE
      let reserve (mw : Nat) : Nat := if vhold.toNat ≤ ve ∨ c.fld F.holdupCfg_C_HOLD = 0 then 0
        else min 65535 (c.fld F.holdupCfg_C_HOLD * (vhold.toNat * vhold.toNat - ve * ve) / (200 * mw))
      (p.isOff = true → NoEffect (.holdupUpdate vhold vpre) s) ∧
      (p.isOff = false → RunsIn (.holdupUpdate vhold vpre) s [.regs] [R.supplyMeas, R.holdupStatus] fun d =>
        d.fld F.supplyMeas_VHOLD_MEAS = vhold.toNat ∧ d.fld F.supplyMeas_VPRE_MEAS = vpre.toNat ∧
          d.fld F.holdupStatus_RESERVE = reserve load ∧ d.fld F.holdupStatus_TAG_RESERVE = reserve (load + 60))) ∧
    (∀ meas : BitVec 10, c.frameRuns = false → NoEffect (.boostChargeControl meas) s) ∧
    (∀ meas : BitVec 10, c.frameRuns = true → c.flag F.boostCtrl_EN = false → meas.toNat ≤ 750 →
      meas.toNat ≤ 5 * max 48 (min 144 (c.fld F.boostCtrl_VSET)) + 40 →
      RunsIn (.boostChargeControl meas) s [.regs, .power] [R.boostStatus] fun d =>
        d.fld F.boostStatus_VBOOST_MEAS = meas.toNat ∧ d.power = { p with charging := false, reached := false }) ∧
    (∀ meas : BitVec 10, c.frameRuns = true → c.flag F.boostCtrl_EN = true → c.boostStopped = false →
      let vset := 5 * max 48 (min 144 (c.fld F.boostCtrl_VSET))
      let low := vset - 5 * max 1 (c.fld F.boostCtrl_HYST)
      (meas.toNat ≤ vset + 40 → meas.toNat ≤ 750 → c.weakGates = false → c.shadows = false →
        RunsIn (.boostChargeControl meas) s [.regs, .power] [R.boostStatus] fun d =>
          d.fld F.boostStatus_VBOOST_MEAS = meas.toNat ∧
            d.power = { p with charging := if meas.toNat < low then true else if vset ≤ meas.toNat then false else p.charging
                               reached := p.reached || decide (low ≤ meas.toNat) }) ∧
      (vset + 40 < meas.toNat ∨ 750 < meas.toNat → c.hasFreeSlot →
        RunsBy (.boostChargeControl meas) s [.regs, .irq, .flt, .jnl, .power, .faultQueue] [.faultCounts, .boostStatus] fun d =>
          d.flag F.boostStatus_OV = true ∧ d.power.charging = false ∧ d.fld F.boostStatus_STATE = 4 ∧
            d.irq.pend.getLsbD 16 = true ∧ d.onRecord 0x0607 0)) ∧
    (∀ ms : Nat, max 1 (c.fld F.boostTiming_START_MAX) ≤ ms → c.flag F.boostCtrl_EN = true → c.boostStopped = false →
      p.reached = false → c.hasFreeSlot →
      RunsBy (.boostStartTimeout ms) s [.regs, .irq, .flt, .jnl, .faultQueue] [.faultCounts, .boostStatus] fun d =>
        d.flag F.boostStatus_START_TIMEOUT = true ∧ d.irq.pend.getLsbD 16 = true ∧ d.onRecord 0x0609 0) ∧
    (∀ ms : Nat, ms < max 1 (c.fld F.boostTiming_START_MAX) ∨ c.flag F.boostCtrl_EN = false ∨ c.boostStopped = true ∨
      p.reached = true → NoEffect (.boostStartTimeout ms) s) ∧
    (∀ code : BitVec 10,
      (p.charging = true → c.boostStopped = false → p.paused = false → 2 * c.activeLimit ≤ code.toNat → c.hasFreeSlot →
        RunsBy (.boostOvercurrent code) s [.regs, .irq, .flt, .jnl, .power, .faultQueue] [.faultCounts, .boostStatus] fun d =>
          d.power = { p with paused := true } ∧ d.flag F.boostStatus_OC = true ∧ d.irq.pend.getLsbD 16 = true ∧
            d.onRecord 0x060A 0) ∧
      (p.charging = false ∨ c.boostStopped = true ∨ p.paused = true ∨ code.toNat < 2 * c.activeLimit →
        NoEffect (.boostOvercurrent code) s)) ∧
    (RunsIn .boostOcPauseEnd s [.regs, .power] [R.boostStatus] fun d =>
      d.power = { p with paused := false } ∧ d.fld F.boostStatus_STATE ≠ 5) ∧
    (p.isOff = true → ∀ r, NoEffect (.railOutOfReg r) s ∧ NoEffect (.railInRegulation r) s) ∧
    (c.supRuns = false → NoEffect (.railOutOfReg .vio) s ∧ NoEffect (.railInRegulation .vio) s) ∧
    (p.isOff = false →
      (p.vcoreOk = true → c.hasFreeSlot → RunsIn (.railOutOfReg .vcore) s [.regs, .irq, .flt, .jnl, .power, .faultQueue]
        [R.faultCounts] fun d => d.power = { p with vcoreOk := false } ∧ d.onRecord 0x0605 0) ∧
      (c.supRuns = true → p.vioOk = true → c.hasFreeSlot → RunsIn (.railOutOfReg .vio) s
        [.regs, .irq, .flt, .jnl, .power, .faultQueue] [R.faultCounts] fun d =>
          d.power = { p with vioOk := false } ∧ d.onRecord 0x0606 0) ∧
      (p.vpreOk = true → p.dip = false → p.reduced = false → p.ov = false → 4750 ≤ p.vbat → p.vbat < 57750 → c.hasFreeSlot →
        RunsBy (.railOutOfReg .vpre) s [.regs, .irq, .flt, .jnl, .power, .faultQueue] [.faultCounts, .boostStatus, .pwrCounts] fun d =>
          d.power.vpreOk = false ∧ d.onRecord 0x0604 0) ∧
      ∀ r : Rail, (r = .vio → c.supRuns = true) →
        RunsBy (.railInRegulation r) s [.regs, .irq, .flt, .jnl, .power, .faultQueue] [.faultCounts, .boostStatus, .pwrCounts] fun d =>
          (match r with
            | .vpre => d.power.vpreOk
            | .vcore => d.power.vcoreOk
            | .vio => d.power.vioOk) = true)

/-- Power states. The device goes to the state that R497 chooses from LTR, the key and the floors: at once to a shallower one, to WATCH,
RETAIN and OFF once nothing defers it and the node has left the ring. WATCH and RETAIN put the output stage and the link down; RETAIN
and OFF empty the key slots. An enabled wake event ends WATCH and is noted in RETAIN and OFF for the reset that follows; in OFF only
KEY_IN and RESET_N wake. Of events that coincide the lowest code stands. A level of KEY_IN is shown, ends the key-off of R497, abandons an
entry to OFF unless POWER_OFF forces it and OFF has not been the chosen state, and wakes when it rises. The supervisor's services leave
STATE as it is. -/
def Obligations.PowerStates : Prop :=
  ∀ s : State, s.Inv →
    let c := s.chip
    let state := c.fld F.pwrState_STATE
    let ringWide := c.flag F.pwrState_RING_LTR_ACTIVE
    let ltr := if ringWide then c.power.ringLtr.toNat else (c.get R.ltr).toNat
    let deepest := if 35000 ≤ ltr then 4 else if 3000 ≤ ltr then 3 else if 150 ≤ ltr then 2 else if 4 ≤ ltr then 1 else 0
    let allowed := if deepest = 4 ∧ ¬ (c.flag F.pwrCfg_OFF_EN = true ∧ c.power.keyOff = true) then 3 else deepest
    let floored := c.flag F.pwrState_ROTATING || c.flag F.pwrStatus_FLOOR_DWELL ||
      ((c.fld F.ringStatus_LINK == 3 || c.flag F.twinStatus_LINK_UP) && !ringWide) || (c.isMaster && !c.ring.rotating.isEmpty)
    let chosen := if floored then min allowed 1 else allowed
    let idle := c.power.isOff = false ∧ c.tb.running = true ∧ c.power.offEntry = false
    let ripe := idle ∧ c.deferred = false ∧ c.masterWaits = false
    let moves (P : Chip → Prop) : Prop := RunsBy .powerStateChange s
      [.regs, .win, .own, .tb, .bus, .irq, .flt, .jnl, .sched, .outs, .timers, .conv, .power, .cipher, .ring, .twin, .can, .tag,
        .faultQueue]
      [.devStatus, .pwrState, .schedStatus, .twinStatus, .ringStatus, .convStatus, .convCounts, .resHead, .resStatus, .outStatus,
        .bankStatus, .injDiag, .faultCounts, .slotInfo, .canStatus, .canDiagStatus, .tagStatus, .pwrStatus, .boostStatus, .pwrCounts,
        .cntOrphaned, .cntWithheld, .ringJoinStatus, .ringMembers, .twinProgress, .twinLogHead] P
    let asleep (d : Chip) : Prop := d.flag F.outStatus_ARMED = false ∧ d.fld F.ringStatus_LINK = 0 ∧ d.tb.epoch = 0xFFFF ∧
      (∀ k : Fin 2, d.conv.cores[k].win = none) ∧ d.power.charging = false
    (idle → chosen ≤ 1 → state ≤ 1 → moves fun d => d.fld F.pwrState_STATE = chosen ∧ d.flag F.outStatus_ARMED = c.flag F.outStatus_ARMED) ∧
    (idle → state = 2 → chosen ≤ 1 → moves fun d =>
      d.fld F.pwrState_STATE ≤ 1 ∧ d.fld F.pwrState_WAKE_SOURCE = (if c.timers.wakeDue then 4 else 5)) ∧
    (c.power.offEntry = false → c.power.isOff = true ∨ c.tb.running = false ∨ (2 ≤ state ∧ chosen = state) →
      NoEffect .powerStateChange s) ∧
    (idle → state < chosen → 2 ≤ chosen → c.deferred = true ∨ c.masterWaits = true → NoEffect .powerStateChange s) ∧
    (ripe → c.onRing = true → state < chosen → chosen ∈ [2, 3] →
      moves fun d => d.fld F.pwrState_STATE = state ∧ d.ring.closing.isSome = true) ∧
    (ripe → c.onRing = false →
      (chosen = 2 → state ≤ 1 → moves fun d => d.fld F.pwrState_STATE = 2 ∧ asleep d ∧ d.cipher = c.cipher) ∧
      (chosen = 3 → state ≤ 2 → moves fun d => d.fld F.pwrState_STATE = 3 ∧ (state ≤ 1 → asleep d) ∧
        (∀ k : Fin 16, d.cipher.slots[k] = none) ∧ d.flag F.devStatus_SUP_RUN = false)) ∧
    (ripe → chosen = 4 → state < 4 → moves fun d => d.power.offEntry = true ∨ d.power.isOff = true) ∧
    (c.power.offEntry = false → (c.deferred = true → NoEffect .deferredEntry s) ∧
      (c.deferred = false → exec .deferredEntry s = exec .powerStateChange s)) ∧
    (c.power.isOff = false → c.tb.running = true → c.power.offEntry = true → c.power.forced = true ∨ chosen = 4 → c.fld F.tagStatus_PHASE = 0 →
      c.flag F.mbxStatus_BUSY = false → c.jnl.waiting = [] → c.onRing = false → Runs .deferredEntry s fun d =>
        d.power.isOff = true ∧ d.power.offEntry = false ∧ d.tb.running = false ∧ d.flag F.devStatus_READY = false ∧
          d.flag F.devStatus_SUP_RUN = false ∧ ∀ k : Fin 16, d.cipher.slots[k] = none) ∧
    (∀ code : Fin 8, c.power.isOff = false →
      (state ≤ 1 ∧ (c.power.woke = false ∨ c.fld F.pwrState_WAKE_SOURCE ≤ code.val) ∨ c.wakeEnabled code = false →
        NoEffect (.wake code) s) ∧
      (state ≤ 1 → c.power.woke = true → c.wakeEnabled code = true → code.val < c.fld F.pwrState_WAKE_SOURCE →
        RunsIn (.wake code) s [.regs] [R.pwrState] fun d =>
          d.fld F.pwrState_WAKE_SOURCE = code.val ∧ d.fld F.pwrState_STATE = state) ∧
      (c.wakeEnabled code = true → state = 2 → RunsBy (.wake code) s
          [.regs, .tb, .irq, .flt, .jnl, .timers, .conv, .power, .ring, .can, .faultQueue]
          [.devStatus, .pwrState, .ringStatus, .convStatus, .faultCounts, .canStatus, .pwrStatus, .boostStatus, .pwrCounts,
            .ringJoinStatus, .ringMembers] fun d =>
        d.fld F.pwrState_STATE ≤ 1 ∧ d.fld F.pwrState_WAKE_SOURCE = (if c.timers.wakeDue then min 4 code.val else code.val) ∧
          d.fld F.pwrCounts_WAKES = min 255 (c.fld F.pwrCounts_WAKES + 1) ∧ d.flag F.pwrStatus_FLOOR_DWELL = true ∧
          d.power.woke = true) ∧
      (c.wakeEnabled code = true → state = 3 →
        (c.power.wakeCode = none → RunsIn (.wake code) s [.regs, .power] [R.pwrState, R.pwrCounts] fun d =>
          d.fld F.pwrState_STATE = 3 ∧ d.fld F.pwrState_WAKE_SOURCE = code.val ∧
            d.fld F.pwrCounts_WAKES = min 255 (c.fld F.pwrCounts_WAKES + 1) ∧ d.power = { c.power with wakeCode := some code.val }) ∧
        (∀ old, c.power.wakeCode = some old → old < 8 → RunsIn (.wake code) s [.regs, .power] [R.pwrState] fun d =>
          d.fld F.pwrState_STATE = 3 ∧ d.fld F.pwrState_WAKE_SOURCE = min old code.val ∧
            d.power = { c.power with wakeCode := some (min old code.val) }))) ∧
    (c.power.isOff = true →
      (∀ code : Fin 8, code.val < 6 → NoEffect (.wake code) s) ∧
      (∀ code : Fin 8, 6 ≤ code.val → RunsIn (.wake code) s [.power] [] fun d =>
        d.power = { c.power with wakeCode := some (min code.val (c.power.wakeCode.getD code.val)) }) ∧
      exec .pinReset s = exec (.wake 7) s) ∧
    (∀ ms : Nat, c.fld F.pwrCfg_DWELL ≤ ms → RunsIn (.wakeDwellEnd ms) s [.regs] [R.pwrStatus] fun d =>
      d.flag F.pwrStatus_FLOOR_DWELL = false ∧ d.flag F.pwrStatus_KEY = c.flag F.pwrStatus_KEY) ∧
    (∀ ms : Nat, ms < c.fld F.pwrCfg_DWELL → NoEffect (.wakeDwellEnd ms) s) ∧
    (c.power.offEntry = false → RunsIn (.keyInChange false) s [.regs, .power] [R.pwrStatus] fun d =>
      d.flag F.pwrStatus_KEY = false ∧ d.power = { c.power with keyOff := false }) ∧
    (c.power.isOff = false → state ≤ 1 → c.power.woke = false →
      (c.power.offEntry = false → RunsIn (.keyInChange true) s [.regs, .power] [R.pwrStatus] fun d =>
        d.flag F.pwrStatus_KEY = true ∧ d.power = { c.power with keyOff := false }) ∧
      (c.power.offEntry = true → c.power.forced = false ∨ chosen = 4 → ∀ high,
        RunsIn (.keyInChange high) s [.regs, .power] [R.pwrStatus, R.tagStatus] fun d =>
          d.flag F.pwrStatus_KEY = high ∧ d.power = { c.power with keyOff := false, offEntry := false, forced := false }) ∧
      (c.power.offEntry = true → c.power.forced = true → chosen ≠ 4 → ∀ high,
        RunsIn (.keyInChange high) s [.regs, .power] [R.pwrStatus] fun d =>
          d.flag F.pwrStatus_KEY = high ∧ d.power = { c.power with keyOff := false })) ∧
    (c.power.isOff = false → state = 2 → c.power.offEntry = false → c.flag F.pwrStatus_KEY = false →
      c.flag F.pwrCfg_WAKE_KEY = true → Runs (.keyInChange true) s fun d =>
        d.flag F.pwrStatus_KEY = true ∧ d.fld F.pwrState_STATE ≤ 1 ∧
          d.fld F.pwrState_WAKE_SOURCE = (if c.timers.wakeDue then 4 else 6)) ∧
    (∀ i ∈ [Instr.testerPresent, .readDataByIdentifier, .requestSeed, .routineJournalRead, .reportDtcByStatusMask, .journalInfo,
        .journalRead, .serviceGet, .tagUpdate, .mailboxComplete, .supSourceClaim], Runs i s fun d => d.fld F.pwrState_STATE = state) ∧
    ∀ held : Nat,
      (c.flag F.pwrStatus_KEY = true ∨ held < c.fld F.pwrCfg_KEYOFF_DELAY → NoEffect (.keyoffDelayExpire held) s) ∧
      (c.flag F.pwrStatus_KEY = false → c.fld F.pwrCfg_KEYOFF_DELAY ≤ held →
        RunsIn (.keyoffDelayExpire held) s [.power] [] fun d => d.power = { c.power with keyOff := true })

/-! ## The Dielm ring (R514 to R568, R695) -/

/-- Posted remote writes and their fate. A WRITE cell that this node claims is applied as a port commit is, and noted for its initiator
with its PSEQ and one more applied write, or answered by a NACK with reason 1 where the region is protected, and 3 or 2 where the
commit is refused; a NACK waits for the judgement of the write it names; a CONFIRM that names this node is a report of its sender. A
write that expires unsent is logged with reason 8. At its judgement a write is logged with the reason of its NACK, as returned (5), or
as unconfirmed (6), and is not logged where a report covers it and counts it as applied. A cell that is not claimed, but for a CONFIRM that
names this node beside its addressee (log entry 120), does nothing but add its symbol errors, which are counted of every cell that passes a
powered receiver. -/
def Obligations.RingWrites : Prop :=
  ∀ s : State, s.Inv →
    let c := s.chip
    let heard (x : RingCell) (d : Chip) : Prop := d.get R.ringCounts =
      (if c.power.isOff = true ∨ 3 ≤ c.fld F.pwrState_STATE then c
        else c.addFld F.ringCounts_SYMBOL_ERRORS (Chip.cellErrors x)).get R.ringCounts
    let ringIs (i : Instr) (x : RingCell) (r : Ring) : Prop :=
      RunsIn i s [.regs, .ring] [R.ringCounts] fun d => d.ring = r ∧ heard x d
    let head := c.fld F.remoteErr_HEAD
    let logged (w : RWrite) (reason : Nat) (d : Chip) : Prop :=
      d.win16 (0x1D000 + 256 * head + 2) = w.tag % 256 * 256 + reason ∧ d.win16 (0x1D000 + 256 * head + 4) / 256 = w.target % 256 ∧
        d.win16 (0x1D000 + 256 * head + 6) = w.addr % 65536 ∧ d.fld F.remoteErr_HEAD = (head + 1) % 16 ∧
          d.irq.pend.getLsbD 55 = true
    (∀ (x : RingCell) (phaseG : Bool), c.claims? 1 x = true →
      let src := Chip.cn x 3
      let a := (Chip.cn x 6 + 256 * Chip.cn x 7 + 65536 * Chip.cn x 8) % 2 ^ 23
      let v := BitVec.ofNat 32 (Chip.cn x 9 + 256 * Chip.cn x 10 + 65536 * Chip.cn x 11 + 16777216 * Chip.cn x 12)
      let acc := ((c.ring.inits.find? fun y => y.node == src).map fun y => y.acc).getD 0
      let noted (more : Nat) : RInit := { node := src, pseq := Chip.cn x 5, acc := (acc + more) % 256, changed := true }
      let guarded := decide (1 ≤ regionOf a) && decide (regionOf a ≤ 13) && bitOf (c.get R.ringRemoteCfg).toNat (regionOf a)
      let late := Chip.lateRegion a && !c.ready
      let refused (k : Nat) : Prop := RunsIn (.writeMessage x phaseG) s [.regs, .ring] [R.ringCounts] fun d =>
        heard x d ∧ d.ring.claimed = true ∧ d.ring.inits.getLast? = some (noted 0) ∧
          d.ring.tx = c.ring.tx ++ [{ bytes := c.mkCell 2 src ([BitVec.ofNat 8 (Chip.cn x 4), BitVec.ofNat 8 (Chip.cn x 5),
            BitVec.ofNat 8 k] ++ leBytes 3 a), entry := none }]
      (guarded = true → refused 1) ∧ (guarded = false → late = true → refused 3) ∧
      (guarded = false → late = false → Chip.extRow? a = none → refused 2) ∧
      (guarded = false → late = false → c.absent a = true →
        RunsIn (.writeMessage x phaseG) s [.regs, .ring] [R.ringCounts] fun d =>
          heard x d ∧ d.ring.claimed = true ∧ d.ring.inits.getLast? = some (noted 1) ∧ d.ring.tx = c.ring.tx) ∧
      ∀ r, guarded = false → late = false → Chip.extRow? a = some r → c.absent a = false →
        (r.rw ||| r.w1c ||| r.wo = 0 → refused 2) ∧ (r.rw ||| r.w1c ||| r.wo ≠ 0 → c.ruleRefuses a v.toNat = true → refused 2) ∧
        (r.rw ||| r.w1c ||| r.wo ≠ 0 → c.ruleRefuses a v.toNat = false → v &&& (r.ro ||| r.rc) = 0 → regionOf a ∈ [2, 3, 4, 10, 13] →
          RunsIn (.writeMessage x phaseG) s [.regs, .bus, .ring] [R.ringCounts] fun d =>
            heard x d ∧ d.ring.claimed = true ∧ d.ring.inits.getLast? = some (noted 1) ∧ d.ring.tx = c.ring.tx ∧
              d.bus = { c.bus with commits := c.bus.commits ++ [{ addr := a, value := v, wait := if phaseG && c.frameRuns then 2 else 1 }] })) ∧
    (∀ (x : RingCell) (phaseG : Bool), Chip.cellOk x = true → c.claims? 1 x = false →
      ringIs (.writeMessage x phaseG) x { c.ring with claimed := false }) ∧
    (∀ (x : RingCell) (phaseG : Bool), Chip.cellOk x = false →
      ¬(c.link = 3 ∧ c.quota ≠ 0 ∧ Chip.cn x 2 = c.node ∧ Chip.cellType x = 1 ∧ Chip.cellSecure x = false ∧
        bitsOf x.bad.toNat 5 3 = 0) → ringIs (.writeMessage x phaseG) x { c.ring with claimed := false }) ∧
    (∀ (x : RingCell) (phaseG : Bool), Chip.cellOk x = false → c.link = 3 → c.quota ≠ 0 → Chip.cn x 2 = c.node → Chip.cellType x = 1 →
      Chip.cellSecure x = false → bitsOf x.bad.toNat 5 3 = 0 → ringIs (.writeMessage x phaseG) x { c.ring with
        claimed := true, tx := c.ring.tx ++ [{ bytes := c.mkCell 2 (Chip.cn x 3) ([BitVec.ofNat 8 (Chip.cn x 4),
          BitVec.ofNat 8 (Chip.cn x 5), 4#8] ++ leBytes 3 ((Chip.cn x 6 + 256 * Chip.cn x 7 + 65536 * Chip.cn x 8) % 2 ^ 23))
                                               entry := none }] }) ∧
    (∀ x : RingCell, c.claims? 2 x = true →
      let mine (w : RWrite) : Bool :=
        w.target == Chip.cn x 3 && w.tag == Chip.cn x 4 && w.sent && w.pseq == Chip.cn x 5
      (c.ring.writes.filter mine = [] → ringIs (.nackMessage x) x { c.ring with claimed := true }) ∧
      ∀ w, c.ring.writes.filter mine = [w] →
        (w.judged = false → ringIs (.nackMessage x) x { c.ring with
          claimed := true, writes := c.ring.writes.map fun y => if y = w then { y with nack := some (Chip.cn x 6) } else y }) ∧
        (w.judged = true → w.nack = some 6 →
          RunsIn (.nackMessage x) s [.regs, .win, .irq, .ring] [R.remoteErr, R.ringCounts] fun d =>
            heard x d ∧ logged w (Chip.cn x 6) d) ∧
        (w.judged = true → w.nack ≠ some 6 → ringIs (.nackMessage x) x { c.ring with claimed := true })) ∧
    (∀ x : RingCell, c.link = 3 → Chip.cellOk x = true → Chip.cellType x = 3 → Chip.cellSecure x = false →
      RunsIn (.confirmMessage x) s [.regs, .ring] [R.ringCounts] fun d =>
      heard x d ∧ d.ring.claimed = c.claims? 3 x ∧ ∀ i, i < min 3 (Chip.cn x 4) → Chip.cn x (5 + 3 * i) = c.node →
        (∀ j, i < j → j < min 3 (Chip.cn x 4) → Chip.cn x (5 + 3 * j) ≠ c.node) →
          (d.target? (Chip.cn x 3)).report = some (Chip.cn x (6 + 3 * i), Chip.cn x (7 + 3 * i))) ∧
    (∀ x : RingCell, c.claims? 2 x = false → ringIs (.nackMessage x) x { c.ring with claimed := false }) ∧
    (∀ x : RingCell, ¬(c.link = 3 ∧ Chip.cellOk x = true ∧ Chip.cellType x = 3 ∧ Chip.cellSecure x = false) →
      ringIs (.confirmMessage x) x { c.ring with claimed := false }) ∧
    (∀ (tag : Byte) (w : RWrite), c.ring.writes.find? (fun y => y.tag == tag.toNat && !y.sent) = some w →
      RunsIn (.remoteWriteExpire tag) s [.regs, .win, .irq, .ring] [R.remoteErr] fun d =>
        logged w 8 d ∧ d.ring.writes = c.ring.writes.erase w) ∧
    (∀ tag : Byte, (∀ w ∈ c.ring.writes, w.tag = tag.toNat → w.sent = true) → NoEffect (.remoteWriteExpire tag) s) ∧
    (∀ (tag : Byte), (∀ w ∈ c.ring.writes, w.tag = tag.toNat → w.judged = true) → NoEffect (.remoteWriteJudge tag) s) ∧
    ∀ (tag : Byte) (w : RWrite), c.ring.writes = [w] → w.tag = tag.toNat → w.judged = false → w.counted = false →
      let addressee := c.target? w.target
      let more := match addressee.report with
        | some r => (r.2 + 256 - addressee.prev % 256) % 256
        | none => 0
      let isCovered := match addressee.report with
        | some r => w.sent && !w.old && decide ((r.1 + 256 - w.pseq) % 256 < 128)
        | none => false
      let judges (n : Option Nat) (count : Bool) (P : Chip → Prop) : Prop :=
        RunsIn (.remoteWriteJudge tag) s [.regs, .win, .irq, .ring] [R.remoteErr] fun d =>
          d.ring.writes = [{ w with judged := true, nack := n, counted := count }] ∧ P d
      (∀ k, w.nack = some k → k ≠ 6 → judges (some k) (isCovered && !w.returned) fun d => k < 256 → logged w k d) ∧
      (w.nack = none → w.returned = true → judges none false (logged w 5)) ∧
      (w.nack = none → w.returned = false → isCovered = false → judges (some 6) false (logged w 6)) ∧
      (w.nack = none → w.returned = false → isCovered = true → 1 ≤ more → judges none true fun d =>
        d.fld F.remoteErr_HEAD = head ∧ d.irq = c.irq) ∧
      (w.nack = none → w.returned = false → isCovered = true → more = 0 → judges (some 6) true (logged w 6))

/-- HOST messages. A claimed HOST cell is stored as an inbound entry with its source, channel, length and bytes, with FLAGS 0 where it is
not secured, 3 where its MAC verifies for the first time and 1 where it does not, which is a fault and is counted; where the inbound queue
is full it is not claimed. The device takes the first valid outbound entry: it refuses it, STATE 5, without a quota, or a secured one
without the message key, and queues it, STATE 1, otherwise, where the queue leaves 8 places free; it refuses one with a damaged word. Its
cell, where it comes back, is made DONE and makes the entry STATE 4, and one that does not come back, STATE 3, where the device still
holds the block. A commit of RING_RX_TAIL past the head is refused. The symbol errors of the cells that pass are counted. -/
def Obligations.RingHostMessages : Prop :=
  ∀ s : State, s.Inv →
    let c := s.chip
    let tx := c.ring.tx.length
    let head := (c.get R.ringRxHead).toNat
    let heard (x : RingCell) (d : Chip) : Prop := d.get R.ringCounts =
      (if c.power.isOff = true ∨ 3 ≤ c.fld F.pwrState_STATE then c
        else c.addFld F.ringCounts_SYMBOL_ERRORS (Chip.cellErrors x)).get R.ringCounts
    let unclaims (x : RingCell) : Prop := RunsIn (.hostMessage x) s [.regs, .ring] [R.ringCounts] fun d =>
      d.ring = { c.ring with claimed := false } ∧ heard x d
    let full := (head + 256 - (c.get R.ringRxTail).toNat % 256) % 256 = 128
    let slot := 456 * 256 + 16 * (head % 128)
    let stored (x : RingCell) (flags : Nat) (d : Chip) : Prop :=
      d.win16 (slot + 2) = Chip.cn x 3 + 256 * Chip.cn x 4 ∧ d.win16 (slot + 4) = Chip.cn x 5 + 256 * flags ∧
        (∀ i, i < (if Chip.cellSecure x then 4 else 8) → d.winByte (slot + 6 + i) = Chip.cb x (6 + i)) ∧
        d.win16 (slot + 14) = c.tb.epoch.toNat ∧ (d.get R.ringRxHead).toNat = (head + 1) % 256 ∧ d.ring.claimed = true
    (∀ x : RingCell, c.claims? 7 x = false → unclaims x) ∧
    (∀ x : RingCell, c.claims? 7 x = true →
      (full → unclaims x) ∧
      (¬full → Chip.cellSecure x = false →
        RunsIn (.hostMessage x) s [.regs, .win, .irq, .ring] [R.ringCounts, R.ringRxHead] fun d =>
          stored x 0 d ∧ d.ring = { c.ring with claimed := true }) ∧
      (¬full → Chip.cellSecure x = true → (∀ b, c.authBeacon x = some b →
        RunsIn (.hostMessage x) s [.regs, .win, .irq, .ring] [R.ringCounts, R.ringRxHead] fun d =>
          stored x 3 d ∧ ∃ mac, d.ring.macs = c.ring.macs ++ [(Chip.cn x 3, mac, b.epoch, b.cycle)])) ∧
      (¬full → Chip.cellSecure x = true → c.roleKey 3 = none → c.hasFreeSlot →
        RunsIn (.hostMessage x) s [.regs, .win, .irq, .flt, .jnl, .ring, .faultQueue] [R.faultCounts, R.cipherCounts, R.ringCounts, R.ringRxHead]
          fun d => stored x 1 d ∧ d.fld F.cipherCounts_RING_AUTH_FAIL = min 255 (c.fld F.cipherCounts_RING_AUTH_FAIL + 1) ∧
            d.onRecord 0x0904 (Chip.cn x 3))) ∧
    (c.nextOut = none → NoEffect .outboundEntrySend s) ∧
    (∀ e, c.nextOut = some e → (∀ w ∈ c.win.ecc, w.1 < Chip.outOff e / 2 ∨ Chip.outOff e / 2 + 8 ≤ w.1) →
      let o := Chip.outOff e
      let secure := bitOf (c.winByte (o + 5)).toNat 0
      let len := (c.winByte (o + 4)).toNat
      (c.link ≠ 3 → NoEffect .outboundEntrySend s) ∧
      (c.link = 3 → c.quota = 0 → RunsIn .outboundEntrySend s [.regs, .win] [R.ringCounts] fun d =>
        d.winByte (o + 1) = 5 ∧ d.winByte o = 0 ∧
          d.fld F.ringCounts_TX_REFUSED = min 255 (c.fld F.ringCounts_TX_REFUSED + 1)) ∧
      (c.link = 3 → c.quota ≠ 0 → secure = true → c.roleKey 3 = none ∨ 4 < len → c.hasFreeSlot →
        RunsIn .outboundEntrySend s [.regs, .win, .irq, .flt, .jnl, .faultQueue] [R.faultCounts] fun d =>
          d.winByte (o + 1) = 5 ∧ d.winByte o = 0 ∧ d.onRecord 0x0905 e) ∧
      (c.link = 3 → c.quota ≠ 0 → (secure = true → c.roleKey 3 ≠ none ∧ len ≤ 4) → 24 < tx → NoEffect .outboundEntrySend s) ∧
      (c.link = 3 → c.quota ≠ 0 → secure = true → c.roleKey 3 ≠ none → len ≤ 4 → tx ≤ 24 →
        RunsIn .outboundEntrySend s [.win, .ring] [] fun d => d.winByte (o + 1) = 1 ∧ d.winByte o = 1 ∧
          d.ring = { c.ring with tx := c.ring.tx ++ [{ bytes := c.hostCell e, entry := some e }] }) ∧
      (c.link = 3 → c.quota ≠ 0 → secure = false → tx ≤ 24 → RunsIn .outboundEntrySend s [.win, .ring] [] fun d =>
        d.winByte (o + 1) = 1 ∧ d.winByte o = 1 ∧ d.ring = { c.ring with tx := c.ring.tx ++ [
          { bytes := c.mkCell 7 (c.winByte (o + 2)).toNat ([c.winByte (o + 3), c.winByte (o + 4)] ++ c.bytes (o + 6) 8)
            entry := some e }] })) ∧
    (∀ e, c.nextOut = some e → c.link = 3 → (c.engineCheck (Chip.outOff e) 8).1 = false →
      RunsIn .outboundEntrySend s [.regs, .win, .irq, .flt, .jnl, .free, .faultQueue] [R.faultCounts] fun d =>
        d.winByte (Chip.outOff e + 1) = 5 ∧ d.winByte (Chip.outOff e) = 0) ∧
    (∀ e : Fin 128, c.deviceHeld (448 + e.val / 16) = false → (c.ring.hosts.any fun h => h.1 == e.val) = true →
      RunsIn (.outboundDelivered e) s [.ring] [] fun d =>
        d.ring = { c.ring with hosts := c.ring.hosts.filter fun h => h.1 != e.val }) ∧
    (∀ e : Fin 128, c.deviceHeld (448 + e.val / 16) = true → (c.ring.hosts.any fun h => h.1 == e.val) = true →
      RunsIn (.outboundDelivered e) s [.win, .ring] [] fun d =>
        d.winByte (Chip.outOff e.val + 1) = 3 ∧ d.winByte (Chip.outOff e.val) = 0 ∧
          d.ring = { c.ring with hosts := c.ring.hosts.filter fun h => h.1 != e.val }) ∧
    (∀ e : Fin 128, (c.ring.hosts.any fun h => h.1 == e.val) = false → NoEffect (.outboundDelivered e) s) ∧
    (∀ (x : RingCell) (h : Nat × List Byte), 2 ≤ c.link → Chip.cn x 3 = c.node → Chip.cellType x = 7 →
      c.ring.hosts.find? (fun y => y.2 == x.bytes.toList) = some h → h.1 < 128 → c.deviceHeld (448 + h.1 / 16) = true →
        RunsIn (.cellReturned x) s [.regs, .win, .ring] [R.ringCounts] fun d => heard x d ∧ d.winByte (Chip.outOff h.1 + 1) = 4 ∧
          d.winByte (Chip.outOff h.1) = 0 ∧ d.ring = { c.ring with claimed := true, hosts := c.ring.hosts.erase h }) ∧
    (∀ x : RingCell, 2 ≤ c.link → Chip.cn x 3 = c.node → Chip.cellType x = 1 → RunsIn (.cellReturned x) s [.regs, .ring] [R.ringCounts] fun d =>
      heard x d ∧ d.ring.claimed = true ∧ (∀ t ∈ d.ring.targets, t.node ≠ Chip.cn x 2) ∧ d.ring.writes.length = c.ring.writes.length ∧
        (∀ w ∈ d.ring.writes, w.target = Chip.cn x 2 → w.sent = true → w.old = true) ∧
        ∀ w, c.ring.writes = [w] → w.target = Chip.cn x 2 → w.tag = Chip.cn x 4 → w.sent = true → w.pseq = Chip.cn x 5 →
          w.judged = false → d.ring.writes = [{ w with returned := true, old := true }]) ∧
    (∀ x : RingCell, 2 ≤ c.link → Chip.cn x 3 = c.node → Chip.cellType x ≠ 1 →
      (Chip.cellType x = 7 → ∀ h ∈ c.ring.hosts, h.2 ≠ x.bytes.toList) →
        RunsIn (.cellReturned x) s [.regs, .ring] [R.ringCounts] fun d => heard x d ∧ d.ring = { c.ring with claimed := true }) ∧
    (∀ x : RingCell, c.link < 2 ∨ Chip.cn x 3 ≠ c.node →
      RunsIn (.cellReturned x) s [.regs, .ring] [R.ringCounts] fun d => heard x d ∧ d.ring = { c.ring with claimed := false }) ∧
    ∀ v : DWord,
      let b := { c.bus with supCommits := dropFirst (fun y => y.1 == R.ringRxTail) c.bus.supCommits }
      ((head + 256 - v.toNat % 256) % 256 ≤ 128 → RunsIn (.ringRxTailCommit v) s [.regs, .bus] [R.ringRxTail] fun d =>
        d.bus = b ∧ (d.get R.ringRxTail).toNat = v.toNat % 256) ∧
      (128 < (head + 256 - v.toNat % 256) % 256 → RunsIn (.ringRxTailCommit v) s [.regs, .bus] [R.devStatus] fun d =>
        d.bus = b ∧ d.flag F.devStatus_PORT_ERR = true ∧ d.fld F.devStatus_PORT_ERR_CAUSE = 2)

/-- Members, insertion and leaving. The ring master answers a JOIN with a grant out of its pool of 30 cells, or with result 1 for an
address it has, and forgets a member at a LEAVE or at the second round that reads it absent, which is a fault. A status entry with symbol
errors is only counted, and one that reads its node absent restarts the counts of the writes to it. A joining node is inserted by a
JOIN_ACK with result 0 or 2, and withdraws at result 1 and when no answer has come for 8 cycles. An inserted node that loses the beacons
loses its lock, and one that has waited 4 cycle periods and twice its key, or founds the ring after such a wait, becomes master: it is
inserted and locked, with itself as the only member, and goes on in its epoch, or starts epoch 0 at time 0. INSERT_EN starts the
listening; LEAVE sends a LEAVE, or starts the hand-over of a master that has an heir. RING_LOCK mirrors LOCKED throughout. -/
def Obligations.RingMembership : Prop :=
  ∀ s : State, s.Inv →
    let c := s.chip
    let acks (result quota slot : Nat) (n : Nat) : TxCell :=
      { bytes := c.mkCell 5 n [BitVec.ofNat 8 result, BitVec.ofNat 8 quota, BitVec.ofNat 8 slot], entry := none }
    let idle (i : Instr) : Prop := RunsIn i s [.regs] [R.devStatus] fun d =>
      d.flag F.devStatus_RING_LOCK = c.locked ∧ d.flag F.devStatus_READY = c.ready
    let counted (k : Nat) (d : Chip) : Prop := d.get R.ringCounts =
      (if c.power.isOff = true ∨ 3 ≤ c.fld F.pwrState_STATE then c else c.addFld F.ringCounts_SYMBOL_ERRORS k).get R.ringCounts
    let heard (x : RingCell) : Chip → Prop := counted (Chip.cellErrors x)
    let unclaims (i : Instr) (x : RingCell) : Prop := RunsIn i s [.regs, .ring] [R.ringCounts] fun d =>
      d.ring = { c.ring with claimed := false } ∧ heard x d
    let own : Member := { node := c.node, quota := c.quotaReq, slot := if c.asksSlot then some (c.fld F.ringCfg_POS_SLOT) else none
                          key := some c.ownKey }
    let founded (i : Instr) : Prop := RunsBy i s [.regs, .tb, .irq, .ring]
      [.devStatus, .ringStatus, .ringJoinStatus, .ringHop, .ringPhase, .ringMembers] fun d =>
        d.isMaster = true ∧ d.locked = true ∧ d.link = 3 ∧ d.fld F.ringStatus_MASTER_ADDR = c.node ∧ d.quota = c.quotaReq ∧
          d.ring.members = [own] ∧ d.ring.targets = [] ∧ d.ring.due = c.tb.frame + 1 ∧ d.fld F.ringHop_HOP = 0 ∧ d.flag F.devStatus_RING_LOCK = true ∧
          d.irq.pend.getLsbD 54 = true ∧
          d.tb = if c.tb.epoch = 0xFFFF then { c.tb with epoch := 0, time := 0 } else c.tb
    (∀ x : RingCell,
      let good := c.isMaster = true ∧ c.claims? 4 x = true
      let n := Chip.cn x 3
      let known := c.ring.members.any fun m => m.node == n
      let q := min (min 30 (Chip.cn x 4)) (30 - (c.ring.members.map fun m => m.quota).sum)
      let want := bitOf (Chip.cn x 5) 2
      let p := bitsOf (Chip.cn x 5) 4 3
      let gets := want && !c.ring.members.any fun m => m.slot == some p
      let key := if bitOf (Chip.cn x 5) 1 then some 0 else if bitOf (Chip.cn x 5) 0 then some (1 + n) else none
      (¬good → unclaims (.joinMessage x) x) ∧
      (good → known = true → RunsIn (.joinMessage x) s [.regs, .ring] [R.ringCounts] fun d =>
        heard x d ∧ d.ring = { c.ring with claimed := true, tx := c.ring.tx ++ [acks 1 0 0 n] }) ∧
      (good → known = false → RunsBy (.joinMessage x) s [.regs, .ring] [.ringCounts, .ringMembers] fun d =>
        heard x d ∧ d.ring = { c.ring with
          claimed := true
          tx := c.ring.tx ++ [acks (if want && !gets then 2 else 0) q (if gets then 128 + p else 0) n]
          members := c.ring.members ++ [{ node := n, quota := q, slot := if gets then some p else none, key := key }] })) ∧
    (∀ x : RingCell,
      let good := c.isMaster = true ∧ c.claims? 6 x = true
      (good → RunsBy (.leaveMessage x) s [.regs, .ring] [.ringCounts, .ringMembers] fun d => heard x d ∧
        d.ring.claimed = true ∧ d.ring.members = c.ring.members.filter fun m => m.node ≠ Chip.cn x 3) ∧
      (¬good → unclaims (.leaveMessage x) x)) ∧
    (∀ x : RingCell, c.link ≠ 2 ∨ Chip.cn x 2 ≠ c.node ∨ Chip.cellOk x = false ∨ Chip.cellType x ≠ 5 ∨ Chip.cellSecure x = true →
      RunsIn (.joinAckMessage x) s [.regs, .ring] [R.devStatus, R.ringCounts] fun d =>
        d.ring = { c.ring with claimed := false } ∧ heard x d ∧ d.flag F.devStatus_RING_LOCK = c.locked) ∧
    (∀ x : RingCell, c.link = 2 → Chip.cn x 2 = c.node → Chip.cellOk x = true → Chip.cellType x = 5 → Chip.cellSecure x = false →
      c.hasFreeSlot →
        let acts (P : Chip → Prop) : Prop := RunsIn (.joinAckMessage x) s [.regs, .irq, .flt, .jnl, .ring, .faultQueue]
          [R.devStatus, R.ringStatus, R.faultCounts, R.ringJoinStatus, R.ringCounts] P
        (Chip.cn x 4 = 0 ∨ Chip.cn x 4 = 2 → acts fun d =>
          d.link = 3 ∧ d.quota = Chip.cn x 5 % 32 ∧ d.flag F.ringJoinStatus_SLOT_HELD = bitOf (Chip.cn x 6) 7 ∧
            d.fld F.ringJoinStatus_RESULT = (if Chip.cn x 4 = 0 then 1 else 3) ∧ d.irq.pend.getLsbD 54 = true ∧
            d.ring.targets = [] ∧ d.ring.inits = [] ∧ (∀ w ∈ d.ring.writes, w.sent = true → w.old = true) ∧ (Chip.cn x 4 = 2 → d.onRecord 0x0707 0)) ∧
        (Chip.cn x 4 = 1 → acts fun d =>
          d.link = 2 ∧ d.ring.closing = some 0 ∧ d.ring.blocked = true ∧ d.fld F.ringJoinStatus_RESULT = 2 ∧ d.onRecord 0x0706 0)) ∧
    (∀ (n : Byte) (e : Vector Byte 4) (k : Fin 5), c.link ≠ 3 ∨ k ≠ 0 →
      RunsIn (.statusEntryReceive n e k) s [.regs] [R.devStatus, R.ringCounts] fun d =>
        counted k.val d ∧ d.flag F.devStatus_RING_LOCK = c.locked ∧ d.flag F.devStatus_READY = c.ready) ∧
    (∀ (n : Byte) (e : Vector Byte 4), c.link = 3 →
      let acts (P : Chip → Prop) : Prop := RunsBy (.statusEntryReceive n e 0) s [.regs, .tb, .irq, .flt, .jnl, .ring, .faultQueue]
        [.devStatus, .ringStatus, .faultCounts, .ringJoinStatus, .ringCounts, .ringMembers] fun d => counted 0 d ∧ P d
      let b0 := (e[0]).toNat
      (bitOf b0 7 = false → acts fun d => (∀ t ∈ d.ring.targets, t.node ≠ n.toNat) ∧
        ∀ w ∈ d.ring.writes, w.target = n.toNat → w.sent = true → w.old = true) ∧
      (bitOf b0 7 = true → (e[1]).toNat = c.node → n.toNat ≠ c.node → acts fun d =>
        (d.target? n.toNat).report = some ((e[2]).toNat, (e[3]).toNat)) ∧
      ∀ m : Member, c.isMaster = true → c.ring.members.find? (fun y => y.node == n.toNat) = some m → n.toNat ≠ c.node →
        c.ring.regain = none →
        (bitOf b0 7 = false → 1 ≤ m.absent → c.hasFreeSlot → acts fun d =>
          d.ring.members = c.ring.members.filter (fun y => y.node ≠ n.toNat) ∧ d.onRecord 0x0708 n.toNat) ∧
        (bitOf b0 7 = true → acts fun d => ((n.toNat ∈ d.ring.rotating) ↔ bitOf b0 6 = true) ∧
          (∀ k, bitOf b0 5 = true → 1 ≤ m.locked → m.key = some k → k < c.ownKey → c.ring.handover = none →
            d.ring.handover = some (n.toNat, 8)))) ∧
    (c.link = 3 → c.isMaster = false → c.ring.lost = false → c.hasFreeSlot →
      RunsIn .ringMasterLost s [.regs, .irq, .flt, .jnl, .ring, .faultQueue]
        [R.devStatus, R.ringStatus, R.faultCounts, R.ringCounts] fun d =>
          d.locked = false ∧ d.flag F.devStatus_RING_LOCK = false ∧ d.ring.lost = true ∧ d.link = 3 ∧
            d.fld F.ringCounts_BEACONS_MISSED = min 255 (c.fld F.ringCounts_BEACONS_MISSED + (4 - c.ring.missRun)) ∧
            d.irq.pend.getLsbD 54 = true ∧ d.onRecord 0x0701 0) ∧
    (c.link ≠ 3 ∨ c.isMaster = true ∨ c.ring.lost = true → idle .ringMasterLost) ∧
    (c.link = 3 → c.masterCapable = true → c.ring.lost = true → c.isMaster = false → ∀ n, c.keyWaited n = true → founded (.masterElection n)) ∧
    (∀ n, c.link ≠ 3 ∨ c.masterCapable = false ∨ c.ring.lost = false ∨ c.isMaster = true ∨ c.keyWaited n = false →
      idle (.masterElection n)) ∧
    (c.link = 1 → c.masterCapable = true → c.ring.heard = false → ∀ n, c.keyWaited n = true → founded (.ringFound n)) ∧
    (∀ n, c.link ≠ 1 ∨ c.masterCapable = false ∨ c.ring.heard = true ∨ c.keyWaited n = false → idle (.ringFound n)) ∧
    (c.isMaster = true → c.hasFreeSlot → RunsIn .ringBroken s [.regs, .irq, .flt, .jnl, .faultQueue] [R.faultCounts] fun d =>
      d.irq.pend.getLsbD 54 = true ∧ d.onRecord 0x0703 0) ∧
    (c.isMaster = false → NoEffect .ringBroken s) ∧
    (∀ k, c.link = 2 → c.ring.joining = some k → 8 ≤ k → c.hasFreeSlot →
      RunsIn .ringJoinFailed s [.regs, .irq, .flt, .jnl, .ring, .faultQueue] [R.devStatus, R.faultCounts, R.ringJoinStatus] fun d =>
        d.fld F.ringJoinStatus_RESULT = 4 ∧ d.fld F.ringJoinStatus_RETRY_IN = 64 ∧
          d.ring = { c.ring with closing := some 1, joining := none } ∧ d.onRecord 0x0705 0) ∧
    (c.link ≠ 2 ∨ (∀ k, c.ring.joining = some k → k < 8) → idle .ringJoinFailed) ∧
    (c.link = 1 → c.fld F.ringJoinStatus_RETRY_IN ≤ 1 → RunsIn .joinRetry s [.regs, .ring] [R.ringJoinStatus] fun d =>
      d.fld F.ringJoinStatus_RETRY_IN = 0 ∧ d.ring = { c.ring with beacons := 0 }) ∧
    (c.link ≠ 1 ∨ 1 < c.fld F.ringJoinStatus_RETRY_IN → NoEffect .joinRetry s) ∧
    (c.busOpen = true → c.link = 0 → c.flag F.ringAddr_CONFIGURED = true → c.ring.blocked = false →
      c.fld F.pwrState_STATE < 2 → RunsIn .insertEnable s [.regs, .irq, .ring] [R.devStatus, R.ringStatus, R.ringControl] fun d =>
        d.flag F.ringControl_INSERT_EN = true ∧ d.link = 1 ∧ d.ring = { c.ring with beacons := 0, heard := false } ∧
          d.irq.pend.getLsbD 54 = true) ∧
    (c.busOpen = true → 2 ≤ c.link → c.ring.closing = none →
      let back := if c.flag F.ringAddr_CONFIGURED && c.flag F.ringControl_INSERT_EN then 1 else 0
      let leaves (r : Ring) : Prop := RunsIn .ringLeave s [.regs, .ring] [R.devStatus] fun d => d.ring = r ∧ d.link = c.link
      (c.isMaster = false → leaves { c.ring with
        closing := some back
        tx := c.ring.tx ++ [{ bytes := c.mkCell 6 (c.fld F.ringStatus_MASTER_ADDR) [], entry := none }] }) ∧
      (c.isMaster = true → c.bestHeir = none → leaves { c.ring with
        closing := some back
        tx := c.ring.tx ++ [{ bytes := c.mkCell 6 c.node [], entry := none }] }) ∧
      (∀ m, c.isMaster = true → c.bestHeir = some m → c.ring.handover = none → leaves { c.ring with
        closing := some back, handover := some (m.node, 8) }))

/-- Cycles, beacons and time. The master's beacon carries its address, epoch, reference time and the next CYCLE, with MEASURE in every
sixteenth cycle and where a new member asks for it, and its CRC holds; LOOP is the run that comes back. A follower takes master, CYCLE and
ring-wide LTR from a valid beacon; it steers its tick by the phase error, is locked by eight small errors in a row and unlocked by one
above 200 ns. A locked node takes over another epoch with its time, goes forward to the reference in its own epoch, and never goes back:
what it is ahead stays as slew. A beacon that fails is counted. A node whose master changes unannounced goes back to joining,
without quota and slot. Cycles start at every 100th own tick of the master, and forward the areas that came back but for cells that end
in DONE; a cycle whose beacon came back damaged counts and mutes its angle area. A snapshot that does not match is dropped, and one that
does replaces the RING model in use, anchored at its own tick and HOP, and leaves DIR. -/
def Obligations.RingCycles : Prop :=
  ∀ s : State, s.Inv →
    let c := s.chip
    (∀ (run : Word) (grants : List RingGrant),
      (c.cycleDue = false ∨ c.isMaster = false ∧ (c.ring.takeOver = false ∨ c.link ≠ 3 ∨ c.masterCapable = false) →
        RunsIn (.ringCycleStart run grants) s [.regs] [R.devStatus] fun d => d.flag F.devStatus_RING_LOCK = c.locked) ∧
      (c.cycleDue = true → c.isMaster = true → c.ring.takeOver = false → c.ring.handover = none → c.ring.splice = false → c.ring.setTime = none →
        let cycle := if c.ring.first then 0 else (c.get R.ringCycle + 1).toNat
        let measure := c.ring.measure || decide (cycle % 16 = 15)
        RunsBy (.ringCycleStart run grants) s [.regs, .win, .tb, .irq, .free, .power, .ring]
          [.devStatus, .pwrState, .ringStatus, .ringJoinStatus, .ringHop, .ringPhase, .ringCycle, .ringCounts, .ringMembers] fun d =>
            let b := d.ring.beacon
            b.length = 31 ∧ Chip.beaconCrcOk b = true ∧ Chip.bb b 1 1 = c.node ∧ Chip.bb b 4 2 = c.tb.epoch.toNat ∧
              Chip.bb b 6 8 = c.reference ∧ Chip.bb b 14 4 = cycle ∧ (d.get R.ringCycle).toNat = cycle ∧
              bitOf (Chip.bb b 2 1) 1 = measure ∧
              bitOf (Chip.bb b 2 1) 0 = (c.flag F.ringCfg_SPLICE_EN && !measure) ∧ d.tb = c.tb ∧
              d.ring.due = c.tb.frame + 100 ∧ d.ring.body = c.ring.back ∧ d.ring.back = {})) ∧
    (∀ (bytes : Vector Byte 31) (errors : Byte) (areas : CycleAreas),
      let kept : CycleAreas := { areas with cells := areas.cells.filter fun x => !x.2.2 }
      let good := errors = 0 ∧ Chip.beaconCrcOk bytes.toList = true ∧ Chip.bb bytes.toList 1 1 = c.node
      (c.isMaster = false → NoEffect (.cycleReturn bytes errors areas) s) ∧
      (c.isMaster = true → good → RunsIn (.cycleReturn bytes errors areas) s [.regs, .ring] [R.ringPhase] fun d =>
        d.fld F.ringPhase_LOOP = Chip.bb bytes.toList 20 2 ∧ d.ring = { c.ring with foreign := 0, missRun := 0, back := kept }) ∧
      (c.isMaster = true → ¬good → RunsIn (.cycleReturn bytes errors areas) s [.regs, .ring] [R.ringCounts] fun d =>
        d.fld F.ringCounts_BEACONS_MISSED = min 255 (c.fld F.ringCounts_BEACONS_MISSED + 1) ∧
          d.fld F.ringCounts_SYMBOL_ERRORS = min 255 (c.fld F.ringCounts_SYMBOL_ERRORS + errors.toNat) ∧
          d.ring = { c.ring with mute := true, back := kept })) ∧
    (∀ (bytes : Vector Byte 31) (errors : Byte) (arrive : Fin 2011) (run : Word), c.power.isOff = true ∨ 3 ≤ c.fld F.pwrState_STATE →
      RunsIn (.beaconReceive bytes errors arrive run) s [.regs] [R.devStatus] fun d => d.flag F.devStatus_RING_LOCK = c.locked) ∧
    (∀ (bytes : Vector Byte 31) (errors : Byte) (arrive : Fin 2011) (run : Word),
      c.power.isOff = false → c.fld F.pwrState_STATE < 3 → c.isMaster = false → c.ring.splice = false →
        let l := bytes.toList
        let good := errors = 0 ∧ Chip.beaconCrcOk l = true
        let epoch := Chip.bb l 4 2
        let p := c.phaseError arrive.val
        let err := p.2.natAbs
        let small := decide (err ≤ 80)
        let reference := ((Chip.bb l 6 8 : Int) - 1000 * p.1).toNat
        let acts (P : Chip → Prop) : Prop := RunsBy (.beaconReceive bytes errors arrive run) s
          [.regs, .win, .tb, .irq, .flt, .jnl, .free, .power, .ring, .faultQueue]
          [.devStatus, .pwrState, .ringStatus, .faultCounts, .ringJoinStatus, .ringHop, .ringPhase, .ringCycle, .ringCounts,
            .ringMembers] P
        let known := c.ring.masterAt = none ∨ c.ring.masterAt = some (Chip.bb l 1 1) ∨ c.ring.heir = some (Chip.bb l 1 1)
        let steered := c.link = 3 ∧ known ∧ (c.ring.hopSet = true ∨ c.locked = true) ∧ c.ring.afterMeasure = false
        (¬good → acts fun d =>
          d.fld F.ringCounts_BEACONS_MISSED = min 255 (c.fld F.ringCounts_BEACONS_MISSED + 1) ∧
            d.fld F.ringCounts_SYMBOL_ERRORS = min 255 (c.fld F.ringCounts_SYMBOL_ERRORS + errors.toNat) ∧
            d.ring.beacons = 0 ∧ d.ring.lockRun = 0 ∧ d.tb = c.tb ∧ d.locked = c.locked) ∧
        (good → acts fun d => d.fld F.ringStatus_MASTER_ADDR = Chip.bb l 1 1 ∧ (d.get R.ringCycle).toNat = Chip.bb l 14 4 ∧
          d.flag F.ringStatus_SPLICE_PERMITTED = bitOf (Chip.bb l 2 1) 0 ∧
          d.flag F.pwrState_RING_LTR_ACTIVE = bitOf (Chip.bb l 2 1) 2 ∧ d.ring.beacons = min 4 (c.ring.beacons + 1) ∧
          d.ring.lost = false ∧ d.ring.mute = false ∧
          (c.link = 3 → ¬known → d.link = 2 ∧ d.quota = 0 ∧ d.flag F.ringJoinStatus_SLOT_HELD = false) ∧
          (c.link = 3 → c.ring.afterMeasure = true → d.fld F.ringHop_HOP = Chip.bb l 20 2)) ∧
        (good → ¬ (c.link = 3 ∧ known ∧ (c.ring.hopSet = true ∨ c.locked = true ∨ c.ring.afterMeasure = true)) → acts fun d =>
          d.tb = c.tb ∧ d.locked = c.locked) ∧
        (good → steered → acts fun d => d.tb.steer = p.2 ∧ d.tb.steerTo = 5 ∧
          d.fld F.ringPhase_PHASE_ERR = unsignedOf 16 (clampInt (-32768) 32767 (Int.fdiv p.2 2))) ∧
        (good → steered → c.locked = true → 400 < err → c.ring.masterAt = some (Chip.bb l 1 1) → c.hasFreeSlot → acts fun d =>
          d.locked = false ∧ d.flag F.devStatus_RING_LOCK = false ∧ d.tb.time = c.tb.time ∧ d.tb.epoch = c.tb.epoch ∧
            d.onRecord 0x0704 0) ∧
        (good → steered → c.locked = false → acts fun d =>
          d.locked = decide (small = true ∧ 7 ≤ c.ring.lockRun) ∧ (small = false → d.ring.lockRun = 0)) ∧
        (good → steered → c.locked = true → err ≤ 400 →
          (c.tb.epoch.toNat ≠ epoch → acts fun d =>
            d.tb.epoch.toNat = epoch ∧ d.tb.time = BitVec.ofNat 64 reference ∧ d.ring.slew = 0) ∧
          (c.tb.epoch.toNat = epoch → c.tb.time.toNat ≤ reference → acts fun d =>
            d.tb.epoch = c.tb.epoch ∧ d.tb.time = BitVec.ofNat 64 reference ∧ d.ring.slew = 0) ∧
          (c.tb.epoch.toNat = epoch → reference < c.tb.time.toNat → acts fun d =>
            d.tb.epoch = c.tb.epoch ∧ d.tb.time = c.tb.time ∧ d.ring.slew = c.tb.time.toNat - reference))) ∧
    ∀ (bytes : Vector Byte 24) (errors : Byte) (previous : Bool),
      let l := bytes.toList
      let beacon := if c.ring.mute then none else if previous then c.ring.cur.bind fun _ => c.ring.last else c.ring.cur
      let dropped : Prop := RunsIn (.snapshotReceive bytes errors previous) s [.regs] [R.ringCounts] fun d =>
        d.get R.ringCounts = (if c.power.isOff = true ∨ 3 ≤ c.fld F.pwrState_STATE then c
          else c.addFld F.ringCounts_SYMBOL_ERRORS errors.toNat).get R.ringCounts
      (errors ≠ 0 ∨ c.link ≠ 3 ∨ c.locked = false ∨ beacon = none → dropped) ∧
      (∀ i, beacon = some i → c.shotMatches i l = false → dropped) ∧
      ∀ i m, beacon = some i → errors = 0 → c.link = 3 → c.locked = true → c.shotMatches i l = true →
        bitOf (leValue (l.take 2)) 15 = true → bitOf (leValue (l.take 2)) 14 = false → c.ranked .ring = true →
        c.pred.active = some .ring → c.pred.model = some m → m.ref = .ring →
          let shot := Chip.shotModel l (i.tick + (leValue ((l.drop 22).take 2) : Int) * 2147483648)
          RunsBy (.snapshotReceive bytes errors previous) s [.regs, .irq, .flt, .jnl, .wheels, .pred, .faultQueue]
            [.pwrState, .wheelStatus, .predCounts, .faultCounts, .ringCounts] fun d =>
              d.flag F.pwrState_ROTATING = true ∧ d.pred.ringFresh = true ∧ d.pred.ringModel = some shot ∧
                d.pred.dir = c.pred.dir ∧ d.pred.model = some { shot with left := m.left - 1 }

/-! ## Twin pairs (R569 to R603) -/

/-- The twin link and the mirror stream. A twin frame that is damaged counts as a link error and breaks the run of valid ones; a valid one
gives the partner's state, arming, latch, MCOUNT and the skew, and the 64th in a row raises the link. A link that falls ends the pair time
and what waits to be sent, isolates a SHADOW or READY member, and is a fault where the partner was not isolated. Complete packets leave
the stream in order: BLOCK, COMMIT and DIRECT join the group of a SHADOW or READY member, a damaged BLOCK does not, APPLY completes the
group with its MCOUNT, a CAPTURE waits, and a HELLO gives the partner's part, seat and node and the offset of the pair frame number; one of
another part or of the same seat keeps the members apart until the link rises anew, and isolates a member that is not OWNER, which is a
fault. Own edges that wait leave their queues where the device comes to follow its partner. A row takes only a packet of its own type. -/
def Obligations.TwinLink : Prop :=
  ∀ s : State, s.Inv →
    let c := s.chip
    let t := c.twin
    (∀ (bytes : Vector Byte 23) (symErr : Bool) (arrival : Word),
      let l := bytes.toList
      let intact := symErr = false ∧ (crc16 (l.take 21)).toNat = leValue ((l.drop 21).take 2)
      let items := Chip.readItems 8 ((l.drop 13).take 8)
      let flags := leValue (l.take 1)
      let run := t.validRun + 1
      (c.twinEn = false ∨ c.frameRuns = false → NoEffect (.twinFrameReceive bytes symErr arrival) s) ∧
      (c.twinEn = true → c.frameRuns = true → ¬intact ∨ items = none →
        RunsIn (.twinFrameReceive bytes symErr arrival) s [.regs, .twin] [R.twinCounts] fun d =>
          d.fld F.twinCounts_LINK_ERRORS = min 255 (c.fld F.twinCounts_LINK_ERRORS + 1) ∧ d.twin = { t with validRun := 0 }) ∧
      (c.twinEn = true → c.frameRuns = true → intact → items.isSome = true →
        RunsBy (.twinFrameReceive bytes symErr arrival) s
          [.regs, .win, .tb, .irq, .flt, .jnl, .wheels, .free, .outs, .power, .twin, .faultQueue]
          [.twinStatus, .faultCounts, .twinPartner, .twinSync, .twinProgress, .twinCounts, .twinLogHead] fun d =>
            d.partnerState = flags % 4 ∧ d.flag F.twinPartner_ARMED = bitOf flags 3 ∧ d.flag F.twinPartner_SAFE_LATCH = bitOf flags 4 ∧
              d.twin.pMcount = leValue ((l.drop 1).take 1) % 64 ∧ d.twin.missRun = 0 ∧ d.twin.validRun = run ∧
              d.linkUp = (c.linkUp || decide (64 ≤ run)) ∧ d.twin.arrival = arrival.toNat ∧
              d.fld F.twinSync_SKEW = unsignedOf 16 (Int.fdiv ((arrival.toNat : Int) - leValue ((l.drop 11).take 2)) 2) ∧
              d.fld F.twinCounts_LINK_ERRORS = c.fld F.twinCounts_LINK_ERRORS)) ∧
    (c.linkUp = false → NoEffect .twinLinkLost s) ∧
    (c.linkUp = true → c.hasFreeSlot →
      RunsBy .twinLinkLost s [.regs, .win, .irq, .flt, .jnl, .outs, .power, .twin, .faultQueue]
        [.twinStatus, .faultCounts, .twinProgress, .twinLogHead] fun d =>
          d.linkUp = false ∧ d.twin.validRun = 0 ∧ d.twin.offset = none ∧ d.twin.stream = [] ∧ d.twin.sending = [] ∧
            d.twinState = (if c.shadows then 0 else c.twinState) ∧ (c.partnerState ≠ 0 → d.onRecord 0x0801 0)) ∧
    (c.headPacket = none →
      ∀ i ∈ [Instr.mirrorBlock, .mirrorCommit, .mirrorDirect, .mirrorApply, .capturePacket, .hello], NoEffect i s) ∧
    ∀ (l : List Byte) (at' : BitVec 32), c.headPacket = some (l, at') →
      let b (i n : Nat) : Nat := leValue ((l.drop i).take n)
      let t1 : Twin := { t with stream := t.stream.drop l.length }
      let left (g : List Mirror) (d : Chip) : Prop := d.fld F.twinProgress_COPY_LEFT =
        if c.fld F.twinProgress_REJOIN_PHASE = 1 then Chip.copyLeft g else c.fld F.twinProgress_COPY_LEFT
      let joins (i : Instr) (x : Mirror) : Prop := RunsIn i s [.regs, .twin] [R.twinProgress] fun d =>
        d.twin = (if c.shadows then { t1 with group := t.group ++ [x] } else t1) ∧ (c.shadows = true → left (t.group ++ [x]) d)
      let becomes (i : Instr) (x : Twin) : Prop := RunsIn i s [.twin] [] fun d => d.twin = x
      (∀ p ∈ [(1, Instr.mirrorBlock), (2, .mirrorCommit), (3, .mirrorDirect), (4, .mirrorApply), (5, .capturePacket), (6, .hello)],
        (l.headD 0).toNat ≠ p.1 → NoEffect p.2 s) ∧
      ((l.headD 0).toNat = 1 →
        let bs := (l.drop 3).take 256
        ((crc16 bs).toNat = b 259 2 → joins .mirrorBlock (.block (b 1 2) bs)) ∧
        ((crc16 bs).toNat ≠ b 259 2 → becomes .mirrorBlock t1)) ∧
      ((l.headD 0).toNat = 2 → joins .mirrorCommit (.commit (b 1 3 % 2 ^ 23) (BitVec.ofNat 32 (b 4 4)))) ∧
      ((l.headD 0).toNat = 3 → joins .mirrorDirect (.direct (2 * b 1 1) (BitVec.ofNat 16 (b 2 2)))) ∧
      ((l.headD 0).toNat = 4 →
        becomes .mirrorApply (if c.shadows then { t1 with due := some (b 1 1 % 64, t.group.length) } else t1)) ∧
      ((l.headD 0).toNat = 5 → becomes .capturePacket { t1 with capture := some (l.drop 1) }) ∧
      ((l.headD 0).toNat = 6 →
        let other := b 1 2 ≠ c.partId ∨ b 3 1 % 2 = c.fld F.twinCfg_SEAT
        let knows (d : Chip) : Prop := d.fld F.twinPartner_ID_PART = b 1 2 ∧ d.fld F.twinPartner_NODE = b 4 1 ∧
          d.fld F.twinPartner_SEAT = b 3 1 % 2 ∧ d.twin.offset = some (BitVec.ofNat 32 (b 7 4) - (at' - 1)) ∧
          d.twin.stream = t1.stream
        (c.isOwner = true ∨ ¬other → RunsIn .hello s [.regs, .wheels, .twin] [R.twinPartner] fun d =>
          knows d ∧ (other → d.twin.refused = true) ∧ (¬other → d.twin.refused = t.refused) ∧
            (c.follows = false → d.follows = true → ∀ n : Fin 4, (d.wheel n.val).queue = [])) ∧
        (c.isOwner = false → other → c.hasFreeSlot →
          RunsBy .hello s [.regs, .win, .irq, .flt, .jnl, .wheels, .outs, .power, .twin, .faultQueue]
            [.twinStatus, .faultCounts, .twinPartner, .twinProgress, .twinLogHead] fun d =>
              knows d ∧ d.twinState = 0 ∧ d.twin.refused = true ∧ d.irq.pend.getLsbD 56 = true ∧ d.onRecord 0x0802 0))

/-- Ownership and take-in. At a tick with a complete group the group is taken in: MCOUNT becomes its own, a BLOCK is written where the
host does not hold it and is a fault where it does. A CAPTURE is applied by a member in step 3 of its rejoin, which goes on to step 4 and
raises source 4 or 6 where STATE or DIR changes, and is otherwise dropped. At tick H the owner becomes READY, whose charging ends and
whose latches are inactive, and its READY partner OWNER; a READY member takes over from a lost owner, which is counted and a fault; two
owners are a fault, and seat B releases. Every change of state is logged and raises source 56. -/
def Obligations.TwinOwnership : Prop :=
  ∀ s : State, s.Inv →
    let c := s.chip
    let t := c.twin
    let entry := 480 * 256 + 64 * ((c.get R.twinLogHead).toNat % 64)
    let moved (kind new : Nat) (d : Chip) : Prop := d.twinState = new ∧
      d.win16 (entry + 2) = kind * 256 + new * 16 + c.twinState ∧
      (d.get R.twinLogHead).toNat = ((c.get R.twinLogHead).toNat % 64 + 1) % 64 ∧ d.irq.pend.getLsbD 56 = true
    let takes (P : Chip → Prop) : Prop := Runs .mirrorGroupTakeIn s fun d => P d ∧ ChangesOnly
      [.regs, .win, .irq, .flt, .jnl, .wheels, .pred, .free, .sched, .outs, .conv, .power, .twin, .faultQueue] c d
    (c.frameRuns = false ∨ t.due = none → NoEffect .mirrorGroupTakeIn s) ∧
    (∀ m n, c.frameRuns = true → t.due = some (m, n) →
      takes fun d => d.twin.mcount = m ∧ d.twin.due = none ∧ d.twin.group = t.group.drop n) ∧
    (∀ m b bs, c.frameRuns = true → t.due = some (m, 1) → t.group = [.block b bs] → bs.length = 256 → 10 ≤ b → b < 160 →
      (c.hostOwned b = false → takes fun d => ∀ i, i < 256 → d.winByte (256 * b + i) = bs.getD i 0) ∧
      (c.hostOwned b = true → c.hasFreeSlot → takes fun d =>
        (∀ i, i < 256 → d.winByte (256 * b + i) = c.winByte (256 * b + i)) ∧ d.irq.pend.getLsbD 56 = true ∧ d.onRecord 0x0807 b)) ∧
    (c.frameRuns = false ∨ t.capture = none → NoEffect .captureApply s) ∧
    (∀ l, c.frameRuns = true → t.capture = some l →
      let fits := Chip.captureOk l = true ∧ c.shadows = true ∧ c.fld F.twinProgress_REJOIN_PHASE = 2 ∧ c.anchorPassed l = false
      (¬fits → RunsIn .captureApply s [.twin] [] fun d => d.twin = { t with capture := none }) ∧
      (fits → RunsBy .captureApply s [.regs, .irq, .wheels, .pred, .sched, .twin] [.wheelStatus, .predStatus, .schedCycle, .twinProgress]
        fun d => d.fld F.twinProgress_REJOIN_PHASE = 3 ∧ d.fld F.twinProgress_WRAPS = 0 ∧ d.fld F.twinProgress_MATCH_RUN = 0 ∧
          d.twin = { t with capture := none, capOk := true } ∧ (d.get R.predStatus).toNat = Chip.cap l 10 4 ∧
          (d.get R.schedCycle).toNat = Chip.cap l 14 4 ∧ d.pred.state = Chip.cap l 8 2 % 8 ∧ d.sched.scan = Chip.cap l 18 2 % 2048 ∧
          (d.pred.state ≠ c.pred.state → d.irq.pend.getLsbD 4 = true) ∧ (d.pred.dir ≠ c.pred.dir → d.irq.pend.getLsbD 6 = true) ∧
          ∀ n : Fin 4, d.fld (F.wheelStatus_POSITION n.val) = Chip.cap l (69 + 40 * n.val) 1)) ∧
    (t.hand = none → NoEffect .handoverExecute s) ∧
    (t.hand.isSome = true →
      let acts (P : Chip → Prop) : Prop := RunsBy .handoverExecute s [.regs, .win, .irq, .sched, .outs, .power, .twin]
        [.twinStatus, .bankStatus, .twinProgress, .twinLogHead] fun d => P d ∧ d.twin.hand = none
      (c.isOwner = true → acts fun d => moved 4 2 d ∧ d.power.charging = false ∧
        d.outs = { c.outs with tio := c.outs.tio.map fun x => { x with lk := false } }) ∧
      (c.twinState = 2 → acts fun d => moved 4 3 d ∧ d.fld F.twinProgress_REJOIN_PHASE = 0 ∧ ∀ x ∈ d.sched.edges, 60 ≤ x.step) ∧
      (c.twinState < 2 → acts fun d => d.twinState = c.twinState ∧ d.outs = c.outs ∧ d.power = c.power)) ∧
    (c.twinState ≠ 2 → RunsIn .twinTakeover s [.regs] [R.twinStatus] fun d =>
      d.flag F.twinStatus_PARTNER_OWN = false ∧ d.twinState = c.twinState) ∧
    (c.twinState = 2 → c.hasFreeSlot →
      RunsBy .twinTakeover s [.regs, .win, .irq, .flt, .jnl, .outs, .power, .ring, .twin, .faultQueue]
        [.twinStatus, .bankStatus, .faultCounts, .twinProgress, .twinCounts, .twinLogHead] fun d =>
          moved 3 3 d ∧ d.win16 (entry + 4) = (if t.mcount = t.pMcount then 1 else 2) ∧ d.flag F.twinStatus_PARTNER_OWN = false ∧
            d.fld F.twinCounts_TAKEOVERS = min 255 (c.fld F.twinCounts_TAKEOVERS + 1) ∧ d.onRecord 0x0805 0) ∧
    (c.isOwner = false → NoEffect .twinOwnerCollision s) ∧
    (c.isOwner = true → c.hasFreeSlot →
      let acts (P : Chip → Prop) : Prop := RunsBy .twinOwnerCollision s [.regs, .win, .irq, .flt, .jnl, .outs, .power, .twin, .faultQueue]
        [.twinStatus, .faultCounts, .twinProgress, .twinLogHead] fun d =>
          P d ∧ d.flag F.twinStatus_PARTNER_OWN = true ∧ d.onRecord 0x0808 0
      (c.flag F.twinCfg_SEAT = true → acts (moved 5 0)) ∧ (c.flag F.twinCfg_SEAT = false → acts (moved 5 3)))

/-! ## The cipher engine (R604 to R635) -/

/-- Cipher jobs, in an undamaged data area. The running job, the only one, ends with the result of its operation: it leaves the queue with
its result, operation and time in JOB_RESULT, its DONE bit and source 57. GCM_ENCRYPT writes the ciphertext and the tag, GCM_DECRYPT the
plaintext where the tag verifies and zeros where it does not, CTR its output, CMAC_GENERATE the tag; CMAC_VERIFY compares; DERIVE and
UNWRAP place a key in a slot, and a blob that does not unwrap is a fault. A refused job, with its result, writes no data but the zeros of
result 7; one whose descriptor came damaged ends malformed with its output zeroed. A command of another operation than the running one
does nothing. CIPHER_START queues a job whose blocks the device holds, and ends one of no listed operation at once. -/
def Obligations.CipherJobs : Prop :=
  ∀ (s : State) (wait : Word) (j : Fin 8), s.Inv → s.chip.win.ecc = [] →
    let c := s.chip
    let ops : List (Nat × Instr) := [(1, .gcmEncrypt wait), (2, .gcmDecrypt wait), (3, .ctr wait), (4, .cmacGenerate wait),
      (5, .cmacVerify wait), (6, .derive wait), (7, .unwrap wait)]
    let shown (op result cycles : Nat) (d : Chip) : Prop := d.cipher.queue = [] ∧ bitOf (d.fld F.cipherStatus_DONE) j.val = true ∧
      d.flag F.cipherStatus_BUSY = false ∧ d.irq.pend.getLsbD 57 = true ∧
      (d.get (R.jobResult j.val)).toNat = min 0xFFFF ((cycles + wait.toNat) / 20) * 65536 + op * 256 + result
    (∀ x ∈ ops, c.cipher.queue = [] → NoEffect x.2 s) ∧
    (∀ (q : Job) (d : List Byte) (rest : List Job), c.cipher.queue = q :: rest → q.desc = d →
      ∀ x ∈ ops, Chip.d8 d 0 ≠ x.1 → NoEffect x.2 s) ∧
    (∀ d : List Byte, c.cipher.queue = [{ num := j.val, desc := d, bad := false }] →
      let n := Chip.d16 d 6
      let key := c.jobKey d
      let iv := d.drop 16
      let input := c.dataBytes (Chip.d16 d 4, n)
      let aad := c.dataBytes (Chip.d16 d 8, Chip.d16 d 10)
      let tag := c.dataBytes (Chip.d16 d 14, Chip.d8 d 3)
      let out (e : Chip) : List Byte := e.dataBytes (Chip.d16 d 12, n)
      let tagOut (e : Chip) : List Byte := e.dataBytes (Chip.d16 d 14, Chip.d8 d 3)
      let cost := if key.length = 32 then 16 else 12
      let blks (k : Nat) : Nat := (k + 15) / 16
      let hash := 4 * (blks (Chip.d16 d 10) + blks n + 1)
      let ends (i : Instr) (op result cycles : Nat) (P : Chip → Prop) : Prop :=
        RunsBy i s [.regs, .win, .irq, .cipher] [.cipherStatus, .cipherCounts, .jobResult, .slotInfo] fun e =>
          shown op result cycles e ∧ P e
      let quiet (e : Chip) : Prop := e.win = c.win ∧ e.cipher.slots = c.cipher.slots
      (∀ x ∈ ops, Chip.d8 d 0 = x.1 → ∀ r, c.refusal d = some r → r ≠ 7 → ends x.2 x.1 r 200 quiet) ∧
      (∀ x ∈ ops, Chip.d8 d 0 = x.1 → c.refusal d = some 7 → ends x.2 x.1 7 200 fun e =>
        e.cipher.slots = c.cipher.slots ∧ (x.1 ≤ 3 → out e = List.replicate n 0)) ∧
      (c.refusal d = none → d.length = 32 → key.length = 16 ∨ key.length = 32 →
        (Chip.d8 d 0 = 1 → ends (.gcmEncrypt wait) 1 2 (200 + hash + cost * (blks n + 1)) fun e =>
          out e = Aes.gcmCtr key iv input ∧ tagOut e = (Aes.gcmTag key iv aad (Aes.gcmCtr key iv input)).take (Chip.d8 d 3)) ∧
        (Chip.d8 d 0 = 2 →
          ((Aes.gcmTag key iv aad input).take (Chip.d8 d 3) = tag →
            ends (.gcmDecrypt wait) 2 2 (200 + hash + cost * (blks n + 1)) fun e => out e = Aes.gcmCtr key iv input) ∧
          ((Aes.gcmTag key iv aad input).take (Chip.d8 d 3) ≠ tag →
            ends (.gcmDecrypt wait) 2 3 (200 + hash + cost) fun e => out e = List.replicate n 0 ∧
              e.fld F.cipherCounts_AUTH_FAIL = min 255 (c.fld F.cipherCounts_AUTH_FAIL + 1))) ∧
        (Chip.d8 d 0 = 3 → ends (.ctr wait) 3 2 (200 + cost * blks n) fun e => out e = Aes.ctr key iv input) ∧
        (Chip.d8 d 0 = 4 → ends (.cmacGenerate wait) 4 2 (200 + cost * max 1 (blks n)) fun e =>
          tagOut e = (Aes.cmac key input).take (Chip.d8 d 3)) ∧
        (Chip.d8 d 0 = 5 → ends (.cmacVerify wait) 5 (if (Aes.cmac key input).take (Chip.d8 d 3) = tag then 2 else 3)
          (200 + cost * max 1 (blks n)) quiet) ∧
        (Chip.d8 d 0 = 6 →
          let size := Chip.d8 iv 5
          let made : Key := { bytes := Aes.derive key (iv.take 8) input size, role := Chip.d8 iv 6, usage := Chip.d8 iv 7, origin := 1 }
          ends (.derive wait) 6 2 (200 + cost * (size / 16 * blks (17 + n))) fun e =>
            e.keyAt (Chip.d8 d 2) = some made ∧ e.win = c.win ∧
              e.fld (F.slotInfo_GENERATION (Chip.d8 d 2)) = (c.fld (F.slotInfo_GENERATION (Chip.d8 d 2)) + 1) % 65536) ∧
        (Chip.d8 d 0 = 7 →
          let cycles := 200 + cost * (6 * (n / 8 - 1))
          (∀ k, (Aes.unwrap key input).bind Chip.blobKey = some k → ends (.unwrap wait) 7 2 cycles fun e =>
            e.keyAt (Chip.d8 d 2) = some k ∧ e.win = c.win) ∧
          ((Aes.unwrap key input).bind Chip.blobKey = none → c.hasFreeSlot →
            RunsBy (.unwrap wait) s [.regs, .win, .irq, .flt, .jnl, .cipher, .faultQueue]
              [.faultCounts, .cipherStatus, .cipherCounts, .jobResult, .slotInfo] fun e =>
                shown 7 3 cycles e ∧ e.cipher.slots = c.cipher.slots ∧ e.onRecord 0x0902 (Chip.d8 d 2))))) ∧
    (∀ d : List Byte, c.cipher.queue = [{ num := j.val, desc := d, bad := true }] → ∀ x ∈ ops, Chip.d8 d 0 = x.1 →
      RunsBy x.2 s [.regs, .win, .irq, .cipher] [.cipherStatus, .cipherCounts, .jobResult, .slotInfo] fun e =>
        shown x.1 4 200 e ∧ e.cipher.slots = c.cipher.slots ∧
          (x.1 ≤ 3 → Chip.malformed d = false → e.dataBytes (Chip.d16 d 12, Chip.d16 d 6) = List.replicate (Chip.d16 d 6) 0)) ∧
    let d := c.bytes (0x18000 + 32 * j.val) 32
    let held := (Chip.descBlocks d).any fun b => c.hostOwned b || c.isReturning b
    let op := Chip.d8 d 0
    let starts (P : Chip → Prop) : Prop := RunsBy (.cipherStart (BitVec.ofNat 8 (2 ^ j.val))) s [.regs, .win, .bus, .irq, .cipher]
      [.cipherStatus, .cipherCounts, .jobResult] fun e => P e ∧ e.win = c.win
    c.cipher.queue = [] →
      (c.latched = true → starts fun e => e.cipher.queue = [] ∧ (e.get (R.jobResult j.val)).toNat = op * 256 + 9 ∧
        bitOf (e.fld F.cipherStatus_DONE) j.val = true ∧ e.irq.pend.getLsbD 57 = true) ∧
      (c.latched = false → held = true → starts fun e => e.cipher = c.cipher ∧ e.irq = c.irq ∧
        (e.get (R.jobResult j.val)).toNat = op * 256 + 8 ∧
        e.fld F.cipherCounts_REFUSED = min 255 (c.fld F.cipherCounts_REFUSED + 1)) ∧
      (c.latched = false → held = false → op = 0 ∨ 7 < op → starts fun e => e.cipher.queue = [] ∧
        (e.get (R.jobResult j.val)).toNat = 10 * 65536 + op * 256 + 4 ∧ bitOf (e.fld F.cipherStatus_DONE) j.val = true ∧
        e.irq.pend.getLsbD 57 = true) ∧
      (c.latched = false → held = false → 1 ≤ op → op ≤ 7 → starts fun e =>
        e.cipher = { c.cipher with queue := [{ num := j.val, desc := d, bad := false }] } ∧ e.irq = c.irq ∧
          e.flag F.cipherStatus_BUSY = true ∧ e.fld F.cipherStatus_RUNNING = j.val ∧
          (e.get (R.jobResult j.val)).toNat = op * 256 + 1)

/-- Keys, alarms and packages. CIPHER_ERASE empties the named slots of 0 to 14 and counts each key. An alarm, whether of a detector or of
KEY_PURGE, empties every slot, keeps its cause, latches, ends every job and is a standing fault; a write to the latch clears it unless a
condition persists, and the running supervisor then derives slot 15 again. CAL_APPLY stops at the first check that fails, with its
result, and the fault has that result; the results of a package outside the data area or in a block that the device does not hold, 2
and 3 without a fault, are the model's reading (log entry 53). A package that passes leaves its blocks RETURNING with their contents,
and its commits staged, without a reply yet; the apply tick ends that for the blocks still RETURNING and replies with PACKAGE_ID, with
their count and result 0x0107 where one was taken back, and FRAME_COUNT. -/
def Obligations.KeysAndPackages : Prop :=
  ∀ s : State, s.Inv → s.chip.win.ecc = [] →
    let c := s.chip
    let word (i : Nat) : Nat := c.win16 (2 * i)
    let dropSup (a : Nat) (b : Bus) : Bus := { b with supCommits := dropFirst (fun x => x.1 == a) b.supCommits }
    let regs : List RegName := [.faultCounts, .cipherStatus, .cipherAlarm, .cipherCounts, .jobResult, .slotInfo]
    let alarmed (cause : Nat) (d : Chip) : Prop := (∀ k : Fin 16, d.cipher.slots[k] = none) ∧ d.latched = true ∧
      d.flag F.cipherStatus_ALARM = true ∧ bitOf (d.fld F.cipherAlarm_CAUSE) cause = true ∧ d.cipher.queue = [] ∧
      d.fld F.cipherAlarm_ALARMS = min 255 (c.fld F.cipherAlarm_ALARMS + 1) ∧ d.irq.pend.getLsbD 58 = true ∧ d.onRecord 0x0901 0
    (∀ mask time : Word, c.cipher.queue = [] →
      RunsBy (.cipherErase mask time) s [.regs, .bus, .cipher] [.cipherCounts, .slotInfo] fun d =>
        (∀ k : Fin 16, d.cipher.slots[k] = if bitOf mask.toNat k.val ∧ k.val < 15 then none else c.cipher.slots[k]) ∧
          d.fld F.cipherCounts_ERASURES = min 255 (c.fld F.cipherCounts_ERASURES +
            ((List.range 15).filter fun k => bitOf mask.toNat k && (c.keyAt k).isSome).length) ∧ d.bus = dropSup R.cipherErase c.bus) ∧
    (∀ (cause : Fin 4) (time : Word), 3 ≤ c.fld F.pwrState_STATE → NoEffect (.keyAlarm cause time) s) ∧
    (∀ (cause : Fin 4) (time : Word), c.fld F.pwrState_STATE < 3 → c.hasFreeSlot →
      RunsBy (.keyAlarm cause time) s [.regs, .win, .irq, .flt, .jnl, .cipher, .faultQueue] regs (alarmed cause.val)) ∧
    (∀ time : Word, c.commandWaits = true → word 0 = 0x0903 → c.hasFreeSlot →
      RunsBy (.keyPurge time) s [.regs, .win, .bus, .irq, .flt, .jnl, .cipher, .faultQueue] regs fun d =>
        alarmed 3 d ∧ d.bus = { c.bus with reply := some { result := 0, data := [] } }) ∧
    (∀ persists : BitVec 3, (persists ≠ 0 ∨ c.latched = false →
        RunsIn (.alarmLatchClear persists) s [.bus] [] fun d => d.bus = dropSup R.cipherAlarm c.bus) ∧
      (persists = 0 → c.latched = true → RunsBy (.alarmLatchClear persists) s [.regs, .bus, .cipher, .faultQueue]
        [.cipherStatus, .cipherAlarm, .slotInfo] fun d => d.bus = dropSup R.cipherAlarm c.bus ∧ d.latched = false ∧
          d.fld F.cipherAlarm_CAUSE = 0 ∧ d.flag F.cipherStatus_ALARM = false ∧
          (c.supRuns = true → c.ready = true → c.keyAt 15 = none →
            ∃ k, d.keyAt 15 = some k ∧ k.role = 1 ∧ k.usage = 0x30 ∧ k.origin = 3) ∧
          (c.supRuns = false ∨ c.ready = false ∨ c.keyAt 15 ≠ none → d.keyAt 15 = c.keyAt 15) ∧
            ∀ k : Fin 16, k.val < 15 → d.cipher.slots[k] = c.cipher.slots[k])) ∧
    (c.cipher.staged ≠ none → NoEffect .calApply s) ∧
    (c.commandWaits = true → word 0 = 0x0901 → c.cipher.staged = none →
      let off := word 2
      let len := word 3
      let h := c.dataBytes (off, 64)
      let n := Chip.d16 h 26
      let recs := c.dataBytes (off + 64, n)
      let tag := c.dataBytes (off + 64 + n, 16)
      let iv := (h.drop 28).take 12
      let enc := decide (Chip.d16 h 6 = 1)
      let usable (k : Key) : Prop := k.bytes.length = 16 ∧ bitOf k.usage 1 = true
      let rejects (r : Nat) : Prop := c.hasFreeSlot →
        RunsBy .calApply s [.regs, .win, .bus, .irq, .flt, .jnl, .faultQueue] [.faultCounts] fun d =>
          d.bus = { c.bus with reply := some { result := r, data := [] } } ∧ d.onRecord 0x0903 0
      let inside := off + len ≤ 16128 ∧ ∀ b ∈ Chip.regionBlocks (off, len), c.deviceHeld b = true
      let formed := 80 ≤ len ∧ h.take 4 = [0x4C#8, 0x42#8, 0x43#8, 0x50#8] ∧ Chip.d16 h 4 = 1 ∧ Chip.d16 h 6 ≤ 1 ∧ len = 80 + n
      let part := if c.part = .lb8620 then 0x8620 else 0x8612
      let uid := leValue ((h.drop 12).take 8)
      let mine := (Chip.d16 h 10 = 0 ∨ Chip.d16 h 10 = part) ∧ (uid = 0 ∨ uid = Config.devUid.toNat)
      (c.latched = true → rejects 0x0106) ∧
      (c.latched = false → c.roleKey 2 = none → rejects 0x0105) ∧
      ∀ k, c.latched = false → c.roleKey 2 = some k →
        (¬usable k → rejects 0x0105) ∧
        (usable k → 16128 < off + len → RunsIn .calApply s [.bus] [] fun d =>
          d.bus = { c.bus with reply := some { result := 2, data := [] } }) ∧
        (usable k → off + len ≤ 16128 → (∃ b ∈ Chip.regionBlocks (off, len), c.deviceHeld b = false) →
          RunsIn .calApply s [.bus] [] fun d => d.bus = { c.bus with reply := some { result := 3, data := [] } }) ∧
        (usable k → inside →
          (¬formed → rejects 0x0103) ∧
          (formed →
            let verified := tag = if enc then Aes.gcmTag k.bytes iv h recs else Aes.gcmTag k.bytes iv (h ++ recs) []
            let plain := if enc then Aes.gcmCtr k.bytes iv recs else recs
            (¬verified → rejects 0x0100) ∧ (verified → ¬mine → rejects 0x0102) ∧
            (verified → mine → Chip.d16 h 8 < c.cipher.calFloor → rejects 0x0101) ∧
            (verified → mine → c.cipher.calFloor ≤ Chip.d16 h 8 →
              (Chip.parseRecords (Chip.d16 h 24) plain = none → rejects 0x0103) ∧
              ∀ rs, Chip.parseRecords (Chip.d16 h 24) plain = some rs →
                let bs := Chip.recordBlocks rs
                (Chip.d16 h 24 = 0 ∨ 61 < Chip.d16 h 24 ∨ ¬(bs.map (·.1)).Nodup → rejects 0x0103) ∧
                (1 ≤ Chip.d16 h 24 → Chip.d16 h 24 ≤ 61 → (bs.map (·.1)).Nodup →
                  ((∃ b ∈ bs, c.deviceHeld b.1 = false) → rejects 0x0104) ∧
                  ((∀ b ∈ bs, c.deviceHeld b.1 = true) → RunsIn .calApply s [.win, .cipher, .own] [] fun d =>
                    (∀ b ∈ bs, ∀ i, i < 256 → d.winByte (256 * b.1 + i) = b.2.getD i 0) ∧
                      d.win.returning = c.win.returning ++ bs.map (fun b => (b.1, 0)) ∧ d.cipher = { c.cipher with
                        staged := some { id := leValue ((h.drop 20).take 4), blocks := bs.map (·.1)
                                         commits := Chip.recordCommits rs } })))))) ∧
    (c.frameRuns = false ∨ c.cipher.staged = none → NoEffect .calApplyTick s) ∧
    ∀ x, c.frameRuns = true → c.cipher.staged = some x →
      let live := x.blocks.filter fun b => c.win.returning.contains (b, 0)
      let whole := live.length = x.blocks.length
      Runs .calApplyTick s fun d => d.cipher = { c.cipher with staged := none } ∧ (∀ r ∈ d.win.returning, r.1 ∉ live) ∧
        d.bus = { c.bus with reply := some { result := if whole then 0 else 0x0107, data := [BitVec.ofNat 16 x.id,
          BitVec.ofNat 16 (x.id / 65536), if whole then 0 else BitVec.ofNat 16 live.length, BitVec.ofNat 16 c.tb.frame.toNat, BitVec.ofNat 16 (c.tb.frame.toNat / 65536)] } } ∧
        ChangesOnly [.regs, .win, .bus, .irq, .flt, .jnl, .wheels, .pred, .free, .sched, .outs, .conv, .power, .cipher, .twin, .own,
          .faultQueue] c d

/-! ## The service port: CAN FD and transport (R637 to R648, R671) -/

/-- The CAN FD controller. A stopped, silent or bus-off controller takes no frame. A received data frame lowers REC, and goes to the
supervisor where its identifier is the request or the functional one, else, while host reception is on, into the first matching buffer
that is not full, which shows identifier, format, data and frame, or sets OVR of the first matching one and is counted as lost. TX_REQ on
an enabled transmit buffer queues it; a request taken back before its transmission sets TX_ABORTED; the frame of the highest priority is
sent, lowers TEC, ends its request and sets TX_DONE. Flags of MB_STATUS written 1 are cleared. EN starts and stops the controller, a start
after bus-off in recovery, and none while the device sleeps; bus-off is counted, raises source 59 and is a standing fault, which recovery
ends; an error leaves its kind and counters, and one above 127 makes the controller error-passive. -/
def Obligations.CanController : Prop :=
  ∀ s : State, s.Inv →
    let c := s.chip
    let tec := c.fld F.canStatus_TEC
    let rec' := c.fld F.canStatus_REC
    let dropSup (a : Nat) : Bus := { c.bus with supCommits := dropFirst (fun x => x.1 == a) c.bus.supCommits }
    let flags (n : Nat) : List Fld := [F.mbStatus_TX_ABORTED n, F.mbStatus_TX_DONE n, F.mbStatus_OVR n, F.mbStatus_FULL n]
    (∀ f : CanFrame, c.canRuns = false ∨ (f.fdf = true ∧ c.flag F.canCfg_FD_EN = false) → NoEffect (.canFrameReceive f) s) ∧
    (∀ f : CanFrame, c.canRuns = true → f.fdf = false ∨ c.flag F.canCfg_FD_EN = true →
      let acts (P : Chip → Prop) : Prop := RunsBy (.canFrameReceive f) s [.regs, .irq, .flt, .jnl, .free, .can, .faultQueue]
        [.faultCounts, .canStatus, .canCounts, .mbStatus, .mbRxid, .mbStamp, .mbData] fun d =>
          (rec' ≤ 127 → d.fld F.canStatus_REC = rec' - 1) ∧
            (127 < rec' → 119 ≤ d.fld F.canStatus_REC ∧ d.fld F.canStatus_REC ≤ 127) ∧ P d
      let request := f.ide = false ∧ f.id.toNat = c.reqId
      let functional := f.ide = false ∧ f.id.toNat = c.fld F.canDiagCfg_FUNC_ID
      let free (b : Nat) : Bool := c.mbMatches f b && !c.flag (F.mbStatus_FULL b)
      let lost (d : Chip) : Prop := d.fld F.canCounts_RX_LOST = min 255 (c.fld F.canCounts_RX_LOST + 1) ∧ d.can = c.can
      (request → acts fun d => d.can = { c.can with frames := c.can.frames ++ [(false, f)] }) ∧
      (¬request → functional → acts fun d => d.can = { c.can with frames := c.can.frames ++ [(true, f)] }) ∧
      (¬request → ¬functional → c.can.rxOff = true → acts lost) ∧
      (∀ b, ¬request → ¬functional → c.can.rxOff = false → Chip.hostBuffers.find? free = some b → acts fun d =>
        d.flag (F.mbStatus_FULL b) = true ∧ (d.get (R.mbRxid b)).toNat = (if f.ide then f.id.toNat else f.id.toNat % 2048) ∧
          d.fld (F.mbStatus_RX_DLC b) = f.dlc.val ∧ d.flag (F.mbStatus_RX_IDE b) = f.ide ∧ d.flag (F.mbStatus_RX_RTR b) = f.rtr ∧
          d.flag (F.mbStatus_RX_FDF b) = f.fdf ∧ d.flag (F.mbStatus_RX_BRS b) = f.brs ∧ d.flag (F.mbStatus_RX_ESI b) = f.esi ∧
          d.get (R.mbStamp b) = c.tb.frame ∧ d.can = c.can ∧
          (f.rtr = false → ∀ w, w < 16 → d.get (R.mbData b w) =
            BitVec.ofNat 32 (leValue ((List.range 4).map fun i => f.data.getD (4 * w + i) 0))) ∧
          (c.flag (F.mbCfg_IRQ_EN b) = true → d.irq.pend.getLsbD 59 = true)) ∧
      (¬request → ¬functional → c.can.rxOff = false → Chip.hostBuffers.find? free = none →
        (∀ b, Chip.hostBuffers.find? (c.mbMatches f) = some b → acts fun d => lost d ∧ d.flag (F.mbStatus_OVR b) = true) ∧
        (Chip.hostBuffers.find? (c.mbMatches f) = none → acts lost))) ∧
    (∀ (k : Fin 12) (v : DWord),
      let b := 4 + k.val
      let wants := v.getLsbD 16 && v.getLsbD 1 && v.getLsbD 0
      (c.mbQueued b = false → RunsIn (.mbTxRequest k v) s [.regs, .bus] [R.mbCfg b] fun d =>
        d.mbQueued b = wants ∧ d.bus = dropSup (R.mbCfg b) ∧ d.flag (F.mbCfg_EN b) = v.getLsbD 0 ∧
          d.fld (F.mbCfg_DLC b) = bitsOf v.toNat 11 8) ∧
      (c.mbQueued b = false → ∀ sending, exec (.mbTxAbort k v sending) s = exec (.mbTxRequest k v) s) ∧
      (c.mbQueued b = true → exec (.mbTxRequest k v) s = exec (.mbTxAbort k v false) s) ∧
      (c.mbQueued b = true → wants = true → RunsIn (.mbTxAbort k v false) s [.regs, .bus] [R.mbCfg b] fun d => d.mbQueued b = true) ∧
      (c.mbQueued b = true → RunsIn (.mbTxAbort k v true) s [.regs, .bus] [R.mbCfg b] fun d => d.mbQueued b = true) ∧
      (c.mbQueued b = true → wants = false → RunsIn (.mbTxAbort k v false) s [.regs, .bus, .irq] [R.mbCfg b, R.mbStatus b] fun d =>
        d.mbQueued b = false ∧ d.flag (F.mbStatus_TX_ABORTED b) = true ∧
          (v.getLsbD 17 = true → d.irq.pend.getLsbD 59 = true)) ∧
      (RunsIn (.mbFullClear k v) s [.regs, .bus] [R.mbStatus b] fun d => d.bus = dropSup (R.mbStatus b) ∧
        ∀ f ∈ flags b, d.flag f = (c.flag f && !v.getLsbD f.lo))) ∧
    (∀ queued : Word, c.can.resetAfter = false ∨ c.supRuns = false → c.canRuns = false ∨ c.flag F.canCfg_LISTEN_ONLY = true ∨
      c.nextBuffer queued.toNat = none → NoEffect (.canTxComplete queued) s) ∧
    (∀ (queued : Word) (b : Nat), c.can.resetAfter = false ∨ c.supRuns = false → c.canRuns = true → c.flag F.canCfg_LISTEN_ONLY = false →
      c.nextBuffer queued.toNat = some b →
        let passive := decide (127 < tec - 1) || decide (127 < rec')
        c.canState = 1 ∨ passive = false →
        let counted (d : Chip) : Prop := d.fld F.canStatus_TEC = tec - 1 ∧ d.canState = if passive then 1 else 0
        (b = 2 → RunsIn (.canTxComplete queued) s [.regs, .can] [R.canStatus] fun d =>
          d.can = { c.can with out := c.can.out.drop 1, sent := c.txFrame 2 } ∧ counted d) ∧
        (b ≠ 2 → RunsIn (.canTxComplete queued) s [.regs, .irq, .can] [R.canStatus, R.mbCfg b, R.mbStatus b] fun d =>
          d.can = { c.can with sent := c.txFrame b } ∧ d.mbQueued b = false ∧ d.flag (F.mbStatus_TX_DONE b) = true ∧ counted d ∧
            (c.flag (F.mbCfg_IRQ_EN b) = true → d.irq.pend.getLsbD 59 = true))) ∧
    (∀ v : DWord,
      (c.flag F.canCfg_EN = false → v.getLsbD 0 = true → c.fld F.pwrState_STATE < 2 → c.can.busOff = false → tec ≤ 127 →
        rec' ≤ 127 → RunsIn (.canCfgCommit v) s [.regs, .bus] [R.canCfg, R.canStatus] fun d =>
          d.flag F.canCfg_EN = true ∧ d.canState = 0 ∧ d.bus = dropSup R.canCfg) ∧
      (c.flag F.canCfg_EN = false → v.getLsbD 0 = true → c.fld F.pwrState_STATE < 2 → c.can.busOff = true →
        RunsIn (.canCfgCommit v) s [.regs, .bus, .can, .faultQueue] [R.canCfg, R.canStatus] fun d =>
          d.flag F.canCfg_EN = true ∧ d.canState = 2 ∧ d.can = { c.can with recovering := true } ∧ d.bus = dropSup R.canCfg) ∧
      (c.flag F.canCfg_EN = false → v.getLsbD 0 = true → 2 ≤ c.fld F.pwrState_STATE →
        RunsIn (.canCfgCommit v) s [.regs, .bus] [R.canCfg] fun d => d.flag F.canCfg_EN = true ∧ d.bus = dropSup R.canCfg) ∧
      (c.flag F.canCfg_EN = true → v.getLsbD 0 = false →
        RunsIn (.canCfgCommit v) s [.regs, .bus, .can, .faultQueue] [R.canCfg, R.canStatus] fun d =>
          d.flag F.canCfg_EN = false ∧ d.canState = 3 ∧ d.can = { c.can with recovering := false } ∧ d.bus = dropSup R.canCfg) ∧
      (c.flag F.canCfg_EN = v.getLsbD 0 → RunsIn (.canCfgCommit v) s [.regs, .bus] [R.canCfg] fun d =>
        d.flag F.canCfg_EN = c.flag F.canCfg_EN ∧ d.flag F.canCfg_LISTEN_ONLY = v.getLsbD 4 ∧
          d.flag F.canCfg_BUSOFF_AUTO = v.getLsbD 5)) ∧
    (c.canRuns = false → NoEffect .canBusOff s ∧ ∀ k t r, NoEffect (.canBusError k t r) s) ∧
    (c.canRuns = true → c.hasFreeSlot → RunsIn .canBusOff s [.regs, .irq, .flt, .jnl, .can, .faultQueue]
      [R.faultCounts, R.canStatus, R.canCounts] fun d =>
        d.canState = 2 ∧ d.fld F.canStatus_TEC = 255 ∧ d.fld F.canCounts_BUS_OFFS = min 255 (c.fld F.canCounts_BUS_OFFS + 1) ∧
          d.can = { c.can with busOff := true, recovering := c.flag F.canCfg_BUSOFF_AUTO } ∧ d.irq.pend.getLsbD 59 = true ∧
          d.onRecord 0x0A01 0) ∧
    (c.canState = 2 → c.can.recovering = true → RunsIn .canBusoffRecovery s [.regs, .can, .faultQueue] [R.canStatus] fun d =>
      d.canState = 0 ∧ d.fld F.canStatus_TEC = 0 ∧ d.fld F.canStatus_REC = 0 ∧
        d.can = { c.can with busOff := false, recovering := false }) ∧
    (c.canState ≠ 2 ∨ c.can.recovering = false → NoEffect .canBusoffRecovery s) ∧
    (c.canRuns = true → ∀ (kind : CanError) (t r : Byte),
      let passive := decide (127 < t.toNat) || decide (127 < r.toNat)
      (c.canState = 1 ∨ passive = false → RunsIn (.canBusError kind t r) s [.regs] [R.canStatus] fun d =>
        d.canState = (if passive then 1 else 0) ∧ d.fld F.canStatus_TEC = t.toNat ∧ d.fld F.canStatus_REC = r.toNat ∧
          d.fld F.canStatus_LAST_ERR = Chip.errCode kind) ∧
      (c.canState = 0 → passive = true → c.hasFreeSlot → RunsIn (.canBusError kind t r) s [.regs, .irq, .flt, .jnl, .faultQueue]
        [R.faultCounts, R.canStatus] fun d => d.canState = 1 ∧ d.fld F.canStatus_TEC = t.toNat ∧ d.onRecord 0x0A02 0))

/-- Transport. A single frame of the supervisor's is a request: it is counted, holds the device awake, and goes into service where none is
served and none is answered, and is answered with busyRepeatRequest otherwise, unless it is functional. A first frame is answered
with a flow control that lets its consecutive frames come, or refuses a length above 4095; they complete the request in order, and a wrong
number ends it. A flow control lets a segmented response go on, delays it up to 16 times or ends it; with a separation time its frames leave
one by one, each once that time has passed. A timeout ends the transfer that waits for a flow control or for a frame, while
the supervisor runs. -/
def Obligations.Transport : Prop :=
  ∀ s : State, s.Inv →
    let c := s.chip
    let q := c.can
    let canIs (i : Instr) (x : Can) : Prop := RunsIn i s [.can] [] fun d => d.can = x
    (c.diagRuns = false ∨ c.nextFrame = none → ∀ i ∈ [Instr.singleFrame, .firstFrame, .consecutiveFrame, .flowControl], NoEffect i s) ∧
    (∀ (x : Bool × CanFrame) (d1 : Chip), c.diagRuns = true → c.nextFrame = some (x, d1) →
      let f := x.2
      let q1 := { q with frames := d1.can.frames }
      let b (i : Nat) : Nat := (f.data.getD i 0).toNat
      let serves (i : Instr) (x1 : Can) (r : DiagReq) : Prop :=
        let taken (d : Chip) : Prop := d.flag F.pwrStatus_FLOOR_DWELL = true ∧
          d.fld F.canCounts_DIAG_REQUESTS = min 255 (c.fld F.canCounts_DIAG_REQUESTS + 1)
        (q.req = none → q.tx = none → RunsIn i s [.regs, .can] [R.canCounts, R.pwrStatus] fun d =>
          taken d ∧ d.can = { x1 with req := some r } ∧ d.fld F.canCounts_DIAG_NEGATIVE = c.fld F.canCounts_DIAG_NEGATIVE) ∧
        (q.req.isSome = true ∨ q.tx.isSome = true → r.functional = true → RunsIn i s [.regs, .can] [R.canCounts, R.pwrStatus] fun d =>
          taken d ∧ d.can = x1) ∧
        (q.req.isSome = true ∨ q.tx.isSome = true → r.functional = false → RunsIn i s [.regs, .can] [R.canCounts, R.pwrStatus] fun d =>
          taken d ∧ d.can = { x1 with out := q.out ++ [c.mkFrame r.fdf r.brs [3, 0x7F, BitVec.ofNat 8 (Chip.sid r), 0x21]] } ∧
            d.fld F.canCounts_DIAG_NEGATIVE = min 255 (c.fld F.canCounts_DIAG_NEGATIVE + 1))
      (Chip.frameKind x ≠ some 0 → NoEffect .singleFrame s) ∧ (Chip.frameKind x ≠ some 1 → NoEffect .firstFrame s) ∧
      (Chip.frameKind x ≠ some 2 → NoEffect .consecutiveFrame s) ∧ (Chip.frameKind x ≠ some 3 → NoEffect .flowControl s) ∧
      (∀ l, Chip.frameKind x = some 0 → Chip.singleData f = some l →
        serves .singleFrame (if x.1 then q1 else { q1 with rx := none }) { data := l, functional := x.1, fdf := f.fdf, brs := f.brs }) ∧
      (∀ n l, Chip.frameKind x = some 1 → Chip.firstData f = some (n, l) →
        let reply (k : Byte) : List CanFrame := q.out ++ [c.mkFrame f.fdf f.brs [0x30 + k, 0, 0]]
        (n ≤ 4095 → canIs .firstFrame { q1 with
          out := reply 0, rx := some { total := n, got := l, sn := 1, fdf := f.fdf, brs := f.brs } }) ∧
        (4095 < n → canIs .firstFrame { q1 with out := reply 2 })) ∧
      (Chip.frameKind x = some 2 → q.rx = none → canIs .consecutiveFrame q1) ∧
      (∀ r, Chip.frameKind x = some 2 → q.rx = some r →
        let got := (r.got ++ f.data.drop 1).take r.total
        (b 0 % 16 ≠ r.sn → canIs .consecutiveFrame { q1 with rx := none }) ∧
        (b 0 % 16 = r.sn → got.length < r.total →
          canIs .consecutiveFrame { q1 with rx := some { r with got := got, sn := (r.sn + 1) % 16 } }) ∧
        (b 0 % 16 = r.sn → r.total ≤ got.length →
          serves .consecutiveFrame { q1 with rx := none } { data := got, functional := false, fdf := r.fdf, brs := r.brs })) ∧
      (Chip.frameKind x = some 3 → (∀ t, q.tx = some t → t.go = true) → canIs .flowControl q1) ∧
      ∀ t, Chip.frameKind x = some 3 → q.tx = some t → t.go = false →
        (b 0 % 16 = 1 → canIs .flowControl { q1 with tx := if t.waits = 16 then none else some { t with waits := t.waits + 1 } }) ∧
        (2 ≤ b 0 % 16 → canIs .flowControl { q1 with tx := none }) ∧
        (b 0 % 16 = 0 → t.rest ≠ [] →
          (t.rest.length ≤ Chip.cfSize t.fdf → RunsIn .flowControl s [.free, .can] [] fun d => d.can = { q1 with
            tx := none, out := q.out ++ [c.mkFrame t.fdf t.brs (BitVec.ofNat 8 (0x20 + t.sn % 16) :: t.rest)] }) ∧
          (Chip.cfSize t.fdf < t.rest.length → RunsIn .flowControl s [.free, .can] [] fun d =>
            q.out ++ [c.mkFrame t.fdf t.brs (BitVec.ofNat 8 (0x20 + t.sn % 16) :: t.rest.take (Chip.cfSize t.fdf))] <+: d.can.out ∧
              d.can.frames = q1.frames ∧ d.can.req = q.req))) ∧
    (∀ us : DWord, (∀ t, q.tx = some t → t.go = false ∨ t.due = false ∨ us.toNat < t.st) ∨ c.diagRuns = false →
      NoEffect (.stminElapsed us) s) ∧
    (∀ (us : DWord) t, q.tx = some t → t.go = true → t.due = true → c.diagRuns = true → t.st ≤ us.toNat →
      let k := Chip.cfSize t.fdf
      let block := t.block.map fun n => n - 1
      canIs (.stminElapsed us) { q with
        out := q.out ++ [c.mkFrame t.fdf t.brs (BitVec.ofNat 8 (0x20 + t.sn % 16) :: t.rest.take k)]
        tx := if t.rest.length ≤ k then none
          else some { t with rest := t.rest.drop k, sn := (t.sn + 1) % 16, block := block, go := block != some 0
                             due := t.st != 0 && block != some 0 } }) ∧
    (∀ t, c.supRuns = true → q.tx = some t → canIs (.isotpTimeout true) { q with tx := if t.go then some t else none }) ∧
    (q.tx = none → NoEffect (.isotpTimeout true) s) ∧
    (c.supRuns = true → canIs (.isotpTimeout false) { q with rx := none }) ∧
    (c.supRuns = false → ∀ sending, NoEffect (.isotpTimeout sending) s)

/-! ## Workshop diagnostics (R649 to R670) -/

/-- Sessions, security and forwarding. Each service answers its request in service with its positive response, which a set suppress bit
holds back, or with a negative one, which a functional request does not get for some codes; either ends the request and the negative one
is counted. Service 0x10 changes the session and relocks, 0x11 is refused while the engine rotates and resets with cause SOFT, 0x28
switches the host's buffers, 0x27 gives a seed of boots, count, frame and UID and takes the key that matches it, counts the failures,
delays after the third and raises an alarm at the sixteenth; the routines purge the keys and update the display. A forwarded request gets
a handle and source 59, and a generalReject when its time is over. Without a request in service nothing happens. -/
def Obligations.DiagnosticSessions : Prop :=
  ∀ s : State, s.Inv →
    let c := s.chip
    (c.can.req = none → ∀ (time ms : Word) (fails : Nat), ∀ i ∈ [Instr.diagnosticSessionControl, .ecuReset, .clearDiagnosticInformation fails,
      .reportNumberOfDtcByStatusMask, .reportDtcByStatusMask, .reportDtcSnapshotRecord, .reportDtcExtendedDataRecord,
      .readDataByIdentifier, .writeDataByIdentifier, .requestSeed, .sendKey time, .communicationControl, .routineJournalRead,
      .tagRefresh, .routineKeyPurge time, .testerPresent, .controlDtcSetting fails, .unsupportedService, .forwardedRequest,
      .forwardTimeout ms, .responsePending], NoEffect i s) ∧
    (c.session = 1 ∨ c.supRuns = false → NoEffect .sessionTimeout s) ∧
    (c.session ≠ 1 → c.supRuns = true → RunsIn .sessionTimeout s [.regs, .jnl, .can] [R.canStatus, R.canDiagStatus] fun d =>
      d.session = 1 ∧ d.secLevel = 0 ∧ d.flag F.canStatus_COMM_TX_OFF = false ∧ d.can.rxOff = false ∧
        d.dtcOff = (c.dtcOff && decide (c.session ≠ 3))) ∧
    (RunsIn .securityDelayEnd s [.regs] [R.canDiagStatus] fun d =>
      d.flag F.canDiagStatus_DELAY = false ∧ d.fld F.canDiagStatus_FAILS = c.fld F.canDiagStatus_FAILS) ∧
    ∀ r : DiagReq, c.can.req = some r → c.diagRuns = true → r.handle = none →
      let n := r.data.length
      let b (i : Nat) : Nat := (r.data.getD i 0).toNat
      let sub := b 1 % 128
      let held := decide (128 ≤ b 1)
      let mk (l : List Byte) : CanFrame := c.mkFrame r.fdf r.brs l
      let speaks (hasSub : Bool) (l : List Byte) (d : Chip) : Prop := d.can.req = none ∧ d.can.tx = c.can.tx ∧
        d.fld F.canCounts_DIAG_NEGATIVE = c.fld F.canCounts_DIAG_NEGATIVE ∧ d.can.out = if hasSub && held then c.can.out
          else c.can.out ++ [mk (BitVec.ofNat 8 l.length :: l)]
      let refuses (nrc : Nat) (d : Chip) : Prop := d.can.req = none ∧
        (if r.functional = true ∧ nrc ∈ [0x11, 0x12, 0x31, 0x7E, 0x7F] then d.can.out = c.can.out
          else d.can.out = c.can.out ++ [mk [3, 0x7F, BitVec.ofNat 8 (b 0), BitVec.ofNat 8 nrc]] ∧
            d.fld F.canCounts_DIAG_NEGATIVE = min 255 (c.fld F.canCounts_DIAG_NEGATIVE + 1))
      let negative (i : Instr) (nrc : Nat) : Prop := RunsIn i s [.regs, .can] [R.canCounts] (refuses nrc)
      (RunsIn .responsePending s [.regs, .can] [R.canCounts] fun d =>
        d.can = { c.can with out := c.can.out ++ [mk [3, 0x7F, BitVec.ofNat 8 (b 0), 0x78]] }) ∧
      (c.forwards r = true → RunsIn .forwardedRequest s [.regs, .irq, .can] [R.canDiagStatus] fun d =>
        d.can = { c.can with req := some { r with handle := some (c.can.handle % 255 + 1) }, handle := c.can.handle % 255 + 1, put := [] } ∧
          d.flag F.canDiagStatus_FWD_PENDING = true ∧ d.irq.pend.getLsbD 59 = true) ∧
      (c.forwards r = false →
        NoEffect .forwardedRequest s ∧
        (b 0 = 0x10 → 1 ≤ n →
          (n = 2 → 1 ≤ sub → sub ≤ 3 → 1 ≤ c.session → RunsIn .diagnosticSessionControl s [.regs, .jnl, .can]
            [R.canStatus, R.canCounts, R.canDiagStatus] fun d =>
              speaks true [0x50, BitVec.ofNat 8 sub, 0x00, 0x32, 0x01, 0xF4] d ∧ d.session = sub ∧
                d.secLevel = (if c.session = sub then c.secLevel else 0)) ∧
          (n = 1 → 1 ≤ c.session → negative .diagnosticSessionControl 0x13) ∧
          (2 ≤ n → sub = 0 ∨ 3 < sub → 1 ≤ c.session → negative .diagnosticSessionControl 0x12) ∧
          (n ≠ 2 → 1 ≤ sub → sub ≤ 3 → 1 ≤ c.session → negative .diagnosticSessionControl 0x13)) ∧
        (b 0 = 0x11 → r.functional = false → n = 2 → sub = 1 →
          (c.session = 1 → negative .ecuReset 0x7F) ∧
          (2 ≤ c.session → c.secLevel < 2 → negative .ecuReset 0x33) ∧
          (2 ≤ c.session → 2 ≤ c.secLevel → c.flag F.pwrState_ROTATING = true → negative .ecuReset 0x22) ∧
          (2 ≤ c.session → 2 ≤ c.secLevel → c.flag F.pwrState_ROTATING = false → held = false →
            RunsIn .ecuReset s [.can] [] fun d => speaks true [0x51, 0x01] d ∧ d.can.resetAfter = true) ∧
          (2 ≤ c.session → 2 ≤ c.secLevel → c.flag F.pwrState_ROTATING = false → held = true → c.can.out = [] → c.can.tx = none →
            Runs .ecuReset s fun d => bitOf (d.get R.resetCause).toNat 3 = true ∧ d.ready = false)) ∧
        (b 0 = 0x28 → c.session = 3 → n = 3 → sub ≤ 3 →
          (c.secLevel = 0 → negative .communicationControl 0x33) ∧
          (1 ≤ c.secLevel → b 2 ≠ 1 → negative .communicationControl 0x31) ∧
          (1 ≤ c.secLevel → b 2 = 1 → RunsIn .communicationControl s [.regs, .can] [R.canStatus] fun d =>
            speaks true [0x68, BitVec.ofNat 8 sub] d ∧
              d.flag F.canStatus_COMM_TX_OFF = (decide (sub % 2 = 1) || (c.flag F.canStatus_COMM_TX_OFF && decide (sub ≠ 0))) ∧
              d.can.rxOff = (decide (2 ≤ sub) || (c.can.rxOff && decide (sub ≠ 0))))) ∧
        (b 0 = 0x3E → 1 ≤ n → 1 ≤ c.session →
          (n = 2 → sub = 0 → RunsIn .testerPresent s [.can] [] (speaks true [0x7E, 0x00])) ∧
          (2 ≤ n → sub ≠ 0 → negative .testerPresent 0x12)) ∧
        (b 0 ∉ [0x10, 0x11, 0x14, 0x19, 0x22, 0x27, 0x28, 0x2E, 0x2F, 0x31, 0x34, 0x36, 0x37, 0x3E, 0x85] →
          negative .unsupportedService 0x11) ∧
        (b 0 ∈ [0x2F, 0x34, 0x36, 0x37] → negative .unsupportedService (if c.flag F.canDiagCfg_FWD_EN then 0x7F else 0x11)) ∧
        (b 0 = 0x19 → 2 ≤ n → sub ∉ [1, 2, 4, 6] → negative .unsupportedService 0x12) ∧
        (b 0 = 0x27 → r.functional = false → 2 ≤ n → sub ∉ [1, 2, 3, 4] →
          negative .unsupportedService (if c.session < 2 then 0x7F else 0x12)) ∧
        (b 0 = 0x31 → r.functional = false → 2 ≤ n →
          (sub ≠ 1 → negative .unsupportedService 0x12) ∧
          (sub = 1 → 4 ≤ n → 256 * b 2 + b 3 ∉ [0xFE10, 0xFE11, 0xFE12] → negative .unsupportedService 0x31)) ∧
        (b 0 = 0x27 → r.functional = false → 2 ≤ n → c.session = 1 →
          (sub = 1 ∨ sub = 3 → negative .requestSeed 0x7F) ∧ (sub = 2 ∨ sub = 4 → ∀ time, negative (.sendKey time) 0x7F)) ∧
        (b 0 = 0x27 → r.functional = false → 2 ≤ c.session →
          let level := (sub + 1) / 2
          let seed := beBytes 2 c.jnl.boots.toNat ++ beBytes 2 (c.can.seeds % 65536) ++ beBytes 4 c.tb.frame.toNat ++
            beBytes 8 Config.devUid.toNat
          (sub = 1 ∨ sub = 3 → n = 2 → c.flag F.canDiagStatus_DELAY = true → negative .requestSeed 0x37) ∧
          (sub = 1 ∨ sub = 3 → n = 2 → c.flag F.canDiagStatus_DELAY = false → c.testerReady = none → negative .requestSeed 0x22) ∧
          (sub = 1 ∨ sub = 3 → n = 2 → c.flag F.canDiagStatus_DELAY = false → c.testerReady.isSome = true → c.secLevel < level →
            RunsIn .requestSeed s [.can] [] fun d => d.can.seeds = c.can.seeds + 1 ∧ d.can.req = none ∧
              d.can.seed = c.can.seed.filter (fun x => x.1 != level) ++ [(level, seed)] ∧
              (held = false → r.fdf = true →
                d.can.out = c.can.out ++ [mk (0 :: 18 :: 0x67 :: BitVec.ofNat 8 sub :: seed)])) ∧
          (sub = 1 ∨ sub = 3 → n = 2 → c.flag F.canDiagStatus_DELAY = false → c.testerReady.isSome = true → level ≤ c.secLevel →
            RunsIn .requestSeed s [.can] [] fun d => d.can.seeds = c.can.seeds ∧ d.can.seed = c.can.seed ∧
              (held = false → r.fdf = true →
                d.can.out = c.can.out ++ [mk (0 :: 18 :: 0x67 :: BitVec.ofNat 8 sub :: List.replicate 16 0)])) ∧
          (sub = 2 ∨ sub = 4 → n = 18 → ∀ time,
            (c.can.seed.find? (fun x => x.1 == sub / 2) = none → negative (.sendKey time) 0x24) ∧
            (∀ sd, c.can.seed.find? (fun x => x.1 == sub / 2) = some (sub / 2, sd) → c.testerReady = none →
              RunsIn (.sendKey time) s [.regs, .can] [R.canCounts] fun d => refuses 0x22 d ∧
                d.can.seed = c.can.seed.filter fun x => x.1 != sub / 2) ∧
            ∀ sd k, c.can.seed.find? (fun x => x.1 == sub / 2) = some (sub / 2, sd) → c.testerReady = some k →
              let rest := c.can.seed.filter fun x => x.1 != sub / 2
              let fails := c.can.fails + 1
              (r.data.drop 2 = Chip.expectedKey k (sub / 2) sd →
                RunsIn (.sendKey time) s [.regs, .can] [R.canDiagStatus] fun d => speaks true [0x67, BitVec.ofNat 8 sub] d ∧
                  d.secLevel = max (sub / 2) c.secLevel ∧ d.fld F.canDiagStatus_FAILS = 0 ∧ d.can.fails = 0 ∧ d.can.seed = rest) ∧
              (r.data.drop 2 ≠ Chip.expectedKey k (sub / 2) sd → fails % 3 ≠ 0 → fails % 16 ≠ 0 →
                RunsIn (.sendKey time) s [.regs, .can] [R.canCounts, R.canDiagStatus] fun d => refuses 0x35 d ∧
                  d.secLevel = c.secLevel ∧ d.can.fails = fails ∧ d.can.seed = rest ∧
                  d.fld F.canDiagStatus_FAILS = min 255 (c.fld F.canDiagStatus_FAILS + 1)) ∧
              (r.data.drop 2 ≠ Chip.expectedKey k (sub / 2) sd → fails % 3 = 0 → fails % 16 ≠ 0 → c.hasFreeSlot →
                RunsIn (.sendKey time) s [.regs, .irq, .flt, .jnl, .can, .faultQueue]
                  [R.faultCounts, R.canCounts, R.canDiagStatus] fun d => refuses 0x36 d ∧
                    d.flag F.canDiagStatus_DELAY = true ∧ d.can.fails = fails ∧ d.onRecord 0x0A03 0) ∧
              (r.data.drop 2 ≠ Chip.expectedKey k (sub / 2) sd → fails % 16 = 0 → Runs (.sendKey time) s fun d =>
                d.latched = true ∧ d.can.fails = fails ∧ ∀ i : Fin 16, d.cipher.slots[i] = none))) ∧
        (b 0 = 0x31 → sub = 1 → b 2 = 0xFE → r.functional = false → n = 4 → c.session = 3 →
          (b 3 = 0x11 → 1 ≤ c.secLevel →
            (∀ k, c.tagRefusal 3 = some k → RunsIn .tagRefresh s [.regs, .can] [R.tagCounts] fun d =>
              speaks true [0x71, 0x01, 0xFE, 0x11, 0x01] d ∧ d.fld F.tagCounts_REFUSED = min 255 (c.fld F.tagCounts_REFUSED + 1)) ∧
            (c.tagRefusal 3 = none → RunsIn .tagRefresh s [.regs, .can, .tag] [R.tagStatus] fun d =>
              speaks true [0x71, 0x01, 0xFE, 0x11, 0x00] d ∧ d.tagPhase = 1 ∧ d.fld F.tagStatus_LAST_REASON = 3)) ∧
          (b 3 = 0x11 → c.secLevel = 0 → negative .tagRefresh 0x33) ∧
          (b 3 = 0x12 → c.secLevel < 2 → ∀ time, negative (.routineKeyPurge time) 0x33) ∧
          (b 3 = 0x12 → 2 ≤ c.secLevel → ∀ time, c.win.ecc = [] → c.hasFreeSlot →
            RunsBy (.routineKeyPurge time) s [.regs, .win, .irq, .flt, .jnl, .cipher, .can, .faultQueue]
              [.faultCounts, .cipherStatus, .cipherAlarm, .cipherCounts, .jobResult, .slotInfo] fun d =>
                speaks true [0x71, 0x01, 0xFE, 0x12] d ∧ d.latched = true ∧ (∀ i : Fin 16, d.cipher.slots[i] = none) ∧
                  d.onRecord 0x0901 0)))

/-- A forwarded request that outlives FWD_TIMEOUT, and the services over journal, trouble codes and identifiers. Service 0x14 writes its
marker, after which no trouble code is in memory where the entry is sound (that a marker which fails is answered like one that does not is
the model's choice, log entry 122); 0x85 switches the DTC setting; 0x19 reports the codes that a mask selects, or one code's
records; 0x22 answers the named identifiers' values; 0x2E writes JOURNAL_NOTICES alone; routine 0xFE10 answers journal entries. -/
def Obligations.DiagnosticData : Prop :=
  ∀ s : State, s.Inv →
    let c := s.chip
    (∀ (ms : Word) h r, c.pendingForward = some (h, r) → c.diagRuns = true → c.can.fwdTime ≤ ms.toNat → c.hasFreeSlot →
      RunsIn (.forwardTimeout ms) s [.regs, .irq, .flt, .jnl, .can, .faultQueue] [R.faultCounts, R.canCounts, R.canDiagStatus] fun d =>
        d.can = { c.can with
          req := none, put := [], out := c.can.out ++ [c.mkFrame r.fdf r.brs [3, 0x7F, BitVec.ofNat 8 (Chip.sid r), 0x10]] } ∧
        d.flag F.canDiagStatus_FWD_PENDING = false ∧ d.onRecord 0x0A05 0) ∧
    (∀ ms : Word, c.pendingForward = none ∨ c.diagRuns = false ∨ ms.toNat < c.can.fwdTime → NoEffect (.forwardTimeout ms) s) ∧
    ∀ r : DiagReq, c.can.req = some r → c.diagRuns = true → r.handle = none → c.forwards r = false → 1 ≤ c.session →
      let n := r.data.length
      let b (i : Nat) : Nat := (r.data.getD i 0).toNat
      let sub := b 1 % 128
      let mk (l : List Byte) : CanFrame := c.mkFrame r.fdf r.brs l
      let first (l : List Byte) : List CanFrame × Option DiagTx :=
        let k := l.length
        let size := if r.fdf then 62 else 6
        if k ≤ 7 then ([mk (BitVec.ofNat 8 k :: l)], c.can.tx)
        else if r.fdf = true ∧ k ≤ 62 then ([mk (0 :: BitVec.ofNat 8 k :: l)], c.can.tx)
        else ([mk (BitVec.ofNat 8 (0x10 + k / 256) :: BitVec.ofNat 8 k :: l.take size)],
          some { rest := l.drop size, sn := 1, fdf := r.fdf, brs := r.brs })
      let speaks (l : List Byte) (d : Chip) : Prop :=
        d.can.req = none ∧ d.can.out = c.can.out ++ (first l).1 ∧ d.can.tx = (first l).2
      let negative (i : Instr) (nrc : Nat) : Prop := r.functional = false → RunsIn i s [.regs, .can] [R.canCounts] fun d =>
        d.can = { c.can with
          req := none, out := c.can.out ++ [mk [3, 0x7F, BitVec.ofNat 8 (b 0), BitVec.ofNat 8 nrc]] } ∧
        d.fld F.canCounts_DIAG_NEGATIVE = min 255 (c.fld F.canCounts_DIAG_NEGATIVE + 1)
      let answers (i : Instr) (l : List Byte) : Prop := RunsIn i s [.can] [] (speaks l)
      (b 0 = 0x14 → n = 4 → c.session = 3 →
        (c.secLevel = 0 → ∀ fails, negative (.clearDiagnosticInformation fails) 0x33) ∧
        (1 ≤ c.secLevel → r.data.drop 1 ≠ [0xFF#8, 0xFF#8, 0xFF#8] → ∀ fails, negative (.clearDiagnosticInformation fails) 0x31) ∧
        (1 ≤ c.secLevel → r.data.drop 1 = [0xFF#8, 0xFF#8, 0xFF#8] → c.jnl.waiting = [] → ∀ fails,
          RunsIn (.clearDiagnosticInformation fails) s [.regs, .irq, .flt, .jnl, .can, .faultQueue] [R.faultCounts] fun d =>
            speaks [0x54] d ∧ d.jnl.next = c.jnl.next + 1 ∧
              ∃ e, d.jnl.entries.getLast? = some e ∧ e.kind = 9 ∧ e.code = 0x0014 ∧ e.number = c.jnl.next ∧
                (bitOf fails 0 = false → bitOf fails 1 = false → e.valid = true ∧ d.memoryCodes = []) ∧
                (bitOf fails 0 = true → e.valid = false))) ∧
      (b 0 = 0x14 → n = 4 → c.session ≠ 3 → ∀ fails, negative (.clearDiagnosticInformation fails) 0x7F) ∧
      (b 0 = 0x85 → n = 2 → c.session = 3 → b 1 < 128 →
        (∀ fails, sub = 2 → c.dtcOff = false → c.jnl.waiting = [] → RunsIn (.controlDtcSetting fails) s [.regs, .irq, .flt, .jnl, .can, .faultQueue]
          [R.faultCounts, R.canDiagStatus] fun d => speaks [0xC5, 0x02] d ∧ d.dtcOff = true ∧
            ∃ e, d.jnl.entries.getLast? = some e ∧ e.kind = 9 ∧ e.code = 0x0085 ∧ e.detail = 2) ∧
        (∀ fails, sub = 1 → c.dtcOff = true → c.jnl.waiting = [] → RunsIn (.controlDtcSetting fails) s [.regs, .irq, .flt, .jnl, .can, .faultQueue]
          [R.faultCounts, R.canDiagStatus] fun d => speaks [0xC5, 0x01] d ∧ d.dtcOff = false ∧
            ∃ e, d.jnl.entries.getLast? = some e ∧ e.kind = 9 ∧ e.code = 0x0085 ∧ e.detail = 1) ∧
        (sub ≠ 1 → sub ≠ 2 → ∀ fails, negative (.controlDtcSetting fails) 0x12)) ∧
      (b 0 = 0x19 → n = 3 → b 1 < 128 →
        (sub = 1 → answers .reportNumberOfDtcByStatusMask
          ([0x59, 0x01, 0x2F, 0x01] ++ beBytes 2 (c.codesByMask (b 2)).length)) ∧
        (sub = 2 → answers .reportDtcByStatusMask ([0x59, 0x02, 0x2F] ++
          (c.codesByMask (b 2)).flatMap fun x => beBytes 3 x.1 ++ [BitVec.ofNat 8 x.2]))) ∧
      (b 0 = 0x19 → r.functional = false → n = 6 → b 1 < 128 →
        let code := beValue ((r.data.drop 2).take 3)
        let head (k : Nat) : List Byte := [0x59, BitVec.ofNat 8 k] ++ beBytes 3 code ++ [BitVec.ofNat 8 (c.dtcStatus code)]
        (sub = 4 → c.dtcPresent code = false → negative .reportDtcSnapshotRecord 0x31) ∧
        (sub = 6 → c.dtcPresent code = false → negative .reportDtcExtendedDataRecord 0x31) ∧
        (∀ x, sub = 4 → c.dtcPresent code = true → b 5 = 1 → c.snapshotOne code = some x →
          answers .reportDtcSnapshotRecord (head 4 ++ 1 :: x)) ∧
        (sub = 6 → c.dtcPresent code = true → b 5 = 1 →
          answers .reportDtcExtendedDataRecord (head 6 ++ 1 :: c.extendedOne code)) ∧
        (sub = 4 → c.dtcPresent code = true → 2 < b 5 → b 5 < 255 → negative .reportDtcSnapshotRecord 0x31)) ∧
      (b 0 = 0x22 → n = 3 →
        let did := b 1 * 256 + b 2
        let name (part : List Byte) : List Byte := [0x62, 0xF1, 0x87, 0x4C, 0x42, 0x38, 0x36] ++ part
        let kept (l : List Byte) : Prop := RunsIn .readDataByIdentifier s [.can] [] (speaks l)
        (Chip.didKnown did = false → negative .readDataByIdentifier 0x31) ∧
        (did = 0xF187 → kept (name (if c.part = .lb8620 then [0x32, 0x30] else [0x31, 0x32]))) ∧
        (did = 0xF18C → kept ([0x62, 0xF1, 0x8C] ++ beBytes 8 Config.devUid.toNat)) ∧
        (did = 0xFD51 → kept [0x62, 0xFD, 0x51, if c.flag F.faultCfg_JOURNAL_F0 then 1 else 0]) ∧
        (∀ k, k < 16 → did = 0xFD10 + k → kept ([0x62, 0xFD, BitVec.ofNat 8 (0x10 + k)] ++ c.bytes (Chip.slotOff k) 64))) ∧
      (b 0 = 0x2E → r.functional = false → 3 ≤ n → c.session = 3 →
        let did := b 1 * 256 + b 2
        (did ≠ 0xFD51 → negative .writeDataByIdentifier 0x31) ∧
        (did = 0xFD51 → n ≠ 4 → negative .writeDataByIdentifier 0x13) ∧
        (did = 0xFD51 → n = 4 → c.secLevel = 0 → negative .writeDataByIdentifier 0x33) ∧
        (did = 0xFD51 → n = 4 → 1 ≤ c.secLevel → 2 ≤ b 3 → negative .writeDataByIdentifier 0x31) ∧
        (did = 0xFD51 → n = 4 → 1 ≤ c.secLevel → b 3 < 2 → RunsIn .writeDataByIdentifier s [.regs, .can] [R.faultCfg] fun d =>
          speaks [0x6E, 0xFD, 0x51] d ∧ d.flag F.faultCfg_JOURNAL_F0 = decide (b 3 = 1))) ∧
      (b 0 = 0x31 → sub = 1 → b 1 < 128 → b 2 = 0xFE → b 3 = 0x10 → r.functional = false → n = 9 →
        let from' := beValue ((r.data.drop 4).take 4)
        let count := b 8
        let entries := c.jnl.entries.filter fun e => decide (from' ≤ e.number.toNat) && decide (e.number.toNat < from' + count)
        (c.jnl.entries = [] → negative .routineJournalRead 0x31) ∧
        (∀ a z, c.jnl.entries.head? = some a → c.jnl.entries.getLast? = some z →
          (count = 0 ∨ 64 < count ∨ from' < a.number.toNat ∨ z.number.toNat < from' → negative .routineJournalRead 0x31) ∧
          (1 ≤ count → count ≤ 64 → a.number.toNat ≤ from' → from' ≤ z.number.toNat → (∀ e ∈ entries, e.valid = true) →
            answers .routineJournalRead ([0x71, 0x01, 0xFE, 0x10, BitVec.ofNat 8 entries.length] ++
              (entries.flatMap Chip.entryWithCrc).flatMap fun w => leBytes 2 w.toNat))))

/-! ## The service tag and the test port (R676 to R693, R747 to R749) -/

/-- The service tag and the test access port. The pump's readiness lets an update clear the display; drive phases lead from each step to
the next while the supervisor runs, and their end is held for its resume while it does not; the announcing entry and the completing entry
are written in steps 2 and 5, the latter making the announced image the shown one and, after a recovery, ending it; an update whose pump
fails in step 0 or a drive phase leaves a recovery pending and is a fault, a wait for OFF that ends too. A pending recovery starts when
its conditions hold, and TAG_DUE is recomputed with DUE. The port's reset and IDCODE select the identification register, BYPASS one cell,
EXTEST and SAMPLE scan the boundary, and none touches the core. -/
def Obligations.ServiceTagAndTestPort : Prop :=
  ∀ s : State, s.Inv →
    let c := s.chip
    let phase := c.fld F.tagStatus_PHASE
    let pending := c.flag F.tagStatus_RECOVERY_PENDING
    let due (d : Chip) : Prop := d.flag F.tagStatus_DUE =
      (decide ((d.get R.tagDue).toNat ≠ (d.get R.tagImage).toNat % 2 ^ 27) || d.flag F.tagStatus_RECOVERY_PENDING)
    let goes (i : Instr) (ph : Nat) : Prop := RunsIn i s [.regs] [R.tagStatus] fun d =>
      d.fld F.tagStatus_PHASE = ph ∧ d.flag F.tagStatus_RECOVERY_PENDING = pending
    let entry (kind : Nat) (d : Chip) : Prop := ∃ e, d.jnl.entries.getLast? = some e ∧ e.kind = kind ∧ e.code.toNat = c.tag.reason % 65536 ∧
      e.detail.toNat = c.tag.image % 65536 ∧ e.unit.toNat = c.tag.image / 65536 % 2048 ∧ e.valid = true
    let failed (i : Instr) : Prop := RunsIn i s [.regs, .irq, .flt, .jnl, .tag, .faultQueue] [R.faultCounts, R.tagStatus, R.tagCounts]
      fun d => d.tag = c.tag ∧ d.fld F.tagStatus_PHASE = 0 ∧ d.fld F.tagStatus_LAST_RESULT = 2 ∧ d.flag F.tagStatus_RECOVERY_PENDING = true ∧
        d.flag F.tagStatus_DUE = true ∧ d.fld F.tagCounts_FAILED = min 255 (c.fld F.tagCounts_FAILED + 1) ∧ d.onRecord 0x0B03 0
    (phase = 1 → c.supRuns = true → RunsIn .tagPumpReady s [.regs] [R.tagStatus, R.tagImage] fun d =>
      d.fld F.tagStatus_PHASE = 2 ∧ d.get R.tagImage = 0 ∧ due d) ∧
    (phase ≠ 1 → NoEffect .tagPumpReady s) ∧
    (phase = 1 → c.supRuns = false → RunsIn .tagPumpReady s [.tag] [] fun d => d.tag = { c.tag with ended := true }) ∧
    (c.supRuns = true → (phase = 2 → goes .tagDrivePhaseEnd 3) ∧ (phase = 4 → goes .tagDrivePhaseEnd 5) ∧
      (phase = 5 → goes .tagDrivePhaseEnd 6)) ∧
    (phase ∉ [2, 4, 5] → NoEffect .tagDrivePhaseEnd s) ∧
    (phase ∈ [2, 4, 5] → c.supRuns = false → RunsIn .tagDrivePhaseEnd s [.tag] [] fun d => d.tag = { c.tag with ended := true }) ∧
    (∀ (ok eraseOk : Bool) (fails : Nat), c.supRuns = false ∨ phase ∉ [3, 6] → NoEffect (.tagJournalDone ok eraseOk fails) s) ∧
    (c.supRuns = true → c.jnl.waiting = [] → ∀ fails : Nat,
      (phase = 3 → RunsIn (.tagJournalDone true true fails) s [.regs, .irq, .flt, .jnl, .faultQueue] [R.faultCounts, R.tagStatus] fun d =>
        d.fld F.tagStatus_PHASE = 4 ∧ entry 4 d) ∧
      (phase = 6 → RunsIn (.tagJournalDone true true fails) s [.regs, .irq, .flt, .jnl, .faultQueue]
        [R.faultCounts, R.tagStatus, R.tagImage, R.tagCounts] fun d =>
          d.fld F.tagStatus_PHASE = 0 ∧ d.fld F.tagStatus_LAST_RESULT = 1 ∧ entry 5 d ∧ due d ∧
            (d.get R.tagImage).toNat = c.tag.image % 2 ^ 27 + 2 ^ 27 ∧
            d.fld F.tagCounts_UPDATES = min 255 (c.fld F.tagCounts_UPDATES + 1) ∧
            d.flag F.tagStatus_RECOVERY_PENDING = (pending && decide (c.tag.reason ≠ 4))) ∧
      (∀ eraseOk, phase = 3 ∨ phase = 6 → Runs (.tagJournalDone false eraseOk fails) s fun d =>
        d.fld F.tagStatus_PHASE = 0 ∧ d.fld F.tagStatus_LAST_RESULT = 2 ∧ d.flag F.tagStatus_RECOVERY_PENDING = true)) ∧
    (phase ∈ [1, 2, 4, 5] → c.tag.ended = false → c.hasFreeSlot → failed .tagFailed) ∧
    (phase ∉ [1, 2, 4, 5] ∨ c.tag.ended = true → NoEffect .tagFailed s) ∧
    (phase = 7 → c.supRuns = true → c.hasFreeSlot → RunsIn .tagSkipped s [.regs, .irq, .flt, .jnl, .faultQueue] [R.faultCounts, R.tagStatus] fun d =>
      d.fld F.tagStatus_PHASE = 0 ∧ d.fld F.tagStatus_LAST_RESULT = 3 ∧ d.onRecord 0x0B02 0) ∧
    (phase ≠ 7 ∨ c.supRuns = false → NoEffect .tagSkipped s) ∧
    (pending = true → c.supRuns = true → c.ready = true → c.fld F.pwrState_STATE < 3 → c.power.isOff = false →
      (c.tagRefusal 4 = none → RunsIn .tagRecoveryStart s [.regs, .tag] [R.tagStatus] fun d =>
        d.fld F.tagStatus_PHASE = 1 ∧ d.fld F.tagStatus_LAST_REASON = 4 ∧ d.tag.reason = 4 ∧ d.tag.clear = true ∧
          d.tag.image = (c.get R.tagDue).toNat) ∧
      (c.tagRefusal 4 ≠ none → NoEffect .tagRecoveryStart s)) ∧
    (pending = false → NoEffect .tagRecoveryStart s) ∧
    (c.supRuns = true → c.ready = true → RunsIn .tagDueRecompute s [.regs] [R.tagStatus, R.tagDue] fun d =>
      due d ∧ (c.flag F.tagCfg_SOURCE = true → (d.get R.tagDue).toNat = (c.get R.tagHostImage).toNat % 2 ^ 27) ∧
        (c.flag F.tagCfg_SOURCE = false → c.jnl.entries = [] → c.jnl.opTime.toNat < 1000 →
          (d.get R.tagDue).toNat = 0x40 + 0x40 * 2 ^ 7 + 0x40 * 2 ^ 14)) ∧
    (c.supRuns = false ∨ c.ready = false → NoEffect .tagDueRecompute s) ∧
    let tap (i : Instr) (t : Tap) : Prop := RunsIn i s [.tap] [] fun d => d.tap = t
    let part := if c.part = .lb8620 then 0x8620 else 0x8612
    let id : List Bool := (List.range 32).map fun i => bitOf (0x10000000 + part * 4096 + 0x4E5 * 2 + 1) i
    tap .tapReset { c.tap with instr := .idcode, data := id } ∧ tap .idcode { c.tap with instr := .idcode, data := id } ∧
    tap .bypass { c.tap with instr := .bypass, data := [false] } ∧ tap (.extest none) { c.tap with instr := .extest } ∧
    tap (.samplePreload none) { c.tap with instr := .samplePreload } ∧
    ∀ x : DrScan, tap (.extest (some x)) { instr := .extest, data := x.sampled, boundary := x.loaded } ∧
      tap (.samplePreload (some x)) { instr := .samplePreload, data := x.sampled, boundary := x.loaded }
end

