-- ==== Sys2Proof/Laws/Cycle.lean ====
section
/-!
SUPPORT. The areas of a ring cycle as the ring master sends it fill its 1250 bytes, each where R520 puts it.
-/

namespace Sys2Proof.Machine.Chip

@[simp] theorem fitBytes_length (n : Nat) (l : List Byte) : (fitBytes n l).length = n := by
  simp only [fitBytes, List.length_take, List.length_append, List.length_replicate]; omega

@[simp] theorem fillCells_length (l : List (Option (List Byte))) (own : List (List Byte)) : (fillCells l own).length = l.length := by
  fun_induction fillCells l own <;> simp_all

@[simp] theorem cellSymbols_length (x : Option (List Byte)) : (cellSymbols x).length = 16 := by
  cases x <;> simp [cellSymbols]

@[simp] theorem messageArea_length (c : Chip) : c.messageArea.length = 60 := by simp [messageArea]

theorem slot_le (c : Chip) : c.fld F.ringJoinStatus_SLOT ≤ 3 := by
  simp only [fld, bitsOf, F.ringJoinStatus_SLOT]; omega

/-- Four slots of 24 bytes. -/
@[simp] theorem angleArea_length (c : Chip) : c.angleArea.length = slotAt 4 - slotAt 0 := by
  have h := slot_le c
  simp only [angleArea, slotAt]
  split <;> simp <;> omega

/-- 32 entries of 4 bytes. -/
@[simp] theorem statusRound_length (c : Chip) : c.statusRound.length = entryAt 32 - entryAt 0 := by
  have h := Nat.mod_lt c.node (show 0 < 32 by decide)
  simp only [statusRound, entryAt]
  split <;> simp <;> omega

theorem flatMap_cells_length (l : List (Option (List Byte))) : (l.flatMap cellSymbols).length = 16 * l.length := by
  induction l with
  | nil => rfl
  | cons x r ih => simp [ih]; omega

/-- Byte 0, the beacon, the angle area, the status round, the message area, the pad and the splice gap (R520). -/
theorem cycleSymbols_length (c : Chip) : c.cycleSymbols.length = cycleLength := by
  have h := flatMap_cells_length c.messageArea
  rw [messageArea_length] at h
  simp only [cycleSymbols, List.length_cons, List.length_append, List.length_map, List.length_replicate, h, fitBytes_length,
    angleArea_length, statusRound_length]
  rfl

/-- The areas follow one another (R520). -/
theorem areas_adjoin : 1 + 31 = slotAt 0 ∧ slotAt 4 = entryAt 0 ∧ entryAt 32 = cellAt 0 ∧ cellAt 60 = padAt ∧ padAt + 9 = gapAt ∧
    gapAt + 25 = cycleLength := by decide

end Sys2Proof.Machine.Chip
end

