-- ==== Sys2Proof/Laws/Sparse.lean ====
section
/-!
SUPPORT. Sparse lists in canonical form: every operation keeps the form, and what a read gives after a write.
-/

namespace Sys2Proof.Machine.Sparse

variable {V : Type}

theorem above_trans {a b : Nat} {l : List (Nat × V)} (h : b < a) (hl : above a l = true) : above b l = true := by
  cases l with
  | nil => rfl
  | cons x l => simp [above] at *; omega

theorem wf_tail [DecidableEq V] {d : Nat → V} {x : Nat × V} {l : List (Nat × V)} (h : wf d (x :: l) = true) :
    wf d l = true := by
  obtain ⟨a, v⟩ := x; simp [wf] at h; exact h.2

theorem above_erase {b k : Nat} {l : List (Nat × V)} [DecidableEq V] {d : Nat → V} (hw : wf d l = true)
    (h : above b l = true) : above b (erase l k) = true := by
  cases l with
  | nil => rfl
  | cons x l =>
    obtain ⟨a, v⟩ := x
    simp only [wf, Bool.and_eq_true] at hw
    simp only [above, decide_eq_true_eq] at h
    unfold erase; split
    · exact above_trans h hw.1.1
    · split <;> simpa [above] using h

theorem wf_erase [DecidableEq V] {d : Nat → V} {k : Nat} :
    ∀ {l : List (Nat × V)}, wf d l = true → wf d (erase l k) = true
  | [], _ => rfl
  | (a, v) :: l, h => by
    have h' := h
    simp only [wf, Bool.and_eq_true] at h
    unfold erase; split
    · exact h.2
    · split
      · exact h'
      · simp only [wf, Bool.and_eq_true]
        exact ⟨⟨above_erase h.2 h.1.1, h.1.2⟩, wf_erase h.2⟩

theorem above_insert {b k : Nat} {v : V} {l : List (Nat × V)} (hk : b < k) (h : above b l = true) :
    above b (insert l k v) = true := by
  cases l with
  | nil => simpa [insert, above] using hk
  | cons x l =>
    obtain ⟨a, w⟩ := x
    unfold insert; split
    · simpa [above] using hk
    · split
      · simpa [above] using hk
      · simpa [above] using h

theorem wf_insert [DecidableEq V] {d : Nat → V} {k : Nat} {v : V} (hv : v ≠ d k) :
    ∀ {l : List (Nat × V)}, wf d l = true → wf d (insert l k v) = true
  | [], _ => by simp [insert, wf, above, hv]
  | (a, w) :: l, h => by
    have h' := h
    simp only [wf, Bool.and_eq_true] at h
    unfold insert; split
    · rename_i e; subst e; simp only [wf, Bool.and_eq_true]; exact ⟨⟨h.1.1, by simp [hv]⟩, h.2⟩
    · split
      · have ha : above k ((a, w) :: l) = true := by simpa [above] using ‹k < a›
        rw [wf, ha, h']; simp [hv]
      · simp only [wf, Bool.and_eq_true]
        exact ⟨⟨above_insert (by omega) h.1.1, h.1.2⟩, wf_insert hv h.2⟩

/-- A write keeps the canonical form. -/
theorem wf_set [DecidableEq V] {d : Nat → V} {l : List (Nat × V)} (k : Nat) (v : V) (h : wf d l = true) :
    wf d (set d l k v) = true := by
  unfold set; split
  · exact wf_erase h
  · exact wf_insert (by assumption) h

theorem find?_above {b : Nat} [DecidableEq V] {d : Nat → V} :
    ∀ {l : List (Nat × V)}, wf d l = true → above b l = true → ∀ {k : Nat}, k ≤ b → find? l k = none
  | [], _, _, _, _ => rfl
  | (a, v) :: l, hw, h, k, hk => by
    simp only [wf, Bool.and_eq_true] at hw
    simp only [above, decide_eq_true_eq] at h
    have hne : a ≠ k := by omega
    simp only [find?, if_neg hne]
    exact find?_above hw.2 (above_trans h hw.1.1) hk

theorem find?_erase_self [DecidableEq V] {d : Nat → V} {k : Nat} :
    ∀ {l : List (Nat × V)}, wf d l = true → find? (erase l k) k = none
  | [], _ => rfl
  | (a, v) :: l, h => by
    have h' := h
    simp only [wf, Bool.and_eq_true] at h
    unfold erase; split
    · rename_i e; subst e; exact find?_above h.2 h.1.1 (Nat.le_refl _)
    · split
      · rename_i hne hlt
        simp only [find?, if_neg hne]
        exact find?_above h.2 (above_trans hlt h.1.1) (Nat.le_refl _)
      · rename_i hne _
        simp only [find?, if_neg hne]
        exact find?_erase_self h.2

theorem find?_erase_ne {k j : Nat} (hj : j ≠ k) : ∀ {l : List (Nat × V)}, find? (erase l k) j = find? l j
  | [] => rfl
  | (a, v) :: l => by
    unfold erase; split
    · rename_i e; subst e; simp [find?, Ne.symm hj]
    · split
      · rfl
      · simp only [find?]; split
        · rfl
        · exact find?_erase_ne hj

theorem find?_drop_self {k : Nat} : ∀ {l : List (Nat × V)}, find? (drop l k) k = none
  | [] => rfl
  | (a, v) :: l => by
    unfold drop; rw [List.filter_cons]; split
    · rename_i h
      simp only [find?, if_neg (by simpa using h : ¬ a = k)]; exact find?_drop_self
    · exact find?_drop_self

theorem find?_drop_ne {k j : Nat} (hj : j ≠ k) : ∀ {l : List (Nat × V)}, find? (drop l k) j = find? l j
  | [] => rfl
  | (a, v) :: l => by
    unfold drop; rw [List.filter_cons]; split
    · simp only [find?]; split
      · rfl
      · exact find?_drop_ne hj
    · rename_i h
      have : ¬ a = j := by simp at h; omega
      simp only [find?, if_neg this]; exact find?_drop_ne hj

theorem find?_insert_self {k : Nat} {v : V} : ∀ {l : List (Nat × V)}, find? (insert l k v) k = some v
  | [] => by simp [insert, find?]
  | (a, w) :: l => by
    unfold insert; split
    · simp [find?]
    · split
      · simp [find?]
      · rename_i hne _
        simp only [find?, if_neg hne]; exact find?_insert_self

theorem find?_insert_ne {k j : Nat} {v : V} (hj : j ≠ k) :
    ∀ {l : List (Nat × V)}, find? (insert l k v) j = find? l j
  | [] => by simp [insert, find?, Ne.symm hj]
  | (a, w) :: l => by
    unfold insert; split
    · rename_i e; subst e; simp [find?, Ne.symm hj]
    · split
      · simp [find?, Ne.symm hj]
      · simp only [find?]; split
        · rfl
        · exact find?_insert_ne hj

/-- A read after a write to the same place gives the value written. -/
theorem get_set_self [DecidableEq V] {d : Nat → V} {l : List (Nat × V)} {k : Nat} {v : V} (h : wf d l = true) :
    get d (set d l k v) k = v := by
  unfold get set; split
  · rename_i e; rw [find?_erase_self h, e]; rfl
  · rw [find?_insert_self]; rfl

/-- A write leaves every other place alone. -/
theorem get_set_ne [DecidableEq V] {d : Nat → V} {l : List (Nat × V)} {k j : Nat} {v : V} (hj : j ≠ k) :
    get d (set d l k v) j = get d l j := by
  unfold get set; split
  · rw [find?_erase_ne hj]
  · rw [find?_insert_ne hj]

end Sys2Proof.Machine.Sparse
end

