-- ==== Sys2Proof/Laws/Kept.lean ====
section
/-!
SUPPORT. The frame law of every operation, in one form: `Kept m c d` says that `d` is sound where `c` is, and that only the
components whose bits are set in `m` changed. The components are numbered in the order of `Comp`.
-/

namespace Sys2Proof.Machine

/-- The bit of a component. -/
def Comp.bit : Comp → Nat
  | .part => 0
  | .regs => 1
  | .win => 2
  | .tb => 3
  | .bus => 4
  | .pub => 5
  | .irq => 6
  | .flt => 7
  | .jnl => 8
  | .wheels => 9
  | .pred => 10
  | .free => 11
  | .sched => 12
  | .outs => 13
  | .timers => 14
  | .conv => 15
  | .power => 16
  | .cipher => 17
  | .ring => 18
  | .twin => 19
  | .can => 20
  | .tag => 21
  | .tap => 22
  | .own => 23
  | .faultQueue => 24
  | .pubOld => 25

/-- Soundness is kept, only the components of the mask changed, and no register but those whose names are in the mask (bit 32 + n
for the n-th name); bit 31 stands for all the registers. -/
def Kept (m : Nat) (c d : Chip) : Prop :=
  (c.Ok → d.Ok) ∧ (∀ k : Comp, m.testBit k.bit = false → k.same c d) ∧
    ∀ a, m.testBit 31 = false → (∀ r : RegName, m.testBit (32 + r.ctorIdx) = true → ∀ i j, r.addr i j ≠ a) → d.get a = c.get a

theorem mask_trans {a b m : Nat} (h : a &&& b = a) (h' : b &&& m = b) : a &&& m = a := by
  rw [← h, Nat.and_assoc, h']

theorem mask_false {m n i : Nat} (hm : m &&& n = m) (h : n.testBit i = false) : m.testBit i = false := by
  rw [← hm, Nat.testBit_and, h, Bool.and_false]

theorem mask_true {m n i : Nat} (hm : m &&& n = m) (h : m.testBit i = true) : n.testBit i = true := by
  rw [← hm, Nat.testBit_and] at h
  simp only [Bool.and_eq_true] at h
  exact h.2

theorem Comp.same_rfl (k : Comp) (c : Chip) : k.same c c := by cases k <;> rfl

theorem Comp.same_trans {k : Comp} {b c d : Chip} (h : k.same b c) (h' : k.same c d) : k.same b d := by
  cases k <;> exact Eq.trans h' h

theorem Kept.rfl {m : Nat} {c : Chip} : Kept m c c := ⟨id, fun k _ => k.same_rfl c, fun _ _ _ => Eq.refl _⟩

theorem Kept.mono {m n : Nat} {c d : Chip} (h : Kept m c d) (hm : m &&& n = m) : Kept n c d :=
  ⟨h.1, fun k hk => h.2.1 k (mask_false hm hk),
    fun a ha hr => h.2.2 a (mask_false hm ha) fun r hb => hr r (mask_true hm hb)⟩

theorem Kept.trans {m : Nat} {b c d : Chip} (h : Kept m b c) (h' : Kept m c d) : Kept m b d :=
  ⟨h'.1 ∘ h.1, fun k hk => Comp.same_trans (h.2.1 k hk) (h'.2.1 k hk),
    fun a ha hr => (h'.2.2 a ha hr).trans (h.2.2 a ha hr)⟩

/-- One more operation after those already followed. -/
theorem Kept.step {m n : Nat} {b c d : Chip} (h : Kept m c d) (hm : m &&& n = m) (h' : Kept n b c) : Kept n b d :=
  h'.trans (h.mono hm)

theorem Kept.ite {m : Nat} {b c d : Chip} {p : Prop} [Decidable p] (h : Kept m b c) (h' : Kept m b d) :
    Kept m b (if p then c else d) := by split <;> assumption

theorem Kept.ite_snd {α : Type} {m : Nat} {b : Chip} {x y : α × Chip} {p : Prop} [Decidable p] (h : Kept m b x.2)
    (h' : Kept m b y.2) : Kept m b (if p then x else y).2 := by split <;> assumption

theorem Kept.foldl {α : Type} {m : Nat} {b c : Chip} {l : List α} {f : Chip → α → Chip}
    (hf : ∀ d x, Kept m d (f d x)) (h : Kept m b c) : Kept m b (l.foldl f c) := by
  induction l generalizing c with
  | nil => exact h
  | cons x l ih => exact ih (h.trans (hf c x))

theorem Kept.foldl_snd {α β : Type} {m : Nat} {b : Chip} {l : List α} {f : β × Chip → α → β × Chip} {p : β × Chip}
    (hf : ∀ q x, Kept m q.2 (f q x).2) (h : Kept m b p.2) : Kept m b (l.foldl f p).2 := by
  induction l generalizing p with
  | nil => exact h
  | cons x l ih => exact ih (h.trans (hf p x))

theorem Kept.stepN {m n : Nat} {b c : Chip} {f : Chip → Chip} (hf : ∀ d, Kept m d (f d)) (h : Kept m b c) :
    Kept m b (Machine.stepN f n c) := by
  induction n generalizing c with
  | zero => exact h
  | succ n ih => exact ih (h.trans (hf c))

/-- An operation that answers a pair, met through the equation of a match. -/
theorem Kept.of_snd {β : Type} {m : Nat} {b d : Chip} {x : β} {p : β × Chip} (e : p = (x, d)) (h : Kept m b p.2) :
    Kept m b d := by subst e; exact h

theorem Kept.ok {m : Nat} {c d : Chip} (h : Kept m c d) (hc : c.Ok) : d.Ok := h.1 hc

/-- The components. -/
def Comp.all : List Comp :=
  [.part, .regs, .win, .tb, .bus, .pub, .pubOld, .irq, .flt, .jnl, .wheels, .pred, .free,
   .sched, .outs, .timers, .conv, .power, .cipher, .ring, .twin, .can, .tag, .tap, .own, .faultQueue]

theorem ChangesOnly.of_kept {m : Nat} {l : List Comp} {c d : Chip} (h : Kept m c d)
    (hm : (Comp.all.all fun k => l.contains k || !m.testBit k.bit) = true) : ChangesOnly l c d := by
  intro k hk
  have ha : k ∈ Comp.all := by cases k <;> decide
  have := List.all_eq_true.mp hm k ha
  refine h.2.1 k ?_
  simpa [hk] using this

theorem RegsFrom.of_kept {m n : Nat} {l : List RegName} {c d : Chip} (h : Kept m c d) (hn : m.testBit 31 = false)
    (hl : l.foldl (fun m r => m ||| 2 ^ (32 + r.ctorIdx)) 0 = n) (hm : m >>> 32 &&& n >>> 32 = m >>> 32) : RegsFrom l c d := by
  intro a ha
  refine h.2.2 a hn fun r hr => ha r ?_
  have h1 : n.testBit (32 + r.ctorIdx) = true := by
    have := mask_true (i := r.ctorIdx) hm (by rw [Nat.testBit_shiftRight]; exact hr)
    rw [Nat.testBit_shiftRight] at this; exact this
  have aux : ∀ (l : List RegName) (x : Nat), (l.foldl (fun m r => m ||| 2 ^ (32 + r.ctorIdx)) x).testBit (32 + r.ctorIdx) = true →
      x.testBit (32 + r.ctorIdx) = true ∨ r ∈ l := by
    intro l
    induction l with
    | nil => exact fun x hx => .inl hx
    | cons y l ih =>
      intro x hx
      rcases ih _ hx with hx | hx
      · rw [Nat.testBit_or, Nat.testBit_two_pow] at hx
        simp only [Bool.or_eq_true, decide_eq_true_eq] at hx
        rcases hx with hx | hx
        · exact .inl hx
        · have : y = r := by
            have h := congrArg RegName.ofNat (show y.ctorIdx = r.ctorIdx by omega)
            rwa [RegName.ofNat_ctorIdx, RegName.ofNat_ctorIdx] at h
          exact .inr (by rw [this]; exact List.mem_cons_self)
      · exact .inr (List.mem_cons_of_mem _ hx)
  rcases aux l 0 (by rw [hl]; exact h1) with h2 | h2
  · simp at h2
  · exact h2

/-- A command completes, with the frame of the mask. -/
def RunsKept (m : Nat) (s : State) (o : Host.Outcome State Fault Refusal) : Prop :=
  ∃ t, o = .next t ∧ t.pending = s.pending ∧ Kept m s.chip t.chip

theorem RunsKept.of_run {m : Nat} {s : State} {f : Chip → Chip} (h : Kept m s.chip (f s.chip)) : RunsKept m s (s.run f) :=
  ⟨_, Eq.refl _, Eq.refl _, h⟩

/-! ## One field of the block -/

theorem Kept.part_set {c : Chip} {x : _} : Kept 1 c { c with part := x } :=
  ⟨id, fun k hk => by cases k <;> first | rfl | exact absurd hk (by decide), fun _ _ _ => Eq.refl _⟩

theorem Kept.regs_of {c : Chip} {x : List (Nat × DWord)} (h : RegsOk c.regs → RegsOk x) :
    Kept 2147483650 c { c with regs := x } :=
  ⟨fun hc => ⟨h hc.1, hc.2⟩, fun k hk => by cases k <;> first | rfl | exact absurd hk (by decide), fun _ h => absurd h (by decide)⟩

theorem Kept.tb_set {c : Chip} {x : _} : Kept 8 c { c with tb := x } :=
  ⟨id, fun k hk => by cases k <;> first | rfl | exact absurd hk (by decide), fun _ _ _ => Eq.refl _⟩

theorem Kept.bus_set {c : Chip} {x : _} : Kept 16 c { c with bus := x } :=
  ⟨id, fun k hk => by cases k <;> first | rfl | exact absurd hk (by decide), fun _ _ _ => Eq.refl _⟩

theorem Kept.pub_set {c : Chip} {x : _} : Kept 32 c { c with pub := x } :=
  ⟨id, fun k hk => by cases k <;> first | rfl | exact absurd hk (by decide), fun _ _ _ => Eq.refl _⟩

theorem Kept.pubOld_set {c : Chip} {x : _} : Kept 33554432 c { c with pubOld := x } :=
  ⟨id, fun k hk => by cases k <;> first | rfl | exact absurd hk (by decide), fun _ _ _ => Eq.refl _⟩

theorem Kept.irq_set {c : Chip} {x : _} : Kept 64 c { c with irq := x } :=
  ⟨id, fun k hk => by cases k <;> first | rfl | exact absurd hk (by decide), fun _ _ _ => Eq.refl _⟩

theorem Kept.flt_set {c : Chip} {x : _} : Kept 128 c { c with flt := x } :=
  ⟨id, fun k hk => by cases k <;> first | rfl | exact absurd hk (by decide), fun _ _ _ => Eq.refl _⟩

theorem Kept.jnl_set {c : Chip} {x : _} : Kept 256 c { c with jnl := x } :=
  ⟨id, fun k hk => by cases k <;> first | rfl | exact absurd hk (by decide), fun _ _ _ => Eq.refl _⟩

theorem Kept.wheels_set {c : Chip} {x : _} : Kept 512 c { c with wheels := x } :=
  ⟨id, fun k hk => by cases k <;> first | rfl | exact absurd hk (by decide), fun _ _ _ => Eq.refl _⟩

theorem Kept.pred_set {c : Chip} {x : _} : Kept 1024 c { c with pred := x } :=
  ⟨id, fun k hk => by cases k <;> first | rfl | exact absurd hk (by decide), fun _ _ _ => Eq.refl _⟩

theorem Kept.free_set {c : Chip} {x : _} : Kept 2048 c { c with free := x } :=
  ⟨id, fun k hk => by cases k <;> first | rfl | exact absurd hk (by decide), fun _ _ _ => Eq.refl _⟩

theorem Kept.sched_set {c : Chip} {x : _} : Kept 4096 c { c with sched := x } :=
  ⟨id, fun k hk => by cases k <;> first | rfl | exact absurd hk (by decide), fun _ _ _ => Eq.refl _⟩

theorem Kept.outs_set {c : Chip} {x : _} : Kept 8192 c { c with outs := x } :=
  ⟨id, fun k hk => by cases k <;> first | rfl | exact absurd hk (by decide), fun _ _ _ => Eq.refl _⟩

theorem Kept.timers_set {c : Chip} {x : _} : Kept 16384 c { c with timers := x } :=
  ⟨id, fun k hk => by cases k <;> first | rfl | exact absurd hk (by decide), fun _ _ _ => Eq.refl _⟩

theorem Kept.conv_set {c : Chip} {x : _} : Kept 32768 c { c with conv := x } :=
  ⟨id, fun k hk => by cases k <;> first | rfl | exact absurd hk (by decide), fun _ _ _ => Eq.refl _⟩

theorem Kept.power_set {c : Chip} {x : _} : Kept 65536 c { c with power := x } :=
  ⟨id, fun k hk => by cases k <;> first | rfl | exact absurd hk (by decide), fun _ _ _ => Eq.refl _⟩

theorem Kept.cipher_set {c : Chip} {x : _} : Kept 131072 c { c with cipher := x } :=
  ⟨id, fun k hk => by cases k <;> first | rfl | exact absurd hk (by decide), fun _ _ _ => Eq.refl _⟩

theorem Kept.ring_set {c : Chip} {x : _} : Kept 262144 c { c with ring := x } :=
  ⟨id, fun k hk => by cases k <;> first | rfl | exact absurd hk (by decide), fun _ _ _ => Eq.refl _⟩

theorem Kept.twin_set {c : Chip} {x : _} : Kept 524288 c { c with twin := x } :=
  ⟨id, fun k hk => by cases k <;> first | rfl | exact absurd hk (by decide), fun _ _ _ => Eq.refl _⟩

theorem Kept.can_set {c : Chip} {x : _} : Kept 1048576 c { c with can := x } :=
  ⟨id, fun k hk => by cases k <;> first | rfl | exact absurd hk (by decide), fun _ _ _ => Eq.refl _⟩

theorem Kept.tag_set {c : Chip} {x : _} : Kept 2097152 c { c with tag := x } :=
  ⟨id, fun k hk => by cases k <;> first | rfl | exact absurd hk (by decide), fun _ _ _ => Eq.refl _⟩

theorem Kept.tap_set {c : Chip} {x : _} : Kept 4194304 c { c with tap := x } :=
  ⟨id, fun k hk => by cases k <;> first | rfl | exact absurd hk (by decide), fun _ _ _ => Eq.refl _⟩

theorem Kept.win_of {c : Chip} {x : Window} (h : WinOk c.win → WinOk x) : Kept 25165828 c { c with win := x } :=
  ⟨fun hc => ⟨hc.1, h hc.2⟩, fun k hk => by cases k <;> first | rfl | exact absurd hk (by decide), fun _ _ _ => Eq.refl _⟩

/-- The window with the ownership as it was. -/
theorem Kept.mem_of {c : Chip} {x : Window} (h : WinOk c.win → WinOk x) (ht : x.taken = c.win.taken)
    (hr : x.returning = c.win.returning) : Kept 16777220 c { c with win := x } := by
  refine ⟨fun hc => ⟨hc.1, h hc.2⟩, fun k hk => ?_, fun _ _ _ => Eq.refl _⟩
  cases k <;> first | rfl | exact absurd hk (by decide) | exact congr (congrArg _ ht) hr

/-- The window with nothing but its ownership changed. -/
theorem Kept.own_of {c : Chip} {x : Window} (h : WinOk c.win → WinOk x) (hm : x.mem = c.win.mem) (he : x.ecc = c.win.ecc)
    (ht : x.latchTag = c.win.latchTag) (hl : x.latch = c.win.latch)
    (hw : x.rows = c.win.rows := by rfl) : Kept 8388608 c { c with win := x } := by
  refine ⟨fun hc => ⟨hc.1, h hc.2⟩, fun k hk => ?_, fun _ _ _ => Eq.refl _⟩
  have hp : ∀ p, x.part p = c.win.part p := fun p => by unfold Window.part; rw [hm, he]
  cases k <;> first | rfl | exact absurd hk (by decide) | exact hp _ | exact congr (congrArg _ (hp _)) (congr (congrArg _ ht) (congr (congrArg _ hl) hw))

/-- The window with its bytes and check bits as they were. -/
theorem Kept.latch_of {c : Chip} {x : Window} (hm : x.mem = c.win.mem) (he : x.ecc = c.win.ecc) (ht : x.taken = c.win.taken)
    (hr : x.returning = c.win.returning) : Kept 4 c { c with win := x } := by
  refine ⟨fun hc => ⟨hc.1, ?_⟩, fun k hk => ?_, fun _ _ _ => Eq.refl _⟩
  · refine ⟨?_, ?_⟩
    · rw [hm]; exact hc.2.1
    · unfold OwnOk; rw [ht, hr]; exact hc.2.2
  · cases k <;> first | rfl | exact absurd hk (by decide) | exact congr (congrArg _ ht) hr |
      (show x.part _ = c.win.part _; unfold Window.part; rw [hm, he])

/-- What is known to leave the rest of the window alone. -/
theorem Kept.keepWin {m n : Nat} {c d : Chip} (h : Kept m c d) (hw : Comp.win.same c d)
    (hm : (Comp.all.all fun k => k == .win || n.testBit k.bit || !m.testBit k.bit) = true) (hr : m >>> 31 = n >>> 31) :
    Kept n c d := by
  have ht : ∀ i, m.testBit (31 + i) = n.testBit (31 + i) := fun i => by
    rw [← Nat.testBit_shiftRight, ← Nat.testBit_shiftRight, hr]
  refine ⟨h.1, fun k hk => ?_, fun a ha hn => h.2.2 a ?_ fun r hb => hn r ?_⟩
  · have hk' := List.all_eq_true.mp hm k (by cases k <;> decide)
    by_cases e : k = .win
    · rw [e]; exact hw
    · refine h.2.1 k ?_
      simpa [e, hk] using hk'
  · exact (ht 0).trans ha
  · have : m.testBit (31 + (1 + r.ctorIdx)) = n.testBit (31 + (1 + r.ctorIdx)) := ht _
    rw [show 31 + (1 + r.ctorIdx) = 32 + r.ctorIdx by omega] at this
    rw [← this]; exact hb

/-! ## One register -/

/-- The mask of the registers of one name. -/
def RegName.mask (r : RegName) : Nat := 2 ||| 2 ^ (32 + r.ctorIdx)

theorem RegName.mask_self (r : RegName) : r.mask.testBit (32 + r.ctorIdx) = true := by
  unfold RegName.mask
  rw [Nat.testBit_or, Nat.testBit_two_pow_self, Bool.or_true]

theorem RegName.mask_low (r : RegName) {i : Nat} (h : i < 32) : r.mask.testBit i = (2 : Nat).testBit i := by
  unfold RegName.mask
  rw [Nat.testBit_or, Nat.testBit_two_pow, decide_eq_false (by omega), Bool.or_false]

theorem Kept.put_name (r : RegName) (i j : Nat) {a : Nat} {v : DWord} {c : Chip} (h : a = r.addr i j) :
    Kept r.mask c (c.put a v) := by
  refine ⟨fun hc => ⟨Sparse.wf_set a v hc.1, hc.2⟩, fun k hk => ?_, fun b _ hb => ?_⟩
  · rw [r.mask_low (by cases k <;> decide)] at hk
    cases k <;> first | rfl | exact absurd hk (by decide)
  · have := hb r r.mask_self i j
    exact Sparse.get_set_ne (by rw [h]; exact Ne.symm this)

theorem Kept.setFld_name (r : RegName) (i j : Nat) {f : Fld} {n : Nat} {c : Chip} (h : f.reg = r.addr i j) :
    Kept r.mask c (c.setFld f n) := put_name r i j h

theorem Kept.setFlag_name (r : RegName) (i j : Nat) {f : Fld} {b : Bool} {c : Chip} (h : f.reg = r.addr i j) :
    Kept r.mask c (c.setFlag f b) := put_name r i j h

theorem Kept.addFld_name (r : RegName) (i j : Nat) {f : Fld} {n : Nat} {c : Chip} (h : f.reg = r.addr i j) :
    Kept r.mask c (c.addFld f n) := put_name r i j h

theorem Kept.incFld_name (r : RegName) (i j : Nat) {f : Fld} {c : Chip} (h : f.reg = r.addr i j) :
    Kept r.mask c (c.incFld f) := put_name r i j h

theorem Kept.addReg_name (r : RegName) (i j : Nat) {a n : Nat} {c : Chip} (h : a = r.addr i j) :
    Kept r.mask c (c.addReg a n) := put_name r i j h

theorem Kept.setBit_name (r : RegName) (i j : Nat) {a k : Nat} {b : Bool} {c : Chip} (h : a = r.addr i j) :
    Kept r.mask c (c.setBit a k b) := put_name r i j h

theorem Kept.storeMasked_name (r : RegName) (i j : Nat) {a : Nat} {v : DWord} {c : Chip} (h : a = r.addr i j) :
    Kept r.mask c (c.storeMasked a v) := by
  unfold Chip.storeMasked; split
  · exact put_name r i j h
  · exact Kept.rfl

end Sys2Proof.Machine
end

