-- ==== Sys2Proof/Laws/FaultQueue.lean ====
section
/-!
SUPPORT. A record written into a slot of the fault queue leaves the rest of the window as it was (R445), and a store above the
fault queue leaves the fault queue as it was.
-/

namespace Sys2Proof.Machine

/-- From `c` to `d` nothing of the window changed outside the fault queue. -/
abbrev QueueOnly (c d : Chip) : Prop := Comp.win.same c d

theorem QueueOnly.rfl {c : Chip} : QueueOnly c c := Comp.same_rfl _ c

theorem QueueOnly.trans {b c d : Chip} (h : QueueOnly b c) (h' : QueueOnly c d) : QueueOnly b d := Comp.same_trans h h'

theorem QueueOnly.winByte {c d : Chip} (h : QueueOnly c d) {o : Nat} (ho : o < 0x200 ∨ 0xA00 ≤ o) : d.winByte o = c.winByte o := by
  have h1 : (d.win.part fun o => !inFaultQueue o) = c.win.part fun o => !inFaultQueue o := congrArg (·.1) h
  have h2 := congrFun (congrArg (·.1) h1) o
  have h3 : inFaultQueue o = false := by
    unfold inFaultQueue
    rw [Bool.and_eq_false_iff, decide_eq_false_iff_not, decide_eq_false_iff_not]; omega
  unfold Chip.winByte; simpa [Window.part, h3] using h2

theorem QueueOnly.of_win {c d : Chip} (h : d.win = c.win) : QueueOnly c d := by
  show (_, _, _) = (_, _, _); rw [h]

theorem QueueOnly.putWinByte {c : Chip} {o : Nat} {v : Byte} (h : 0x200 ≤ o) (h' : o < 0xA00) : QueueOnly c (c.putWinByte o v) := by
  have hp : (c.putWinByte o v).win.part (fun p => !inFaultQueue p) = c.win.part fun p => !inFaultQueue p := by
    unfold Window.part
    refine congr (congrArg _ (funext fun p => ?_)) (funext fun i => ?_)
    · by_cases e : p = o
      · subst e; simp [inFaultQueue, h, h']
      · simp only [Chip.putWinByte]; rw [Sparse.get_set_ne e]
    · by_cases e : i = o / 2
      · subst e
        have h1 : 0x200 ≤ 2 * (o / 2) := by omega
        have h2 : 2 * (o / 2) < 0xA00 := by omega
        simp [inFaultQueue, h1, h2]
      · simp only [Chip.putWinByte]; rw [Sparse.find?_drop_ne e]
  show (_, _, _) = (_, _, _)
  rw [hp]; rfl

theorem QueueOnly.putWin16 {c : Chip} {o v : Nat} (h : 0x200 ≤ o) (h' : o + 2 ≤ 0xA00) : QueueOnly c (c.putWin16 o v) :=
  (QueueOnly.putWinByte h (by omega)).trans (QueueOnly.putWinByte (by omega) (by omega))

theorem QueueOnly.fold {k : Nat} (hk : k < 16) {ws : List (Nat × Nat)} (h : ∀ x ∈ ws, x.1 < 64) {c : Chip} :
    QueueOnly c (ws.foldl (fun d x => d.putWin16 (Chip.slotOff k + 2 * x.1) x.2) c) := by
  induction ws generalizing c with
  | nil => exact .rfl
  | cons x ws ih =>
    have hx := h x (by simp)
    refine QueueOnly.trans (QueueOnly.putWin16 ?_ ?_) (ih fun y hy => h y (by simp [hy]))
    all_goals unfold Chip.slotOff; omega

theorem QueueOnly.putRecord {k : Nat} (hk : k < 16) {ws : List (Nat × Nat)} (h : ∀ x ∈ ws, x.1 < 64) {c : Chip} :
    QueueOnly c (c.putRecord (Chip.slotOff k) ws) := by
  refine (QueueOnly.fold hk h).trans (QueueOnly.putWin16 ?_ ?_) <;> unfold Chip.slotOff <;> omega

theorem Chip.makeRecord_afterWin (k code unit cls detail : Nat) (standing : Bool) (c : Chip) :
    (c.makeRecord k code unit cls detail standing).win =
      (c.putRecord (slotOff k) (c.recordWords code unit cls detail standing)).win := by
  have hj : ∀ d : Chip, (d.journalRaised code unit cls detail).win = d.win := by
    intro d; unfold Chip.journalRaised; split <;> rfl
  unfold Chip.makeRecord
  extract_lets c1
  exact (show (Chip.raise 62 _).win = _ from Eq.refl _).trans (hj _)

theorem QueueOnly.makeRecord {k code unit cls detail : Nat} {st : Bool} {c : Chip} (hk : k < 16) :
    QueueOnly c (c.makeRecord k code unit cls detail st) :=
  (QueueOnly.putRecord hk (by simp [Chip.recordWords])).trans (.of_win (Chip.makeRecord_afterWin k code unit cls detail st c))

theorem QueueOnly.repeatRecord {k detail : Nat} {st upd : Bool} {c : Chip} (hk : k < 16) :
    QueueOnly c (c.repeatRecord k detail st upd) := by
  unfold Chip.repeatRecord
  refine QueueOnly.putRecord hk ?_
  cases upd <;> simp

theorem slot_of_find {p : Nat → Bool} {k : Nat} (h : Chip.slots.find? p = some k) : k < 16 := by
  simpa [Chip.slots] using List.mem_of_find?_eq_some h

theorem Chip.oldestOf_mem {c : Chip} {l : List Nat} {k : Nat} (h : c.oldestOf l = some k) : k ∈ l := by
  have aux : ∀ (l : List Nat) (b : Option Nat) (k : Nat), l.foldl (fun b k => match b with
      | none => some k
      | some j => if c.slotAge j < c.slotAge k then some k else some j) b = some k → b = some k ∨ k ∈ l := by
    intro l
    induction l with
    | nil => intro b k h; exact .inl h
    | cons x l ih =>
      intro b k h
      rcases ih _ _ h with h | h
      · cases b with
        | none => simp at h; exact .inr (by simp [h])
        | some j =>
          simp only at h; split at h
          · simp at h; exact .inr (by simp [h])
          · exact .inl h
      · exact .inr (by simp [h])
  rcases aux l none k h with h | h
  · cases h
  · exact h

theorem QueueOnly.incFlt {f : Fld} {x : Faults} {c : Chip} : QueueOnly c { c.incFld f with flt := x } :=
  .of_win (Eq.refl c.win)

theorem QueueOnly.faultOf {code unit cls detail : Nat} {st : Bool} {c : Chip} :
    QueueOnly c (c.faultOf code unit cls detail st) := by
  unfold Chip.faultOf
  split
  · rename_i k hk; exact .repeatRecord (slot_of_find hk)
  · split
    · rename_i k hk; exact .makeRecord (slot_of_find hk)
    · unfold Chip.recordFull; split
      · rename_i k hk
        have hm := Chip.oldestOf_mem hk
        simp [Chip.usedSlots, Chip.slots] at hm
        refine QueueOnly.trans ?_ (.makeRecord hm.1)
        exact QueueOnly.incFlt
      · exact QueueOnly.incFlt

theorem QueueOnly.endStanding {code unit : Nat} {c : Chip} : QueueOnly c (c.endStanding code unit) := by
  unfold Chip.endStanding; split
  · rename_i k hk; split
    · exact .putRecord (slot_of_find hk) (by simp)
    · exact .rfl
  · exact .rfl

theorem QueueOnly.restand {code : Nat} {c : Chip} : QueueOnly c (c.restand code) := by
  unfold Chip.restand; split
  · rename_i k hk; split
    · exact .rfl
    · exact .putRecord (slot_of_find hk) (by simp)
  · exact .rfl

theorem QueueOnly.settleLost {c : Chip} : QueueOnly c c.settleLost := by
  unfold Chip.settleLost; split
  · exact .rfl
  · split
    · exact .rfl
    · rename_i k hk
      extract_lets d
      have hs (x : Chip) : QueueOnly x x.clearLost := .of_win (Eq.refl _)
      split
      · rename_i j hj
        extract_lets c1
        have h1 : QueueOnly c c1 := .repeatRecord (slot_of_find hj)
        have := slot_of_find hj
        refine QueueOnly.trans ?_ (hs _)
        split
        · refine h1.trans (.putWin16 ?_ ?_) <;> unfold Chip.slotOff <;> omega
        · exact h1
      · exact QueueOnly.trans (.makeRecord (slot_of_find hk)) (hs _)

theorem QueueOnly.ackFault {data : Nat} {c : Chip} : QueueOnly c (c.ackFault data) := by
  unfold Chip.ackFault
  extract_lets k
  have hk : k < 16 := Nat.mod_lt _ (by decide)
  split
  · exact .of_win (Eq.refl _)
  split
  · exact .of_win (Eq.refl _)
  split
  · exact .of_win (Eq.refl _)
  · refine QueueOnly.trans ?_ .settleLost
    refine QueueOnly.trans (c := (c.journalRepeats k).freeSlot k) ?_ (.of_win (Eq.refl _))
    refine QueueOnly.trans (c := c.journalRepeats k) (.of_win ?_) (.putRecord hk ?_)
    · unfold Chip.journalRepeats; split <;> rfl
    · intro x hx
      simp at hx
      obtain ⟨i, hi, rfl⟩ := hx
      show i + 1 < 64
      omega

/-! ## Stores above the fault queue -/

theorem Chip.putWinByte_queue {c : Chip} {o : Nat} {v : Byte} (h : 0xA00 ≤ o) : Comp.faultQueue.same c (c.putWinByte o v) := by
  show Window.part _ _ = Window.part _ _
  unfold Window.part
  refine congr (congrArg _ (funext fun p => ?_)) (funext fun i => ?_)
  · by_cases e : p = o
    · subst e
      have : ¬ p < 0xA00 := by omega
      simp [inFaultQueue, this]
    · simp only [Chip.putWinByte]; rw [Sparse.get_set_ne e]
  · by_cases e : i = o / 2
    · subst e
      have : ¬ 2 * (o / 2) < 0xA00 := by omega
      simp [inFaultQueue, this]
    · simp only [Chip.putWinByte]; rw [Sparse.find?_drop_ne e]

theorem Kept.putWinByte_off {o : Nat} {v : Byte} {c : Chip} (h : 0xA00 ≤ o) : Kept 4 c (c.putWinByte o v) := by
  refine ⟨fun hc => ⟨hc.1, Sparse.wf_set o v hc.2.1, hc.2.2⟩, fun k hk => ?_, fun _ _ _ => Eq.refl _⟩
  cases k <;> first | exact Eq.refl _ | exact absurd hk (by decide) | exact Chip.putWinByte_queue h

theorem Kept.putWin16_off {o v : Nat} {c : Chip} (h : 0xA00 ≤ o) : Kept 4 c (c.putWin16 o v) :=
  (Kept.putWinByte_off h).trans (Kept.putWinByte_off (by omega))

theorem Kept.putWin32_off {o v : Nat} {c : Chip} (h : 0xA00 ≤ o) : Kept 4 c (c.putWin32 o v) :=
  (Kept.putWin16_off h).trans (Kept.putWin16_off (by omega))

theorem Kept.putWords_off {o : Nat} {l : List Nat} {c : Chip} (h : 0xA00 ≤ o) : Kept 4 c (c.putWords o l) := by
  induction l generalizing o c with
  | nil => exact Kept.rfl
  | cons w ws ih => exact (Kept.putWin16_off h).trans (ih (by omega))

theorem Kept.putBytes_off {o : Nat} {l : List Byte} {c : Chip} (h : 0xA00 ≤ o) : Kept 4 c (c.putBytes o l) := by
  induction l generalizing o c with
  | nil => exact Kept.rfl
  | cons w ws ih => exact (Kept.putWinByte_off h).trans (ih (by omega))

theorem Kept.putRecord_off {o : Nat} {ws : List (Nat × Nat)} {c : Chip} (h : 0xA00 ≤ o) : Kept 4 c (c.putRecord o ws) :=
  (Kept.foldl (fun _ _ => Kept.putWin16_off (by omega)) Kept.rfl).trans (Kept.putWin16_off h)

/-! ## The fault queue read back -/

theorem Chip.queueByte_same {c d : Chip} (h : Comp.faultQueue.same c d) {o : Nat} (h1 : 0x200 ≤ o) (h2 : o < 0xA00) :
    d.winByte o = c.winByte o := by
  have h3 := congrFun (congrArg (·.1) h) o
  have h4 : inFaultQueue o = true := by unfold inFaultQueue; simp [h1, h2]
  unfold Chip.winByte; simpa [Window.part, h4] using h3

theorem Chip.queueEcc_same {c d : Chip} (h : Comp.faultQueue.same c d) {i : Nat} (h1 : 0x100 ≤ i) (h2 : i < 0x500) :
    Sparse.find? d.win.ecc i = Sparse.find? c.win.ecc i := by
  have h3 := congrFun (congrArg (·.2) h) i
  have h4 : inFaultQueue (2 * i) = true := by unfold inFaultQueue; simp; omega
  simpa [Window.part, h4] using h3

theorem Chip.slotWord_same {c d : Chip} (h : Comp.faultQueue.same c d) {k w : Nat} (hk : k < 16) (hw : w < 64) :
    d.slotWord k w = c.slotWord k w := by
  have hb : d.win16 (2 * (Chip.slotOff k / 2 + w)) = c.win16 (2 * (Chip.slotOff k / 2 + w)) := by
    unfold Chip.win16
    rw [Chip.queueByte_same h, Chip.queueByte_same h] <;> unfold Chip.slotOff <;> omega
  unfold Chip.slotWord Chip.ownWord
  rw [Chip.queueEcc_same h (by unfold Chip.slotOff; omega) (by unfold Chip.slotOff; omega), hb]

theorem Chip.slotUsed_same {c d : Chip} (h : Comp.faultQueue.same c d) {k : Nat} (hk : k < 16) : d.slotUsed k = c.slotUsed k := by
  unfold Chip.slotUsed; rw [Chip.slotWord_same h hk (by decide)]

theorem Chip.hasFreeSlot_same {c d : Chip} (h : Comp.faultQueue.same c d) (hf : c.hasFreeSlot) : d.hasFreeSlot := by
  obtain ⟨k, hk, hu⟩ := hf
  exact ⟨k, hk, (Chip.slotUsed_same h (by simpa [Chip.slots] using hk)).trans hu⟩

theorem Chip.onRecord_same {c d : Chip} (h : Comp.faultQueue.same c d) {code unit : Nat} (hr : c.onRecord code unit) :
    d.onRecord code unit := by
  obtain ⟨k, hk, h1, h2⟩ := hr
  have hk' : k < 16 := by simpa [Chip.slots] using hk
  exact ⟨k, hk, by rw [Chip.slotWord_same h hk' (by decide), h1], by rw [Chip.slotWord_same h hk' (by decide), h2]⟩

end Sys2Proof.Machine
end

