-- ==== Sys2Proof/Laws/Fields.lean ====
section
/-!
SUPPORT. Registers and their fields: what a read gives after a write, of the same field, of another field of the same register,
and of another register.
-/

namespace Sys2Proof.Machine

theorem bitsOf_lt (v hi lo : Nat) : bitsOf v hi lo < 2 ^ (hi + 1 - lo) := Nat.mod_lt _ (Nat.two_pow_pos _)

theorem bitsOf_testBit (v hi lo i : Nat) : (bitsOf v hi lo).testBit i = (decide (i < hi + 1 - lo) && v.testBit (i + lo)) := by
  rw [bitsOf, Nat.testBit_mod_two_pow, Nat.testBit_div_two_pow]

theorem putBits_eq (v hi lo x : Nat) (h : lo ≤ hi + 1) :
    putBits v hi lo x = v % 2 ^ lo + 2 ^ lo * (x % 2 ^ (hi + 1 - lo) + 2 ^ (hi + 1 - lo) * (v / 2 ^ (hi + 1))) := by
  have h1 := Nat.div_add_mod v (2 ^ lo)
  have h2 := Nat.div_add_mod (v / 2 ^ lo) (2 ^ (hi + 1 - lo))
  have h3 : v / 2 ^ lo / 2 ^ (hi + 1 - lo) = v / 2 ^ (hi + 1) := by
    rw [Nat.div_div_eq_div_mul, ← Nat.pow_add]; congr 2; omega
  rw [h3] at h2
  unfold putBits bitsOf
  generalize 2 ^ lo = L at *
  generalize 2 ^ (hi + 1 - lo) = W at *
  generalize v / 2 ^ (hi + 1) = T at *
  generalize v / L % W = M at *
  have e : v = v % L + L * (M + W * T) := by rw [← h2] at h1; rw [Nat.add_comm M]; omega
  have e2 : L * (M + W * T) = M * L + L * (W * T) := by rw [Nat.mul_add, Nat.mul_comm L M]
  have e3 : L * (x % W + W * T) = x % W * L + L * (W * T) := by rw [Nat.mul_add, Nat.mul_comm L]
  rw [e3]
  omega

theorem putBits_testBit {v hi lo x : Nat} (h : lo ≤ hi + 1) (i : Nat) :
    (putBits v hi lo x).testBit i = if lo ≤ i ∧ i ≤ hi then x.testBit (i - lo) else v.testBit i := by
  rw [putBits_eq v hi lo x h, Nat.add_comm, Nat.testBit_two_pow_mul_add _ (Nat.mod_lt _ (Nat.two_pow_pos _))]
  split
  · rename_i hi'
    rw [if_neg (by omega), Nat.testBit_mod_two_pow]; simp [hi']
  · rename_i hlo
    rw [Nat.add_comm (x % _), Nat.testBit_two_pow_mul_add _ (Nat.mod_lt _ (Nat.two_pow_pos _))]
    by_cases hh : i ≤ hi
    · rw [if_pos (show i - lo < hi + 1 - lo by omega), if_pos ⟨by omega, hh⟩, Nat.testBit_mod_two_pow]
      simp [show i - lo < hi + 1 - lo by omega]
    · rw [if_neg (show ¬ i - lo < hi + 1 - lo by omega), if_neg (by omega), Nat.testBit_div_two_pow]
      congr 1; omega

/-- A field read back after it was written holds the value, modulo its width. -/
theorem bitsOf_putBits_self {v hi lo x : Nat} (h : lo ≤ hi + 1) :
    bitsOf (putBits v hi lo x) hi lo = x % 2 ^ (hi + 1 - lo) := by
  apply Nat.eq_of_testBit_eq; intro i
  rw [bitsOf_testBit, putBits_testBit h, Nat.testBit_mod_two_pow]
  by_cases hi' : i < hi + 1 - lo
  · rw [if_pos ⟨by omega, by omega⟩]; simp [hi']
  · simp [hi']

/-- Another field of the same register is left alone. -/
theorem bitsOf_putBits_ne {v hi lo x hi' lo' : Nat} (h : lo ≤ hi + 1) (hd : hi < lo' ∨ hi' < lo) :
    bitsOf (putBits v hi lo x) hi' lo' = bitsOf v hi' lo' := by
  apply Nat.eq_of_testBit_eq; intro i
  rw [bitsOf_testBit, bitsOf_testBit, putBits_testBit h]
  by_cases hi2 : i < hi' + 1 - lo'
  · rw [if_neg (by omega)]
  · simp [hi2]

theorem putBits_lt {v hi lo x : Nat} (h : lo ≤ hi + 1) (hh : hi < 32) (hv : v < 2 ^ 32) : putBits v hi lo x < 2 ^ 32 := by
  apply Nat.lt_pow_two_of_testBit; intro i hi'
  rw [putBits_testBit h, if_neg (by omega)]
  exact Nat.testBit_lt_two_pow (Nat.lt_of_lt_of_le hv (Nat.pow_le_pow_right (by decide) hi'))

/-- A field lies within its 32-bit register. -/
def Fld.ok (f : Fld) : Bool := decide (f.lo ≤ f.hi) && decide (f.hi < 32)

/-- Two fields do not share a bit. -/
def Fld.apart (f g : Fld) : Bool := f.reg != g.reg || decide (f.hi < g.lo) || decide (g.hi < f.lo)

namespace Chip

/-- The register file of a block is in canonical form. -/
def RegOk (c : Chip) : Prop := RegsOk c.regs

/-- The window memory of a block is in canonical form. -/
def MemOk (c : Chip) : Prop := Memory.wf c.win.mem = true

theorem Ok.memOk {c : Chip} (h : c.Ok) : c.MemOk := h.2.1

theorem Ok.regOk {c : Chip} (h : c.Ok) : c.RegOk := h.1

@[simp] theorem regOk_put {a : Nat} {v : DWord} {c : Chip} (h : c.RegOk) : (c.put a v).RegOk := Sparse.wf_set a v h

theorem get_put_self {a : Nat} {v : DWord} {c : Chip} (h : c.RegOk) : (c.put a v).get a = v := Sparse.get_set_self h

theorem get_put_ne {a b : Nat} {v : DWord} {c : Chip} (h : b ≠ a) : (c.put a v).get b = c.get b := Sparse.get_set_ne h

@[simp] theorem regOk_setFld {f : Fld} {n : Nat} {c : Chip} (h : c.RegOk) : (c.setFld f n).RegOk := regOk_put h

@[simp] theorem regOk_setFlag {f : Fld} {b : Bool} {c : Chip} (h : c.RegOk) : (c.setFlag f b).RegOk := regOk_put h

@[simp] theorem regOk_setBit {a i : Nat} {b : Bool} {c : Chip} (h : c.RegOk) : (c.setBit a i b).RegOk := regOk_put h

@[simp] theorem regOk_addFld {f : Fld} {n : Nat} {c : Chip} (h : c.RegOk) : (c.addFld f n).RegOk := regOk_put h

@[simp] theorem regOk_incFld {f : Fld} {c : Chip} (h : c.RegOk) : (c.incFld f).RegOk := regOk_put h

@[simp] theorem regOk_addReg {a n : Nat} {c : Chip} (h : c.RegOk) : (c.addReg a n).RegOk := regOk_put h

theorem get_setFld_ne {f : Fld} {n a : Nat} {c : Chip} (h : a ≠ f.reg) : (c.setFld f n).get a = c.get a := get_put_ne h

theorem fld_setFld_self {f : Fld} {n : Nat} {c : Chip} (h : c.RegOk) (hf : f.ok = true) :
    (c.setFld f n).fld f = n % 2 ^ (f.hi + 1 - f.lo) := by
  simp only [Fld.ok, Bool.and_eq_true, decide_eq_true_eq] at hf
  unfold fld setFld
  rw [get_put_self h, BitVec.toNat_ofNat, Nat.mod_eq_of_lt (putBits_lt (by omega) hf.2 (BitVec.isLt _))]
  exact bitsOf_putBits_self (by omega)

theorem fld_setFld_ne {f g : Fld} {n : Nat} {c : Chip} (h : c.RegOk) (hf : f.ok = true) (hd : f.apart g = true) :
    (c.setFld f n).fld g = c.fld g := by
  by_cases hr : g.reg = f.reg
  · simp only [Fld.ok, Bool.and_eq_true, decide_eq_true_eq] at hf
    simp only [Fld.apart, Bool.or_eq_true, bne_iff_ne, ne_eq, decide_eq_true_eq, hr, not_true, false_or] at hd
    unfold fld setFld
    rw [hr, get_put_self h, BitVec.toNat_ofNat, Nat.mod_eq_of_lt (putBits_lt (by omega) hf.2 (BitVec.isLt _))]
    exact bitsOf_putBits_ne (by omega) hd
  · unfold fld; rw [get_setFld_ne hr]

theorem fld_put_ne {a : Nat} {v : DWord} {g : Fld} {c : Chip} (h : g.reg ≠ a) : (c.put a v).fld g = c.fld g := by
  unfold fld; rw [get_put_ne h]

theorem fld_setFld_self_of_lt {f : Fld} {n : Nat} {c : Chip} (h : c.RegOk) (hf : f.ok = true) (hn : n < 2 ^ (f.hi + 1 - f.lo)) :
    (c.setFld f n).fld f = n := by rw [fld_setFld_self h hf, Nat.mod_eq_of_lt hn]

theorem flag_setFlag_self {f : Fld} {b : Bool} {c : Chip} (h : c.RegOk) (hf : f.ok = true) : (c.setFlag f b).flag f = b := by
  unfold flag setFlag
  have hw : 1 < 2 ^ (f.hi + 1 - f.lo) := by
    simp only [Fld.ok, Bool.and_eq_true, decide_eq_true_eq] at hf
    exact Nat.one_lt_two_pow (by omega)
  rw [fld_setFld_self_of_lt h hf (by unfold b2n; split <;> omega)]
  cases b <;> rfl

theorem flag_setFld_ne {f g : Fld} {n : Nat} {c : Chip} (h : c.RegOk) (hf : f.ok = true) (hd : f.apart g = true) :
    (c.setFld f n).flag g = c.flag g := by unfold flag; rw [fld_setFld_ne h hf hd]

theorem fld_setFlag_ne {f g : Fld} {b : Bool} {c : Chip} (h : c.RegOk) (hf : f.ok = true) (hd : f.apart g = true) :
    (c.setFlag f b).fld g = c.fld g := fld_setFld_ne h hf hd

theorem flag_setFlag_ne {f g : Fld} {b : Bool} {c : Chip} (h : c.RegOk) (hf : f.ok = true) (hd : f.apart g = true) :
    (c.setFlag f b).flag g = c.flag g := flag_setFld_ne h hf hd

theorem fld_incFld_self {f : Fld} {c : Chip} (h : c.RegOk) (hf : f.ok = true) :
    (c.incFld f).fld f = min f.top (c.fld f + 1) := by
  unfold incFld addFld satAdd
  refine fld_setFld_self_of_lt h hf ?_
  have : 0 < 2 ^ (f.hi + 1 - f.lo) := Nat.two_pow_pos _
  unfold Fld.top Fld.width
  omega

theorem fld_incFld_ne {f g : Fld} {c : Chip} (h : c.RegOk) (hf : f.ok = true) (hd : f.apart g = true) :
    (c.incFld f).fld g = c.fld g := fld_setFld_ne h hf hd

theorem flag_incFld_ne {f g : Fld} {c : Chip} (h : c.RegOk) (hf : f.ok = true) (hd : f.apart g = true) :
    (c.incFld f).flag g = c.flag g := flag_setFld_ne h hf hd

theorem get_setFlag_ne {f : Fld} {b : Bool} {a : Nat} {c : Chip} (h : a ≠ f.reg) : (c.setFlag f b).get a = c.get a :=
  get_put_ne h

theorem get_incFld_ne {f : Fld} {a : Nat} {c : Chip} (h : a ≠ f.reg) : (c.incFld f).get a = c.get a := get_put_ne h

theorem get_setBit_ne {r i : Nat} {b : Bool} {a : Nat} {c : Chip} (h : a ≠ r) : (c.setBit r i b).get a = c.get a := get_put_ne h

/-- Bit `i` of a register read back. -/
theorem bit_setBit_self {a i : Nat} {b : Bool} {c : Chip} (h : c.RegOk) (hi : i < 32) : (c.setBit a i b).bit a i = b := by
  have := flag_setFlag_self (f := ⟨a, i, i⟩) (b := b) h (by simp [Fld.ok, hi])
  unfold bit setBit bitOf
  unfold setFlag at this
  unfold flag fld bitsOf at this
  simp only [Nat.add_sub_cancel_left, Nat.pow_one] at this
  revert this
  generalize ((c.setFld ⟨a, i, i⟩ (b2n b)).get a).toNat / 2 ^ i = v
  intro this
  rcases Nat.mod_two_eq_zero_or_one v with h | h <;> simp [h] at this ⊢ <;> exact this

end Chip

end Sys2Proof.Machine
end

