-- ==== Sys2Proof/Laws/KeptOps.lean ====
section
/-!
SUPPORT. The frame laws (`Kept`) of the operations of Machine/Ops.lean.
-/

namespace Sys2Proof.Machine

theorem Chip.put_kept (a : Nat) (v : DWord) (c : Chip) : Kept 0x80000002 c (Chip.put a v c) :=
  Kept.regs_of fun h => Sparse.wf_set a v h

theorem Chip.setFld_kept (f : Fld) (n : Nat) (c : Chip) : Kept 0x80000002 c (Chip.setFld f n c) :=
  (Chip.put_kept ..).mono (by decide)

theorem Chip.setFlag_kept (f : Fld) (b : Bool) (c : Chip) : Kept 0x80000002 c (Chip.setFlag f b c) :=
  (Chip.setFld_kept ..).mono (by decide)

theorem Chip.addFld_kept (f : Fld) (n : Nat) (c : Chip) : Kept 0x80000002 c (Chip.addFld f n c) :=
  (Chip.setFld_kept ..).mono (by decide)

theorem Chip.incFld_kept (f : Fld) (c : Chip) : Kept 0x80000002 c (Chip.incFld f c) := (Chip.addFld_kept ..).mono (by decide)

theorem Chip.addReg_kept (a : Nat) (n : Nat) (c : Chip) : Kept 0x80000002 c (Chip.addReg a n c) :=
  (Chip.put_kept ..).mono (by decide)

theorem Chip.setBit_kept (a : Nat) (i : Nat) (b : Bool) (c : Chip) : Kept 0x80000002 c (Chip.setBit a i b c) :=
  (Chip.setFld_kept ..).mono (by decide)

theorem Kept.doIf {m : Nat} {b c : Chip} {p : Bool} {f : Chip → Chip} (hf : ∀ d, Kept m d (f d)) (h : Kept m b c) :
    Kept m b (Chip.doIf p f c) := by
  unfold Chip.doIf; split
  · exact h.trans (hf c)
  · exact h

theorem Chip.storeMasked_kept (a : Nat) (v : DWord) (c : Chip) : Kept 0x80000002 c (Chip.storeMasked a v c) := by
  unfold Chip.storeMasked
  split
  · exact (Chip.put_kept ..).mono (by decide)
  · exact Kept.rfl

theorem Chip.portErr_kept (cause : Nat) (c : Chip) : Kept 0x400000002 c (Chip.portErr cause c) :=
  Kept.step (Kept.setFld_name .devStatus 0 0 (Eq.refl _)) (by decide) ((Kept.setFlag_name .devStatus 0 0 (Eq.refl _)).mono
    (by decide))

theorem Chip.useUnlock_kept (c : Chip) : Kept 0x80000000000000000012 c (Chip.useUnlock c).2 := by
  unfold Chip.useUnlock
  refine Kept.ite_snd ?_ ?_
  · dsimp only
    exact Kept.bus_set.mono (by decide)
  · dsimp only
    exact (Kept.incFld_name .devUnlock 0 0 (Eq.refl _)).mono (by decide)

theorem Chip.answer_kept (v : Word) (c : Chip) : Kept 0x10 c (Chip.answer v c) := by
  unfold Chip.answer
  exact Kept.bus_set.mono (by decide)

theorem Kept.hostWrite {m : Nat} {c : Chip} {f : Chip → Chip} (hf : Kept m c (f c)) : Kept m c (Chip.hostWrite f c) := by
  unfold Chip.hostWrite; split
  · exact hf
  · exact Kept.rfl

theorem Kept.hostRead {m : Nat} {c : Chip} {f : Chip → Nat × Chip} (hm : 16 &&& m = 16) (hf : Kept m c (f c).2) :
    Kept m c (Chip.hostRead f c) := by
  unfold Chip.hostRead; split
  · exact Kept.step (Chip.answer_kept ..) hm hf
  · exact Kept.step (Chip.answer_kept ..) hm Kept.rfl

theorem Chip.useFree_kept (c : Chip) : Kept 0x800 c (Chip.useFree c) := by
  unfold Chip.useFree
  exact Kept.free_set.mono (by decide)

theorem Chip.takeCommit_kept (a : Nat) (c : Chip) : Kept 0x10 c (Chip.takeCommit a c) := by
  unfold Chip.takeCommit
  exact Kept.bus_set.mono (by decide)

theorem Chip.takeSup_kept (a : Nat) (c : Chip) : Kept 0x10 c (Chip.takeSup a c) := by
  unfold Chip.takeSup
  exact Kept.bus_set.mono (by decide)

theorem Chip.putWinByte_kept (off : Nat) (b : Byte) (c : Chip) : Kept 0x1000004 c (Chip.putWinByte off b c) :=
  Kept.mem_of (fun h => ⟨Sparse.wf_set off b h.1, h.2⟩) (Eq.refl _) (Eq.refl _)

theorem Chip.putWin16_kept (off : Nat) (v : Nat) (c : Chip) : Kept 0x1000004 c (Chip.putWin16 off v c) :=
  Kept.step (Chip.putWinByte_kept ..) (by decide) ((Chip.putWinByte_kept ..).mono (by decide))

theorem Chip.putWin32_kept (off : Nat) (v : Nat) (c : Chip) : Kept 0x1000004 c (Chip.putWin32 off v c) :=
  Kept.step (Chip.putWin16_kept ..) (by decide) ((Chip.putWin16_kept ..).mono (by decide))

theorem Chip.putWords_kept (off : Nat) (l : List Nat) (c : Chip) : Kept 0x1000004 c (Chip.putWords off l c) := by
  induction l generalizing off c with
  | nil => exact Kept.rfl
  | cons w ws ih => exact (Chip.putWin16_kept off w c).trans (ih _ _)

theorem Chip.putBytes_kept (off : Nat) (l : List Byte) (c : Chip) : Kept 0x1000004 c (Chip.putBytes off l c) := by
  induction l generalizing off c with
  | nil => exact Kept.rfl
  | cons w ws ih => exact ((Chip.putWinByte_kept off w c).mono (by decide)).trans (ih _ _)

theorem Chip.putRecord_kept (off : Nat) (ws : List (Nat × Nat)) (c : Chip) : Kept 0x1000004 c (Chip.putRecord off ws c) := by
  unfold Chip.putRecord
  extract_lets x0
  refine Kept.step (Chip.putWin16_kept ..) (by decide) ?_
  refine Kept.foldl (fun _ _ => ?_) ?_
  · exact (Chip.putWin16_kept ..).mono (by decide)
  · exact Kept.rfl

theorem Chip.samplePins_kept (c : Chip) : Kept 0x40 c (Chip.samplePins c) := by
  unfold Chip.samplePins
  exact Kept.irq_set.mono (by decide)

theorem Chip.raise_kept (s : Nat) (c : Chip) : Kept 0x40 c (Chip.raise s c) := by
  unfold Chip.raise
  refine Kept.step (Chip.samplePins_kept ..) (by decide) ?_
  exact Kept.irq_set.mono (by decide)

theorem Chip.journal_kept (x : JCause) (c : Chip) : Kept 0x100 c (Chip.journal x c) := by
  unfold Chip.journal
  exact Kept.jnl_set.mono (by decide)

theorem Chip.journalRaised_kept (code : Nat) (unit : Nat) (cls : Nat) (detail : Nat) (c : Chip) : Kept 0x100 c
    (Chip.journalRaised code unit cls detail c) := by
  unfold Chip.journalRaised
  refine Kept.ite ?_ ?_
  · exact (Chip.journal_kept ..).mono (by decide)
  · exact Kept.rfl

theorem Chip.makeRecord_kept (k : Nat) (code : Nat) (unit : Nat) (cls : Nat) (detail : Nat) (standing : Bool) (c : Chip) :
    Kept 0x10001c4 c (Chip.makeRecord k code unit cls detail standing c) := by
  unfold Chip.makeRecord
  extract_lets x0 x1
  refine Kept.step (Chip.raise_kept ..) (by decide) ?_
  refine Kept.step (Chip.journalRaised_kept ..) (by decide) ?_
  refine Kept.step Kept.flt_set (by decide) ?_
  exact (Chip.putRecord_kept ..).mono (by decide)

theorem Chip.repeatRecord_kept (k : Nat) (detail : Nat) (standing : Bool) (upd : Bool) (c : Chip) : Kept 0x1000004 c
    (Chip.repeatRecord k detail standing upd c) := by
  unfold Chip.repeatRecord
  extract_lets x0
  exact (Chip.putRecord_kept ..).mono (by decide)

theorem Chip.recordFull_kept (code : Nat) (unit : Nat) (cls : Nat) (detail : Nat) (standing : Bool) (c : Chip) : Kept
    0x20000000000000000000000000000010001c6 c (Chip.recordFull code unit cls detail standing c) := by
  unfold Chip.recordFull
  split
  · refine Kept.step (Chip.makeRecord_kept ..) (by decide) ?_
    extract_lets x0 x1
    refine Kept.step Kept.flt_set (by decide) ?_
    exact (Kept.incFld_name .faultCounts 0 0 (Eq.refl _)).mono (by decide)
  · extract_lets x0 x1
    refine Kept.step Kept.flt_set (by decide) ?_
    exact (Kept.incFld_name .faultCounts 0 0 (Eq.refl _)).mono (by decide)

theorem Chip.faultOf_kept (code : Nat) (unit : Nat) (cls : Nat) (detail : Nat) (standing : Bool) (c : Chip) :
    Kept 0x20000000000000000000000000000010001c2 c (Chip.faultOf code unit cls detail standing c) := by
  refine Kept.keepWin (m := 0x20000000000000000000000000000010001c6) ?_ QueueOnly.faultOf (by decide) (by decide)
  unfold Chip.faultOf
  split
  · exact (Chip.repeatRecord_kept ..).mono (by decide)
  · split
    · exact (Chip.makeRecord_kept ..).mono (by decide)
    · exact (Chip.recordFull_kept ..).mono (by decide)

theorem Chip.fault_kept (code : Nat) (unit : Nat) (detail : Nat) (c : Chip) : Kept 0x20000000000000000000000000000010001c2 c
    (Chip.fault code unit detail c) := (Chip.faultOf_kept ..).mono (by decide)

theorem Chip.faultStanding_kept (code : Nat) (unit : Nat) (detail : Nat) (c : Chip) : Kept
    0x20000000000000000000000000000010001c2 c (Chip.faultStanding code unit detail c) := (Chip.faultOf_kept ..).mono (by decide)

theorem Chip.endStanding_kept (code : Nat) (unit : Nat) (c : Chip) : Kept 0x1000000 c (Chip.endStanding code unit c) := by
  refine Kept.keepWin (m := 0x1000004) ?_ QueueOnly.endStanding (by decide) (by decide)
  unfold Chip.endStanding
  split
  · exact Kept.ite ((Chip.putRecord_kept ..).mono (by decide)) Kept.rfl
  · exact Kept.rfl

theorem Chip.clearLost_kept (c : Chip) : Kept 0x80 c (Chip.clearLost c) := by
  unfold Chip.clearLost
  exact Kept.flt_set.mono (by decide)

theorem Chip.settleLost_kept (c : Chip) : Kept 0x10001c0 c (Chip.settleLost c) := by
  refine Kept.keepWin (m := 0x10001c4) ?_ QueueOnly.settleLost (by decide) (by decide)
  unfold Chip.settleLost
  split
  · exact Kept.rfl
  · split
    · exact Kept.rfl
    · extract_lets x0
      split
      · extract_lets x1
        refine Kept.step (Chip.clearLost_kept ..) (by decide) ?_
        have h1 : Kept 0x10001c4 c x1 := (Chip.repeatRecord_kept ..).mono (by decide)
        refine Kept.ite ?_ h1
        exact h1.trans ((Chip.putWin16_kept ..).mono (by decide))
      · refine Kept.step (Chip.clearLost_kept ..) (by decide) ?_
        exact (Chip.makeRecord_kept ..).mono (by decide)

theorem Chip.eccSingle_kept (i : Nat) (c : Chip) : Kept 0x20000000000000000000000000000010001c2 c (Chip.eccSingle i c) :=
  (Chip.fault_kept ..).mono (by decide)

theorem Chip.eccDouble_kept (i : Nat) (detail : Nat) (c : Chip) : Kept 0x20000000000000000000000000000010001c2 c
    (Chip.eccDouble i detail c) := (Chip.fault_kept ..).mono (by decide)

theorem Chip.repair_kept (i : Nat) (b : Fin 22) (c : Chip) : Kept 0x20000000000000000000000000000010001c6 c (Chip.repair i b
    c) := by
  unfold Chip.repair
  extract_lets x0
  refine Kept.step (Chip.eccSingle_kept ..) (by decide) ?_
  refine Kept.ite ?_ ?_
  · exact (Chip.putWin16_kept ..).mono (by decide)
  · exact Kept.rfl

theorem Chip.readMany_kept (i detail : Nat) (c : Chip) : Kept 0x20000000000000000000000000000010009c6 c (Chip.readMany i detail
    c).2.2 := by
  unfold Chip.readMany
  extract_lets x0 x1
  have h0 : Kept 0x800 c x0 := Chip.useFree_kept ..
  split
  · exact Kept.step (Chip.eccDouble_kept ..) (by decide) (h0.mono (by decide))
  · refine Kept.step (Chip.eccSingle_kept ..) (by decide) ?_
    exact Kept.ite (Kept.step (Chip.putWin16_kept ..) (by decide) (h0.mono (by decide))) (h0.mono (by decide))
  · exact h0.mono (by decide)

theorem Chip.engineCheck_kept (off : Nat) (n : Nat) (c : Chip) : Kept 0x20000000000000000000000000000010009c6 c
    (Chip.engineCheck off n c).2 := by
  unfold Chip.engineCheck
  refine Kept.foldl_snd (fun _ _ => ?_) ?_
  · split
    · dsimp only
      exact (Chip.repair_kept ..).mono (by decide)
    · dsimp only
      exact (Chip.eccDouble_kept ..).mono (by decide)
    · dsimp only
      exact (Chip.readMany_kept ..).mono (by decide)
  · dsimp only
    exact Kept.rfl

theorem Chip.checkEnds_kept (off : Nat) (n : Nat) (c : Chip) : Kept 0x20000000000000000000000000000010009c6 c
    (Chip.checkEnds off n c) := by
  unfold Chip.checkEnds
  extract_lets x0
  refine Kept.doIf (fun _ => ?_) ?_
  · exact (Chip.engineCheck_kept ..).mono (by decide)
  · subst x0
    refine Kept.doIf (fun _ => ?_) ?_
    · exact (Chip.engineCheck_kept ..).mono (by decide)
    · exact Kept.rfl

end Sys2Proof.Machine
end

