-- ==== Sys2Proof/Laws/KeptTwinCore.lean ====
section
/-!
SUPPORT. The frame laws (`Kept`) of the operations of Machine/TwinCore.lean.
-/

namespace Sys2Proof.Machine

theorem Chip.modTwin_kept (f : Twin → Twin) (c : Chip) : Kept 0x80000 c (Chip.modTwin f c) := by
  unfold Chip.modTwin
  exact Kept.twin_set.mono (by decide)

theorem Chip.twinLog_kept (kind : Nat) (new : Nat) (old : Nat) (detail : Nat) (words : List (Nat × Nat)) (c : Chip) : Kept
    0x8000000000000000000000000000000000000000000000000000000006 c (Chip.twinLog kind new old detail words c) := by
  unfold Chip.twinLog
  extract_lets x0 x1 x2 x3
  refine Kept.step (Kept.put_name .twinLogHead 0 0 (Eq.refl _)) (by decide) ?_
  subst x3
  exact (Kept.putRecord_off (by omega)).mono (by decide)

theorem Chip.twinFault_kept (code : Nat) (unit : Nat) (detail : Nat) (c : Chip) : Kept
    0x20000000000000000000000000000010001c2 c (Chip.twinFault code unit detail c) := by
  unfold Chip.twinFault
  refine Kept.step (Chip.fault_kept ..) (by decide) ?_
  exact (Chip.raise_kept ..).mono (by decide)

theorem Chip.settleLatches_kept (c : Chip) : Kept 0x2000 c (Chip.settleLatches c) := by
  unfold Chip.settleLatches
  exact Kept.outs_set.mono (by decide)

theorem Chip.settleCharge_kept (c : Chip) : Kept 0x10000 c (Chip.settleCharge c) := by
  unfold Chip.settleCharge
  exact Kept.power_set.mono (by decide)

theorem Chip.settleGates_kept (c : Chip) : Kept 0x12000 c (Chip.settleGates c) := by
  unfold Chip.settleGates
  refine Kept.step (Chip.settleLatches_kept ..) (by decide) ?_
  exact (Chip.settleCharge_kept ..).mono (by decide)

theorem Chip.twinMove_kept (kind : Nat) (new : Nat) (detail : Nat) (words : List (Nat × Nat)) (c : Chip) : Kept
    0x8000000000000000000000000000000000000000080000000000012046 c (Chip.twinMove kind new detail words c) := by
  unfold Chip.twinMove
  refine Kept.ite ?_ ?_
  · exact Kept.rfl
  · refine Kept.step (Chip.raise_kept ..) (by decide) ?_
    refine Kept.step (Chip.twinLog_kept ..) (by decide) ?_
    refine Kept.step (Chip.settleGates_kept ..) (by decide) ?_
    exact (Kept.setFld_name .twinStatus 0 0 (Eq.refl _)).mono (by decide)

theorem Chip.isolate_kept (kind : Nat) (detail : Nat) (c : Chip) : Kept
    0xa000000000000000000000000000000000000000080000000000092046 c (Chip.isolate kind detail c) := by
  unfold Chip.isolate
  extract_lets x0
  refine Kept.step (Chip.modTwin_kept ..) (by decide) ?_
  refine Kept.step (Kept.setFld_name .twinProgress 0 0 (Eq.refl _)) (by decide) ?_
  refine Kept.step (Kept.setFld_name .twinProgress 0 0 (Eq.refl _)) (by decide) ?_
  subst x0
  exact (Chip.twinMove_kept ..).mono (by decide)

theorem Chip.f3Release_kept (c : Chip) : Kept 0xa000000000000000000000000000000000000000080000000000092046 c (Chip.f3Release
    c) := by
  unfold Chip.f3Release
  refine Kept.ite ?_ ?_
  · exact (Chip.isolate_kept ..).mono (by decide)
  · exact Kept.rfl

theorem Chip.readBlock_kept (n : Nat) (c : Chip) : Kept 0x20000000000000000000000000000010009c6 c (Chip.readBlock n c).2 :=
    by
  unfold Chip.readBlock
  dsimp only
  exact (Chip.engineCheck_kept ..).mono (by decide)

theorem Chip.readGroup_kept (ps : List Packet) (c : Chip) : Kept 0x20000000000000000000000000000010009c6 c (Chip.readGroup
    ps c).2 := by
  unfold Chip.readGroup
  refine Kept.foldl_snd (fun _ _ => ?_) ?_
  · split
    · dsimp only
      exact (Chip.readBlock_kept ..).mono (by decide)
    · exact Kept.rfl
  · exact Kept.rfl

theorem Chip.mirrorGroup_kept (ps : List Packet) (c : Chip) : Kept 0x20000000000000000000000000000010809c6 c
    (Chip.mirrorGroup ps c) := by
  unfold Chip.mirrorGroup
  refine Kept.ite ?_ ?_
  · exact Kept.rfl
  · extract_lets x0 x1
    refine Kept.step (Chip.modTwin_kept ..) (by decide) ?_
    subst x1
    exact (Chip.readGroup_kept ..).mono (by decide)

theorem Kept.mirrorsOf {m : Nat} {ps : List Packet} {b c : Chip} {f : Chip → Chip}
    (hm : 0x20000000000000000000000000000010809c6 &&& m = 0x20000000000000000000000000000010809c6)
    (hf : ∀ d, Kept m d (f d)) (h : Kept m b c) : Kept m b (Chip.mirrorsOf ps f c) := by
  unfold Chip.mirrorsOf
  exact Kept.step (Chip.mirrorGroup_kept ..) hm (h.trans (hf c))

end Sys2Proof.Machine
end

