-- ==== Sys2Proof/Laws/KeptPredictor.lean ====
section
/-!
SUPPORT. The frame laws (`Kept`) of the operations of Machine/Predictor.lean.
-/

namespace Sys2Proof.Machine

theorem Chip.modWheel_kept (n : Nat) (f : Wheel → Wheel) (c : Chip) : Kept 0x200 c (Chip.modWheel n f c) := by
  unfold Chip.modWheel
  exact Kept.wheels_set.mono (by decide)

theorem Chip.modPred_kept (f : Pred → Pred) (c : Chip) : Kept 0x400 c (Chip.modPred f c) := by
  unfold Chip.modPred
  exact Kept.pred_set.mono (by decide)

theorem Chip.refreshSync_kept (c : Chip) : Kept 0x4000000000000000000000000000000442 c (Chip.refreshSync c) := by
  unfold Chip.refreshSync
  extract_lets x0 x1
  split
  · subst x1
    refine Kept.ite ?_ ?_
    · exact Kept.rfl
    · refine Kept.step (Chip.raise_kept ..) (by decide) ?_
      exact (Chip.modPred_kept ..).mono (by decide)
  · refine Kept.ite ?_ ?_
    · subst x1
      refine Kept.ite ?_ ?_
      · exact Kept.rfl
      · refine Kept.step (Chip.raise_kept ..) (by decide) ?_
        exact (Chip.modPred_kept ..).mono (by decide)
    · refine Kept.step (Kept.incFld_name .predCounts 0 0 (Eq.refl _)) (by decide) ?_
      refine Kept.step (Chip.raise_kept ..) (by decide) ?_
      refine Kept.step (Chip.modPred_kept ..) (by decide) ?_
      subst x1
      refine Kept.ite ?_ ?_
      · exact Kept.rfl
      · refine Kept.step (Chip.raise_kept ..) (by decide) ?_
        exact (Chip.modPred_kept ..).mono (by decide)

theorem Chip.setDir_kept (d : Nat) (c : Chip) : Kept 0x440 c (Chip.setDir d c) := by
  unfold Chip.setDir
  refine Kept.ite ?_ ?_
  · exact Kept.rfl
  · refine Kept.step (Chip.raise_kept ..) (by decide) ?_
    exact (Chip.modPred_kept ..).mono (by decide)

theorem Chip.dropChoice_kept (n : Nat) (c : Chip) : Kept 0x400 c (Chip.dropChoice n c) := by
  unfold Chip.dropChoice
  refine Kept.ite ?_ ?_
  · exact (Chip.modPred_kept ..).mono (by decide)
  · exact Kept.rfl

theorem Chip.restartInput_kept (n : Nat) (c : Chip) : Kept 0x8000000000000000000000000000602 c (Chip.restartInput n c) := by
  unfold Chip.restartInput
  refine Kept.step (Kept.setFld_name .wheelStatus _ 0 (Eq.refl _)) (by decide) ?_
  refine Kept.step (Chip.modWheel_kept ..) (by decide) ?_
  exact (Chip.dropChoice_kept ..).mono (by decide)

theorem Chip.restartAll_kept (c : Chip) : Kept 0x4008000000000000000000000000000642 c (Chip.restartAll c) := by
  unfold Chip.restartAll
  extract_lets x0
  refine Kept.step (Chip.refreshSync_kept ..) (by decide) ?_
  refine Kept.step (Chip.setDir_kept ..) (by decide) ?_
  refine Kept.step (Chip.modPred_kept ..) (by decide) ?_
  subst x0
  refine Kept.foldl (fun _ _ => ?_) ?_
  · refine Kept.step (Chip.modWheel_kept ..) (by decide) ?_
    exact (Chip.restartInput_kept ..).mono (by decide)
  · exact Kept.rfl

theorem Chip.declareStall_kept (c : Chip) : Kept 0x20040080000000000000000000100010007c2 c (Chip.declareStall c) := by
  unfold Chip.declareStall
  refine Kept.ite ?_ ?_
  · exact Kept.rfl
  · extract_lets x0 x1
    refine Kept.step (Chip.fault_kept ..) (by decide) ?_
    refine Kept.step (Chip.raise_kept ..) (by decide) ?_
    refine Kept.step (Kept.setFlag_name .pwrState 0 0 (Eq.refl _)) (by decide) ?_
    refine Kept.step (Chip.restartAll_kept ..) (by decide) ?_
    subst x1
    refine Kept.foldl (fun _ _ => ?_) ?_
    · exact (Chip.modWheel_kept ..).mono (by decide)
    · subst x0
      exact (Chip.modPred_kept ..).mono (by decide)

theorem Chip.startWith_kept (r : Ref) (m : Model) (c : Chip) : Kept 0x4000000000000000000000000000000442 c (Chip.startWith r
    m c) := by
  unfold Chip.startWith
  refine Kept.step (Chip.refreshSync_kept ..) (by decide) ?_
  exact (Chip.modPred_kept ..).mono (by decide)

theorem Chip.beginBlend_kept (r : Ref) (tm : Model) (start : Int) (c : Chip) : Kept 0x4000000000000000000000000000000442 c
    (Chip.beginBlend r tm start c) := by
  unfold Chip.beginBlend
  refine Kept.step (Chip.refreshSync_kept ..) (by decide) ?_
  exact (Chip.modPred_kept ..).mono (by decide)

theorem Chip.shiftModels_kept (d : Int) (c : Chip) : Kept 0x400 c (Chip.shiftModels d c) := by
  unfold Chip.shiftModels
  extract_lets x0
  exact (Chip.modPred_kept ..).mono (by decide)

theorem Chip.correctionEffect_kept (d : Int) (c : Chip) : Kept 0x20040000000000000000000000000010005c2 c
    (Chip.correctionEffect d c) := by
  unfold Chip.correctionEffect
  extract_lets x0
  refine Kept.ite ?_ ?_
  · refine Kept.step (Kept.incFld_name .predCounts 0 0 (Eq.refl _)) (by decide) ?_
    refine Kept.step (Chip.fault_kept ..) (by decide) ?_
    refine Kept.step (Chip.raise_kept ..) (by decide) ?_
    exact (Chip.modPred_kept ..).mono (by decide)
  · refine Kept.ite ?_ ?_
    · exact (Chip.modPred_kept ..).mono (by decide)
    · exact Kept.rfl

theorem Chip.correct_kept (d : Int) (c : Chip) : Kept 0x20040000000000000000000000000010005c2 c (Chip.correct d c) := by
  unfold Chip.correct
  refine Kept.step (Chip.correctionEffect_kept ..) (by decide) ?_
  exact (Chip.shiftModels_kept ..).mono (by decide)

theorem Chip.switchAtOnce_kept (r : Ref) (tm : Model) (d : Int) (c : Chip) : Kept 0x20040000000000000000000000000010005c2 c
    (Chip.switchAtOnce r tm d c) := by
  unfold Chip.switchAtOnce
  refine Kept.step (Chip.correctionEffect_kept ..) (by decide) ?_
  refine Kept.step (Chip.refreshSync_kept ..) (by decide) ?_
  exact (Chip.modPred_kept ..).mono (by decide)

theorem Chip.clearQual_kept (r : Ref) (c : Chip) : Kept 0x400 c (Chip.clearQual r c) := by
  unfold Chip.clearQual
  exact (Chip.modPred_kept ..).mono (by decide)

theorem Chip.clearQualCount_kept (r : Ref) (c : Chip) : Kept 0x400 c (Chip.clearQualCount r c) := by
  unfold Chip.clearQualCount
  exact (Chip.modPred_kept ..).mono (by decide)

theorem Chip.loseActive_kept (r : Ref) (c : Chip) : Kept 0x20040000000000000000000000000010005c2 c (Chip.loseActive r c) :=
    by
  unfold Chip.loseActive
  extract_lets x0 x1
  refine Kept.ite ?_ ?_
  · subst x1
    refine Kept.step (Chip.refreshSync_kept ..) (by decide) ?_
    refine Kept.step (Chip.modPred_kept ..) (by decide) ?_
    subst x0
    exact (Chip.modPred_kept ..).mono (by decide)
  · refine Kept.step (Chip.fault_kept ..) (by decide) ?_
    subst x1
    refine Kept.step (Chip.refreshSync_kept ..) (by decide) ?_
    refine Kept.step (Chip.modPred_kept ..) (by decide) ?_
    subst x0
    exact (Chip.modPred_kept ..).mono (by decide)

theorem Chip.nextBlend_kept (r : Ref) (tm : Model) (c : Chip) : Kept 0x4000000000000000000000000000000442 c (Chip.nextBlend
    r tm c) := by
  unfold Chip.nextBlend
  exact (Chip.beginBlend_kept ..).mono (by decide)

theorem Chip.turnBlend_kept (r : Ref) (c : Chip) : Kept 0x4000000000000000000000000000000442 c (Chip.turnBlend r c) := by
  unfold Chip.turnBlend
  split
  · exact (Chip.nextBlend_kept ..).mono (by decide)
  · exact (Chip.modPred_kept ..).mono (by decide)

theorem Chip.loseTarget_kept (r : Ref) (c : Chip) : Kept 0x20040000000000000000000000000010005c2 c (Chip.loseTarget r c) :=
    by
  unfold Chip.loseTarget
  split
  · refine Kept.ite ?_ ?_
    · exact (Chip.turnBlend_kept ..).mono (by decide)
    · refine Kept.step (Chip.fault_kept ..) (by decide) ?_
      exact (Chip.turnBlend_kept ..).mono (by decide)
  · exact (Chip.loseActive_kept ..).mono (by decide)

theorem Chip.checkLoss_kept (c : Chip) : Kept 0x20040000000000000000000000000010005c2 c (Chip.checkLoss c) := by
  unfold Chip.checkLoss
  extract_lets x0
  split
  · subst x0
    refine Kept.foldl (fun _ _ => ?_) ?_
    · refine Kept.ite ?_ ?_
      · exact Kept.rfl
      · exact (Chip.clearQual_kept ..).mono (by decide)
    · exact Kept.rfl
  · refine Kept.ite ?_ ?_
    · refine Kept.ite ?_ ?_
      · refine Kept.step (Chip.loseTarget_kept ..) (by decide) ?_
        subst x0
        refine Kept.foldl (fun _ _ => ?_) ?_
        · refine Kept.ite ?_ ?_
          · exact Kept.rfl
          · exact (Chip.clearQual_kept ..).mono (by decide)
        · exact Kept.rfl
      · refine Kept.step (Chip.loseActive_kept ..) (by decide) ?_
        subst x0
        refine Kept.foldl (fun _ _ => ?_) ?_
        · refine Kept.ite ?_ ?_
          · exact Kept.rfl
          · exact (Chip.clearQual_kept ..).mono (by decide)
        · exact Kept.rfl
    · refine Kept.ite ?_ ?_
      · subst x0
        refine Kept.foldl (fun _ _ => ?_) ?_
        · refine Kept.ite ?_ ?_
          · exact Kept.rfl
          · exact (Chip.clearQual_kept ..).mono (by decide)
        · exact Kept.rfl
      · split
        · refine Kept.ite ?_ ?_
          · subst x0
            refine Kept.foldl (fun _ _ => ?_) ?_
            · refine Kept.ite ?_ ?_
              · exact Kept.rfl
              · exact (Chip.clearQual_kept ..).mono (by decide)
            · exact Kept.rfl
          · refine Kept.step (Chip.modPred_kept ..) (by decide) ?_
            subst x0
            refine Kept.foldl (fun _ _ => ?_) ?_
            · refine Kept.ite ?_ ?_
              · exact Kept.rfl
              · exact (Chip.clearQual_kept ..).mono (by decide)
            · exact Kept.rfl
        · subst x0
          refine Kept.foldl (fun _ _ => ?_) ?_
          · refine Kept.ite ?_ ?_
            · exact Kept.rfl
            · exact (Chip.clearQual_kept ..).mono (by decide)
          · exact Kept.rfl

theorem Chip.qualify_kept (r : Ref) (a : Int) (t : Int) (tm : Option Model) (c : Chip) : Kept
    0x20040000000000000000000000000010005c2 c (Chip.qualify r a t tm c) := by
  unfold Chip.qualify
  extract_lets x0 x1 x2 x3 x4 x5 x6 x7 x8
  refine Kept.ite ?_ ?_
  · refine Kept.ite ?_ ?_
    · refine Kept.ite ?_ ?_
      · refine Kept.ite ?_ ?_
        · split
          · refine Kept.step (Chip.nextBlend_kept ..) (by decide) ?_
            subst x5
            exact (Chip.modPred_kept ..).mono (by decide)
          · refine Kept.step (Chip.modPred_kept ..) (by decide) ?_
            subst x5
            exact (Chip.modPred_kept ..).mono (by decide)
        · refine Kept.step (Chip.modPred_kept ..) (by decide) ?_
          subst x5
          exact (Chip.modPred_kept ..).mono (by decide)
      · split
        · refine Kept.step (Chip.switchAtOnce_kept ..) (by decide) ?_
          subst x5
          exact (Chip.modPred_kept ..).mono (by decide)
        · subst x5
          exact (Chip.modPred_kept ..).mono (by decide)
    · subst x5
      exact (Chip.modPred_kept ..).mono (by decide)
  · subst x5
    exact (Chip.modPred_kept ..).mono (by decide)

theorem Chip.anchorActive_kept (r : Ref) (a : Int) (t : Int) (entry : Nat) (c : Chip) : Kept 0x400 c (Chip.anchorActive r a
    t entry c) := by
  unfold Chip.anchorActive
  extract_lets x0
  exact (Chip.modPred_kept ..).mono (by decide)

theorem Chip.countForward_kept (feature : Bool) (c : Chip) : Kept 0x400 c (Chip.countForward feature c) := by
  unfold Chip.countForward
  refine Kept.ite ?_ ?_
  · extract_lets x0
    refine Kept.ite ?_ ?_
    · refine Kept.step (Chip.modPred_kept ..) (by decide) ?_
      subst x0
      exact (Chip.modPred_kept ..).mono (by decide)
    · subst x0
      exact (Chip.modPred_kept ..).mono (by decide)
  · exact Kept.rfl

theorem Chip.endForwardRun_kept (r : Ref) (c : Chip) : Kept 0x400 c (Chip.endForwardRun r c) := by
  unfold Chip.endForwardRun
  refine Kept.ite ?_ ?_
  · exact (Chip.modPred_kept ..).mono (by decide)
  · exact Kept.rfl

theorem Chip.edgeToPredictor_kept (n : Nat) (t : Int) (feature : Bool) (c : Chip) : Kept
    0x20040000000000000000000000000010005c2 c (Chip.edgeToPredictor n t feature c) := by
  unfold Chip.edgeToPredictor
  split
  · refine Kept.ite ?_ ?_
    · exact Kept.rfl
    · extract_lets x0 x1 x2 x3
      split
      · split
        · exact (Chip.startWith_kept ..).mono (by decide)
        · exact Kept.rfl
      · refine Kept.ite ?_ ?_
        · refine Kept.step (Chip.countForward_kept ..) (by decide) ?_
          exact (Chip.anchorActive_kept ..).mono (by decide)
        · refine Kept.ite ?_ ?_
          · split
            · exact (Chip.beginBlend_kept ..).mono (by decide)
            · exact Kept.rfl
          · refine Kept.step (Chip.qualify_kept ..) (by decide) ?_
            subst x3
            refine Kept.ite ?_ ?_
            · exact (Chip.anchorActive_kept ..).mono (by decide)
            · exact Kept.rfl
  · exact Kept.rfl

theorem Chip.turnModels_kept (t : Int) (c : Chip) : Kept 0x400 c (Chip.turnModels t c) := by
  unfold Chip.turnModels
  extract_lets x0 x1
  exact (Chip.modPred_kept ..).mono (by decide)

theorem Chip.turnAbout_kept (r : Ref) (a : Int) (t : Int) (d : Int) (dist : Int) (entry : Nat) (c : Chip) : Kept 0x400 c
    (Chip.turnAbout r a t d dist entry c) := by
  unfold Chip.turnAbout
  extract_lets x0 x1 x2
  exact (Chip.modPred_kept ..).mono (by decide)

theorem Chip.advanceTheta_kept (t : Int) (c : Chip) : Kept 0x4000000000000000000000000000000402 c (Chip.advanceTheta t c) :=
    by
  unfold Chip.advanceTheta
  split
  · exact (Chip.modPred_kept ..).mono (by decide)
  · extract_lets x0 x1 x2 x3
    refine Kept.ite ?_ ?_
    · refine Kept.step (Chip.modPred_kept ..) (by decide) ?_
      subst x3
      refine Kept.ite ?_ ?_
      · exact Kept.rfl
      · exact (Kept.incFld_name .predCounts 0 0 (Eq.refl _)).mono (by decide)
    · exact (Chip.modPred_kept ..).mono (by decide)

theorem Chip.freshTheta_kept (c : Chip) : Kept 0x4000000000000000000000000000000402 c (Chip.freshTheta c) := by
  unfold Chip.freshTheta
  split
  · exact (Chip.advanceTheta_kept ..).mono (by decide)
  · extract_lets x0 x1 x2 x3 x4
    exact (Chip.modPred_kept ..).mono (by decide)

theorem Chip.endBlend_kept (c : Chip) : Kept 0x400 c (Chip.endBlend c) := by
  unfold Chip.endBlend
  split
  · refine Kept.ite ?_ ?_
    · exact (Chip.modPred_kept ..).mono (by decide)
    · exact Kept.rfl
  · exact Kept.rfl

theorem Chip.countTravel_kept (k : Nat) (c : Chip) : Kept 0x400 c (Chip.countTravel k c) := by
  unfold Chip.countTravel
  split
  · extract_lets x0 x1
    exact (Chip.modPred_kept ..).mono (by decide)
  · exact Kept.rfl

theorem Chip.publishRegs_kept (c : Chip) : Kept 0x780000000000000000000000000000002 c (Chip.publishRegs c) := by
  unfold Chip.publishRegs
  extract_lets x0 x1 x2 x3 x4
  split
  · refine Kept.step (Kept.put_name .predAccel 0 0 (Eq.refl _)) (by decide) ?_
    refine Kept.step (Kept.put_name .predW 0 0 (Eq.refl _)) (by decide) ?_
    subst x3
    refine Kept.step (Kept.put_name .predSigma 0 0 (Eq.refl _)) (by decide) ?_
    subst x2
    exact (Kept.put_name .predStatus 0 0 (Eq.refl _)).mono (by decide)
  · extract_lets x5
    refine Kept.step (Kept.put_name .predAccel 0 0 (Eq.refl _)) (by decide) ?_
    refine Kept.step (Kept.put_name .predW 0 0 (Eq.refl _)) (by decide) ?_
    subst x3
    refine Kept.step (Kept.put_name .predSigma 0 0 (Eq.refl _)) (by decide) ?_
    subst x2
    exact (Kept.put_name .predStatus 0 0 (Eq.refl _)).mono (by decide)

theorem Chip.publish_kept (c : Chip) : Kept 0x20 c (Chip.publish c) := by
  unfold Chip.publish
  extract_lets x0 x1
  exact Kept.pub_set.mono (by decide)

theorem Chip.countQuiet_kept (before : Int) (c : Chip) : Kept 0x200 c (Chip.countQuiet before c) := by
  unfold Chip.countQuiet
  extract_lets x0
  refine Kept.foldl (fun _ _ => ?_) ?_
  · exact (Chip.modWheel_kept ..).mono (by decide)
  · exact Kept.rfl

theorem Chip.phaseA_kept (c : Chip) : Kept 0x20047800000000000000000000000010007e2 c (Chip.phaseA c) := by
  unfold Chip.phaseA
  extract_lets x0 x1 x2 x3 x4 x5 x6 x7 x8
  refine Kept.step (Chip.publishRegs_kept ..) (by decide) ?_
  refine Kept.step (Chip.publish_kept ..) (by decide) ?_
  refine Kept.doIf (fun _ => ?_) ?_
  · exact (Chip.countQuiet_kept ..).mono (by decide)
  · subst x8
    refine Kept.step (Chip.modPred_kept ..) (by decide) ?_
    subst x5
    refine Kept.step (Chip.endBlend_kept ..) (by decide) ?_
    refine Kept.step (Chip.countTravel_kept ..) (by decide) ?_
    refine Kept.step (Chip.modPred_kept ..) (by decide) ?_
    subst x3
    refine Kept.ite ?_ ?_
    · refine Kept.step (Chip.freshTheta_kept ..) (by decide) ?_
      subst x1
      refine Kept.step (Chip.checkLoss_kept ..) (by decide) ?_
      exact (Chip.modPred_kept ..).mono (by decide)
    · refine Kept.foldl (fun _ _ => ?_) ?_
      · exact (Chip.advanceTheta_kept ..).mono (by decide)
      · subst x1
        refine Kept.step (Chip.checkLoss_kept ..) (by decide) ?_
        exact (Chip.modPred_kept ..).mono (by decide)

end Sys2Proof.Machine
end

