-- ==== Sys2Proof/Laws/KeptWheels.lean ====
section
/-!
SUPPORT. The frame laws (`Kept`) of the operations of Machine/Wheels.lean.
-/

namespace Sys2Proof.Machine

theorem Chip.modRows_kept (f : List LogRow → List LogRow) (c : Chip) : Kept 0x4 c (Chip.modRows f c) := by
  have h : Kept 4 c { c with win := { c.win with rows := f c.win.rows } } :=
    Kept.latch_of (Eq.refl _) (Eq.refl _) (Eq.refl _) (Eq.refl _)
  exact h

theorem Chip.writeRow_kept (ws : List (Nat × Nat)) (c : Chip) : Kept 0x4 c (Chip.writeRow ws c) := by
  unfold Chip.writeRow
  extract_lets x0 x1 x2
  have h : Kept 4 c x2 := Kept.putRecord_off (by unfold Chip.edgeLog; omega)
  refine Kept.ite ?_ ?_
  · refine Kept.step (Kept.putWin16_off (by unfold Chip.edgeLog; omega)) (by decide) ?_
    exact h.trans (Kept.putWin16_off (by unfold Chip.edgeLog; omega))
  · exact h.trans (Kept.putWin16_off (by unfold Chip.edgeLog; omega))

theorem Chip.rejectEdge_kept (n : Nat) (e : EdgeIn) (c : Chip) : Kept 0x20000100000000000000000000000010003c2 c
    (Chip.rejectEdge n e c) := by
  unfold Chip.rejectEdge
  extract_lets x0
  refine Kept.ite ?_ ?_
  · refine Kept.step (Chip.fault_kept ..) (by decide) ?_
    refine Kept.step (Chip.modWheel_kept ..) (by decide) ?_
    subst x0
    refine Kept.step (Chip.modWheel_kept ..) (by decide) ?_
    exact (Kept.incFld_name .wheelCounts _ 0 (Eq.refl _)).mono (by decide)
  · subst x0
    refine Kept.step (Chip.modWheel_kept ..) (by decide) ?_
    exact (Kept.incFld_name .wheelCounts _ 0 (Eq.refl _)).mono (by decide)

theorem Chip.checkAmplitude_kept (n : Nat) (peak : Nat) (c : Chip) : Kept 0x20000080000000000000000000000010003c2 c
    (Chip.checkAmplitude n peak c) := by
  unfold Chip.checkAmplitude
  refine Kept.ite ?_ ?_
  · exact Kept.rfl
  · extract_lets x0 x1
    refine Kept.ite ?_ ?_
    · refine Kept.step (Chip.fault_kept ..) (by decide) ?_
      refine Kept.step (Kept.setFlag_name .wheelStatus _ 0 (Eq.refl _)) (by decide) ?_
      subst x1
      exact (Chip.modWheel_kept ..).mono (by decide)
    · refine Kept.ite ?_ ?_
      · refine Kept.step (Kept.setFlag_name .wheelStatus _ 0 (Eq.refl _)) (by decide) ?_
        subst x1
        exact (Chip.modWheel_kept ..).mono (by decide)
      · subst x1
        exact (Chip.modWheel_kept ..).mono (by decide)

theorem Chip.notePair_kept (n : Nat) (e : EdgeIn) (c : Chip) : Kept 0x80000 c (Chip.notePair n e c) := by
  unfold Chip.notePair
  refine Kept.ite ?_ ?_
  · exact Kept.rfl
  · extract_lets x0
    exact (Chip.modTwin_kept ..).mono (by decide)

theorem Chip.showAmpl_kept (n : Nat) (c : Chip) : Kept 0x8000000000000000000000000000002 c (Chip.showAmpl n c) := by
  unfold Chip.showAmpl
  exact (Kept.setFld_name .wheelStatus _ 0 (Eq.refl _)).mono (by decide)

theorem Chip.acceptEdge_kept (n : Nat) (e : EdgeIn) (c : Chip) : Kept 0x20000280000000000000000000100010803c2 c
    (Chip.acceptEdge n e c) := by
  unfold Chip.acceptEdge
  extract_lets x0 x1 x2 x3 x4
  refine Kept.ite ?_ ?_
  · subst x4
    refine Kept.step (Chip.notePair_kept ..) (by decide) ?_
    subst x3
    refine Kept.step (Chip.modWheel_kept ..) (by decide) ?_
    refine Kept.step (Chip.checkAmplitude_kept ..) (by decide) ?_
    subst x2
    refine Kept.step (Kept.setFlag_name .wheelStatus _ 0 (Eq.refl _)) (by decide) ?_
    refine Kept.step (Chip.showAmpl_kept ..) (by decide) ?_
    refine Kept.step (Kept.put_name .wheelEdges _ 0 (Eq.refl _)) (by decide) ?_
    subst x1
    exact (Chip.modWheel_kept ..).mono (by decide)
  · refine Kept.step (Kept.setFlag_name .pwrState 0 0 (Eq.refl _)) (by decide) ?_
    subst x4
    refine Kept.step (Chip.notePair_kept ..) (by decide) ?_
    subst x3
    refine Kept.step (Chip.modWheel_kept ..) (by decide) ?_
    refine Kept.step (Chip.checkAmplitude_kept ..) (by decide) ?_
    subst x2
    refine Kept.step (Kept.setFlag_name .wheelStatus _ 0 (Eq.refl _)) (by decide) ?_
    refine Kept.step (Chip.showAmpl_kept ..) (by decide) ?_
    refine Kept.step (Kept.put_name .wheelEdges _ 0 (Eq.refl _)) (by decide) ?_
    subst x1
    exact (Chip.modWheel_kept ..).mono (by decide)

theorem Chip.noteWrote_kept (n : Nat) (c : Chip) : Kept 0x80000 c (Chip.noteWrote n c) := by
  unfold Chip.noteWrote
  exact (Chip.modTwin_kept ..).mono (by decide)

theorem Chip.matchLearned_kept (n : Nat) (cnt : Nat) (c : Chip) : Kept 0x2000000000000000000000000000001080bc6 c
    (Chip.matchLearned n cnt c) := by
  unfold Chip.matchLearned
  extract_lets x0 x1
  refine Kept.ite ?_ ?_
  · exact Kept.rfl
  · refine Kept.ite ?_ ?_
    · refine Kept.ite ?_ ?_
      · subst x1
        exact (Chip.engineCheck_kept ..).mono (by decide)
      · subst x0
        dsimp only
        refine Kept.step (Chip.modWheel_kept ..) (by decide) ?_
        refine Kept.step (Chip.noteWrote_kept ..) (by decide) ?_
        refine Kept.step (Kept.putWords_off (by unfold Chip.learnOff; omega)) (by decide) ?_
        refine Kept.doIf (fun _ => ?_) ?_
        · exact (Chip.fault_kept ..).mono (by decide)
        · subst x1
          exact (Chip.engineCheck_kept ..).mono (by decide)
    · refine Kept.ite ?_ ?_
      · exact Kept.rfl
      · subst x0
        dsimp only
        exact (Chip.modWheel_kept ..).mono (by decide)

theorem Chip.takeTooth_kept (n : Nat) (c : Chip) : Kept 0x2000008000000000000000000000001080fc6 c (Chip.takeTooth n c) := by
  unfold Chip.takeTooth
  refine Kept.ite ?_ ?_
  · refine Kept.step (Kept.setFld_name .wheelStatus _ 0 (Eq.refl _)) (by decide) ?_
    refine Kept.step (Chip.modWheel_kept ..) (by decide) ?_
    refine Kept.step (Kept.setFld_name .wheelStatus _ 0 (Eq.refl _)) (by decide) ?_
    exact (Chip.dropChoice_kept ..).mono (by decide)
  · extract_lets x0 x1 x2 x3
    refine Kept.ite ?_ ?_
    · refine Kept.step (Chip.restartInput_kept ..) (by decide) ?_
      refine Kept.step (Chip.modWheel_kept ..) (by decide) ?_
      subst x1
      subst x0
      exact (Chip.engineCheck_kept ..).mono (by decide)
    · refine Kept.ite ?_ ?_
      · refine Kept.step (Chip.restartInput_kept ..) (by decide) ?_
        refine Kept.step (Chip.matchLearned_kept ..) (by decide) ?_
        refine Kept.step (Chip.modWheel_kept ..) (by decide) ?_
        subst x1
        subst x0
        exact (Chip.engineCheck_kept ..).mono (by decide)
      · refine Kept.step (Chip.fault_kept ..) (by decide) ?_
        refine Kept.step (Chip.restartInput_kept ..) (by decide) ?_
        refine Kept.step (Chip.modWheel_kept ..) (by decide) ?_
        refine Kept.step (Kept.setFld_name .wheelStatus _ 0 (Eq.refl _)) (by decide) ?_
        subst x1
        subst x0
        exact (Chip.engineCheck_kept ..).mono (by decide)

theorem Chip.takeLearned_kept (n : Nat) (c : Chip) : Kept 0x2000000000000000000000000000001000bc6 c (Chip.takeLearned n c)
    := by
  unfold Chip.takeLearned
  refine Kept.ite ?_ ?_
  · exact Kept.rfl
  · extract_lets x0 x1 x2 x3 x4
    refine Kept.ite ?_ ?_
    · refine Kept.step (Chip.modWheel_kept ..) (by decide) ?_
      subst x1
      subst x0
      exact (Chip.engineCheck_kept ..).mono (by decide)
    · refine Kept.ite ?_ ?_
      · subst x4
        refine Kept.step (Chip.modWheel_kept ..) (by decide) ?_
        subst x1
        subst x0
        exact (Chip.engineCheck_kept ..).mono (by decide)
      · refine Kept.step (Chip.fault_kept ..) (by decide) ?_
        subst x4
        refine Kept.step (Chip.modWheel_kept ..) (by decide) ?_
        subst x1
        subst x0
        exact (Chip.engineCheck_kept ..).mono (by decide)

theorem Chip.retarget_kept (c : Chip) : Kept 0x4000000000000000000000000000000442 c (Chip.retarget c) := by
  unfold Chip.retarget
  split
  · exact Kept.rfl
  · refine Kept.ite ?_ ?_
    · split
      · exact (Chip.turnBlend_kept ..).mono (by decide)
      · exact Kept.rfl
    · exact (Chip.modPred_kept ..).mono (by decide)

theorem Chip.adoptRefConfig_kept (k : RefConfig) (c : Chip) : Kept 0x4000000000000000000000000000000442 c
    (Chip.adoptRefConfig k c) := by
  unfold Chip.adoptRefConfig
  refine Kept.step (Chip.retarget_kept ..) (by decide) ?_
  exact (Chip.modPred_kept ..).mono (by decide)

theorem Chip.takeRefConfig_kept (c : Chip) : Kept 0x2004000000000000000000000000001000dc6 c (Chip.takeRefConfig c) := by
  unfold Chip.takeRefConfig
  refine Kept.ite ?_ ?_
  · exact Kept.rfl
  · extract_lets x0 x1 x2
    refine Kept.ite ?_ ?_
    · refine Kept.step (Chip.adoptRefConfig_kept ..) (by decide) ?_
      subst x1
      exact (Chip.engineCheck_kept ..).mono (by decide)
    · refine Kept.ite ?_ ?_
      · refine Kept.step (Chip.adoptRefConfig_kept ..) (by decide) ?_
        subst x2
        refine Kept.step (Chip.engineCheck_kept ..) (by decide) ?_
        subst x1
        exact (Chip.engineCheck_kept ..).mono (by decide)
      · refine Kept.step (Chip.fault_kept ..) (by decide) ?_
        subst x2
        refine Kept.step (Chip.engineCheck_kept ..) (by decide) ?_
        subst x1
        exact (Chip.engineCheck_kept ..).mono (by decide)

theorem Chip.assignPhase_kept (upper : Bool) (c : Chip) : Kept 0x4000000000000000000000000000000442 c (Chip.assignPhase
    upper c) := by
  unfold Chip.assignPhase
  extract_lets x0
  refine Kept.step (Chip.refreshSync_kept ..) (by decide) ?_
  exact (Chip.modPred_kept ..).mono (by decide)

theorem Chip.camAssign_kept (n : Nat) (tb : ToothTable) (e : EdgeIn) (c : Chip) : Kept 0x4010000000000000000000000000000442
    c (Chip.camAssign n tb e c).2 := by
  unfold Chip.camAssign
  split
  · dsimp only
    exact (Chip.assignPhase_kept ..).mono (by decide)
  · dsimp only
    exact (Kept.incFld_name .wheelCounts _ 0 (Eq.refl _)).mono (by decide)

theorem Chip.camCheck_kept (n : Nat) (tb : ToothTable) (e : EdgeIn) (c : Chip) : Kept
    0x20040100000000000000000000000010005c2 c (Chip.camCheck n tb e c) := by
  unfold Chip.camCheck
  extract_lets x0 x1 x2 x3 x4
  refine Kept.ite ?_ ?_
  · exact (Chip.modPred_kept ..).mono (by decide)
  · refine Kept.ite ?_ ?_
    · exact Kept.rfl
    · refine Kept.ite ?_ ?_
      · refine Kept.step (Chip.correct_kept ..) (by decide) ?_
        refine Kept.step (Chip.modPred_kept ..) (by decide) ?_
        subst x4
        refine Kept.step (Chip.fault_kept ..) (by decide) ?_
        refine Kept.step (Kept.incFld_name .wheelCounts _ 0 (Eq.refl _)) (by decide) ?_
        exact (Chip.modPred_kept ..).mono (by decide)
      · subst x4
        refine Kept.step (Chip.fault_kept ..) (by decide) ?_
        refine Kept.step (Kept.incFld_name .wheelCounts _ 0 (Eq.refl _)) (by decide) ?_
        exact (Chip.modPred_kept ..).mono (by decide)

theorem Chip.camMatched_kept (n : Nat) (tb : ToothTable) (e : EdgeIn) (c : Chip) : Kept 0x4000000000000000000000000000000442
    c (Chip.camMatched n tb e c) := by
  unfold Chip.camMatched
  extract_lets x0 x1 x2 x3
  refine Kept.ite ?_ ?_
  · refine Kept.ite ?_ ?_
    · refine Kept.step (Chip.assignPhase_kept ..) (by decide) ?_
      subst x0
      refine Kept.ite ?_ ?_
      · exact (Chip.modPred_kept ..).mono (by decide)
      · exact Kept.rfl
    · refine Kept.step (Chip.modPred_kept ..) (by decide) ?_
      subst x0
      refine Kept.ite ?_ ?_
      · exact (Chip.modPred_kept ..).mono (by decide)
      · exact Kept.rfl
  · subst x0
    refine Kept.ite ?_ ?_
    · exact (Chip.modPred_kept ..).mono (by decide)
    · exact Kept.rfl

theorem Chip.loseMatch_kept (n : Nat) (c : Chip) : Kept 0x20000080000000000000000000000010007c2 c (Chip.loseMatch n c) := by
  unfold Chip.loseMatch
  refine Kept.step (Chip.fault_kept ..) (by decide) ?_
  refine Kept.step (Kept.setFld_name .wheelStatus _ 0 (Eq.refl _)) (by decide) ?_
  exact (Chip.restartInput_kept ..).mono (by decide)

theorem Chip.writeLearned_kept (n : Nat) (tb : ToothTable) (l : List (Int × Nat)) (c : Chip) : Kept 0x1080204 c
    (Chip.writeLearned n tb l c) := by
  unfold Chip.writeLearned
  extract_lets x0 x1
  refine Kept.step (Chip.noteWrote_kept ..) (by decide) ?_
  refine Kept.step (Chip.modWheel_kept ..) (by decide) ?_
  subst x1
  exact (Chip.putRecord_kept ..).mono (by decide)

theorem Chip.readHeader_kept (n : Nat) (c : Chip) : Kept 0x2000000000000000000000000000001000bc6 c (Chip.readHeader n c) :=
    by
  unfold Chip.readHeader
  extract_lets x0
  refine Kept.ite ?_ ?_
  · subst x0
    exact (Chip.engineCheck_kept ..).mono (by decide)
  · refine Kept.step (Chip.modWheel_kept ..) (by decide) ?_
    refine Kept.step (Kept.putWords_off (by unfold Chip.learnOff; omega)) (by decide) ?_
    refine Kept.step (Chip.fault_kept ..) (by decide) ?_
    subst x0
    exact (Chip.engineCheck_kept ..).mono (by decide)

theorem Chip.endPass_kept (n : Nat) (tb : ToothTable) (ps : Pass) (t1 : Nat) (t2 : Nat) (c : Chip) : Kept
    0x2004000000000000000000000000001080bc6 c (Chip.endPass n tb ps t1 t2 c) := by
  unfold Chip.endPass
  extract_lets x0 x1 x2 x3 x4 x5 x6 x7 x8
  refine Kept.ite ?_ ?_
  · exact Kept.rfl
  · refine Kept.ite ?_ ?_
    · exact Kept.rfl
    · refine Kept.ite ?_ ?_
      · refine Kept.step (Chip.fault_kept ..) (by decide) ?_
        exact (Kept.incFld_name .predCounts 0 0 (Eq.refl _)).mono (by decide)
      · refine Kept.step (Chip.writeLearned_kept ..) (by decide) ?_
        subst x7
        exact (Chip.readHeader_kept ..).mono (by decide)

theorem Chip.learnEdge_kept (n : Nat) (j : Nat) (t : Nat) (c : Chip) : Kept 0x2004000000000000000000000000001080bc6 c
    (Chip.learnEdge n j t c) := by
  unfold Chip.learnEdge
  refine Kept.ite ?_ ?_
  · exact Kept.rfl
  · split
    · exact Kept.rfl
    · extract_lets x0
      refine Kept.ite ?_ ?_
      · subst x0
        dsimp only
        exact (Chip.modWheel_kept ..).mono (by decide)
      · refine Kept.ite ?_ ?_
        · subst x0
          dsimp only
          exact (Chip.modWheel_kept ..).mono (by decide)
        · split
          · subst x0
            dsimp only
            exact (Chip.modWheel_kept ..).mono (by decide)
          · split
            · subst x0
              dsimp only
              exact (Chip.modWheel_kept ..).mono (by decide)
            · subst x0
              dsimp only
              refine Kept.step (Chip.modWheel_kept ..) (by decide) ?_
              exact (Chip.endPass_kept ..).mono (by decide)

theorem Chip.adoptCorr_kept (n : Nat) (c : Chip) : Kept 0x200 c (Chip.adoptCorr n c) := by
  unfold Chip.adoptCorr
  exact (Chip.modWheel_kept ..).mono (by decide)

theorem Chip.noteFit_kept (n : Nat) (c : Chip) : Kept 0x200 c (Chip.noteFit n c) := by
  unfold Chip.noteFit
  exact (Chip.modWheel_kept ..).mono (by decide)

theorem Chip.fittingEdge_kept (n : Nat) (tb : ToothTable) (e : EdgeIn) (c : Chip) : Kept
    0x2004000000000000000000000000001080fc6 c (Chip.fittingEdge n tb e c) := by
  unfold Chip.fittingEdge
  extract_lets x0 x1 x2 x3 x4 x5
  refine Kept.step (Chip.learnEdge_kept ..) (by decide) ?_
  refine Kept.step (Chip.edgeToPredictor_kept ..) (by decide) ?_
  subst x0
  refine Kept.step (Chip.noteFit_kept ..) (by decide) ?_
  exact (Chip.adoptCorr_kept ..).mono (by decide)

theorem Chip.decideDir_kept (n : Nat) (tb : ToothTable) (dir : Nat) (pos : Nat) (e : EdgeIn) (c : Chip) : Kept 0x440 c
    (Chip.decideDir n tb dir pos e c) := by
  unfold Chip.decideDir
  refine Kept.ite ?_ ?_
  · exact Kept.rfl
  · extract_lets x0
    split
    · refine Kept.step (Chip.turnAbout_kept ..) (by decide) ?_
      subst x0
      exact (Chip.setDir_kept ..).mono (by decide)
    · refine Kept.step (Chip.turnModels_kept ..) (by decide) ?_
      subst x0
      exact (Chip.setDir_kept ..).mono (by decide)

theorem Chip.turnDir_kept (dir : Nat) (e : EdgeIn) (c : Chip) : Kept 0x440 c (Chip.turnDir dir e c) := by
  unfold Chip.turnDir
  refine Kept.ite ?_ ?_
  · exact Kept.rfl
  · refine Kept.step (Chip.turnModels_kept ..) (by decide) ?_
    exact (Chip.setDir_kept ..).mono (by decide)

theorem Chip.takeCandidate_kept (n : Nat) (tb : ToothTable) (e : EdgeIn) (k : Option Candidate) (c : Chip) : Kept 0x640 c
    (Chip.takeCandidate n tb e k c) := by
  unfold Chip.takeCandidate
  split
  · exact (Chip.modWheel_kept ..).mono (by decide)
  · extract_lets x0
    refine Kept.ite ?_ ?_
    · refine Kept.step (Chip.decideDir_kept ..) (by decide) ?_
      subst x0
      refine Kept.doIf (fun _ => ?_) ?_
      · exact (Chip.adoptCorr_kept ..).mono (by decide)
      · exact (Chip.modWheel_kept ..).mono (by decide)
    · subst x0
      refine Kept.doIf (fun _ => ?_) ?_
      · exact (Chip.adoptCorr_kept ..).mono (by decide)
      · exact (Chip.modWheel_kept ..).mono (by decide)

theorem Chip.rematch_kept (n : Nat) (tb : ToothTable) (e : EdgeIn) (c : Chip) : Kept 0x20040000000000000000000000000010007c2
    c (Chip.rematch n tb e c) := by
  unfold Chip.rematch
  split
  · extract_lets x0 x1 x2 x3
    refine Kept.ite ?_ ?_
    · refine Kept.step (Chip.correct_kept ..) (by decide) ?_
      subst x3
      exact (Chip.modWheel_kept ..).mono (by decide)
    · subst x3
      exact (Chip.modWheel_kept ..).mono (by decide)
  · exact (Chip.modWheel_kept ..).mono (by decide)

theorem Chip.confirmMatch_kept (n : Nat) (tb : ToothTable) (e : EdgeIn) (k : Candidate) (c : Chip) : Kept
    0x2004008000000000000000000000001080fc6 c (Chip.confirmMatch n tb e k c) := by
  unfold Chip.confirmMatch
  extract_lets x0
  refine Kept.step (Chip.fittingEdge_kept ..) (by decide) ?_
  refine Kept.step (Chip.rematch_kept ..) (by decide) ?_
  refine Kept.ite ?_ ?_
  · refine Kept.step (Chip.camMatched_kept ..) (by decide) ?_
    subst x0
    refine Kept.step (Kept.setFld_name .wheelStatus _ 0 (Eq.refl _)) (by decide) ?_
    refine Kept.step (Kept.setFld_name .wheelStatus _ 0 (Eq.refl _)) (by decide) ?_
    refine Kept.step (Chip.adoptCorr_kept ..) (by decide) ?_
    exact (Chip.modWheel_kept ..).mono (by decide)
  · subst x0
    refine Kept.step (Kept.setFld_name .wheelStatus _ 0 (Eq.refl _)) (by decide) ?_
    refine Kept.step (Kept.setFld_name .wheelStatus _ 0 (Eq.refl _)) (by decide) ?_
    refine Kept.step (Chip.adoptCorr_kept ..) (by decide) ?_
    exact (Chip.modWheel_kept ..).mono (by decide)

theorem Chip.acquireEdge_kept (n : Nat) (tb : ToothTable) (e : EdgeIn) (c : Chip) : Kept
    0x2004008000000000000000000000001080fc6 c (Chip.acquireEdge n tb e c) := by
  unfold Chip.acquireEdge
  extract_lets x0 x1 x2 x3 x4
  split
  · subst x4
    dsimp only
    subst x3
    split
    · refine Kept.ite ?_ ?_
      · refine Kept.step (Chip.confirmMatch_kept ..) (by decide) ?_
        exact (Chip.takeCandidate_kept ..).mono (by decide)
      · exact (Chip.takeCandidate_kept ..).mono (by decide)
    · exact (Chip.takeCandidate_kept ..).mono (by decide)
  · extract_lets x5 x6
    refine Kept.ite ?_ ?_
    · refine Kept.ite ?_ ?_
      · exact (Chip.confirmMatch_kept ..).mono (by decide)
      · exact (Chip.modWheel_kept ..).mono (by decide)
    · subst x4
      dsimp only
      subst x3
      split
      · refine Kept.ite ?_ ?_
        · refine Kept.step (Chip.confirmMatch_kept ..) (by decide) ?_
          exact (Chip.takeCandidate_kept ..).mono (by decide)
        · exact (Chip.takeCandidate_kept ..).mono (by decide)
      · exact (Chip.takeCandidate_kept ..).mono (by decide)

theorem Chip.matchedEdge_kept (n : Nat) (tb : ToothTable) (e : EdgeIn) (c : Chip) : Kept
    0x2004018000000000000000000000001080fc6 c (Chip.matchedEdge n tb e c).2 := by
  unfold Chip.matchedEdge
  dsimp only
  refine Kept.ite_snd ?_ ?_
  · dsimp only
    refine Kept.step (Chip.fittingEdge_kept ..) (by decide) ?_
    refine Kept.step (Chip.modWheel_kept ..) (by decide) ?_
    exact (Kept.setFld_name .wheelStatus _ 0 (Eq.refl _)).mono (by decide)
  · dsimp only
    refine Kept.ite ?_ ?_
    · refine Kept.step (Chip.loseMatch_kept ..) (by decide) ?_
      split
      · refine Kept.step (Chip.endForwardRun_kept ..) (by decide) ?_
        refine Kept.step (Chip.clearQualCount_kept ..) (by decide) ?_
        refine Kept.step (Chip.fault_kept ..) (by decide) ?_
        refine Kept.step (Chip.raise_kept ..) (by decide) ?_
        refine Kept.step (Kept.incFld_name .wheelCounts _ 0 (Eq.refl _)) (by decide) ?_
        refine Kept.step (Chip.modWheel_kept ..) (by decide) ?_
        exact (Kept.setFld_name .wheelStatus _ 0 (Eq.refl _)).mono (by decide)
      · refine Kept.step (Chip.fault_kept ..) (by decide) ?_
        refine Kept.step (Chip.raise_kept ..) (by decide) ?_
        refine Kept.step (Kept.incFld_name .wheelCounts _ 0 (Eq.refl _)) (by decide) ?_
        refine Kept.step (Chip.modWheel_kept ..) (by decide) ?_
        exact (Kept.setFld_name .wheelStatus _ 0 (Eq.refl _)).mono (by decide)
    · refine Kept.step (Chip.learnEdge_kept ..) (by decide) ?_
      split
      · refine Kept.step (Chip.endForwardRun_kept ..) (by decide) ?_
        refine Kept.step (Chip.clearQualCount_kept ..) (by decide) ?_
        refine Kept.step (Chip.fault_kept ..) (by decide) ?_
        refine Kept.step (Chip.raise_kept ..) (by decide) ?_
        refine Kept.step (Kept.incFld_name .wheelCounts _ 0 (Eq.refl _)) (by decide) ?_
        refine Kept.step (Chip.modWheel_kept ..) (by decide) ?_
        exact (Kept.setFld_name .wheelStatus _ 0 (Eq.refl _)).mono (by decide)
      · refine Kept.step (Chip.fault_kept ..) (by decide) ?_
        refine Kept.step (Chip.raise_kept ..) (by decide) ?_
        refine Kept.step (Kept.incFld_name .wheelCounts _ 0 (Eq.refl _)) (by decide) ?_
        refine Kept.step (Chip.modWheel_kept ..) (by decide) ?_
        exact (Kept.setFld_name .wheelStatus _ 0 (Eq.refl _)).mono (by decide)

theorem Chip.quadEdge_kept (tb : ToothTable) (e : EdgeIn) (quad : Option Nat) (c : Chip) : Kept 0x640 c (Chip.quadEdge tb e
    quad c) := by
  unfold Chip.quadEdge
  split
  · refine Kept.step (Chip.decideDir_kept ..) (by decide) ?_
    refine Kept.doIf (fun _ => ?_) ?_
    · exact (Chip.adoptCorr_kept ..).mono (by decide)
    · exact Kept.rfl
  · exact Kept.rfl

theorem Chip.commitWheel_kept (a : Nat) (v : DWord) (c : Chip) : Kept 0x4008000000000000000000000080000642 c
    (Chip.commitWheel a v c) := by
  unfold Chip.commitWheel
  extract_lets x0 x1
  refine Kept.ite ?_ ?_
  · refine Kept.ite ?_ ?_
    · subst x1
      exact (Chip.storeMasked_kept ..).mono (by decide)
    · refine Kept.step (Chip.restartAll_kept ..) (by decide) ?_
      subst x1
      exact (Chip.storeMasked_kept ..).mono (by decide)
  · split
    · refine Kept.ite ?_ ?_
      · subst x1
        exact (Chip.storeMasked_kept ..).mono (by decide)
      · refine Kept.step (Chip.restartInput_kept ..) (by decide) ?_
        refine Kept.step (Chip.showAmpl_kept ..) (by decide) ?_
        refine Kept.step (Chip.modWheel_kept ..) (by decide) ?_
        subst x1
        exact (Chip.storeMasked_kept ..).mono (by decide)
    · subst x1
      exact (Chip.storeMasked_kept ..).mono (by decide)

theorem Chip.checkPasses_kept (c : Chip) : Kept 0x200 c (Chip.checkPasses c) := by
  unfold Chip.checkPasses
  refine Kept.foldl (fun _ _ => ?_) ?_
  · refine Kept.ite ?_ ?_
    · exact (Chip.modWheel_kept ..).mono (by decide)
    · exact Kept.rfl
  · exact Kept.rfl

theorem Chip.switchClock_kept (c : Chip) : Kept 0x800000000000000000000000000000080a c (Chip.switchClock c) := by
  unfold Chip.switchClock
  extract_lets x0 x1
  refine Kept.step Kept.tb_set (by decide) ?_
  subst x0
  refine Kept.step (Kept.setFld_name .clockMon 0 0 (Eq.refl _)) (by decide) ?_
  exact (Chip.useFree_kept ..).mono (by decide)

theorem Chip.flushRows_kept (c : Chip) : Kept 0x4 c (Chip.flushRows c) := by
  unfold Chip.flushRows
  refine Kept.foldl (fun _ _ => ?_) ?_
  · exact (Chip.writeRow_kept ..).mono (by decide)
  · exact (Chip.modRows_kept ..).mono (by decide)

theorem Chip.logEdge_kept (n : Nat) (e : EdgeIn) (misfit : Bool) (isMatched : Bool) (pos : Nat) (c : Chip) : Kept 0x4 c
    (Chip.logEdge n e misfit isMatched pos c) := by
  unfold Chip.logEdge
  extract_lets x0 x1 x2 x3
  refine Kept.step (Chip.flushRows_kept ..) (by decide) ?_
  exact (Chip.modRows_kept ..).mono (by decide)

theorem Chip.takeAccepted_kept (n : Nat) (tb : ToothTable) (e : EdgeIn) (quad : Option Nat) (c : Chip) : Kept
    0x2004018000000000000000000000001080fc6 c (Chip.takeAccepted n tb e quad c) := by
  unfold Chip.takeAccepted
  extract_lets x0 x1 x2 x3 x4 x5
  refine Kept.doIf (fun _ => ?_) ?_
  · exact (Chip.logEdge_kept ..).mono (by decide)
  · subst x4
    refine Kept.ite_snd ?_ ?_
    · refine Kept.ite_snd ?_ ?_
      · refine Kept.step (Chip.camAssign_kept ..) (by decide) ?_
        subst x3
        refine Kept.ite_snd ?_ ?_
        · refine Kept.step (Chip.matchedEdge_kept ..) (by decide) ?_
          subst x0
          exact (Chip.quadEdge_kept ..).mono (by decide)
        · refine Kept.ite_snd ?_ ?_
          · dsimp only
            refine Kept.step (Chip.acquireEdge_kept ..) (by decide) ?_
            subst x0
            exact (Chip.quadEdge_kept ..).mono (by decide)
          · dsimp only
            subst x0
            exact (Chip.quadEdge_kept ..).mono (by decide)
      · refine Kept.ite_snd ?_ ?_
        · dsimp only
          refine Kept.step (Chip.camCheck_kept ..) (by decide) ?_
          subst x3
          refine Kept.ite_snd ?_ ?_
          · refine Kept.step (Chip.matchedEdge_kept ..) (by decide) ?_
            subst x0
            exact (Chip.quadEdge_kept ..).mono (by decide)
          · refine Kept.ite_snd ?_ ?_
            · dsimp only
              refine Kept.step (Chip.acquireEdge_kept ..) (by decide) ?_
              subst x0
              exact (Chip.quadEdge_kept ..).mono (by decide)
            · dsimp only
              subst x0
              exact (Chip.quadEdge_kept ..).mono (by decide)
        · dsimp only
          subst x3
          refine Kept.ite_snd ?_ ?_
          · refine Kept.step (Chip.matchedEdge_kept ..) (by decide) ?_
            subst x0
            exact (Chip.quadEdge_kept ..).mono (by decide)
          · refine Kept.ite_snd ?_ ?_
            · dsimp only
              refine Kept.step (Chip.acquireEdge_kept ..) (by decide) ?_
              subst x0
              exact (Chip.quadEdge_kept ..).mono (by decide)
            · dsimp only
              subst x0
              exact (Chip.quadEdge_kept ..).mono (by decide)
    · dsimp only
      subst x3
      refine Kept.ite_snd ?_ ?_
      · refine Kept.step (Chip.matchedEdge_kept ..) (by decide) ?_
        subst x0
        exact (Chip.quadEdge_kept ..).mono (by decide)
      · refine Kept.ite_snd ?_ ?_
        · dsimp only
          refine Kept.step (Chip.acquireEdge_kept ..) (by decide) ?_
          subst x0
          exact (Chip.quadEdge_kept ..).mono (by decide)
        · dsimp only
          subst x0
          exact (Chip.quadEdge_kept ..).mono (by decide)

theorem Chip.takeGlitch_kept (n : Nat) (e : EdgeIn) (c : Chip) : Kept 0x4 c (Chip.takeGlitch n e c) := by
  unfold Chip.takeGlitch
  refine Kept.doIf (fun _ => ?_) ?_
  · exact (Chip.logEdge_kept ..).mono (by decide)
  · exact Kept.rfl

theorem Chip.takeEdge_kept (n : Nat) (c : Chip) : Kept 0x2004018000000000000000000000001080fc6 c (Chip.takeEdge n c) := by
  unfold Chip.takeEdge
  split
  · exact Kept.rfl
  · extract_lets x0 x1 x2 x3
    refine Kept.ite ?_ ?_
    · refine Kept.step (Chip.takeGlitch_kept ..) (by decide) ?_
      subst x0
      exact (Chip.modWheel_kept ..).mono (by decide)
    · split
      · refine Kept.doIf (fun _ => ?_) ?_
        · exact (Chip.logEdge_kept ..).mono (by decide)
        · refine Kept.doIf (fun _ => ?_) ?_
          · exact (Chip.turnDir_kept ..).mono (by decide)
          · subst x3
            refine Kept.step (Chip.modPred_kept ..) (by decide) ?_
            subst x1
            refine Kept.step (Chip.modWheel_kept ..) (by decide) ?_
            subst x0
            exact (Chip.modWheel_kept ..).mono (by decide)
      · refine Kept.step (Chip.takeAccepted_kept ..) (by decide) ?_
        subst x3
        refine Kept.step (Chip.modPred_kept ..) (by decide) ?_
        subst x1
        refine Kept.step (Chip.modWheel_kept ..) (by decide) ?_
        subst x0
        exact (Chip.modWheel_kept ..).mono (by decide)

theorem Chip.takeEdges_kept (limit : Nat) (c : Chip) : Kept 0x2004018000000000000000000000001080fc6 c (Chip.takeEdges limit
    c) := by
  unfold Chip.takeEdges
  refine Kept.step (Chip.flushRows_kept ..) (by decide) ?_
  refine Kept.stepN (fun _ => ?_) ?_
  · split
    · exact (Chip.takeEdge_kept ..).mono (by decide)
    · exact Kept.rfl
  · exact Kept.rfl

end Sys2Proof.Machine
end

