-- ==== Sys2Proof/Laws/KeptScheduler.lean ====
section
/-!
SUPPORT. The frame laws (`Kept`) of the operations of Machine/Scheduler.lean.
-/

namespace Sys2Proof.Machine

theorem Chip.modSched_kept (f : Sched → Sched) (c : Chip) : Kept 0x1000 c (Chip.modSched f c) := by
  unfold Chip.modSched
  exact Kept.sched_set.mono (by decide)

theorem Chip.showCache_kept (c : Chip) : Kept 0x1000000000000000000000000000000000000000000000002 c (Chip.showCache c) := by
  unfold Chip.showCache
  extract_lets x0
  refine Kept.step (Kept.setFld_name .cacheStatus 0 0 (Eq.refl _)) (by decide) ?_
  exact (Kept.setFld_name .cacheStatus 0 0 (Eq.refl _)).mono (by decide)

theorem Chip.modEntry_kept (i : Nat) (f : Entry → Entry) (c : Chip) : Kept 0x1000 c (Chip.modEntry i f c) := by
  unfold Chip.modEntry
  exact (Chip.modSched_kept ..).mono (by decide)

theorem Chip.showOrphans_kept (c : Chip) : Kept 0x10000000000000002 c (Chip.showOrphans c) := by
  unfold Chip.showOrphans
  exact (Kept.setFlag_name .schedStatus 0 0 (Eq.refl _)).mono (by decide)

theorem Chip.writeStatus_kept (i : Nat) (w : Nat) (c : Chip) : Kept 0x4000000000000000000000000000000000010000000000001046 c
    (Chip.writeStatus i w c) := by
  unfold Chip.writeStatus
  refine Kept.ite ?_ ?_
  · exact Kept.rfl
  · extract_lets x0
    refine Kept.ite ?_ ?_
    · refine Kept.step (Kept.addReg_name .cntOrphaned 0 0 (Eq.refl _)) (by decide) ?_
      refine Kept.step (Chip.raise_kept ..) (by decide) ?_
      refine Kept.step (Chip.showOrphans_kept ..) (by decide) ?_
      refine Kept.step (Chip.modSched_kept ..) (by decide) ?_
      subst x0
      exact (Kept.putWin32_off (by unfold statusOff; omega)).mono (by decide)
    · refine Kept.step (Chip.showOrphans_kept ..) (by decide) ?_
      refine Kept.step (Chip.modSched_kept ..) (by decide) ?_
      subst x0
      exact (Kept.putWin32_off (by unfold statusOff; omega)).mono (by decide)

theorem Chip.setRecord_kept (i : Nat) (r : Option Nat) (c : Chip) : Kept 0x1000 c (Chip.setRecord i r c) := by
  unfold Chip.setRecord
  exact (Chip.modSched_kept ..).mono (by decide)

theorem Chip.outcome_kept (e : Entry) (code : Nat) (detail : Nat) (count : Nat) (c : Chip) : Kept
    0x4000000000000000000000000000000000010000000000001046 c (Chip.outcome e code detail count c) := by
  unfold Chip.outcome
  extract_lets x0 x1
  refine Kept.ite ?_ ?_
  · refine Kept.step (Chip.setRecord_kept ..) (by decide) ?_
    subst x1
    refine Kept.step (Chip.modEntry_kept ..) (by decide) ?_
    exact (Chip.writeStatus_kept ..).mono (by decide)
  · subst x1
    refine Kept.step (Chip.modEntry_kept ..) (by decide) ?_
    exact (Chip.writeStatus_kept ..).mono (by decide)

theorem Chip.leaveCache_kept (i : Nat) (c : Chip) : Kept 0x4001000000000000000000000000000000010000000000001046 c
    (Chip.leaveCache i c) := by
  unfold Chip.leaveCache
  split
  · exact Kept.rfl
  · extract_lets x0
    refine Kept.ite ?_ ?_
    · refine Kept.step (Chip.outcome_kept ..) (by decide) ?_
      subst x0
      refine Kept.step (Chip.showCache_kept ..) (by decide) ?_
      exact (Chip.modSched_kept ..).mono (by decide)
    · subst x0
      refine Kept.step (Chip.showCache_kept ..) (by decide) ?_
      exact (Chip.modSched_kept ..).mono (by decide)

theorem Chip.decideOut_kept (e : Entry) (code : Nat) (detail : Nat) (count : Nat) (c : Chip) : Kept
    0x4001000000000000000000000000000000010000000000001046 c (Chip.decideOut e code detail count c) := by
  unfold Chip.decideOut
  refine Kept.step (Chip.leaveCache_kept ..) (by decide) ?_
  exact (Chip.outcome_kept ..).mono (by decide)

theorem Chip.dropOut_kept (code : Nat) (e : Entry) (c : Chip) : Kept 0x4001000000000000000000000000000000010000000000001046
    c (Chip.dropOut code e c) := by
  unfold Chip.dropOut
  extract_lets x0
  refine Kept.ite ?_ ?_
  · refine Kept.step (Chip.outcome_kept ..) (by decide) ?_
    subst x0
    refine Kept.step (Chip.showCache_kept ..) (by decide) ?_
    exact (Chip.modSched_kept ..).mono (by decide)
  · refine Kept.step (Chip.outcome_kept ..) (by decide) ?_
    subst x0
    refine Kept.step (Chip.showCache_kept ..) (by decide) ?_
    exact (Chip.modSched_kept ..).mono (by decide)

theorem Chip.reenable_kept (c : Chip) : Kept 0x800000000000000000000002002 c (Chip.reenable c) := by
  unfold Chip.reenable
  refine Kept.foldl (fun _ _ => ?_) ?_
  · split
    · extract_lets x0 x1
      refine Kept.step Kept.outs_set (by decide) ?_
      subst x0
      exact (Kept.setBit_name .injEffective 0 0 (Eq.refl _)).mono (by decide)
    · exact Kept.rfl
  · exact Kept.rfl

theorem Chip.retag_kept (i : Nat) (w : Nat) (c : Chip) : Kept 0x2000 c (Chip.retag i w c) := by
  unfold Chip.retag
  extract_lets x0 x1
  exact Kept.outs_set.mono (by decide)

theorem Chip.requestOff_kept (chan : Nat) (c : Chip) : Kept 0x1000 c (Chip.requestOff chan c) := by
  unfold Chip.requestOff
  exact (Chip.modSched_kept ..).mono (by decide)

theorem Chip.eccDrop_kept (i : Nat) (c : Chip) : Kept 0x60010000000000020000000000000000000100000000010031c6 c (Chip.eccDrop
    i c) := by
  unfold Chip.eccDrop
  extract_lets x0 x1 x2 x3 x4 x5
  refine Kept.step (Chip.fault_kept ..) (by decide) ?_
  refine Kept.step (Kept.addFld_name .cntEcc 0 0 (Eq.refl _)) (by decide) ?_
  refine Kept.step (Kept.setFlag_name .schedStatus 0 0 (Eq.refl _)) (by decide) ?_
  subst x5
  refine Kept.step (Chip.retag_kept ..) (by decide) ?_
  refine Kept.step (Chip.setRecord_kept ..) (by decide) ?_
  refine Kept.step (Chip.writeStatus_kept ..) (by decide) ?_
  subst x4
  refine Kept.step (Chip.showCache_kept ..) (by decide) ?_
  refine Kept.step (Chip.modSched_kept ..) (by decide) ?_
  subst x3
  split
  · refine Kept.doIf (fun _ => ?_) ?_
    · exact (Chip.requestOff_kept ..).mono (by decide)
    · exact Kept.rfl
  · exact Kept.rfl

theorem Chip.checkCache_kept (c : Chip) : Kept 0x60010000000000020000000000000000000100000000010031c6 c (Chip.checkCache c)
    := by
  unfold Chip.checkCache
  refine Kept.foldl (fun _ _ => ?_) ?_
  · split
    · exact Kept.rfl
    · refine Kept.step (Kept.addFld_name .cntEcc 0 0 (Eq.refl _)) (by decide) ?_
      exact (Chip.modEntry_kept ..).mono (by decide)
    · exact (Chip.eccDrop_kept ..).mono (by decide)
  · exact Kept.rfl

theorem Chip.enterCache_kept (i : Nat) (d : Desc) (cyc : Nat) (c : Chip) : Kept
    0x4001000000000000000000000000000000010000000000001046 c (Chip.enterCache i d cyc c) := by
  unfold Chip.enterCache
  extract_lets x0
  refine Kept.step (Chip.writeStatus_kept ..) (by decide) ?_
  refine Kept.step (Chip.showCache_kept ..) (by decide) ?_
  exact (Chip.modSched_kept ..).mono (by decide)

theorem Chip.admitEntry_kept (i : Nat) (d : Desc) (cyc : Nat) (c : Chip) : Kept
    0x50010000000000020000000000000000000100000000010011c6 c (Chip.admitEntry i d cyc c) := by
  unfold Chip.admitEntry
  refine Kept.ite ?_ ?_
  · exact (Chip.enterCache_kept ..).mono (by decide)
  · refine Kept.ite ?_ ?_
    · split
      · refine Kept.step (Chip.enterCache_kept ..) (by decide) ?_
        exact (Chip.dropOut_kept ..).mono (by decide)
      · refine Kept.step (Chip.fault_kept ..) (by decide) ?_
        exact (Kept.addReg_name .cntCacheFull 0 0 (Eq.refl _)).mono (by decide)
    · exact (Kept.addReg_name .cntCacheFull 0 0 (Eq.refl _)).mono (by decide)

theorem Chip.loadTested_kept (i : Nat) (d : Desc) (c : Chip) : Kept 0x2d0010000000000020000000000000000000100000000010011c6
    c (Chip.loadTested i d c) := by
  unfold Chip.loadTested
  extract_lets x0 x1 x2
  refine Kept.ite ?_ ?_
  · exact Kept.rfl
  · refine Kept.ite ?_ ?_
    · refine Kept.ite ?_ ?_
      · refine Kept.step (Kept.addReg_name .cntResyncSkip 0 0 (Eq.refl _)) (by decide) ?_
        exact (Chip.outcome_kept ..).mono (by decide)
      · exact Kept.rfl
    · refine Kept.ite ?_ ?_
      · refine Kept.step (Chip.fault_kept ..) (by decide) ?_
        refine Kept.step (Kept.addReg_name .cntInvalid 0 0 (Eq.refl _)) (by decide) ?_
        exact (Chip.outcome_kept ..).mono (by decide)
      · refine Kept.ite ?_ ?_
        · exact (Chip.outcome_kept ..).mono (by decide)
        · exact (Chip.admitEntry_kept ..).mono (by decide)

theorem Chip.loadOne_kept (i : Nat) (c : Chip) : Kept 0x2f0010000000000020000000000000000000100000000010039c6 c
    (Chip.loadOne i c) := by
  unfold Chip.loadOne
  refine Kept.ite ?_ ?_
  · exact Kept.rfl
  · extract_lets x0 x1 x2
    refine Kept.ite ?_ ?_
    · refine Kept.step (Chip.setRecord_kept ..) (by decide) ?_
      subst x0
      exact (Chip.engineCheck_kept ..).mono (by decide)
    · refine Kept.ite ?_ ?_
      · refine Kept.step (Chip.eccDrop_kept ..) (by decide) ?_
        subst x1
        exact (Chip.engineCheck_kept ..).mono (by decide)
      · refine Kept.ite ?_ ?_
        · subst x1
          exact (Chip.engineCheck_kept ..).mono (by decide)
        · refine Kept.ite ?_ ?_
          · refine Kept.step (Chip.loadTested_kept ..) (by decide) ?_
            subst x1
            exact (Chip.engineCheck_kept ..).mono (by decide)
          · subst x1
            exact (Chip.engineCheck_kept ..).mono (by decide)

theorem Chip.loadSixteen_kept (i : Nat) (c : Chip) : Kept 0x2f0010000000000020000000000000000000100000000010039c6 c
    (Chip.loadSixteen i c) := by
  unfold Chip.loadSixteen
  refine Kept.foldl (fun _ _ => ?_) ?_
  · exact (Chip.loadOne_kept ..).mono (by decide)
  · exact Kept.rfl

theorem Chip.rotatingScan_kept (c : Chip) : Kept 0x2f0010000000000020000000000000000000100000000010039c6 c
    (Chip.rotatingScan c) := by
  unfold Chip.rotatingScan
  refine Kept.step (Chip.modSched_kept ..) (by decide) ?_
  exact (Chip.loadSixteen_kept ..).mono (by decide)

theorem Chip.queueScan_kept (b : Nat) (c : Chip) : Kept 0x1000 c (Chip.queueScan b c) := by
  unfold Chip.queueScan
  exact (Chip.modSched_kept ..).mono (by decide)

theorem Chip.place_kept (x : Edge) (c : Chip) : Kept 0x10000000000000000000000000000000000000000000000001002 c (Chip.place x
    c) := by
  unfold Chip.place
  extract_lets x0
  refine Kept.ite ?_ ?_
  · refine Kept.step (Kept.addReg_name .cntWithheld 0 0 (Eq.refl _)) (by decide) ?_
    subst x0
    exact (Chip.modSched_kept ..).mono (by decide)
  · subst x0
    exact (Chip.modSched_kept ..).mono (by decide)

theorem Chip.deferEntry_kept (e : Entry) (reason : Nat) (c : Chip) : Kept
    0x4090000000000000000000000000000000010000000000001046 c (Chip.deferEntry e reason c) := by
  unfold Chip.deferEntry
  extract_lets x0 x1 x2
  refine Kept.ite ?_ ?_
  · refine Kept.step (Kept.setFlag_name .schedStatus 0 0 (Eq.refl _)) (by decide) ?_
    subst x2
    refine Kept.ite ?_ ?_
    · refine Kept.ite ?_ ?_
      · subst x1
        refine Kept.step (Chip.outcome_kept ..) (by decide) ?_
        subst x0
        exact (Chip.modEntry_kept ..).mono (by decide)
      · refine Kept.step (Kept.addReg_name .cntGateDeferred 0 0 (Eq.refl _)) (by decide) ?_
        subst x1
        refine Kept.step (Chip.outcome_kept ..) (by decide) ?_
        subst x0
        exact (Chip.modEntry_kept ..).mono (by decide)
    · refine Kept.ite ?_ ?_
      · subst x1
        refine Kept.step (Chip.outcome_kept ..) (by decide) ?_
        subst x0
        exact (Chip.modEntry_kept ..).mono (by decide)
      · refine Kept.step (Kept.addReg_name .cntBDeferred 0 0 (Eq.refl _)) (by decide) ?_
        subst x1
        refine Kept.step (Chip.outcome_kept ..) (by decide) ?_
        subst x0
        exact (Chip.modEntry_kept ..).mono (by decide)
  · subst x2
    refine Kept.ite ?_ ?_
    · refine Kept.ite ?_ ?_
      · subst x1
        refine Kept.step (Chip.outcome_kept ..) (by decide) ?_
        subst x0
        exact (Chip.modEntry_kept ..).mono (by decide)
      · refine Kept.step (Kept.addReg_name .cntGateDeferred 0 0 (Eq.refl _)) (by decide) ?_
        subst x1
        refine Kept.step (Chip.outcome_kept ..) (by decide) ?_
        subst x0
        exact (Chip.modEntry_kept ..).mono (by decide)
    · refine Kept.ite ?_ ?_
      · subst x1
        refine Kept.step (Chip.outcome_kept ..) (by decide) ?_
        subst x0
        exact (Chip.modEntry_kept ..).mono (by decide)
      · refine Kept.step (Kept.addReg_name .cntBDeferred 0 0 (Eq.refl _)) (by decide) ?_
        subst x1
        refine Kept.step (Chip.outcome_kept ..) (by decide) ?_
        subst x0
        exact (Chip.modEntry_kept ..).mono (by decide)

theorem Chip.gateExpires_kept (e : Entry) (c : Chip) : Kept 0x41010000000000020000000000000000000100000000010011c6 c
    (Chip.gateExpires e c) := by
  unfold Chip.gateExpires
  extract_lets x0
  refine Kept.ite ?_ ?_
  · refine Kept.step (Chip.fault_kept ..) (by decide) ?_
    subst x0
    refine Kept.step (Kept.addReg_name .cntGateRefused 0 0 (Eq.refl _)) (by decide) ?_
    exact (Chip.decideOut_kept ..).mono (by decide)
  · subst x0
    refine Kept.step (Kept.addReg_name .cntGateRefused 0 0 (Eq.refl _)) (by decide) ?_
    exact (Chip.decideOut_kept ..).mono (by decide)

theorem Chip.gateFails_kept (e : Entry) (c : Chip) : Kept 0x41910000000000020000000000000000000100000000010011c6 c
    (Chip.gateFails e c) := by
  unfold Chip.gateFails
  refine Kept.ite ?_ ?_
  · refine Kept.step (Kept.addReg_name .cntGateRefused 0 0 (Eq.refl _)) (by decide) ?_
    exact (Chip.decideOut_kept ..).mono (by decide)
  · refine Kept.ite ?_ ?_
    · exact (Chip.gateExpires_kept ..).mono (by decide)
    · exact (Chip.deferEntry_kept ..).mono (by decide)

theorem Chip.commitStart_kept (e : Entry) (st : Nat) (q : Int) (c : Chip) : Kept
    0x14204000000000000000000000000000000010000000000001046 c (Chip.commitStart e st q c) := by
  unfold Chip.commitStart
  extract_lets x0 x1 x2 x3 x4 x5 x6 x7 x8 x9 x10 x11 x12 x13 x14 x15
  subst x10
  split
  · refine Kept.step (Chip.place_kept ..) (by decide) ?_
    subst x15
    refine Kept.step (Chip.place_kept ..) (by decide) ?_
    subst x14
    refine Kept.step (Chip.modEntry_kept ..) (by decide) ?_
    subst x8
    refine Kept.ite ?_ ?_
    · refine Kept.step (Kept.addReg_name .cntLateFired 0 0 (Eq.refl _)) (by decide) ?_
      subst x7
      refine Kept.ite ?_ ?_
      · refine Kept.step (Kept.addReg_name .cntALate 0 0 (Eq.refl _)) (by decide) ?_
        refine Kept.step (Kept.setFlag_name .schedStatus 0 0 (Eq.refl _)) (by decide) ?_
        subst x6
        exact (Chip.outcome_kept ..).mono (by decide)
      · subst x6
        exact (Chip.outcome_kept ..).mono (by decide)
    · subst x7
      refine Kept.ite ?_ ?_
      · refine Kept.step (Kept.addReg_name .cntALate 0 0 (Eq.refl _)) (by decide) ?_
        refine Kept.step (Kept.setFlag_name .schedStatus 0 0 (Eq.refl _)) (by decide) ?_
        subst x6
        exact (Chip.outcome_kept ..).mono (by decide)
      · subst x6
        exact (Chip.outcome_kept ..).mono (by decide)
  · subst x15
    refine Kept.step (Chip.place_kept ..) (by decide) ?_
    subst x14
    refine Kept.step (Chip.modEntry_kept ..) (by decide) ?_
    subst x8
    refine Kept.ite ?_ ?_
    · refine Kept.step (Kept.addReg_name .cntLateFired 0 0 (Eq.refl _)) (by decide) ?_
      subst x7
      refine Kept.ite ?_ ?_
      · refine Kept.step (Kept.addReg_name .cntALate 0 0 (Eq.refl _)) (by decide) ?_
        refine Kept.step (Kept.setFlag_name .schedStatus 0 0 (Eq.refl _)) (by decide) ?_
        subst x6
        exact (Chip.outcome_kept ..).mono (by decide)
      · subst x6
        exact (Chip.outcome_kept ..).mono (by decide)
    · subst x7
      refine Kept.ite ?_ ?_
      · refine Kept.step (Kept.addReg_name .cntALate 0 0 (Eq.refl _)) (by decide) ?_
        refine Kept.step (Kept.setFlag_name .schedStatus 0 0 (Eq.refl _)) (by decide) ?_
        subst x6
        exact (Chip.outcome_kept ..).mono (by decide)
      · subst x6
        exact (Chip.outcome_kept ..).mono (by decide)

theorem Chip.capExpires_kept (e : Entry) (c : Chip) : Kept 0x4021000000000000000000000000000000010000000000001046 c
    (Chip.capExpires e c) := by
  unfold Chip.capExpires
  refine Kept.step (Kept.addReg_name .cntBExpired 0 0 (Eq.refl _)) (by decide) ?_
  exact (Chip.decideOut_kept ..).mono (by decide)

theorem Chip.evalStart_kept (e : Entry) (room : Nat) (c : Chip) : ∀ p ∈ Chip.evalStart e room c, Kept 0x14fb50000000000020000000000000000000100000000010011c6 c p.2 := by
  intro p hp
  unfold Chip.evalStart at hp
  extract_lets d r e1 atOnce c1 used at hp
  split at hp
  · cases hp; exact (Chip.decideOut_kept ..).mono (by decide)
  split at hp
  · cases hp; exact Kept.rfl
  split at hp
  · cases hp; exact (Chip.decideOut_kept ..).mono (by decide)
  split at hp
  · cases hp; exact (Chip.decideOut_kept ..).mono (by decide)
  split at hp
  · cases hp; exact Kept.step (Kept.addReg_name .cntMissed 0 0 (Eq.refl _)) (by decide) ((Chip.decideOut_kept ..).mono (by decide))
  split at hp
  · cases hp; exact Kept.step (Kept.addReg_name .cntLateSkipped 0 0 (Eq.refl _)) (by decide) ((Chip.decideOut_kept ..).mono (by decide))
  split at hp
  · cases hp; exact (Chip.gateExpires_kept ..).mono (by decide)
  split at hp
  · cases hp; exact (Chip.capExpires_kept ..).mono (by decide)
  split at hp
  · cases hp; exact (Chip.gateFails_kept ..).mono (by decide)
  split at hp
  · cases hp; exact (Chip.decideOut_kept ..).mono (by decide)
  split at hp
  · cases hp
  · cases hp; exact (Chip.commitStart_kept ..).mono (by decide)

theorem Chip.commitEnd_kept (e : Entry) (st : Nat) (last : Bool) (c : Chip) : Kept
    0x14004000000000000000000000000000000010000000000003046 c (Chip.commitEnd e st last c) := by
  unfold Chip.commitEnd
  extract_lets x0 x1 x2 x3 x4 x5
  refine Kept.step (Chip.place_kept ..) (by decide) ?_
  refine Kept.step (Chip.modEntry_kept ..) (by decide) ?_
  subst x5
  refine Kept.ite ?_ ?_
  · refine Kept.step (Kept.addReg_name .cntALate 0 0 (Eq.refl _)) (by decide) ?_
    refine Kept.step (Kept.setFlag_name .schedStatus 0 0 (Eq.refl _)) (by decide) ?_
    subst x4
    refine Kept.ite ?_ ?_
    · refine Kept.step (Chip.retag_kept ..) (by decide) ?_
      exact (Chip.writeStatus_kept ..).mono (by decide)
    · exact Kept.rfl
  · subst x4
    refine Kept.ite ?_ ?_
    · refine Kept.step (Chip.retag_kept ..) (by decide) ?_
      exact (Chip.writeStatus_kept ..).mono (by decide)
    · exact Kept.rfl

theorem Chip.busyStart_kept (e : Entry) (c : Chip) : Kept 0x4000000000000000000000000000000000010000000000001046 c
    (Chip.busyStart e c) := by
  unfold Chip.busyStart
  extract_lets x0
  refine Kept.step (Chip.modEntry_kept ..) (by decide) ?_
  refine Kept.step (Chip.setRecord_kept ..) (by decide) ?_
  exact (Chip.writeStatus_kept ..).mono (by decide)

theorem Chip.evalRunning_kept (e : Entry) (room : Nat) (c : Chip) : ∀ p ∈ Chip.evalRunning e room c, Kept 0x14fb50000000000020000000000000000000100000000010031c6 c p.2 := by
  intro p hp
  unfold Chip.evalRunning at hp
  extract_lets again at hp
  split at hp
  · cases hp
    exact Kept.ite ((Chip.busyStart_kept ..).mono (by decide)) Kept.rfl
  · split at hp
    · cases hp
    · split at hp
      · obtain ⟨q, hq, rfl⟩ := Option.map_eq_some_iff.mp hp
        exact Kept.trans (Kept.step (Chip.modEntry_kept ..) (by decide) ((Chip.commitEnd_kept ..).mono (by decide)))
          ((Chip.evalStart_kept _ _ _ _ hq).mono (by decide))
      · cases hp
        exact Kept.ite (Kept.step (Chip.busyStart_kept ..) (by decide) ((Chip.commitEnd_kept ..).mono (by decide)))
          ((Chip.commitEnd_kept ..).mono (by decide))

theorem Chip.evalEntry_kept (e : Entry) (room : Nat) (c : Chip) : ∀ p ∈ Chip.evalEntry e room c, Kept 0x14fb50000000000020000000000000000000100000000010031c6 c p.2 := by
  unfold Chip.evalEntry
  split
  · exact Chip.evalRunning_kept e room c
  · exact fun p hp => (Chip.evalStart_kept e room c p hp).mono (by decide)

theorem Chip.carryOver_kept (e : Entry) (c : Chip) : Kept 0x1000 c (Chip.carryOver e c) := by
  unfold Chip.carryOver
  exact (Chip.modEntry_kept ..).mono (by decide)

theorem Chip.noteRefused_kept (c : Chip) : Kept 0x40000000000000000000000000000000010000000000000002 c (Chip.noteRefused c)
    := by
  unfold Chip.noteRefused
  refine Kept.step (Kept.addReg_name .cntCRefused 0 0 (Eq.refl _)) (by decide) ?_
  exact (Kept.setFlag_name .schedStatus 0 0 (Eq.refl _)).mono (by decide)

theorem Chip.deferBusy_kept (e : Entry) (c : Chip) : Kept 0x4030000000000000000000000000000000010000000000001046 c
    (Chip.deferBusy e c) := by
  unfold Chip.deferBusy
  extract_lets x0 x1
  refine Kept.ite ?_ ?_
  · refine Kept.step (Kept.addReg_name .cntBExpired 0 0 (Eq.refl _)) (by decide) ?_
    refine Kept.step (Chip.modEntry_kept ..) (by decide) ?_
    refine Kept.step (Chip.setRecord_kept ..) (by decide) ?_
    exact (Chip.writeStatus_kept ..).mono (by decide)
  · refine Kept.step (Kept.setFlag_name .schedStatus 0 0 (Eq.refl _)) (by decide) ?_
    refine Kept.ite ?_ ?_
    · subst x1
      refine Kept.step (Chip.modEntry_kept ..) (by decide) ?_
      exact (Chip.writeStatus_kept ..).mono (by decide)
    · refine Kept.step (Kept.addReg_name .cntBDeferred 0 0 (Eq.refl _)) (by decide) ?_
      subst x1
      refine Kept.step (Chip.modEntry_kept ..) (by decide) ?_
      exact (Chip.writeStatus_kept ..).mono (by decide)

theorem Chip.overCapacity_kept (x : Entry) (c : Chip) : Kept 0x40f1000000000000000000000000000000010000000000001046 c
    (Chip.overCapacity x c) := by
  unfold Chip.overCapacity
  extract_lets x0 x1 x2
  refine Kept.ite ?_ ?_
  · refine Kept.ite ?_ ?_
    · subst x1
      refine Kept.ite ?_ ?_
      · exact (Chip.carryOver_kept ..).mono (by decide)
      · exact Kept.rfl
    · refine Kept.ite ?_ ?_
      · refine Kept.step (Chip.noteRefused_kept ..) (by decide) ?_
        refine Kept.step (Chip.setRecord_kept ..) (by decide) ?_
        refine Kept.step (Chip.writeStatus_kept ..) (by decide) ?_
        subst x1
        refine Kept.ite ?_ ?_
        · exact (Chip.carryOver_kept ..).mono (by decide)
        · exact Kept.rfl
      · refine Kept.ite ?_ ?_
        · refine Kept.step (Chip.deferBusy_kept ..) (by decide) ?_
          subst x1
          refine Kept.ite ?_ ?_
          · exact (Chip.carryOver_kept ..).mono (by decide)
          · exact Kept.rfl
        · refine Kept.step (Chip.modEntry_kept ..) (by decide) ?_
          subst x1
          refine Kept.ite ?_ ?_
          · exact (Chip.carryOver_kept ..).mono (by decide)
          · exact Kept.rfl
  · refine Kept.ite ?_ ?_
    · exact Kept.rfl
    · refine Kept.ite ?_ ?_
      · exact (Chip.carryOver_kept ..).mono (by decide)
      · refine Kept.ite ?_ ?_
        · refine Kept.ite ?_ ?_
          · exact (Chip.capExpires_kept ..).mono (by decide)
          · exact (Chip.deferEntry_kept ..).mono (by decide)
        · refine Kept.step (Chip.noteRefused_kept ..) (by decide) ?_
          exact (Chip.decideOut_kept ..).mono (by decide)

theorem Chip.notPlaced_kept (e : Entry) (c : Chip) : Kept 0x1000 c (Chip.notPlaced e c) := by
  unfold Chip.notPlaced
  refine Kept.ite ?_ ?_
  · exact (Chip.carryOver_kept ..).mono (by decide)
  · refine Kept.ite ?_ ?_
    · exact (Chip.modEntry_kept ..).mono (by decide)
    · exact (Chip.modEntry_kept ..).mono (by decide)

theorem Chip.serveOne_kept (b : Bool) (p : Nat × Nat × Option Nat × Chip) (x : DueItem) :
    Kept 0x14ff50000000000020000000000000000000100000000010031c6 p.2.2.2 (Chip.serveOne b p x).2.2.2 := by
  unfold Chip.serveOne
  extract_lets c
  split
  · exact Kept.rfl
  · extract_lets beyond
    have hb : Kept 0x14ff50000000000020000000000000000000100000000010031c6 p.2.2.2 beyond.2.2.2 := (Chip.overCapacity_kept ..).mono (by decide)
    split
    · exact hb
    · split
      · rename_i h
        exact Kept.ite ((Chip.evalEntry_kept _ _ _ _ h).mono (by decide)) ((Chip.notPlaced_kept ..).mono (by decide))
      · exact hb

theorem Chip.requestOffs_kept (p : Entry → Bool) (c : Chip) : Kept 0x1000 c (Chip.requestOffs p c) := by
  unfold Chip.requestOffs
  refine Kept.foldl (fun _ _ => ?_) ?_
  · refine Kept.ite ?_ ?_
    · exact (Chip.requestOff_kept ..).mono (by decide)
    · exact Kept.rfl
  · exact Kept.rfl

theorem Chip.turnOffs_kept (c : Chip) : Kept 0x1400 c (Chip.turnOffs c) := by
  unfold Chip.turnOffs
  extract_lets x0 x1 x2
  refine Kept.step (Chip.modPred_kept ..) (by decide) ?_
  subst x2
  refine Kept.ite ?_ ?_
  · refine Kept.step (Chip.requestOffs_kept ..) (by decide) ?_
    subst x1
    refine Kept.ite ?_ ?_
    · refine Kept.foldl (fun _ _ => ?_) ?_
      · exact (Chip.requestOff_kept ..).mono (by decide)
      · exact (Chip.requestOffs_kept ..).mono (by decide)
    · exact Kept.rfl
  · subst x1
    refine Kept.ite ?_ ?_
    · refine Kept.foldl (fun _ _ => ?_) ?_
      · exact (Chip.requestOff_kept ..).mono (by decide)
      · exact (Chip.requestOffs_kept ..).mono (by decide)
    · exact Kept.rfl

theorem Chip.resyncEntries_kept (c : Chip) : Kept 0x24001000000000000000000000000000000010000000000001046 c
    (Chip.resyncEntries c) := by
  unfold Chip.resyncEntries
  extract_lets x0
  refine Kept.foldl (fun _ _ => ?_) ?_
  · refine Kept.ite ?_ ?_
    · refine Kept.step (Kept.addReg_name .cntResyncSkip 0 0 (Eq.refl _)) (by decide) ?_
      exact (Chip.decideOut_kept ..).mono (by decide)
    · exact (Chip.dropOut_kept ..).mono (by decide)
  · subst x0
    exact (Chip.requestOffs_kept ..).mono (by decide)

theorem Chip.placeOffs_kept (c : Chip) : Kept 0x10000000000000000000000000000000000000000000000001002 c (Chip.placeOffs c)
    := by
  unfold Chip.placeOffs
  extract_lets x0
  refine Kept.step (Chip.modSched_kept ..) (by decide) ?_
  refine Kept.foldl (fun _ _ => ?_) ?_
  · exact (Chip.place_kept ..).mono (by decide)
  · exact Kept.rfl

theorem Chip.countCycle_kept (c : Chip) : Kept 0x800000000000000000000000000000000000000000001002 c (Chip.countCycle c) := by
  unfold Chip.countCycle
  refine Kept.ite ?_ ?_
  · refine Kept.step (Chip.modSched_kept ..) (by decide) ?_
    exact (Kept.put_name .schedCycle 0 0 (Eq.refl _)).mono (by decide)
  · exact Kept.rfl

theorem Chip.noteOverrun_kept (n : Nat) (first : Option Nat) (c : Chip) : Kept
    0x80000000000020000000000000000000100000000010001c2 c (Chip.noteOverrun n first c) := by
  unfold Chip.noteOverrun
  refine Kept.ite ?_ ?_
  · refine Kept.step (Chip.fault_kept ..) (by decide) ?_
    refine Kept.step (Kept.addReg_name .cntAOver 0 0 (Eq.refl _)) (by decide) ?_
    exact (Kept.setFlag_name .schedStatus 0 0 (Eq.refl _)).mono (by decide)
  · exact Kept.rfl

theorem Chip.peakEdges_kept (n : Nat) (c : Chip) : Kept 0x2000000000000000000000000000000000000000000000002 c
    (Chip.peakEdges n c) := by
  unfold Chip.peakEdges
  exact (Kept.setFld_name .loadPeak 0 0 (Eq.refl _)).mono (by decide)

theorem Chip.evaluate_kept (b : Bool) (c : Chip) : Kept 0x14fff0000000000020000000000000000000100000000010031c6 c (Chip.evaluate b c) := by
  have hf : ∀ (l : List DueItem) (p : Nat × Nat × Option Nat × Chip), Kept 0x14fff0000000000020000000000000000000100000000010031c6 p.2.2.2 (l.foldl (Chip.serveOne b) p).2.2.2 := by
    intro l
    induction l with
    | nil => exact fun p => Kept.rfl
    | cons x l ih => exact fun p => ((Chip.serveOne_kept b p x).mono (by decide)).trans (ih _)
  unfold Chip.evaluate
  extract_lets due offs classA p c1
  refine Kept.step (Chip.peakEdges_kept ..) (by decide) ?_
  refine Kept.step (Kept.setFld_name .loadPeak 0 0 (Eq.refl _)) (by decide) ?_
  refine Kept.step (Chip.modSched_kept ..) (by decide) ?_
  refine Kept.step (Chip.noteOverrun_kept ..) (by decide) ?_
  exact hf due (32, 48 - offs, none, c)

theorem Chip.skipE_kept (phaseARan : Bool) (c : Chip) : Kept 0x1400 c (Chip.skipE phaseARan c) := by
  unfold Chip.skipE
  extract_lets x0
  refine Kept.step (Chip.modPred_kept ..) (by decide) ?_
  exact (Chip.modSched_kept ..).mono (by decide)

theorem Chip.settleWords_kept (b : Nat) (code : Nat) (c : Chip) : Kept
    0x4000000000000000000000000000000000010000000000001046 c (Chip.settleWords b code c) := by
  unfold Chip.settleWords
  refine Kept.foldl (fun _ _ => ?_) ?_
  · extract_lets x0 x1
    refine Kept.ite ?_ ?_
    · exact (Chip.writeStatus_kept ..).mono (by decide)
    · exact Kept.rfl
  · exact Kept.rfl

theorem Chip.invalidate_kept (b : Nat) (code : Nat) (c : Chip) : Kept 0x4001000000000000000000000000000000010000000000001046
    c (Chip.invalidate b code c) := by
  unfold Chip.invalidate
  extract_lets x0
  refine Kept.step (Chip.modSched_kept ..) (by decide) ?_
  subst x0
  refine Kept.foldl (fun _ _ => ?_) ?_
  · exact (Chip.dropOut_kept ..).mono (by decide)
  · exact Kept.rfl

theorem Chip.returnEvents_kept (b : Nat) (c : Chip) : Kept 0x4001000000000000000000000000000000010000000000001046 c
    (Chip.returnEvents b c) := by
  unfold Chip.returnEvents
  refine Kept.step (Chip.queueScan_kept ..) (by decide) ?_
  refine Kept.step (Chip.settleWords_kept ..) (by decide) ?_
  exact (Chip.invalidate_kept ..).mono (by decide)

theorem Chip.invalEvents_kept (b : Nat) (c : Chip) : Kept 0x4001000000000000000000000000000000010000000000001046 c
    (Chip.invalEvents b c) := by
  unfold Chip.invalEvents
  refine Kept.ite ?_ ?_
  · extract_lets x0
    refine Kept.foldl (fun _ _ => ?_) ?_
    · extract_lets x1
      exact (Chip.writeStatus_kept ..).mono (by decide)
    · subst x0
      exact (Chip.invalidate_kept ..).mono (by decide)
  · exact (Chip.returnEvents_kept ..).mono (by decide)

theorem Chip.takeEvents_kept (b : Nat) (c : Chip) : Kept 0x1000 c (Chip.takeEvents b c) := by
  unfold Chip.takeEvents
  exact (Chip.modSched_kept ..).mono (by decide)

theorem Chip.commitSchedControl_kept (v : Nat) (c : Chip) : Kept 0x4001000000000000000000000000000000030000000000001046 c
    (Chip.commitSchedControl v c) := by
  unfold Chip.commitSchedControl
  extract_lets x0 x1 x2
  refine Kept.step (Chip.modSched_kept ..) (by decide) ?_
  subst x2
  refine Kept.ite ?_ ?_
  · refine Kept.foldl (fun _ _ => ?_) ?_
    · exact (Chip.dropOut_kept ..).mono (by decide)
    · subst x0
      exact (Kept.put_name .schedControl 0 0 (Eq.refl _)).mono (by decide)
  · subst x0
    exact (Kept.put_name .schedControl 0 0 (Eq.refl _)).mono (by decide)

theorem Chip.noteOverload_kept (before : List Bool) (c : Chip) : Kept 0x40 c (Chip.noteOverload before c) := by
  unfold Chip.noteOverload
  refine Kept.ite ?_ ?_
  · exact (Chip.raise_kept ..).mono (by decide)
  · exact Kept.rfl

theorem Chip.commitTimeEnd_kept (i : Nat) (c : Chip) : Kept 0x14004000000000000000000000000000000010000000000003046 c
    (Chip.commitTimeEnd i c) := by
  unfold Chip.commitTimeEnd
  split
  · split
    · refine Kept.ite ?_ ?_
      · exact Kept.rfl
      · refine Kept.ite ?_ ?_
        · exact (Chip.carryOver_kept ..).mono (by decide)
        · refine Kept.step (Chip.noteOverload_kept ..) (by decide) ?_
          refine Kept.step (Chip.modSched_kept ..) (by decide) ?_
          exact (Chip.commitEnd_kept ..).mono (by decide)
    · exact Kept.rfl
  · exact Kept.rfl

theorem Chip.handOver_kept (c : Chip) : Kept 0x1000 c (Chip.handOver c) := by
  unfold Chip.handOver
  exact (Chip.modSched_kept ..).mono (by decide)

theorem Chip.settleResync_kept (c : Chip) : Kept 0x24001000000000000000000000000000000010000000000001046 c
    (Chip.settleResync c) := by
  unfold Chip.settleResync
  refine Kept.ite ?_ ?_
  · refine Kept.step (Chip.modSched_kept ..) (by decide) ?_
    exact (Chip.resyncEntries_kept ..).mono (by decide)
  · exact Kept.rfl

theorem Chip.closeEval_kept (c : Chip) : Kept 0x1400 c (Chip.closeEval c) := by
  unfold Chip.closeEval
  refine Kept.step (Chip.modPred_kept ..) (by decide) ?_
  exact (Chip.modSched_kept ..).mono (by decide)

theorem Chip.priorityScan_kept (c : Chip) : Kept 0x2f0010000000000020000000000000000000100000000010039c6 c
    (Chip.priorityScan c) := by
  unfold Chip.priorityScan
  split
  · extract_lets x0
    refine Kept.ite ?_ ?_
    · refine Kept.step (Chip.loadSixteen_kept ..) (by decide) ?_
      subst x0
      exact (Chip.modSched_kept ..).mono (by decide)
    · subst x0
      exact (Chip.modSched_kept ..).mono (by decide)
  · exact Kept.rfl

theorem Chip.scanOn_kept (demand : Nat) (c : Chip) : Kept 0x3f0030000000000020000000000000000000100000000010039c6 c
    (Chip.scanOn demand c) := by
  unfold Chip.scanOn
  extract_lets x0
  refine Kept.step (Chip.peakEdges_kept ..) (by decide) ?_
  refine Kept.step (Chip.placeOffs_kept ..) (by decide) ?_
  subst x0
  exact (Chip.rotatingScan_kept ..).mono (by decide)

theorem Chip.phaseE_kept (c : Chip) : Kept 0x3ffff800000000002000000000800000000010000000001003dc6 c (Chip.phaseE c) := by
  unfold Chip.phaseE
  extract_lets x0 x1 x2 x3
  refine Kept.step (Chip.noteOverload_kept ..) (by decide) ?_
  refine Kept.step (Chip.closeEval_kept ..) (by decide) ?_
  refine Kept.step (Chip.reenable_kept ..) (by decide) ?_
  subst x3
  refine Kept.ite ?_ ?_
  · refine Kept.step (Chip.scanOn_kept ..) (by decide) ?_
    subst x2
    refine Kept.step (Chip.evaluate_kept ..) (by decide) ?_
    subst x1
    refine Kept.step (Chip.placeOffs_kept ..) (by decide) ?_
    refine Kept.step (Chip.priorityScan_kept ..) (by decide) ?_
    subst x0
    refine Kept.step (Chip.turnOffs_kept ..) (by decide) ?_
    refine Kept.step (Chip.settleResync_kept ..) (by decide) ?_
    refine Kept.step (Chip.checkCache_kept ..) (by decide) ?_
    exact (Chip.countCycle_kept ..).mono (by decide)
  · subst x2
    refine Kept.step (Chip.evaluate_kept ..) (by decide) ?_
    subst x1
    refine Kept.step (Chip.placeOffs_kept ..) (by decide) ?_
    refine Kept.step (Chip.priorityScan_kept ..) (by decide) ?_
    subst x0
    refine Kept.step (Chip.turnOffs_kept ..) (by decide) ?_
    refine Kept.step (Chip.settleResync_kept ..) (by decide) ?_
    refine Kept.step (Chip.checkCache_kept ..) (by decide) ?_
    exact (Chip.countCycle_kept ..).mono (by decide)

theorem Chip.phaseEOnly_kept (c : Chip) : Kept 0x3ffff800000000002000000000800000000010000000001003dc6 c (Chip.phaseEOnly c)
    := by
  unfold Chip.phaseEOnly
  extract_lets x0 x1
  refine Kept.step (Chip.noteOverload_kept ..) (by decide) ?_
  refine Kept.step (Chip.closeEval_kept ..) (by decide) ?_
  refine Kept.step (Chip.reenable_kept ..) (by decide) ?_
  subst x1
  refine Kept.ite ?_ ?_
  · refine Kept.step (Chip.rotatingScan_kept ..) (by decide) ?_
    subst x0
    refine Kept.step (Chip.evaluate_kept ..) (by decide) ?_
    refine Kept.step (Chip.priorityScan_kept ..) (by decide) ?_
    refine Kept.step (Chip.turnOffs_kept ..) (by decide) ?_
    refine Kept.step (Chip.settleResync_kept ..) (by decide) ?_
    refine Kept.step (Chip.checkCache_kept ..) (by decide) ?_
    exact (Chip.countCycle_kept ..).mono (by decide)
  · subst x0
    refine Kept.step (Chip.evaluate_kept ..) (by decide) ?_
    refine Kept.step (Chip.priorityScan_kept ..) (by decide) ?_
    refine Kept.step (Chip.turnOffs_kept ..) (by decide) ?_
    refine Kept.step (Chip.settleResync_kept ..) (by decide) ?_
    refine Kept.step (Chip.checkCache_kept ..) (by decide) ?_
    exact (Chip.countCycle_kept ..).mono (by decide)

theorem Chip.shiftEnd_kept (i : Nat) (c : Chip) : Kept 0x1000 c (Chip.shiftEnd i c) := by
  unfold Chip.shiftEnd
  extract_lets x0
  refine Kept.step (Chip.modSched_kept ..) (by decide) ?_
  exact (Chip.modEntry_kept ..).mono (by decide)

end Sys2Proof.Machine
end

