-- ==== Sys2Proof/Laws/KeptOutputs.lean ====
section
/-!
SUPPORT. The frame laws (`Kept`) of the operations of Machine/Outputs.lean.
-/

namespace Sys2Proof.Machine

theorem Chip.modOuts_kept (f : Outs → Outs) (c : Chip) : Kept 0x2000 c (Chip.modOuts f c) := by
  unfold Chip.modOuts
  exact Kept.outs_set.mono (by decide)

theorem Chip.atStep_kept (at' : Nat) (c : Chip) : Kept 0x8 c (Chip.atStep at' c) := by
  unfold Chip.atStep
  exact Kept.tb_set.mono (by decide)

theorem Chip.modInj_kept (k : Nat) (f : Inj → Inj) (c : Chip) : Kept 0x2000 c (Chip.modInj k f c) := by
  unfold Chip.modInj
  exact (Chip.modOuts_kept ..).mono (by decide)

theorem Chip.rewrite_kept (i : Nat) (w : Nat) (c : Chip) : Kept 0x4000000000000000000000000000000000010000000000003046 c
    (Chip.rewrite i w c) := by
  unfold Chip.rewrite
  refine Kept.step (Chip.retag_kept ..) (by decide) ?_
  refine Kept.step (Chip.modEntry_kept ..) (by decide) ?_
  exact (Chip.writeStatus_kept ..).mono (by decide)

theorem Chip.cutStatus_kept (i : Nat) (w : Nat) (c : Chip) : Kept 0x4000000000000000000000000000000000010000000000003046 c
    (Chip.cutStatus i w c) := by
  unfold Chip.cutStatus
  exact (Chip.rewrite_kept ..).mono (by decide)

theorem Chip.noteIdle_kept (n : Nat) (c : Chip) : Kept 0x2000 c (Chip.noteIdle n c) := by
  unfold Chip.noteIdle
  extract_lets x0
  exact (Chip.modOuts_kept ..).mono (by decide)

theorem Chip.switchHsv_kept (n : Nat) (on : Bool) (c : Chip) : Kept 0x2000 c (Chip.switchHsv n on c) := by
  unfold Chip.switchHsv
  refine Kept.ite ?_ ?_
  · exact Kept.rfl
  · exact (Chip.modOuts_kept ..).mono (by decide)

theorem Chip.showBank_kept (n : Nat) (c : Chip) : Kept 0x100000000000000000000000002002 c (Chip.showBank n c) := by
  unfold Chip.showBank
  extract_lets x0 x1 x2 x3 x4
  refine Kept.step (Kept.setFld_name .bankStatus _ 0 (Eq.refl _)) (by decide) ?_
  refine Kept.step (Kept.setFld_name .bankStatus _ 0 (Eq.refl _)) (by decide) ?_
  refine Kept.step (Kept.setFld_name .bankStatus _ 0 (Eq.refl _)) (by decide) ?_
  refine Kept.step (Kept.setFld_name .bankStatus _ 0 (Eq.refl _)) (by decide) ?_
  subst x0
  refine Kept.step (Chip.noteIdle_kept ..) (by decide) ?_
  exact (Chip.switchHsv_kept ..).mono (by decide)

theorem Chip.outFault_kept (code : Nat) (unit : Nat) (detail : Nat) (c : Chip) : Kept
    0x20000000000000000000000000000010001c2 c (Chip.outFault code unit detail c) := by
  unfold Chip.outFault
  refine Kept.ite ?_ ?_
  · exact Kept.rfl
  · exact (Chip.fault_kept ..).mono (by decide)

theorem Chip.judge_kept (k : Nat) (result : Nat) (c : Chip) : Kept 0x400000000000000000000000002042 c (Chip.judge k result
    c) := by
  unfold Chip.judge
  extract_lets x0
  refine Kept.ite ?_ ?_
  · refine Kept.step (Chip.raise_kept ..) (by decide) ?_
    subst x0
    refine Kept.step (Chip.modInj_kept ..) (by decide) ?_
    exact (Kept.setFld_name .injDiag _ 0 (Eq.refl _)).mono (by decide)
  · subst x0
    refine Kept.step (Chip.modInj_kept ..) (by decide) ?_
    exact (Kept.setFld_name .injDiag _ 0 (Eq.refl _)).mono (by decide)

theorem Chip.refuseStart_kept (k : Nat) (i : Nat) (w : Nat) (cause : Nat) (c : Chip) : Kept
    0x40000000000000020000004000000000000100000000810031c6 c (Chip.refuseStart k i w cause c) := by
  unfold Chip.refuseStart
  extract_lets x0 x1 x2 x3
  refine Kept.step (Chip.outFault_kept ..) (by decide) ?_
  refine Kept.step (Chip.raise_kept ..) (by decide) ?_
  subst x3
  refine Kept.ite ?_ ?_
  · refine Kept.step (Kept.setFld_name .injDiag _ 0 (Eq.refl _)) (by decide) ?_
    subst x2
    refine Kept.step (Kept.setFld_name .injDiag _ 0 (Eq.refl _)) (by decide) ?_
    refine Kept.step (Chip.incFld_kept ..) (by decide) ?_
    exact (Chip.rewrite_kept ..).mono (by decide)
  · subst x2
    refine Kept.step (Kept.setFld_name .injDiag _ 0 (Eq.refl _)) (by decide) ?_
    refine Kept.step (Chip.incFld_kept ..) (by decide) ?_
    exact (Chip.rewrite_kept ..).mono (by decide)

theorem Chip.refuseWaiting_kept (k : Nat) (cause : Nat) (c : Chip) : Kept
    0x40000000000000020000005000000000000100000000810031c6 c (Chip.refuseWaiting k cause c) := by
  unfold Chip.refuseWaiting
  extract_lets x0
  refine Kept.step (Chip.showBank_kept ..) (by decide) ?_
  refine Kept.step (Chip.refuseStart_kept ..) (by decide) ?_
  exact (Chip.modInj_kept ..).mono (by decide)

theorem Chip.grant_kept (k : Nat) (battery : Bool) (c : Chip) : Kept 0x4000000000000000000000700000000000010000000000003046
    c (Chip.grant k battery c) := by
  unfold Chip.grant
  extract_lets x0 x1 x2 x3 x4 x5
  refine Kept.step (Chip.showBank_kept ..) (by decide) ?_
  subst x5
  refine Kept.ite ?_ ?_
  · refine Kept.step (Kept.incFld_name .bankCounts _ 0 (Eq.refl _)) (by decide) ?_
    refine Kept.step (Chip.rewrite_kept ..) (by decide) ?_
    subst x4
    refine Kept.step (Kept.setFld_name .injDiag _ 0 (Eq.refl _)) (by decide) ?_
    subst x3
    exact (Chip.modInj_kept ..).mono (by decide)
  · subst x4
    refine Kept.step (Kept.setFld_name .injDiag _ 0 (Eq.refl _)) (by decide) ?_
    subst x3
    exact (Chip.modInj_kept ..).mono (by decide)

theorem Chip.tryGrant_kept (k : Nat) (c : Chip) : Kept 0x40000000000000020000007000000000000100000000810031c6 c
    (Chip.tryGrant k c) := by
  unfold Chip.tryGrant
  extract_lets x0
  refine Kept.ite ?_ ?_
  · exact Kept.rfl
  · refine Kept.ite ?_ ?_
    · refine Kept.step (Chip.outFault_kept ..) (by decide) ?_
      exact (Chip.refuseWaiting_kept ..).mono (by decide)
    · refine Kept.ite ?_ ?_
      · exact (Chip.grant_kept ..).mono (by decide)
      · split
        · exact (Chip.grant_kept ..).mono (by decide)
        · exact Kept.rfl
        · exact (Chip.refuseWaiting_kept ..).mono (by decide)

theorem Chip.settleBank_kept (n : Nat) (c : Chip) : Kept 0x40000000000000020000007000000000000100000000810031c6 c
    (Chip.settleBank n c) := by
  unfold Chip.settleBank
  refine Kept.stepN (fun _ => ?_) ?_
  · split
    · exact (Chip.tryGrant_kept ..).mono (by decide)
    · exact Kept.rfl
  · exact Kept.rfl

theorem Chip.injStart_kept (k : Nat) (i : Nat) (w : Nat) (param : Nat) (c : Chip) : Kept
    0x40000000000000020000007000000000000100000000810031c6 c (Chip.injStart k i w param c) := by
  unfold Chip.injStart
  extract_lets x0 x1
  refine Kept.ite ?_ ?_
  · exact (Chip.refuseStart_kept ..).mono (by decide)
  · refine Kept.ite ?_ ?_
    · exact (Chip.refuseStart_kept ..).mono (by decide)
    · refine Kept.ite ?_ ?_
      · refine Kept.step (Chip.refuseWaiting_kept ..) (by decide) ?_
        subst x1
        refine Kept.step (Chip.settleBank_kept ..) (by decide) ?_
        exact (Chip.modInj_kept ..).mono (by decide)
      · refine Kept.step (Chip.showBank_kept ..) (by decide) ?_
        subst x1
        refine Kept.step (Chip.settleBank_kept ..) (by decide) ?_
        exact (Chip.modInj_kept ..).mono (by decide)

theorem Chip.closeDiag_kept (k : Nat) (c : Chip) : Kept 0x400000000000000000000000000002 c (Chip.closeDiag k c) := by
  unfold Chip.closeDiag
  exact (Kept.setFld_name .injDiag _ 0 (Eq.refl _)).mono (by decide)

theorem Chip.injStop_kept (k : Nat) (c : Chip) : Kept 0x40000000000000020000007000000000000100000000810031c6 c (Chip.injStop
    k c) := by
  unfold Chip.injStop
  refine Kept.step (Chip.showBank_kept ..) (by decide) ?_
  refine Kept.step (Chip.settleBank_kept ..) (by decide) ?_
  refine Kept.step (Chip.modInj_kept ..) (by decide) ?_
  exact (Chip.closeDiag_kept ..).mono (by decide)

theorem Chip.injEnd_kept (k : Nat) (c : Chip) : Kept 0x40000000000000020000007000000000000100000000810031c6 c (Chip.injEnd k
    c) := by
  unfold Chip.injEnd
  split
  · exact Kept.rfl
  · exact (Chip.refuseWaiting_kept ..).mono (by decide)
  · exact (Chip.injStop_kept ..).mono (by decide)

theorem Chip.injFinish_kept (k : Nat) (i : Nat) (c : Chip) : Kept 0x40000000000000020000007000000000000100000000810031c6 c
    (Chip.injFinish k i c) := by
  unfold Chip.injFinish
  refine Kept.ite ?_ ?_
  · exact (Chip.injEnd_kept ..).mono (by decide)
  · exact Kept.rfl

theorem Chip.injCut_kept (k : Nat) (c : Chip) : Kept 0x40000000000000020000007000000000000100000000810031c6 c (Chip.injCut k
    c) := by
  unfold Chip.injCut
  split
  · exact Kept.rfl
  · exact (Chip.refuseWaiting_kept ..).mono (by decide)
  · refine Kept.step (Chip.injStop_kept ..) (by decide) ?_
    exact (Chip.cutStatus_kept ..).mono (by decide)

theorem Chip.endBoost_kept (k : Nat) (c : Chip) : Kept 0x40000000000000020000007000000000000100000000810031c6 c
    (Chip.endBoost k c) := by
  unfold Chip.endBoost
  extract_lets x0 x1
  refine Kept.step (Chip.showBank_kept ..) (by decide) ?_
  refine Kept.ite ?_ ?_
  · refine Kept.step (Chip.settleBank_kept ..) (by decide) ?_
    subst x1
    exact (Chip.modInj_kept ..).mono (by decide)
  · subst x1
    exact (Chip.modInj_kept ..).mono (by decide)

theorem Chip.reachPeak_kept (k : Nat) (c : Chip) : Kept 0x40000000000000020000007000000000000100000000810031c6 c
    (Chip.reachPeak k c) := by
  unfold Chip.reachPeak
  extract_lets x0 x1 x2
  refine Kept.ite ?_ ?_
  · refine Kept.step (Chip.injCut_kept ..) (by decide) ?_
    refine Kept.step (Chip.outFault_kept ..) (by decide) ?_
    refine Kept.step (Chip.judge_kept ..) (by decide) ?_
    subst x2
    exact (Kept.setFld_name .injDiag _ 0 (Eq.refl _)).mono (by decide)
  · refine Kept.step (Chip.endBoost_kept ..) (by decide) ?_
    subst x2
    exact (Kept.setFld_name .injDiag _ 0 (Eq.refl _)).mono (by decide)

theorem Chip.boostLimit_kept (k : Nat) (code : Nat) (c : Chip) : Kept 0x40000000000000020000007000000000000100000000810031c6
    c (Chip.boostLimit k code c) := by
  unfold Chip.boostLimit
  extract_lets x0
  refine Kept.ite ?_ ?_
  · refine Kept.step (Chip.injCut_kept ..) (by decide) ?_
    refine Kept.step (Chip.outFault_kept ..) (by decide) ?_
    exact (Chip.judge_kept ..).mono (by decide)
  · refine Kept.ite ?_ ?_
    · refine Kept.step (Chip.endBoost_kept ..) (by decide) ?_
      refine Kept.step (Chip.outFault_kept ..) (by decide) ?_
      exact (Chip.judge_kept ..).mono (by decide)
    · exact (Chip.reachPeak_kept ..).mono (by decide)

theorem Chip.tripBank_kept (n : Nat) (code : Nat) (detail : Nat) (c : Chip) : Kept
    0x40000000000000020000007002000000000100000000810039c6 c (Chip.tripBank n code detail c) := by
  unfold Chip.tripBank
  refine Kept.ite ?_ ?_
  · exact Kept.rfl
  · extract_lets x0 x1 x2 x3
    refine Kept.step (Chip.showBank_kept ..) (by decide) ?_
    subst x3
    refine Kept.foldl (fun _ _ => ?_) ?_
    · split
      · exact Kept.rfl
      · exact (Chip.refuseWaiting_kept ..).mono (by decide)
      · refine Kept.step (Chip.injCut_kept ..) (by decide) ?_
        exact (Chip.judge_kept ..).mono (by decide)
    · subst x2
      refine Kept.step (Chip.fault_kept ..) (by decide) ?_
      refine Kept.step (Chip.raise_kept ..) (by decide) ?_
      subst x1
      refine Kept.step (Kept.setBit_name .outStatus 0 0 (Eq.refl _)) (by decide) ?_
      refine Kept.step (Kept.setFlag_name .bankStatus _ 0 (Eq.refl _)) (by decide) ?_
      exact (Chip.useFree_kept ..).mono (by decide)

theorem Chip.clearTrip_kept (n : Nat) (still : Bool) (c : Chip) : Kept
    0x40000000000000020000007002000000000100000000810039c6 c (Chip.clearTrip n still c) := by
  unfold Chip.clearTrip
  extract_lets x0
  refine Kept.ite ?_ ?_
  · refine Kept.step (Chip.tripBank_kept ..) (by decide) ?_
    subst x0
    refine Kept.step (Kept.setBit_name .outStatus 0 0 (Eq.refl _)) (by decide) ?_
    exact (Kept.setFlag_name .bankStatus _ 0 (Eq.refl _)).mono (by decide)
  · subst x0
    refine Kept.step (Kept.setBit_name .outStatus 0 0 (Eq.refl _)) (by decide) ?_
    exact (Kept.setFlag_name .bankStatus _ 0 (Eq.refl _)).mono (by decide)

theorem Chip.disableInj_kept (k : Nat) (c : Chip) : Kept 0x4000000000000000000000000800000000010000000000003046 c
    (Chip.disableInj k c) := by
  unfold Chip.disableInj
  extract_lets x0 x1
  refine Kept.ite ?_ ?_
  · refine Kept.step (Chip.rewrite_kept ..) (by decide) ?_
    refine Kept.step (Chip.modInj_kept ..) (by decide) ?_
    subst x1
    refine Kept.step (Chip.modOuts_kept ..) (by decide) ?_
    exact (Kept.setBit_name .injEffective 0 0 (Eq.refl _)).mono (by decide)
  · subst x1
    refine Kept.step (Chip.modOuts_kept ..) (by decide) ?_
    exact (Kept.setBit_name .injEffective 0 0 (Eq.refl _)).mono (by decide)

theorem Chip.commitInjEnable_kept (v : Nat) (c : Chip) : Kept 0x4000000000000002000000700c000000000100000000810031c6 c
    (Chip.commitInjEnable v c) := by
  unfold Chip.commitInjEnable
  extract_lets x0 x1 x2 x3 x4 x5 x6 x7
  refine Kept.foldl (fun _ _ => ?_) ?_
  · exact (Chip.modOuts_kept ..).mono (by decide)
  · subst x7
    refine Kept.foldl (fun _ _ => ?_) ?_
    · refine Kept.ite ?_ ?_
      · refine Kept.step (Chip.showBank_kept ..) (by decide) ?_
        exact (Chip.settleBank_kept ..).mono (by decide)
      · exact Kept.rfl
    · subst x6
      refine Kept.foldl (fun _ _ => ?_) ?_
      · exact (Chip.injCut_kept ..).mono (by decide)
      · subst x5
        refine Kept.foldl (fun _ _ => ?_) ?_
        · exact (Chip.disableInj_kept ..).mono (by decide)
        · exact (Kept.put_name .injEnable 0 0 (Eq.refl _)).mono (by decide)

theorem Chip.modValve_kept (v : Nat) (f : Valve → Valve) (c : Chip) : Kept 0x2000 c (Chip.modValve v f c) := by
  unfold Chip.modValve
  exact (Chip.modOuts_kept ..).mono (by decide)

theorem Chip.valveOn_kept (v : Nat) (s : Nat) (tag : Option (Nat × Nat)) (c : Chip) : Kept 0x2000 c (Chip.valveOn v s tag c)
    := by
  unfold Chip.valveOn
  exact (Chip.modValve_kept ..).mono (by decide)

theorem Chip.valveStart_kept (v : Nat) (s : Nat) (tag : Option (Nat × Nat)) (c : Chip) : Kept 0x2000 c (Chip.valveStart v s
    tag c) := by
  unfold Chip.valveStart
  extract_lets x0
  refine Kept.ite ?_ ?_
  · exact (Chip.modValve_kept ..).mono (by decide)
  · split
    · refine Kept.ite ?_ ?_
      · exact (Chip.modValve_kept ..).mono (by decide)
      · exact (Chip.valveOn_kept ..).mono (by decide)
    · exact (Chip.valveOn_kept ..).mono (by decide)

theorem Chip.valveStop_kept (v : Nat) (c : Chip) : Kept 0x2000 c (Chip.valveStop v c) := by
  unfold Chip.valveStop
  exact (Chip.modValve_kept ..).mono (by decide)

theorem Chip.valveCut_kept (v : Nat) (c : Chip) : Kept 0x4000000000000000000000000000000000010000000000003046 c
    (Chip.valveCut v c) := by
  unfold Chip.valveCut
  extract_lets x0
  split
  · refine Kept.ite ?_ ?_
    · refine Kept.step (Chip.valveStop_kept ..) (by decide) ?_
      exact (Chip.cutStatus_kept ..).mono (by decide)
    · exact (Chip.valveStop_kept ..).mono (by decide)
  · exact (Chip.valveStop_kept ..).mono (by decide)

theorem Chip.modTio_kept (k : Nat) (f : Tio → Tio) (c : Chip) : Kept 0x2000 c (Chip.modTio k f c) := by
  unfold Chip.modTio
  exact (Chip.modOuts_kept ..).mono (by decide)

theorem Chip.tioOff_kept (k : Nat) (c : Chip) : Kept 0x4000000000000000000000000000000000010000000000003046 c (Chip.tioOff k
    c) := by
  unfold Chip.tioOff
  extract_lets x0
  refine Kept.step (Chip.modTio_kept ..) (by decide) ?_
  subst x0
  split
  · refine Kept.ite ?_ ?_
    · exact (Chip.cutStatus_kept ..).mono (by decide)
    · exact Kept.rfl
  · exact Kept.rfl

theorem Chip.tioCut_kept (k : Nat) (c : Chip) : Kept 0x4000000000000000000000000000000000010000000000003046 c (Chip.tioCut k
    c) := by
  unfold Chip.tioCut
  refine Kept.step (Chip.modTio_kept ..) (by decide) ?_
  exact (Chip.tioOff_kept ..).mono (by decide)

theorem Chip.hideEdge_kept (x : Edge) (c : Chip) : Kept 0x14000000000000000000000000000000000010000000000003046 c
    (Chip.hideEdge x c) := by
  unfold Chip.hideEdge
  refine Kept.ite ?_ ?_
  · exact Kept.rfl
  · extract_lets x0
    refine Kept.step (Kept.addReg_name .cntWithheld 0 0 (Eq.refl _)) (by decide) ?_
    refine Kept.step (Chip.modEntry_kept ..) (by decide) ?_
    exact (Chip.rewrite_kept ..).mono (by decide)

theorem Chip.disarm_kept (event : Nat) (c : Chip) : Kept 0x14000000000000000000000500200000000010000000400003046 c
    (Chip.disarm event c) := by
  unfold Chip.disarm
  extract_lets x0 x1 x2 x3 x4 x5 x6
  refine Kept.foldl (fun _ _ => ?_) ?_
  · exact (Chip.showBank_kept ..).mono (by decide)
  · subst x6
    refine Kept.foldl (fun _ _ => ?_) ?_
    · exact (Chip.tioCut_kept ..).mono (by decide)
    · subst x5
      refine Kept.foldl (fun _ _ => ?_) ?_
      · exact (Chip.valveCut_kept ..).mono (by decide)
      · subst x4
        refine Kept.foldl (fun _ _ => ?_) ?_
        · split
          · exact Kept.rfl
          · exact (Chip.modInj_kept ..).mono (by decide)
          · refine Kept.step (Chip.modInj_kept ..) (by decide) ?_
            refine Kept.step (Chip.closeDiag_kept ..) (by decide) ?_
            exact (Chip.cutStatus_kept ..).mono (by decide)
        · subst x3
          refine Kept.step (Chip.modSched_kept ..) (by decide) ?_
          refine Kept.foldl (fun _ _ => ?_) ?_
          · exact (Chip.hideEdge_kept ..).mono (by decide)
          · subst x1
            refine Kept.doIf (fun _ => ?_) ?_
            · exact (Kept.setFld_name .outStatus 0 0 (Eq.refl _)).mono (by decide)
            · refine Kept.step (Kept.setFlag_name .devStatus 0 0 (Eq.refl _)) (by decide) ?_
              exact (Kept.setFlag_name .outStatus 0 0 (Eq.refl _)).mono (by decide)

theorem Chip.safeStop_kept (c : Chip) : Kept 0x14000000000000000000000500200000000010000000400003046 c (Chip.safeStop c) :=
    by
  unfold Chip.safeStop
  refine Kept.step (Kept.setFlag_name .outStatus 0 0 (Eq.refl _)) (by decide) ?_
  exact (Chip.disarm_kept ..).mono (by decide)

theorem Chip.clearLatch_kept (c : Chip) : Kept 0x200000000000000000000000002 c (Chip.clearLatch c) := by
  unfold Chip.clearLatch
  refine Kept.ite ?_ ?_
  · exact (Kept.setFlag_name .outStatus 0 0 (Eq.refl _)).mono (by decide)
  · exact Kept.rfl

theorem Chip.takeArm_kept (c : Chip) : Kept 0x20000000002000000000000000004010001c2 c (Chip.takeArm c) := by
  unfold Chip.takeArm
  extract_lets x0
  refine Kept.ite ?_ ?_
  · subst x0
    dsimp only
    refine Kept.step (Chip.fault_kept ..) (by decide) ?_
    exact (Kept.setFld_name .outStatus 0 0 (Eq.refl _)).mono (by decide)
  · refine Kept.ite ?_ ?_
    · subst x0
      dsimp only
      refine Kept.step (Chip.fault_kept ..) (by decide) ?_
      exact (Kept.setFld_name .outStatus 0 0 (Eq.refl _)).mono (by decide)
    · refine Kept.ite ?_ ?_
      · subst x0
        dsimp only
        refine Kept.step (Chip.fault_kept ..) (by decide) ?_
        exact (Kept.setFld_name .outStatus 0 0 (Eq.refl _)).mono (by decide)
      · refine Kept.step (Kept.setFld_name .outStatus 0 0 (Eq.refl _)) (by decide) ?_
        refine Kept.step (Kept.setFlag_name .devStatus 0 0 (Eq.refl _)) (by decide) ?_
        exact (Kept.setFlag_name .outStatus 0 0 (Eq.refl _)).mono (by decide)

theorem Chip.armTick_kept (c : Chip) : Kept 0x140000000000000020000005002000000000100000004010031c6 c (Chip.armTick c) := by
  unfold Chip.armTick
  extract_lets x0 x1 x2 x3
  refine Kept.ite ?_ ?_
  · refine Kept.step (Chip.disarm_kept ..) (by decide) ?_
    subst x3
    exact (Chip.modOuts_kept ..).mono (by decide)
  · refine Kept.stepN (fun _ => ?_) ?_
    · exact (Chip.takeArm_kept ..).mono (by decide)
    · subst x3
      exact (Chip.modOuts_kept ..).mono (by decide)

theorem Chip.requestArm_kept (phaseG : Bool) (c : Chip) : Kept 0x2000 c (Chip.requestArm phaseG c) := by
  unfold Chip.requestArm
  exact (Chip.modOuts_kept ..).mono (by decide)

theorem Chip.requestDisarm_kept (phaseG : Bool) (c : Chip) : Kept 0x2000 c (Chip.requestDisarm phaseG c) := by
  unfold Chip.requestDisarm
  exact (Chip.modOuts_kept ..).mono (by decide)

theorem Chip.valveShort_kept (v : Nat) (c : Chip) : Kept 0x20000000010000000000000000000010021c2 c (Chip.valveShort v c) :=
    by
  unfold Chip.valveShort
  refine Kept.step (Chip.fault_kept ..) (by decide) ?_
  refine Kept.step (Chip.raise_kept ..) (by decide) ?_
  refine Kept.step (Kept.setFld_name .valveStatus 0 0 (Eq.refl _)) (by decide) ?_
  exact (Chip.valveStop_kept ..).mono (by decide)

theorem Chip.clearShort_kept (mask : Nat) (c : Chip) : Kept 0x1000000000000000000000000002 c (Chip.clearShort mask c) := by
  unfold Chip.clearShort
  extract_lets x0
  exact (Kept.setFld_name .valveStatus 0 0 (Eq.refl _)).mono (by decide)

theorem Chip.pullEnd_kept (v : Nat) (c : Chip) : Kept 0x2000 c (Chip.pullEnd v c) := by
  unfold Chip.pullEnd
  extract_lets x0 x1
  refine Kept.ite ?_ ?_
  · exact (Chip.modValve_kept ..).mono (by decide)
  · exact Kept.rfl

theorem Chip.pwmTurn_kept (v : Nat) (c : Chip) : Kept 0x2000 c (Chip.pwmTurn v c) := by
  unfold Chip.pwmTurn
  extract_lets x0 x1 x2
  refine Kept.ite ?_ ?_
  · exact Kept.rfl
  · refine Kept.ite ?_ ?_
    · exact (Chip.modValve_kept ..).mono (by decide)
    · refine Kept.ite ?_ ?_
      · exact (Chip.modValve_kept ..).mono (by decide)
      · exact Kept.rfl

end Sys2Proof.Machine
end

