-- ==== Sys2Proof/Laws/KeptSupply.lean ====
section
/-!
SUPPORT. The frame laws (`Kept`) of the operations of Machine/Supply.lean.
-/

namespace Sys2Proof.Machine

theorem Chip.modPower_kept (f : Power → Power) (c : Chip) : Kept 0x10000 c (Chip.modPower f c) := by
  unfold Chip.modPower
  exact Kept.power_set.mono (by decide)

theorem Chip.refreshSupply_kept (c : Chip) : Kept 0x20000000042 c (Chip.refreshSupply c) := by
  unfold Chip.refreshSupply
  refine Kept.ite ?_ ?_
  · exact Kept.rfl
  · extract_lets x0 x1 x2
    refine Kept.ite ?_ ?_
    · refine Kept.step (Chip.raise_kept ..) (by decide) ?_
      subst x2
      exact (Kept.put_name .supplyStatus 0 0 (Eq.refl _)).mono (by decide)
    · subst x2
      exact (Kept.put_name .supplyStatus 0 0 (Eq.refl _)).mono (by decide)

theorem Chip.standing_kept (was : Bool) (now : Bool) (code : Nat) (c : Chip) : Kept 0x20000000000000000000000000000010001c2
    c (Chip.standing was now code c) := by
  unfold Chip.standing
  refine Kept.ite ?_ ?_
  · exact (Chip.faultStanding_kept ..).mono (by decide)
  · refine Kept.ite ?_ ?_
    · exact (Chip.endStanding_kept ..).mono (by decide)
    · exact Kept.rfl

theorem Chip.showBoost_kept (c : Chip) : Kept 0x80000000000000000000000000000000000000000000002 c (Chip.showBoost c) := by
  unfold Chip.showBoost
  exact (Kept.setFld_name .boostStatus 0 0 (Eq.refl _)).mono (by decide)

theorem Chip.updateBands_kept (c : Chip) : Kept 0x2800000000020000000000000000000000000000010101c2 c (Chip.updateBands c) :=
    by
  unfold Chip.updateBands
  extract_lets x0 x1 x2 x3 x4 x5 x6 x7 x8 x9
  refine Kept.step (Chip.showBoost_kept ..) (by decide) ?_
  refine Kept.step (Chip.standing_kept ..) (by decide) ?_
  refine Kept.step (Chip.standing_kept ..) (by decide) ?_
  refine Kept.step (Chip.standing_kept ..) (by decide) ?_
  subst x9
  refine Kept.doIf (fun _ => ?_) ?_
  · exact (Kept.incFld_name .pwrCounts 0 0 (Eq.refl _)).mono (by decide)
  · subst x8
    refine Kept.doIf (fun _ => ?_) ?_
    · exact (Kept.incFld_name .pwrCounts 0 0 (Eq.refl _)).mono (by decide)
    · subst x7
      refine Kept.doIf (fun _ => ?_) ?_
      · exact (Kept.incFld_name .pwrCounts 0 0 (Eq.refl _)).mono (by decide)
      · subst x6
        exact (Chip.modPower_kept ..).mono (by decide)

theorem Chip.updateHoldup_kept (c : Chip) : Kept 0x10000000000000000000000000000000000000000000002 c (Chip.updateHoldup c)
    := by
  unfold Chip.updateHoldup
  extract_lets x0
  refine Kept.step (Kept.setFld_name .holdupStatus 0 0 (Eq.refl _)) (by decide) ?_
  exact (Kept.setFld_name .holdupStatus 0 0 (Eq.refl _)).mono (by decide)

theorem Chip.boostFault_kept (code : Nat) (c : Chip) : Kept 0x20000000000000000000000000000010001c2 c (Chip.boostFault code
    c) := by
  unfold Chip.boostFault
  refine Kept.step (Chip.fault_kept ..) (by decide) ?_
  exact (Chip.raise_kept ..).mono (by decide)

theorem Chip.boostSample_kept (meas : Nat) (c : Chip) : Kept 0x800000000020000000000000000000000000000010101c2 c
    (Chip.boostSample meas c) := by
  unfold Chip.boostSample
  refine Kept.ite ?_ ?_
  · exact Kept.rfl
  · extract_lets x0 x1 x2 x3
    refine Kept.step (Chip.showBoost_kept ..) (by decide) ?_
    refine Kept.step (Chip.modPower_kept ..) (by decide) ?_
    subst x2
    refine Kept.ite ?_ ?_
    · refine Kept.step (Chip.boostFault_kept ..) (by decide) ?_
      refine Kept.step (Kept.setFlag_name .boostStatus 0 0 (Eq.refl _)) (by decide) ?_
      subst x0
      exact (Kept.setFld_name .boostStatus 0 0 (Eq.refl _)).mono (by decide)
    · subst x0
      exact (Kept.setFld_name .boostStatus 0 0 (Eq.refl _)).mono (by decide)

theorem Chip.commitBoost_kept (a : Nat) (v : DWord) (c : Chip) : Kept 0x80000000000000000000000000000000000000080010002 c
    (Chip.commitBoost a v c) := by
  unfold Chip.commitBoost
  extract_lets x0 x1 x2
  refine Kept.step (Chip.showBoost_kept ..) (by decide) ?_
  refine Kept.step (Chip.modPower_kept ..) (by decide) ?_
  subst x0
  exact (Chip.storeMasked_kept ..).mono (by decide)

theorem Chip.senseCheck_kept (reading : Int) (c : Chip) : Kept 0x800000000020000000000000000000000000000010101c2 c
    (Chip.senseCheck reading c) := by
  unfold Chip.senseCheck
  extract_lets x0 x1
  refine Kept.ite ?_ ?_
  · refine Kept.step (Chip.showBoost_kept ..) (by decide) ?_
    refine Kept.step (Chip.boostFault_kept ..) (by decide) ?_
    refine Kept.step (Kept.setFlag_name .boostStatus 0 0 (Eq.refl _)) (by decide) ?_
    subst x1
    exact (Chip.modPower_kept ..).mono (by decide)
  · subst x1
    exact (Chip.modPower_kept ..).mono (by decide)

theorem Chip.railIs_kept (r : Rail) (ok : Bool) (c : Chip) : Kept 0x2800000000020000000000000000000000000000010101c2 c
    (Chip.railIs r ok c) := by
  unfold Chip.railIs
  extract_lets x0 x1 x2 x3
  refine Kept.ite ?_ ?_
  · refine Kept.step (Chip.updateBands_kept ..) (by decide) ?_
    subst x3
    refine Kept.ite ?_ ?_
    · refine Kept.step (Chip.faultStanding_kept ..) (by decide) ?_
      subst x2
      exact (Chip.modPower_kept ..).mono (by decide)
    · refine Kept.ite ?_ ?_
      · refine Kept.step (Chip.endStanding_kept ..) (by decide) ?_
        subst x2
        exact (Chip.modPower_kept ..).mono (by decide)
      · subst x2
        exact (Chip.modPower_kept ..).mono (by decide)
  · subst x3
    refine Kept.ite ?_ ?_
    · refine Kept.step (Chip.faultStanding_kept ..) (by decide) ?_
      subst x2
      exact (Chip.modPower_kept ..).mono (by decide)
    · refine Kept.ite ?_ ?_
      · refine Kept.step (Chip.endStanding_kept ..) (by decide) ?_
        subst x2
        exact (Chip.modPower_kept ..).mono (by decide)
      · subst x2
        exact (Chip.modPower_kept ..).mono (by decide)

theorem Chip.updateTemp_kept (f : Fld) (t : Int) (c : Chip) : Kept 0x800000000020000000000000000000000000000810101c2 c
    (Chip.updateTemp f t c) := by
  unfold Chip.updateTemp
  extract_lets x0 x1 x2 x3
  refine Kept.step (Chip.showBoost_kept ..) (by decide) ?_
  refine Kept.step (Chip.standing_kept ..) (by decide) ?_
  refine Kept.step (Chip.modPower_kept ..) (by decide) ?_
  subst x0
  exact (Chip.setFld_kept ..).mono (by decide)

theorem Chip.supplyReading_kept (code : Nat) (v : Int) (c : Chip) : Kept 0x2800000000020000000000000000000000000000810101c2
    c (Chip.supplyReading code v c) := by
  unfold Chip.supplyReading
  refine Kept.ite ?_ ?_
  · exact Kept.rfl
  · split
    · extract_lets x0
      refine Kept.ite ?_ ?_
      · exact Kept.rfl
      · refine Kept.step (Chip.updateBands_kept ..) (by decide) ?_
        exact (Chip.modPower_kept ..).mono (by decide)
    · exact (Chip.railIs_kept ..).mono (by decide)
    · exact (Chip.senseCheck_kept ..).mono (by decide)
    · exact (Chip.updateTemp_kept ..).mono (by decide)
    · exact (Chip.updateTemp_kept ..).mono (by decide)
    · exact Kept.rfl

end Sys2Proof.Machine
end

