-- ==== Sys2Proof/Laws/KeptTimers.lean ====
section
/-!
SUPPORT. The frame laws (`Kept`) of the operations of Machine/Timers.lean.
-/

namespace Sys2Proof.Machine

theorem Chip.modTimers_kept (f : Timers → Timers) (c : Chip) : Kept 0x4000 c (Chip.modTimers f c) := by
  unfold Chip.modTimers
  exact Kept.timers_set.mono (by decide)

theorem Chip.modCh_kept (u : Nat) (j : Nat) (f : TimerCh → TimerCh) (c : Chip) : Kept 0x4000 c (Chip.modCh u j f c) := by
  unfold Chip.modCh
  exact (Chip.modTimers_kept ..).mono (by decide)

theorem Chip.timerRaise_kept (s : Nat) (c : Chip) : Kept 0x40 c (Chip.timerRaise s c) := by
  unfold Chip.timerRaise
  refine Kept.ite ?_ ?_
  · exact (Chip.raise_kept ..).mono (by decide)
  · exact Kept.irq_set.mono (by decide)

theorem Chip.flagCh_kept (u : Nat) (j : Nat) (c : Chip) : Kept 0x4000000000000000004042 c (Chip.flagCh u j c) := by
  unfold Chip.flagCh
  extract_lets x0 x1
  refine Kept.doIf (fun _ => ?_) ?_
  · exact (Chip.modTimers_kept ..).mono (by decide)
  · subst x1
    refine Kept.step (Chip.timerRaise_kept ..) (by decide) ?_
    refine Kept.step (Kept.setFlag_name .chStatus _ _ (Eq.refl _)) (by decide) ?_
    subst x0
    refine Kept.ite ?_ ?_
    · exact (Kept.setFlag_name .chStatus _ _ (Eq.refl _)).mono (by decide)
    · exact Kept.rfl

theorem Chip.pinAction_kept (u : Nat) (j : Nat) (c : Chip) : Kept 0x2000 c (Chip.pinAction u j c) := by
  unfold Chip.pinAction
  extract_lets x0 x1
  refine Kept.foldl (fun _ _ => ?_) ?_
  · refine Kept.ite ?_ ?_
    · exact (Chip.modTio_kept ..).mono (by decide)
    · exact Kept.rfl
  · exact Kept.rfl

theorem Chip.matchCh_kept (u : Nat) (j : Nat) (c : Chip) : Kept 0x5000000000000000006042 c (Chip.matchCh u j c) := by
  unfold Chip.matchCh
  extract_lets x0
  refine Kept.ite ?_ ?_
  · refine Kept.step (Kept.put_name .chValue _ _ (Eq.refl _)) (by decide) ?_
    subst x0
    refine Kept.step (Chip.modCh_kept ..) (by decide) ?_
    refine Kept.step (Chip.pinAction_kept ..) (by decide) ?_
    exact (Chip.flagCh_kept ..).mono (by decide)
  · refine Kept.step (Kept.setFlag_name .chStatus _ _ (Eq.refl _)) (by decide) ?_
    subst x0
    refine Kept.step (Chip.modCh_kept ..) (by decide) ?_
    refine Kept.step (Chip.pinAction_kept ..) (by decide) ?_
    exact (Chip.flagCh_kept ..).mono (by decide)

theorem Chip.captureCh_kept (u : Nat) (j : Nat) (c : Chip) : Kept 0x5000000000000000004042 c (Chip.captureCh u j c) := by
  unfold Chip.captureCh
  refine Kept.step (Chip.flagCh_kept ..) (by decide) ?_
  exact (Kept.put_name .chValue _ _ (Eq.refl _)).mono (by decide)

theorem Chip.triggerTimer_kept (u : Nat) (j : Nat) (c : Chip) : Kept 0x25000000000000000004042 c (Chip.triggerTimer u j c)
    := by
  unfold Chip.triggerTimer
  refine Kept.ite ?_ ?_
  · refine Kept.step (Chip.modCh_kept ..) (by decide) ?_
    exact (Chip.captureCh_kept ..).mono (by decide)
  · exact (Kept.incFld_name .timerCounts 0 0 (Eq.refl _)).mono (by decide)

theorem Chip.armCh_kept (u : Nat) (j : Nat) (c : Chip) : Kept 0x4000 c (Chip.armCh u j c) := by
  unfold Chip.armCh
  exact (Chip.modCh_kept ..).mono (by decide)

theorem Chip.commitChCtrl_kept (u : Nat) (j : Nat) (v : DWord) (c : Chip) : Kept 0x4800000000000000004002 c
    (Chip.commitChCtrl u j v c) := by
  unfold Chip.commitChCtrl
  extract_lets x0 x1 x2
  refine Kept.ite ?_ ?_
  · refine Kept.step (Chip.armCh_kept ..) (by decide) ?_
    subst x1
    exact (Kept.storeMasked_name .chCtrl _ _ (Eq.refl _)).mono (by decide)
  · refine Kept.ite ?_ ?_
    · refine Kept.step (Chip.modCh_kept ..) (by decide) ?_
      refine Kept.step (Kept.setFlag_name .chStatus _ _ (Eq.refl _)) (by decide) ?_
      subst x1
      exact (Kept.storeMasked_name .chCtrl _ _ (Eq.refl _)).mono (by decide)
    · subst x1
      exact (Kept.storeMasked_name .chCtrl _ _ (Eq.refl _)).mono (by decide)

theorem Chip.commitChValue_kept (u : Nat) (j : Nat) (v : DWord) (c : Chip) : Kept 0x1000000000000400004002 c
    (Chip.commitChValue u j v c) := by
  unfold Chip.commitChValue
  refine Kept.ite ?_ ?_
  · exact (Chip.portErr_kept ..).mono (by decide)
  · extract_lets x0
    refine Kept.ite ?_ ?_
    · refine Kept.step (Chip.armCh_kept ..) (by decide) ?_
      subst x0
      exact (Kept.put_name .chValue _ _ (Eq.refl _)).mono (by decide)
    · subst x0
      exact (Kept.put_name .chValue _ _ (Eq.refl _)).mono (by decide)

theorem Chip.commitTuCfg_kept (u : Nat) (v : DWord) (c : Chip) : Kept 0x500000000000000000002 c (Chip.commitTuCfg u v c) :=
    by
  unfold Chip.commitTuCfg
  extract_lets x0 x1 x2
  refine Kept.step (Kept.setFlag_name .tuStatus _ 0 (Eq.refl _)) (by decide) ?_
  subst x2
  refine Kept.ite ?_ ?_
  · refine Kept.step (Kept.setFld_name .tuStatus _ 0 (Eq.refl _)) (by decide) ?_
    subst x1
    exact (Kept.storeMasked_name .tuCfg _ 0 (Eq.refl _)).mono (by decide)
  · subst x1
    exact (Kept.storeMasked_name .tuCfg _ 0 (Eq.refl _)).mono (by decide)

theorem Chip.commitTimer_kept (u : Nat) (a : Nat) (v : DWord) (c : Chip) : Kept 0x5d00000000000480004002 c (Chip.commitTimer
    u a v c) := by
  unfold Chip.commitTimer
  extract_lets x0 x1
  refine Kept.ite ?_ ?_
  · exact Kept.rfl
  · refine Kept.ite ?_ ?_
    · exact (Chip.commitTuCfg_kept ..).mono (by decide)
    · refine Kept.ite ?_ ?_
      · exact (Chip.storeMasked_kept ..).mono (by decide)
      · split
        · exact (Chip.commitChCtrl_kept ..).mono (by decide)
        · exact (Chip.commitChValue_kept ..).mono (by decide)
        · exact (Chip.storeMasked_kept ..).mono (by decide)

theorem Chip.countUnit_kept (u : Nat) (pre : Nat) (ev : Bool) (c : Chip) : Kept 0x600000000000000000042 c (Chip.countUnit u
    pre ev c).2.2 := by
  unfold Chip.countUnit
  extract_lets x0 x1 x2 x3 x4
  split
  · dsimp only
    refine Kept.step (Kept.put_name .tuCount _ 0 (Eq.refl _)) (by decide) ?_
    refine Kept.ite ?_ ?_
    · exact (Kept.setFlag_name .tuStatus _ 0 (Eq.refl _)).mono (by decide)
    · exact Kept.rfl
  · split
    · split
      · dsimp only
        refine Kept.step (Chip.timerRaise_kept ..) (by decide) ?_
        refine Kept.step (Kept.setFlag_name .tuStatus _ 0 (Eq.refl _)) (by decide) ?_
        refine Kept.step (Kept.put_name .tuCount _ 0 (Eq.refl _)) (by decide) ?_
        refine Kept.ite ?_ ?_
        · exact (Kept.setFlag_name .tuStatus _ 0 (Eq.refl _)).mono (by decide)
        · exact Kept.rfl
      · dsimp only
        refine Kept.step (Kept.put_name .tuCount _ 0 (Eq.refl _)) (by decide) ?_
        refine Kept.ite ?_ ?_
        · exact (Kept.setFlag_name .tuStatus _ 0 (Eq.refl _)).mono (by decide)
        · exact Kept.rfl
    · dsimp only
      refine Kept.ite ?_ ?_
      · exact (Kept.setFlag_name .tuStatus _ 0 (Eq.refl _)).mono (by decide)
      · exact Kept.rfl

theorem Chip.armTest_kept (u : Nat) (j : Nat) (c : Chip) : Kept 0x4000000000000000004002 c (Chip.armTest u j c) := by
  unfold Chip.armTest
  refine Kept.ite ?_ ?_
  · extract_lets x0
    refine Kept.step (Chip.modCh_kept ..) (by decide) ?_
    exact (Kept.setFlag_name .chStatus _ _ (Eq.refl _)).mono (by decide)
  · exact Kept.rfl

theorem Chip.serveCh_kept (u : Nat) (updated : Bool) (pins : List (Nat × Bool)) (p : List Bool × Chip) (j : Nat) :
    Kept 0x5000000000000000006042 p.2 (Chip.serveCh u updated pins p j).2 := by
  unfold Chip.serveCh
  extract_lets x c
  have hc : Kept 0x5000000000000000006042 p.2 c := (Chip.modCh_kept ..).mono (by decide)
  split
  · exact hc
  split
  · exact Kept.step (Chip.matchCh_kept ..) (by decide) hc
  split
  · exact Kept.step (Chip.captureCh_kept ..) (by decide) hc
  · exact hc

theorem Chip.unitEdge_kept (commits : List (Nat × DWord)) (pins : List (Nat × Bool)) (pre : Nat) (p : List (List Bool) × Chip)
    (u : Nat) : Kept 0x5f00000000000480006042 p.2 (Chip.unitEdge commits pins pre p u).2 := by
  unfold Chip.unitEdge
  extract_lets c1 q c2 r
  refine Kept.foldl_snd (fun q x => (Chip.serveCh_kept ..).mono (by decide)) ?_
  refine Kept.foldl (fun d x => (Chip.armTest_kept ..).mono (by decide)) ?_
  refine Kept.step (Chip.countUnit_kept ..) (by decide) ?_
  exact Kept.foldl (fun d x => (Chip.commitTimer_kept ..).mono (by decide)) Kept.rfl

theorem Chip.snapCounts_kept (c : Chip) : Kept 0x80000000000000000000002 c (Chip.snapCounts c) := by
  unfold Chip.snapCounts
  refine Kept.foldl (fun _ _ => ?_) ?_
  · exact (Kept.put_name .tuSnap _ 0 (Eq.refl _)).mono (by decide)
  · exact Kept.rfl

theorem Chip.bclkEdge_kept (commits : List (Nat × DWord)) (pins : List (Nat × Bool)) (c : Chip) :
    Kept 0xcdf00000000000480006042 c (Chip.bclkEdge commits pins c) := by
  unfold Chip.bclkEdge
  extract_lets c0 pre c1
  have h : Kept 0xcdf00000000000480006042 c c1 := by
    refine Kept.step (Chip.modTimers_kept ..) (by decide) ?_
    refine Kept.foldl_snd (fun q x => (Chip.unitEdge_kept ..).mono (by decide)) ?_
    refine Kept.step (Kept.setFld_name .timerPre 0 0 (Eq.refl _)) (by decide) ?_
    exact Kept.foldl (fun d x => (Kept.setBit_name .tioLevel 0 0 (Eq.refl _)).mono (by decide)) Kept.rfl
  split
  · exact Kept.step (Chip.snapCounts_kept ..) (by decide) h
  · exact h

theorem Chip.watchTime_kept (c : Chip) : Kept 0x8 c (Chip.watchTime c) := by
  unfold Chip.watchTime
  refine Kept.ite ?_ ?_
  · exact Kept.tb_set.mono (by decide)
  · exact Kept.rfl

theorem Chip.nextEdge_kept (more : List (Nat × DWord)) (pins : List (Nat × Bool)) (c : Chip) : Kept
    0xcdf0000000000048000605a c (Chip.nextEdge more pins c) := by
  unfold Chip.nextEdge
  refine Kept.ite ?_ ?_
  · refine Kept.step (Chip.bclkEdge_kept ..) (by decide) ?_
    refine Kept.step (Chip.watchTime_kept ..) (by decide) ?_
    exact Kept.bus_set.mono (by decide)
  · exact Kept.rfl

theorem Chip.bclkEdges_kept (n : Nat) (c : Chip) : Kept 0xcdf0000000000048000605a c (Chip.bclkEdges n c) := by
  unfold Chip.bclkEdges
  refine Kept.stepN (fun _ => ?_) ?_
  · exact (Chip.nextEdge_kept ..).mono (by decide)
  · exact Kept.rfl

theorem Chip.commitTioSel_kept (k : Nat) (v : DWord) (c : Chip) : Kept 0x4000000000020000000000000000000000000000010021c2 c
    (Chip.commitTioSel k v c) := by
  unfold Chip.commitTioSel
  extract_lets x0 x1 x2 x3
  refine Kept.ite ?_ ?_
  · exact (Chip.fault_kept ..).mono (by decide)
  · refine Kept.ite ?_ ?_
    · exact (Chip.fault_kept ..).mono (by decide)
    · refine Kept.ite ?_ ?_
      · refine Kept.step (Chip.modTio_kept ..) (by decide) ?_
        subst x3
        exact (Kept.storeMasked_name .tioSel _ 0 (Eq.refl _)).mono (by decide)
      · subst x3
        exact (Kept.storeMasked_name .tioSel _ 0 (Eq.refl _)).mono (by decide)

theorem Chip.commitEdge_kept (x : Nat × DWord) (lead : Nat) (c : Chip) : Kept 0xcdf0000000000048000605a c (Chip.commitEdge x
    lead c) := by
  unfold Chip.commitEdge
  refine Kept.ite ?_ ?_
  · exact (Chip.bclkEdges_kept ..).mono (by decide)
  · refine Kept.step (Chip.nextEdge_kept ..) (by decide) ?_
    exact (Chip.bclkEdges_kept ..).mono (by decide)

end Sys2Proof.Machine
end

