-- ==== Sys2Proof/Laws/KeptConverter.lean ====
section
/-!
SUPPORT. The frame laws (`Kept`) of the operations of Machine/Converter.lean.
-/

namespace Sys2Proof.Machine

theorem Chip.modConv_kept (f : Conv → Conv) (c : Chip) : Kept 0x8000 c (Chip.modConv f c) := by
  unfold Chip.modConv
  exact Kept.conv_set.mono (by decide)

theorem Chip.modCore_kept (k : Nat) (f : ConvCore → ConvCore) (c : Chip) : Kept 0x8000 c (Chip.modCore k f c) := by
  unfold Chip.modCore
  exact (Chip.modConv_kept ..).mono (by decide)

theorem Chip.convFault_kept (code : Nat) (k : Nat) (r : Nat) (c : Chip) : Kept 0x20000000000000000000000000000010001c2 c
    (Chip.convFault code k r c) := by
  unfold Chip.convFault
  refine Kept.step (Chip.fault_kept ..) (by decide) ?_
  exact (Chip.raise_kept ..).mono (by decide)

theorem Chip.showRing_kept (r : Nat) (c : Chip) : Kept 0x100000000000000000000000042 c (Chip.showRing r c) := by
  unfold Chip.showRing
  extract_lets x0 x1 x2 x3 x4 x5
  refine Kept.ite ?_ ?_
  · refine Kept.ite ?_ ?_
    · subst x5
      refine Kept.step (Kept.incFld_name .resStatus _ 0 (Eq.refl _)) (by decide) ?_
      subst x4
      refine Kept.step (Kept.setFlag_name .resStatus _ 0 (Eq.refl _)) (by decide) ?_
      exact (Kept.setFld_name .resStatus _ 0 (Eq.refl _)).mono (by decide)
    · refine Kept.step (Chip.raise_kept ..) (by decide) ?_
      refine Kept.step (Kept.setFlag_name .resStatus _ 0 (Eq.refl _)) (by decide) ?_
      subst x5
      refine Kept.step (Kept.incFld_name .resStatus _ 0 (Eq.refl _)) (by decide) ?_
      subst x4
      refine Kept.step (Kept.setFlag_name .resStatus _ 0 (Eq.refl _)) (by decide) ?_
      exact (Kept.setFld_name .resStatus _ 0 (Eq.refl _)).mono (by decide)
  · subst x4
    refine Kept.step (Kept.setFlag_name .resStatus _ 0 (Eq.refl _)) (by decide) ?_
    exact (Kept.setFld_name .resStatus _ 0 (Eq.refl _)).mono (by decide)

theorem Chip.result_kept (r : Nat) (k : Nat) (stat : Nat) (clip : Bool) (value : Nat) (c : Chip) : Kept
    0x20000000001208000000000000000010081c6 c (Chip.result r k stat clip value c) := by
  unfold Chip.result
  extract_lets x0 x1 x2 x3 x4 x5
  refine Kept.ite ?_ ?_
  · refine Kept.step (Chip.convFault_kept ..) (by decide) ?_
    refine Kept.step (Kept.setFlag_name .resStatus _ 0 (Eq.refl _)) (by decide) ?_
    refine Kept.step (Kept.incFld_name .resStatus _ 0 (Eq.refl _)) (by decide) ?_
    subst x4
    refine Kept.ite ?_ ?_
    · refine Kept.step (Kept.incFld_name .convCounts 0 0 (Eq.refl _)) (by decide) ?_
      subst x3
      exact (Chip.modConv_kept ..).mono (by decide)
    · refine Kept.ite ?_ ?_
      · refine Kept.step (Kept.incFld_name .convCounts 0 0 (Eq.refl _)) (by decide) ?_
        subst x3
        exact (Chip.modConv_kept ..).mono (by decide)
      · subst x3
        exact (Chip.modConv_kept ..).mono (by decide)
  · refine Kept.step (Chip.showRing_kept ..) (by decide) ?_
    refine Kept.step (Kept.put_name .resHead _ 0 (Eq.refl _)) (by decide) ?_
    refine Kept.step (Chip.putWin32_kept ..) (by decide) ?_
    subst x4
    refine Kept.ite ?_ ?_
    · refine Kept.step (Kept.incFld_name .convCounts 0 0 (Eq.refl _)) (by decide) ?_
      subst x3
      exact (Chip.modConv_kept ..).mono (by decide)
    · refine Kept.ite ?_ ?_
      · refine Kept.step (Kept.incFld_name .convCounts 0 0 (Eq.refl _)) (by decide) ?_
        subst x3
        exact (Chip.modConv_kept ..).mono (by decide)
      · subst x3
        exact (Chip.modConv_kept ..).mono (by decide)

theorem Chip.monitorMiss_kept (code : Nat) (k : Nat) (c : Chip) : Kept 0x20000000000000000000000000000010081c2 c
    (Chip.monitorMiss code k c) := by
  unfold Chip.monitorMiss
  refine Kept.ite ?_ ?_
  · exact Kept.rfl
  · extract_lets x0
    refine Kept.ite ?_ ?_
    · refine Kept.step (Chip.convFault_kept ..) (by decide) ?_
      subst x0
      exact (Chip.modConv_kept ..).mono (by decide)
    · subst x0
      exact (Chip.modConv_kept ..).mono (by decide)

theorem Chip.loseWindow_kept (w : ConvWin) (k : Nat) (stat : Nat) (raised : Bool) (c : Chip) : Kept
    0x20000000001208000000000000000010081c6 c (Chip.loseWindow w k stat raised c) := by
  unfold Chip.loseWindow
  refine Kept.ite ?_ ?_
  · exact (Chip.monitorMiss_kept ..).mono (by decide)
  · extract_lets x0
    refine Kept.ite ?_ ?_
    · refine Kept.step (Chip.convFault_kept ..) (by decide) ?_
      subst x0
      exact (Chip.result_kept ..).mono (by decide)
    · subst x0
      exact (Chip.result_kept ..).mono (by decide)

theorem Chip.freeCore_kept (k : Nat) (e : Nat) (c : Chip) : Kept 0x8000 c (Chip.freeCore k e c) := by
  unfold Chip.freeCore
  exact (Chip.modCore_kept ..).mono (by decide)

theorem Chip.abortCore_kept (k : Nat) (e : Nat) (c : Chip) : Kept 0x20000000001208000000000000000010081c6 c (Chip.abortCore
    k e c) := by
  unfold Chip.abortCore
  split
  · exact Kept.rfl
  · refine Kept.step (Chip.loseWindow_kept ..) (by decide) ?_
    exact (Chip.freeCore_kept ..).mono (by decide)

theorem Chip.openWin_kept (w : ConvWin) (k : Nat) (e : Nat) (c : Chip) : Kept 0x8000 c (Chip.openWin w k e c) := by
  unfold Chip.openWin
  exact (Chip.modCore_kept ..).mono (by decide)

theorem Chip.openAngle_kept (w : ConvWin) (e : Nat) (c : Chip) : Kept 0x20000000001208000000000000000010081c6 c
    (Chip.openAngle w e c) := by
  unfold Chip.openAngle
  extract_lets x0
  refine Kept.ite ?_ ?_
  · exact (Chip.loseWindow_kept ..).mono (by decide)
  · split
    · exact (Chip.openWin_kept ..).mono (by decide)
    · refine Kept.ite ?_ ?_
      · exact (Chip.loseWindow_kept ..).mono (by decide)
      · refine Kept.step (Chip.openWin_kept ..) (by decide) ?_
        exact (Chip.abortCore_kept ..).mono (by decide)

theorem Chip.openTimed_kept (w : ConvWin) (k : Nat) (e : Nat) (c : Chip) : Kept 0x20000000001208000000000000000010081c6 c
    (Chip.openTimed w k e c) := by
  unfold Chip.openTimed
  refine Kept.ite ?_ ?_
  · exact (Chip.loseWindow_kept ..).mono (by decide)
  · refine Kept.ite ?_ ?_
    · exact (Chip.openWin_kept ..).mono (by decide)
    · refine Kept.ite ?_ ?_
      · exact (Chip.loseWindow_kept ..).mono (by decide)
      · exact (Chip.modConv_kept ..).mono (by decide)

theorem Chip.monitorSecond_kept (e : Nat) (c : Chip) : Kept 0x20000000001208000000000000000010081c6 c (Chip.monitorSecond e
    c) := by
  unfold Chip.monitorSecond
  split
  · exact Kept.rfl
  · refine Kept.ite ?_ ?_
    · exact Kept.rfl
    · refine Kept.step (Chip.openTimed_kept ..) (by decide) ?_
      exact (Chip.modConv_kept ..).mono (by decide)

theorem Chip.checkCore_kept (code : Nat) (k : Nat) (v : Int) (c : Chip) : Kept 0x20000000000000000000000000000010081c2 c
    (Chip.checkCore code k v c) := by
  unfold Chip.checkCore
  extract_lets x0
  refine Kept.ite ?_ ?_
  · refine Kept.step (Chip.convFault_kept ..) (by decide) ?_
    exact (Chip.modCore_kept ..).mono (by decide)
  · exact (Chip.modCore_kept ..).mono (by decide)

theorem Chip.monitorDone_kept (w : ConvWin) (k : Nat) (clip : Bool) (value : Nat) (c : Chip) : Kept
    0x2840000000020000000000040000000000000000810181c2 c (Chip.monitorDone w k clip value c) := by
  unfold Chip.monitorDone
  extract_lets x0 x1
  refine Kept.ite ?_ ?_
  · refine Kept.step (Chip.supplyReading_kept ..) (by decide) ?_
    refine Kept.step (Kept.setFld_name .supplyMeas 0 0 (Eq.refl _)) (by decide) ?_
    refine Kept.step (Chip.modConv_kept ..) (by decide) ?_
    subst x1
    exact (Kept.put_name .monResult _ 0 (Eq.refl _)).mono (by decide)
  · refine Kept.ite ?_ ?_
    · refine Kept.step (Chip.checkCore_kept ..) (by decide) ?_
      subst x1
      exact (Kept.put_name .monResult _ 0 (Eq.refl _)).mono (by decide)
    · refine Kept.step (Chip.supplyReading_kept ..) (by decide) ?_
      subst x1
      exact (Kept.put_name .monResult _ 0 (Eq.refl _)).mono (by decide)

theorem Chip.finishWin_kept (w : ConvWin) (k : Nat) (stat : Nat) (raw : Int) (left : Bool) (e : Nat) (c : Chip) : Kept
    0x2840000000020000000001248000000000000000810189c6 c (Chip.finishWin w k stat raw left e c) := by
  unfold Chip.finishWin
  extract_lets x0 x1
  refine Kept.ite ?_ ?_
  · refine Kept.step (Chip.monitorSecond_kept ..) (by decide) ?_
    refine Kept.step (Chip.monitorDone_kept ..) (by decide) ?_
    subst x1
    refine Kept.step (Chip.freeCore_kept ..) (by decide) ?_
    exact (Chip.useFree_kept ..).mono (by decide)
  · refine Kept.step (Chip.result_kept ..) (by decide) ?_
    subst x1
    refine Kept.step (Chip.freeCore_kept ..) (by decide) ?_
    exact (Chip.useFree_kept ..).mono (by decide)

theorem Chip.restart_kept (k : Nat) (e : Nat) (c : Chip) : Kept 0x8000 c (Chip.restart k e c) := by
  unfold Chip.restart
  exact (Chip.modCore_kept ..).mono (by decide)

theorem Chip.syncCore_kept (k : Nat) (e : Nat) (c : Chip) : Kept 0x20000000001208000000000000000010081c6 c (Chip.syncCore k
    e c) := by
  unfold Chip.syncCore
  refine Kept.ite ?_ ?_
  · exact (Chip.restart_kept ..).mono (by decide)
  · refine Kept.step (Chip.monitorSecond_kept ..) (by decide) ?_
    exact (Chip.abortCore_kept ..).mono (by decide)

theorem Chip.abortOpen_kept (p : Nat → ConvWin → Bool) (e : Nat) (c : Chip) : Kept 0x20000000001208000000000000000010081c6 c
    (Chip.abortOpen p e c) := by
  unfold Chip.abortOpen
  refine Kept.foldl (fun _ _ => ?_) ?_
  · split
    · refine Kept.ite ?_ ?_
      · exact (Chip.abortCore_kept ..).mono (by decide)
      · exact Kept.rfl
    · exact Kept.rfl
  · exact Kept.rfl

theorem Chip.openWaiting_kept (p : Nat → ConvWin → Bool) (c : Chip) : Kept 0x20000000001208000000000000000010081c6 c
    (Chip.openWaiting p c) := by
  unfold Chip.openWaiting
  refine Kept.foldl (fun _ _ => ?_) ?_
  · split
    · refine Kept.ite ?_ ?_
      · extract_lets x0
        refine Kept.ite ?_ ?_
        · refine Kept.step (Chip.openAngle_kept ..) (by decide) ?_
          subst x0
          exact (Chip.modConv_kept ..).mono (by decide)
        · refine Kept.step (Chip.openTimed_kept ..) (by decide) ?_
          subst x0
          exact (Chip.modConv_kept ..).mono (by decide)
      · exact Kept.rfl
    · exact Kept.rfl
  · exact Kept.rfl

theorem Chip.abortAngles_kept (c : Chip) : Kept 0x20000000001208000000000000000010081c6 c (Chip.abortAngles c) := by
  unfold Chip.abortAngles
  extract_lets x0
  refine Kept.step (Chip.monitorSecond_kept ..) (by decide) ?_
  refine Kept.step (Chip.abortOpen_kept ..) (by decide) ?_
  exact (Chip.openWaiting_kept ..).mono (by decide)

theorem Chip.missWaiting_kept (p : Nat × Nat × ConvWin → Bool) (c : Chip) : Kept 0x20000000001208000000000000000010081c6 c
    (Chip.missWaiting p c) := by
  unfold Chip.missWaiting
  refine Kept.foldl (fun _ _ => ?_) ?_
  · exact (Chip.loseWindow_kept ..).mono (by decide)
  · exact (Chip.modConv_kept ..).mono (by decide)

theorem Chip.missOpens_kept (c : Chip) : Kept 0x20000000001208000000000000000010081c6 c (Chip.missOpens c) := by
  unfold Chip.missOpens
  refine Kept.foldl (fun _ _ => ?_) ?_
  · split
    · exact (Chip.loseWindow_kept ..).mono (by decide)
    · exact Kept.rfl
  · exact (Chip.modConv_kept ..).mono (by decide)

theorem Chip.stopConv_kept (c : Chip) : Kept 0x20000000001208000000000000000010081c6 c (Chip.stopConv c) := by
  unfold Chip.stopConv
  refine Kept.step (Chip.missOpens_kept ..) (by decide) ?_
  refine Kept.step (Chip.missWaiting_kept ..) (by decide) ?_
  refine Kept.foldl (fun _ _ => ?_) ?_
  · exact (Chip.abortCore_kept ..).mono (by decide)
  · exact Kept.rfl

theorem Chip.showConv_kept (c : Chip) : Kept 0x100000000000000000000002 c (Chip.showConv c) := by
  unfold Chip.showConv
  extract_lets x0 x1
  exact (Kept.put_name .convStatus 0 0 (Eq.refl _)).mono (by decide)

theorem Chip.convEnqueue_kept (x : Nat × ConvAct) (c : Chip) : Kept 0x8000 c (Chip.convEnqueue x c) := by
  unfold Chip.convEnqueue
  extract_lets x0
  refine Kept.step (Chip.modConv_kept ..) (by decide) ?_
  subst x0
  exact (Chip.modConv_kept ..).mono (by decide)

theorem Chip.convStart_kept (r : Nat) (idx : Nat) (at' : Nat) (timeMode : Bool) (dur : Nat) (c : Chip) : Kept 0x8000 c
    (Chip.convStart r idx at' timeMode dur c) := by
  unfold Chip.convStart
  extract_lets x0
  exact (Chip.convEnqueue_kept ..).mono (by decide)

theorem Chip.convEnd_kept (r : Nat) (idx : Nat) (at' : Nat) (c : Chip) : Kept 0x8000 c (Chip.convEnd r idx at' c) := by
  unfold Chip.convEnd
  exact (Chip.convEnqueue_kept ..).mono (by decide)

theorem Chip.convSync_kept (k : Nat) (at' : Nat) (c : Chip) : Kept 0x8000 c (Chip.convSync k at' c) := by
  unfold Chip.convSync
  exact (Chip.convEnqueue_kept ..).mono (by decide)

theorem Chip.commitConvStart_kept (v : Nat) (c : Chip) : Kept 0x8000 c (Chip.commitConvStart v c) := by
  unfold Chip.commitConvStart
  refine Kept.foldl (fun _ _ => ?_) ?_
  · refine Kept.ite ?_ ?_
    · extract_lets x0
      exact (Chip.convEnqueue_kept ..).mono (by decide)
    · exact Kept.rfl
  · exact Kept.rfl

theorem Chip.commitConvSync_kept (v : Nat) (c : Chip) : Kept 0x8000 c (Chip.commitConvSync v c) := by
  unfold Chip.commitConvSync
  refine Kept.foldl (fun _ _ => ?_) ?_
  · refine Kept.ite ?_ ?_
    · exact (Chip.convSync_kept ..).mono (by decide)
    · exact Kept.rfl
  · exact Kept.rfl

theorem Chip.endAffected_kept (p : Nat → ConvWin → Bool) (c : Chip) : Kept 0x20000000001208000000000000000010081c6 c
    (Chip.endAffected p c) := by
  unfold Chip.endAffected
  extract_lets x0 x1
  refine Kept.step (Chip.missWaiting_kept ..) (by decide) ?_
  refine Kept.step (Chip.abortOpen_kept ..) (by decide) ?_
  subst x1
  exact (Chip.openWaiting_kept ..).mono (by decide)

theorem Chip.commitConvCfg_kept (a : Nat) (v : DWord) (c : Chip) : Kept 0x20000000001208000000000000000810081c6 c
    (Chip.commitConvCfg a v c) := by
  unfold Chip.commitConvCfg
  extract_lets x0 x1
  split
  · extract_lets x2 x3
    refine Kept.ite ?_ ?_
    · refine Kept.step (Chip.restart_kept ..) (by decide) ?_
      subst x3
      refine Kept.ite ?_ ?_
      · refine Kept.step (Chip.monitorSecond_kept ..) (by decide) ?_
        refine Kept.step (Chip.storeMasked_kept ..) (by decide) ?_
        exact (Chip.endAffected_kept ..).mono (by decide)
      · subst x0
        exact (Chip.storeMasked_kept ..).mono (by decide)
    · subst x3
      refine Kept.ite ?_ ?_
      · refine Kept.step (Chip.monitorSecond_kept ..) (by decide) ?_
        refine Kept.step (Chip.storeMasked_kept ..) (by decide) ?_
        exact (Chip.endAffected_kept ..).mono (by decide)
      · subst x0
        exact (Chip.storeMasked_kept ..).mono (by decide)
  · split
    · refine Kept.ite ?_ ?_
      · subst x0
        exact (Chip.storeMasked_kept ..).mono (by decide)
      · refine Kept.foldl (fun _ _ => ?_) ?_
        · refine Kept.ite ?_ ?_
          · exact (Chip.restart_kept ..).mono (by decide)
          · exact Kept.rfl
        · refine Kept.step (Chip.storeMasked_kept ..) (by decide) ?_
          exact (Chip.endAffected_kept ..).mono (by decide)
    · split
      · refine Kept.step (Chip.showRing_kept ..) (by decide) ?_
        subst x0
        exact (Chip.storeMasked_kept ..).mono (by decide)
      · subst x0
        exact (Chip.storeMasked_kept ..).mono (by decide)

theorem Chip.commitRingTail_kept (r : Nat) (v : Nat) (c : Chip) : Kept 0x140000000000000000400000042 c (Chip.commitRingTail
    r v c) := by
  unfold Chip.commitRingTail
  refine Kept.ite ?_ ?_
  · exact (Chip.portErr_kept ..).mono (by decide)
  · refine Kept.step (Chip.showRing_kept ..) (by decide) ?_
    exact (Kept.put_name .resTail _ 0 (Eq.refl _)).mono (by decide)

theorem Chip.monitorBurst_kept (c : Chip) : Kept 0x20000000001208000000000000000010081c6 c (Chip.monitorBurst c) := by
  unfold Chip.monitorBurst
  extract_lets x0 x1 x2
  refine Kept.step (Chip.monitorSecond_kept ..) (by decide) ?_
  refine Kept.step (Chip.openTimed_kept ..) (by decide) ?_
  subst x2
  exact (Chip.modConv_kept ..).mono (by decide)

theorem Chip.inboxDrop_kept (x : Nat × ConvAct) (c : Chip) : Kept 0x8000 c (Chip.inboxDrop x c) := by
  unfold Chip.inboxDrop
  exact (Chip.modConv_kept ..).mono (by decide)

theorem Chip.decimate_kept (k : Nat) (new : Int) (mid : Int) (old : Int) (c : Chip) : Kept 0x8000 c (Chip.decimate k new mid
    old c).2 := by
  unfold Chip.decimate
  dsimp only
  exact (Chip.modCore_kept ..).mono (by decide)

theorem Chip.settleAngles_kept (c : Chip) : Kept 0x20000000001209000000000000000010085c6 c (Chip.settleAngles c) := by
  unfold Chip.settleAngles
  refine Kept.ite ?_ ?_
  · refine Kept.step (Chip.showConv_kept ..) (by decide) ?_
    refine Kept.step (Chip.modPred_kept ..) (by decide) ?_
    exact (Chip.abortAngles_kept ..).mono (by decide)
  · exact Kept.rfl

end Sys2Proof.Machine
end

