-- ==== Sys2Proof/Laws/KeptFaults.lean ====
section
/-!
SUPPORT. The frame laws (`Kept`) of the operations of Machine/Faults.lean.
-/

namespace Sys2Proof.Machine

theorem Chip.modIrq_kept (f : Irq → Irq) (c : Chip) : Kept 0x40 c (Chip.modIrq f c) := by
  unfold Chip.modIrq
  exact Kept.irq_set.mono (by decide)

theorem Chip.setActive_kept (x : HostTarget) (s : Nat) (b : Bool) (c : Chip) : Kept 0x40 c (Chip.setActive x s b c) := by
  unfold Chip.setActive
  split
  · exact (Chip.modIrq_kept ..).mono (by decide)
  · exact (Chip.modIrq_kept ..).mono (by decide)

theorem Chip.restartSeen_kept (x : HostTarget) (c : Chip) : Kept 0x40 c (Chip.restartSeen x c) := by
  unfold Chip.restartSeen
  split
  · exact (Chip.modIrq_kept ..).mono (by decide)
  · exact (Chip.modIrq_kept ..).mono (by decide)

theorem Chip.clearPend_kept (s : Nat) (c : Chip) : Kept 0x40 c (Chip.clearPend s c) := by
  unfold Chip.clearPend
  exact (Chip.modIrq_kept ..).mono (by decide)

theorem Chip.claim_kept (x : HostTarget) (c : Chip) : Kept 0x4000000000042 c (Chip.claim x c).2 := by
  unfold Chip.claim
  split
  · dsimp only
    refine Kept.step (Chip.restartSeen_kept ..) (by decide) ?_
    refine Kept.step (Chip.setActive_kept ..) (by decide) ?_
    exact (Chip.clearPend_kept ..).mono (by decide)
  · refine Kept.ite_snd ?_ ?_
    · dsimp only
      refine Kept.step (Chip.restartSeen_kept ..) (by decide) ?_
      exact (Kept.incFld_name .irqAnomalyCount 0 0 (Eq.refl _)).mono (by decide)
    · dsimp only
      exact (Chip.restartSeen_kept ..).mono (by decide)

theorem Chip.complete_kept (x : HostTarget) (s : Nat) (c : Chip) : Kept 0x4000000000042 c (Chip.complete x s c) := by
  unfold Chip.complete
  refine Kept.ite ?_ ?_
  · exact Kept.rfl
  · refine Kept.ite ?_ ?_
    · refine Kept.step (Chip.samplePins_kept ..) (by decide) ?_
      exact (Chip.setActive_kept ..).mono (by decide)
    · exact (Kept.incFld_name .irqAnomalyCount 0 0 (Eq.refl _)).mono (by decide)

theorem Chip.setPend_kept (s : Nat) (c : Chip) : Kept 0x40 c (Chip.setPend s c) := by
  unfold Chip.setPend
  refine Kept.ite ?_ ?_
  · exact Kept.rfl
  · refine Kept.ite ?_ ?_
    · exact Kept.rfl
    · exact (Chip.raise_kept ..).mono (by decide)

theorem Chip.clearPends_kept (high : Bool) (mask : Nat) (c : Chip) : Kept 0x40 c (Chip.clearPends high mask c) := by
  unfold Chip.clearPends
  extract_lets x0
  exact (Chip.modIrq_kept ..).mono (by decide)

theorem Chip.supClaim_kept (s : Nat) (c : Chip) : Kept 0x140 c (Chip.supClaim s c) := by
  unfold Chip.supClaim
  extract_lets x0
  refine Kept.ite ?_ ?_
  · refine Kept.step (Chip.modIrq_kept ..) (by decide) ?_
    subst x0
    exact (Chip.clearPend_kept ..).mono (by decide)
  · refine Kept.step (Chip.journal_kept ..) (by decide) ?_
    refine Kept.step (Chip.modIrq_kept ..) (by decide) ?_
    subst x0
    exact (Chip.clearPend_kept ..).mono (by decide)

theorem Chip.flushSource_kept (s : Nat) (c : Chip) : Kept 0x140 c (Chip.flushSource s c) := by
  unfold Chip.flushSource
  split
  · exact Kept.rfl
  · exact (Chip.modIrq_kept ..).mono (by decide)
  · refine Kept.step (Chip.journal_kept ..) (by decide) ?_
    exact (Chip.modIrq_kept ..).mono (by decide)

theorem Chip.modFlt_kept (f : Faults → Faults) (c : Chip) : Kept 0x80 c (Chip.modFlt f c) := by
  unfold Chip.modFlt
  exact Kept.flt_set.mono (by decide)

theorem Chip.refuseAck_kept (r : Nat) (c : Chip) : Kept 0x2000000000000000000000000000000000082 c (Chip.refuseAck r c) := by
  unfold Chip.refuseAck
  refine Kept.step (Kept.incFld_name .faultCounts 0 0 (Eq.refl _)) (by decide) ?_
  exact (Chip.modFlt_kept ..).mono (by decide)

theorem Chip.journalRepeats_kept (k : Nat) (c : Chip) : Kept 0x100 c (Chip.journalRepeats k c) := by
  unfold Chip.journalRepeats
  refine Kept.ite ?_ ?_
  · exact (Chip.journal_kept ..).mono (by decide)
  · exact Kept.rfl

theorem Chip.freeSlot_kept (k : Nat) (c : Chip) : Kept 0x1000004 c (Chip.freeSlot k c) := by
  unfold Chip.freeSlot
  exact (Chip.putRecord_kept ..).mono (by decide)

theorem Chip.ackFault_kept (data : Nat) (c : Chip) : Kept 0x20000000000000000000000000000010001c2 c (Chip.ackFault data c) := by
  refine Kept.keepWin (m := 0x20000000000000000000000000000010001c6) ?_ QueueOnly.ackFault (by decide) (by decide)
  unfold Chip.ackFault
  extract_lets x0
  refine Kept.ite ((Chip.refuseAck_kept ..).mono (by decide)) ?_
  refine Kept.ite ((Chip.refuseAck_kept ..).mono (by decide)) ?_
  refine Kept.ite ((Chip.refuseAck_kept ..).mono (by decide)) ?_
  refine Kept.step (Chip.settleLost_kept ..) (by decide) ?_
  refine Kept.step (Chip.modFlt_kept ..) (by decide) ?_
  refine Kept.step (Chip.freeSlot_kept ..) (by decide) ?_
  exact (Chip.journalRepeats_kept ..).mono (by decide)

theorem Chip.faultF3_kept (code : Nat) (unit : Nat) (detail : Nat) (c : Chip) : Kept
    0xa0000140000000000000020000005002000000000900000004010931c6 c (Chip.faultF3 code unit detail c) := by
  unfold Chip.faultF3
  refine Kept.step (Chip.fault_kept ..) (by decide) ?_
  refine Kept.step (Chip.f3Release_kept ..) (by decide) ?_
  exact (Chip.safeStop_kept ..).mono (by decide)

theorem Chip.safeNFell_kept (c : Chip) : Kept 0x140000000000000020000005002000000000100000004010031c6 c (Chip.safeNFell c)
    := by
  unfold Chip.safeNFell
  refine Kept.step (Chip.faultStanding_kept ..) (by decide) ?_
  refine Kept.step (Chip.safeStop_kept ..) (by decide) ?_
  exact (Chip.modFlt_kept ..).mono (by decide)

theorem Chip.safeNRose_kept (c : Chip) : Kept 0x1000080 c (Chip.safeNRose c) := by
  unfold Chip.safeNRose
  refine Kept.step (Chip.endStanding_kept ..) (by decide) ?_
  exact (Chip.modFlt_kept ..).mono (by decide)

theorem Chip.wdtStart_kept (c : Chip) : Kept 0x80 c (Chip.wdtStart c) := by
  unfold Chip.wdtStart
  exact (Chip.modFlt_kept ..).mono (by decide)

theorem Chip.wdtExpire_kept (detail : Nat) (c : Chip) : Kept 0xa0000140000000002000020000005002000000000900000004010931c6 c
    (Chip.wdtExpire detail c) := by
  unfold Chip.wdtExpire
  refine Kept.step (Chip.modFlt_kept ..) (by decide) ?_
  refine Kept.step (Kept.setFlag_name .canDiagCfg 0 0 (Eq.refl _)) (by decide) ?_
  refine Kept.step (Chip.wdtStart_kept ..) (by decide) ?_
  exact (Chip.faultF3_kept ..).mono (by decide)

theorem Chip.wdtKicked_kept (data : Word) (c : Chip) : Kept 0xa0000140000000002000020000005002000000000900000004010931c6 c
    (Chip.wdtKicked data c) := by
  unfold Chip.wdtKicked
  refine Kept.ite ?_ ?_
  · exact Kept.rfl
  · refine Kept.ite ?_ ?_
    · exact (Chip.modFlt_kept ..).mono (by decide)
    · exact (Chip.wdtExpire_kept ..).mono (by decide)

theorem Chip.wdtCount_kept (n : Nat) (c : Chip) : Kept 0x80 c (Chip.wdtCount n c) := by
  unfold Chip.wdtCount
  refine Kept.ite ?_ ?_
  · exact (Chip.modFlt_kept ..).mono (by decide)
  · exact Kept.rfl

theorem Chip.writeWdt_kept (window : Nat) (en : Bool) (c : Chip) : Kept 0x1000000000000000082 c (Chip.writeWdt window en c)
    := by
  unfold Chip.writeWdt
  refine Kept.ite ?_ ?_
  · exact Kept.rfl
  · refine Kept.doIf (fun _ => ?_) ?_
    · refine Kept.step (Chip.wdtStart_kept ..) (by decide) ?_
      exact (Kept.setFlag_name .safeControl 0 0 (Eq.refl _)).mono (by decide)
    · exact (Kept.setFld_name .safeControl 0 0 (Eq.refl _)).mono (by decide)

theorem Chip.writeSafeControl_kept (v : Nat) (phaseG : Bool) (c : Chip) : Kept
    0xa0000140000000000000020000005002000000810900000004010931d6 c (Chip.writeSafeControl v phaseG c) := by
  unfold Chip.writeSafeControl
  extract_lets x0 x1 x2 x3
  refine Kept.doIf (fun _ => ?_) ?_
  · exact (Chip.faultF3_kept ..).mono (by decide)
  · refine Kept.doIf (fun _ => ?_) ?_
    · exact (Chip.requestDisarm_kept ..).mono (by decide)
    · subst x3
      refine Kept.doIf (fun _ => ?_) ?_
      · refine Kept.doIf (fun _ => ?_) ?_
        · exact (Chip.requestArm_kept ..).mono (by decide)
        · exact (Chip.writeWdt_kept ..).mono (by decide)
      · subst x2
        refine Kept.ite_snd ?_ ?_
        · exact (Chip.useUnlock_kept ..).mono (by decide)
        · exact Kept.rfl

theorem Chip.modJnl_kept (f : Journal → Journal) (c : Chip) : Kept 0x100 c (Chip.modJnl f c) := by
  unfold Chip.modJnl
  exact Kept.jnl_set.mono (by decide)

theorem Chip.eraseSector_kept (c : Chip) : Kept 0x20000000000000000000000000000010001c2 c (Chip.eraseSector c) := by
  unfold Chip.eraseSector
  extract_lets x0 x1
  refine Kept.ite ?_ ?_
  · refine Kept.step (Chip.fault_kept ..) (by decide) ?_
    subst x1
    exact (Chip.modJnl_kept ..).mono (by decide)
  · subst x1
    exact (Chip.modJnl_kept ..).mono (by decide)

theorem Chip.sourceUnwritten_kept (s : Nat) (c : Chip) : Kept 0x140 c (Chip.sourceUnwritten s c) := by
  unfold Chip.sourceUnwritten
  split
  · exact (Chip.modIrq_kept ..).mono (by decide)
  · exact (Chip.flushSource_kept ..).mono (by decide)

theorem Chip.unwritten_kept (x : JCause) (c : Chip) : Kept 0x140 c (Chip.unwritten x c) := by
  unfold Chip.unwritten
  refine Kept.doIf (fun _ => ?_) ?_
  · exact (Chip.sourceUnwritten_kept ..).mono (by decide)
  · exact Kept.rfl

theorem Chip.storeEntry_kept (x : JCause) (ok : Bool) (c : Chip) : Kept 0x20000000000000000000000000000010001c2 c
    (Chip.storeEntry x ok c) := by
  unfold Chip.storeEntry
  extract_lets x0 x1 x2
  refine Kept.ite ?_ ?_
  · subst x2
    exact (Chip.modJnl_kept ..).mono (by decide)
  · refine Kept.step (Chip.unwritten_kept ..) (by decide) ?_
    refine Kept.step (Chip.fault_kept ..) (by decide) ?_
    subst x2
    exact (Chip.modJnl_kept ..).mono (by decide)

theorem Chip.journalNext_kept (ok : Bool) (eraseOk : Bool) (c : Chip) : Kept 0x20000000000000000000000000000010001c2 c
    (Chip.journalNext ok eraseOk c) := by
  unfold Chip.journalNext
  split
  · exact Kept.rfl
  · extract_lets x0
    refine Kept.ite ?_ ?_
    · refine Kept.step (Chip.unwritten_kept ..) (by decide) ?_
      refine Kept.step (Chip.modJnl_kept ..) (by decide) ?_
      subst x0
      exact (Chip.modJnl_kept ..).mono (by decide)
    · refine Kept.ite ?_ ?_
      · refine Kept.ite ?_ ?_
        · refine Kept.step (Chip.storeEntry_kept ..) (by decide) ?_
          refine Kept.step (Chip.eraseSector_kept ..) (by decide) ?_
          subst x0
          exact (Chip.modJnl_kept ..).mono (by decide)
        · refine Kept.step (Chip.storeEntry_kept ..) (by decide) ?_
          subst x0
          exact (Chip.modJnl_kept ..).mono (by decide)
      · refine Kept.step (Chip.storeEntry_kept ..) (by decide) ?_
        subst x0
        exact (Chip.modJnl_kept ..).mono (by decide)

theorem Chip.readEntry_kept (p : List Word × Chip) (e : JEntry) : Kept 0x20000000000000000000000000000010009c2 p.2 (Chip.readEntry p e).2 := by
  unfold Chip.readEntry; split
  · exact Kept.rfl
  · exact Kept.step (Chip.fault_kept ..) (by decide) (Kept.free_set.mono (by decide))

theorem Chip.setReply_kept (result : Nat) (data : List Word) (c : Chip) : Kept 0x10 c (Chip.setReply result data c) := by
  unfold Chip.setReply
  exact Kept.bus_set.mono (by decide)

theorem Kept.onCommand {m : Nat} {b c : Chip} {f : Chip → Chip}
    (hm : 0x20000000000000000000000000000010009d6 &&& m = 0x20000000000000000000000000000010009d6) (hf : ∀ d, Kept m d (f d))
    (h : Kept m b c) : Kept m b (Chip.onCommand f c) := by
  unfold Chip.onCommand; split
  · exact h
  · extract_lets p
    have hp : Kept m b p.2 := Kept.step (Chip.engineCheck_kept ..) (mask_trans (by decide) hm) h
    split
    · exact hp.trans (hf _)
    · exact Kept.step (Chip.setReply_kept ..) (mask_trans (by decide) hm) hp

theorem Kept.withCommand {m code : Nat} {b c : Chip} {f : Chip → Chip}
    (hm : 0x20000000000000000000000000000010009d6 &&& m = 0x20000000000000000000000000000010009d6) (hf : ∀ d, Kept m d (f d))
    (h : Kept m b c) : Kept m b (Chip.withCommand code f c) := by
  unfold Chip.withCommand; split
  · refine Kept.onCommand hm (fun d => ?_) h
    split
    · exact hf d
    · exact Kept.rfl
  · exact h

theorem Chip.replyJournalInfo_kept (c : Chip) : Kept 0x810 c (Chip.replyJournalInfo c) := by
  unfold Chip.replyJournalInfo
  extract_lets x0 x1
  split
  · exact (Chip.setReply_kept ..).mono (by decide)
  · refine Kept.step (Chip.setReply_kept ..) (by decide) ?_
    exact Kept.free_set.mono (by decide)

theorem Chip.replyJournalRead_kept (c : Chip) : Kept 0x20000000000000000000000000000010009d2 c (Chip.replyJournalRead c) :=
    by
  unfold Chip.replyJournalRead
  extract_lets x0 x1 x2 x3
  refine Kept.ite ?_ ?_
  · exact (Chip.setReply_kept ..).mono (by decide)
  · split
    · exact (Chip.setReply_kept ..).mono (by decide)
    · refine Kept.ite ?_ ?_
      · exact (Chip.setReply_kept ..).mono (by decide)
      · refine Kept.step (Chip.setReply_kept ..) (by decide) ?_
        subst x3
        refine Kept.foldl_snd (fun _ _ => ?_) ?_
        · refine Kept.step (Chip.readEntry_kept ..) (by decide) ?_
          exact Kept.rfl
        · exact Kept.rfl

theorem Chip.replyJournalNote_kept (c : Chip) : Kept 0x110 c (Chip.replyJournalNote c) := by
  unfold Chip.replyJournalNote
  refine Kept.step (Chip.setReply_kept ..) (by decide) ?_
  exact (Chip.journal_kept ..).mono (by decide)

end Sys2Proof.Machine
end

