-- ==== Sys2Proof/Laws/KeptCipher.lean ====
section
/-!
SUPPORT. The frame laws (`Kept`) of the operations of Machine/Cipher.lean.
-/

namespace Sys2Proof.Machine

theorem Chip.modCipher_kept (f : Cipher → Cipher) (c : Chip) : Kept 0x20000 c (Chip.modCipher f c) := by
  unfold Chip.modCipher
  exact Kept.cipher_set.mono (by decide)

theorem Chip.showSlot_kept (k : Nat) (c : Chip) : Kept 0x4000000000000000000000000000000000000002 c (Chip.showSlot k c) := by
  unfold Chip.showSlot
  exact (Kept.setFld_name .slotInfo _ 0 (Eq.refl _)).mono (by decide)

theorem Chip.placeKey_kept (k : Nat) (key : Key) (c : Chip) : Kept 0x4000000000000000000000000000000000020002 c
    (Chip.placeKey k key c) := by
  unfold Chip.placeKey
  extract_lets x0
  refine Kept.step (Chip.showSlot_kept ..) (by decide) ?_
  refine Kept.step (Kept.setFld_name .slotInfo _ 0 (Eq.refl _)) (by decide) ?_
  subst x0
  exact (Chip.modCipher_kept ..).mono (by decide)

theorem Chip.emptySlot_kept (k : Nat) (c : Chip) : Kept 0x4000000000000000000000000000000000020002 c (Chip.emptySlot k c) :=
    by
  unfold Chip.emptySlot
  refine Kept.step (Chip.showSlot_kept ..) (by decide) ?_
  exact (Chip.modCipher_kept ..).mono (by decide)

theorem Chip.emptyAll_kept (c : Chip) : Kept 0x4000000000000000000000000000000000020002 c (Chip.emptyAll c) := by
  unfold Chip.emptyAll
  refine Kept.foldl (fun _ _ => ?_) ?_
  · exact (Chip.emptySlot_kept ..).mono (by decide)
  · exact Kept.rfl

theorem Chip.deriveKekProv_kept (c : Chip) : Kept 0x4000000000000000000000000000000000020002 c (Chip.deriveKekProv c) := by
  unfold Chip.deriveKekProv
  extract_lets x0
  exact (Chip.placeKey_kept ..).mono (by decide)

/-- The output of a job lies in the data area, off the fault queue. -/
theorem Chip.putData_kept (off : Nat) (l : List Byte) (c : Chip) : Kept 0x20000000000000000000000000000010009c6 c (Chip.putData off l c) := by
  unfold Chip.putData
  exact Kept.step (Kept.putBytes_off (by unfold Chip.dataArea; omega)) (by decide) ((Chip.checkEnds_kept ..).mono (by decide))

theorem Chip.showCipher_kept (c : Chip) : Kept 0x20000000000000000000000000000000000002 c (Chip.showCipher c) := by
  unfold Chip.showCipher
  extract_lets x0 x1
  subst x0
  split
  · refine Kept.step (Kept.setFld_name .cipherStatus 0 0 (Eq.refl _)) (by decide) ?_
    refine Kept.step (Kept.setFlag_name .cipherStatus 0 0 (Eq.refl _)) (by decide) ?_
    subst x1
    exact (Kept.setFld_name .cipherStatus 0 0 (Eq.refl _)).mono (by decide)
  · refine Kept.step (Kept.setFld_name .cipherStatus 0 0 (Eq.refl _)) (by decide) ?_
    refine Kept.step (Kept.setFlag_name .cipherStatus 0 0 (Eq.refl _)) (by decide) ?_
    subst x1
    exact (Kept.setFld_name .cipherStatus 0 0 (Eq.refl _)).mono (by decide)

theorem Chip.setResult_kept (j : Nat) (op : Nat) (result : Nat) (time : Nat) (c : Chip) : Kept
    0x2000000000000000000000000000000000000002 c (Chip.setResult j op result time c) := by
  unfold Chip.setResult
  exact (Kept.put_name .jobResult _ 0 (Eq.refl _)).mono (by decide)

theorem Chip.countResult_kept (result : Nat) (c : Chip) : Kept 0x1000000000000000000000000000000000000002 c
    (Chip.countResult result c) := by
  unfold Chip.countResult
  split
  · exact (Kept.incFld_name .cipherCounts 0 0 (Eq.refl _)).mono (by decide)
  · exact (Kept.incFld_name .cipherCounts 0 0 (Eq.refl _)).mono (by decide)
  · exact (Kept.incFld_name .cipherCounts 0 0 (Eq.refl _)).mono (by decide)
  · exact (Kept.incFld_name .cipherCounts 0 0 (Eq.refl _)).mono (by decide)
  · exact (Kept.incFld_name .cipherCounts 0 0 (Eq.refl _)).mono (by decide)
  · exact (Kept.incFld_name .cipherCounts 0 0 (Eq.refl _)).mono (by decide)
  · exact Kept.rfl

theorem Chip.endJob_kept (j : Nat) (op : Nat) (result : Nat) (time : Nat) (c : Chip) : Kept
    0x3020000000000000000000000000000000020042 c (Chip.endJob j op result time c) := by
  unfold Chip.endJob
  extract_lets x0 x1
  refine Kept.step (Chip.raise_kept ..) (by decide) ?_
  refine Kept.step (Chip.showCipher_kept ..) (by decide) ?_
  refine Kept.step (Chip.modCipher_kept ..) (by decide) ?_
  subst x1
  refine Kept.step (Kept.setFld_name .cipherStatus 0 0 (Eq.refl _)) (by decide) ?_
  subst x0
  refine Kept.step (Chip.countResult_kept ..) (by decide) ?_
  exact (Chip.setResult_kept ..).mono (by decide)

theorem Chip.zeroOut_kept (d : List Byte) (aborted : Bool) (c : Chip) : Kept 0x20000000000000000000000000000010009c6 c
    (Chip.zeroOut d aborted c) := by
  unfold Chip.zeroOut
  extract_lets x0
  refine Kept.doIf (fun _ => ?_) ?_
  · exact (Chip.putData_kept ..).mono (by decide)
  · subst x0
    refine Kept.doIf (fun _ => ?_) ?_
    · exact (Chip.putData_kept ..).mono (by decide)
    · exact Kept.rfl

theorem Chip.readRegions_kept (d : List Byte) (c : Chip) : Kept 0x20000000000000000000000000000010009c6 c (Chip.readRegions
    d c).2 := by
  unfold Chip.readRegions
  dsimp only
  refine Kept.foldl_snd (fun _ _ => ?_) ?_
  · refine Kept.ite_snd ?_ ?_
    · exact Kept.rfl
    · dsimp only
      exact (Chip.engineCheck_kept ..).mono (by decide)
  · exact Kept.rfl

theorem Chip.runDesc_kept (d : List Byte) (c : Chip) : Kept 0x40020000000000000000000000000000010209c6 c (Chip.runDesc d c).1 := by
  unfold Chip.runDesc
  extract_lets key n input aad tag iv cost hash
  split
  · exact Kept.step (Chip.putData_kept ..) (by decide) ((Chip.putData_kept ..).mono (by decide))
  · split
    · exact (Chip.putData_kept ..).mono (by decide)
    · exact Kept.rfl
  · exact (Chip.putData_kept ..).mono (by decide)
  · exact (Chip.putData_kept ..).mono (by decide)
  · exact Kept.rfl
  · exact (Chip.placeKey_kept ..).mono (by decide)
  · split
    · exact (Chip.placeKey_kept ..).mono (by decide)
    · exact (Chip.fault_kept ..).mono (by decide)

theorem Chip.runJob_kept (x : Job) (wait : Nat) (c : Chip) : Kept 0x70220000000000000000000000000000010209c6 c (Chip.runJob x wait c) := by
  have hz : ∀ d b, Kept 0x70220000000000000000000000000000010209c6 d (Chip.zeroOut x.desc b d) :=
    fun d b => (Chip.zeroOut_kept ..).mono (by decide)
  unfold Chip.runJob
  extract_lets op p q
  split
  · exact Kept.step (Chip.endJob_kept ..) (by decide) (hz _ _)
  split
  · exact Kept.step (Chip.endJob_kept ..) (by decide) (Kept.doIf (fun d => hz _ _) Kept.rfl)
  · have hp : Kept 0x70220000000000000000000000000000010209c6 c p.2 := (Chip.readRegions_kept ..).mono (by decide)
    split
    · exact Kept.step (Chip.endJob_kept ..) (by decide) (hp.trans (hz _ _))
    · have hq : Kept 0x70220000000000000000000000000000010209c6 c q.1 := Kept.step (Chip.runDesc_kept ..) (by decide) hp
      exact Kept.step (Chip.endJob_kept ..) (by decide) (Kept.ite hq (hq.trans (hz _ _)))

theorem Chip.settleQueue_kept (n : Nat) (c : Chip) : Kept 0x70220000000000000000000000000000010209c6 c (Chip.settleQueue n c) := by
  induction n generalizing c with
  | zero => exact Kept.rfl
  | succ n ih =>
    unfold Chip.settleQueue; split
    · exact Kept.ite ((Chip.runJob_kept ..).trans (ih _)) Kept.rfl
    · exact Kept.rfl

theorem Chip.runOp_kept (op : Nat) (wait : Nat) (c : Chip) : Kept 0x70220000000000000000000000000000010209c6 c (Chip.runOp
    op wait c) := by
  unfold Chip.runOp
  split
  · refine Kept.ite ?_ ?_
    · refine Kept.step (Chip.settleQueue_kept ..) (by decide) ?_
      exact (Chip.runJob_kept ..).mono (by decide)
    · exact Kept.rfl
  · exact Kept.rfl

theorem Chip.startJob_kept (j : Nat) (c : Chip) : Kept 0x30220000000000000000000000000000010209c6 c (Chip.startJob j c) := by
  unfold Chip.startJob
  refine Kept.ite ?_ ?_
  · exact Kept.rfl
  · extract_lets x0 x1
    refine Kept.ite ?_ ?_
    · refine Kept.step (Chip.endJob_kept ..) (by decide) ?_
      subst x0
      exact (Chip.engineCheck_kept ..).mono (by decide)
    · refine Kept.ite ?_ ?_
      · refine Kept.step (Chip.countResult_kept ..) (by decide) ?_
        refine Kept.step (Chip.setResult_kept ..) (by decide) ?_
        subst x0
        exact (Chip.engineCheck_kept ..).mono (by decide)
      · refine Kept.step (Chip.showCipher_kept ..) (by decide) ?_
        refine Kept.step (Chip.setResult_kept ..) (by decide) ?_
        refine Kept.step (Chip.modCipher_kept ..) (by decide) ?_
        subst x0
        exact (Chip.engineCheck_kept ..).mono (by decide)

theorem Chip.startJobs_kept (mask : Nat) (c : Chip) : Kept 0x70220000000000000000000000000000010209c6 c (Chip.startJobs mask
    c) := by
  unfold Chip.startJobs
  refine Kept.step (Chip.settleQueue_kept ..) (by decide) ?_
  refine Kept.foldl (fun _ _ => ?_) ?_
  · refine Kept.doIf (fun _ => ?_) ?_
    · exact (Chip.startJob_kept ..).mono (by decide)
    · exact Kept.rfl
  · exact Kept.rfl

theorem Chip.abortJob_kept (x : Job) (result : Nat) (time : Nat) (c : Chip) : Kept
    0x30220000000000000000000000000000010209c6 c (Chip.abortJob x result time c) := by
  unfold Chip.abortJob
  refine Kept.step (Chip.endJob_kept ..) (by decide) ?_
  exact (Chip.zeroOut_kept ..).mono (by decide)

theorem Chip.commitErase_kept (mask : Nat) (time : Nat) (c : Chip) : Kept 0x70220000000000000000000000000000010209c6 c
    (Chip.commitErase mask time c) := by
  unfold Chip.commitErase
  extract_lets x0 x1
  split
  · refine Kept.ite ?_ ?_
    · refine Kept.step (Chip.settleQueue_kept ..) (by decide) ?_
      refine Kept.step (Chip.abortJob_kept ..) (by decide) ?_
      subst x1
      refine Kept.foldl (fun _ _ => ?_) ?_
      · refine Kept.step (Kept.incFld_name .cipherCounts 0 0 (Eq.refl _)) (by decide) ?_
        exact (Chip.emptySlot_kept ..).mono (by decide)
      · exact Kept.rfl
    · subst x1
      refine Kept.foldl (fun _ _ => ?_) ?_
      · refine Kept.step (Kept.incFld_name .cipherCounts 0 0 (Eq.refl _)) (by decide) ?_
        exact (Chip.emptySlot_kept ..).mono (by decide)
      · exact Kept.rfl
  · subst x1
    refine Kept.foldl (fun _ _ => ?_) ?_
    · refine Kept.step (Kept.incFld_name .cipherCounts 0 0 (Eq.refl _)) (by decide) ?_
      exact (Chip.emptySlot_kept ..).mono (by decide)
    · exact Kept.rfl

theorem Chip.keyAlarm_kept (cause : Nat) (time : Nat) (c : Chip) : Kept 0x71220000000000000000000000000000010209c6 c
    (Chip.keyAlarm cause time c) := by
  unfold Chip.keyAlarm
  extract_lets x0 x1 x2 x3
  refine Kept.step (Chip.faultStanding_kept ..) (by decide) ?_
  refine Kept.step (Chip.raise_kept ..) (by decide) ?_
  subst x3
  refine Kept.foldl (fun _ _ => ?_) ?_
  · refine Kept.ite ?_ ?_
    · exact (Chip.abortJob_kept ..).mono (by decide)
    · refine Kept.step (Chip.endJob_kept ..) (by decide) ?_
      exact (Chip.zeroOut_kept ..).mono (by decide)
  · subst x2
    refine Kept.step (Kept.incFld_name .cipherAlarm 0 0 (Eq.refl _)) (by decide) ?_
    subst x1
    refine Kept.step (Kept.setFlag_name .cipherStatus 0 0 (Eq.refl _)) (by decide) ?_
    refine Kept.step (Kept.setFlag_name .cipherAlarm 0 0 (Eq.refl _)) (by decide) ?_
    subst x0
    refine Kept.step (Kept.setFld_name .cipherAlarm 0 0 (Eq.refl _)) (by decide) ?_
    exact (Chip.emptyAll_kept ..).mono (by decide)

theorem Chip.restoreKek_kept (c : Chip) : Kept 0x4000000000000000000000000000000000020002 c (Chip.restoreKek c) := by
  unfold Chip.restoreKek
  refine Kept.doIf (fun _ => ?_) ?_
  · exact (Chip.deriveKekProv_kept ..).mono (by decide)
  · exact Kept.rfl

theorem Chip.clearAlarm_kept (persists : Nat) (c : Chip) : Kept 0x4120000000000000000000000000000001020002 c
    (Chip.clearAlarm persists c) := by
  unfold Chip.clearAlarm
  refine Kept.ite ?_ ?_
  · exact Kept.rfl
  · extract_lets x0
    refine Kept.step (Chip.restoreKek_kept ..) (by decide) ?_
    refine Kept.step (Chip.endStanding_kept ..) (by decide) ?_
    subst x0
    refine Kept.step (Kept.setFlag_name .cipherStatus 0 0 (Eq.refl _)) (by decide) ?_
    refine Kept.step (Kept.setFld_name .cipherAlarm 0 0 (Eq.refl _)) (by decide) ?_
    exact (Kept.setFlag_name .cipherAlarm 0 0 (Eq.refl _)).mono (by decide)

theorem Chip.calReject_kept (r : Nat) (c : Chip) : Kept 0x20000000000000000000000000000010001d2 c (Chip.calReject r c) := by
  unfold Chip.calReject
  refine Kept.step (Chip.setReply_kept ..) (by decide) ?_
  exact (Chip.fault_kept ..).mono (by decide)

/-- A DEVICE-owned block of CAL is staged (R629). -/
theorem Chip.stageBlock_kept {x : Nat × List Byte} {c : Chip} (ht : Chip.transferable x.1 = true) (hn : x.1 ∉ c.win.taken) :
    Kept 0x1800004 c (Chip.stageBlock x c) ∧ (Chip.stageBlock x c).win.taken = c.win.taken := by
  have tk : ∀ (l : List Byte) (o : Nat) (d : Chip), (Chip.putBytes o l d).win.taken = d.win.taken := by
    intro l
    induction l with
    | nil => intros; rfl
    | cons b l ih => intro o d; exact (ih _ _).trans rfl
  refine ⟨?_, tk _ _ _⟩
  unfold Chip.stageBlock
  extract_lets c1
  have h1 : Kept 25165828 c c1 := (Chip.putBytes_kept ..).mono (by decide)
  refine h1.trans ?_
  refine Kept.win_of fun h => ⟨h.1, h.2.1, ?_, ?_⟩
  · intro r hr
    rcases List.mem_append.mp hr with hr | hr
    · exact h.2.2.1 r hr
    · rw [List.mem_singleton] at hr; subst hr; exact ht
  · intro r hr
    rcases List.mem_append.mp hr with hr | hr
    · exact h.2.2.2 r hr
    · rw [List.mem_singleton] at hr; subst hr
      show x.1 ∉ c1.win.taken
      rw [tk]; exact hn

theorem nextRecord_range {l rest : List Byte} {x : Nat × List Byte} (h : Chip.nextRecord l = some (.inl x, rest)) :
    Chip.transferable x.1 = true := by
  unfold Chip.nextRecord at h
  split at h
  · split at h
    · simp only [] at h
      split at h
      · rename_i hc
        simp only [Bool.and_eq_true, decide_eq_true_eq] at hc
        simp only [Option.some.injEq, Prod.mk.injEq, Sum.inl.injEq] at h
        obtain ⟨h, -⟩ := h
        subst h
        simp only [Chip.transferable, Bool.or_eq_true, Bool.and_eq_true, decide_eq_true_eq]
        exact .inl (.inr ⟨hc.1.1.2, hc.1.2⟩)
      · cases h
    · split at h
      · simp only [] at h
        split at h <;> cases h
      · cases h
  · cases h

theorem parseRecords_range {n : Nat} {l : List Byte} {rs : List (Nat × List Byte ⊕ Nat × DWord)}
    (h : Chip.parseRecords n l = some rs) : ∀ x, Sum.inl x ∈ rs → Chip.transferable x.1 = true := by
  induction n generalizing l rs with
  | zero =>
    cases l with
    | nil => cases h; intro x hx; cases hx
    | cons a l => cases h
  | succ n ih =>
    unfold Chip.parseRecords at h
    split at h
    · cases h
    · rename_i r rest hr
      cases hp : Chip.parseRecords n rest with
      | none => rw [hp] at h; cases h
      | some ps =>
        rw [hp] at h; cases h
        intro x hx
        rcases List.mem_cons.mp hx with hx | hx
        · subst hx; exact nextRecord_range hr
        · exact ih hp x hx

theorem Chip.stageAll_kept {bs : List (Nat × List Byte)} {c : Chip}
    (h : ∀ x ∈ bs, Chip.transferable x.1 = true ∧ x.1 ∉ c.win.taken) :
    Kept 25165828 c (bs.foldl (fun d x => d.stageBlock x) c) := by
  induction bs generalizing c with
  | nil => exact Kept.rfl
  | cons x bs ih =>
    obtain ⟨hk, ht⟩ := Chip.stageBlock_kept (h x List.mem_cons_self).1 (h x List.mem_cons_self).2
    exact hk.trans (ih fun y hy => ht ▸ h y (List.mem_cons_of_mem _ hy))

theorem Chip.calStage_kept (h : List Byte) (recs : List Byte) (c : Chip) : Kept 0x20000000000000000000000000000018201d6 c (Chip.calStage h recs c) := by
  unfold Chip.calStage
  split
  · exact (Chip.calReject_kept ..).mono (by decide)
  · rename_i rs hrs
    extract_lets bs
    split
    · exact (Chip.calReject_kept ..).mono (by decide)
    split
    · exact (Chip.calReject_kept ..).mono (by decide)
    · rename_i hd
      refine Kept.step (Chip.modCipher_kept ..) (by decide) ((Chip.stageAll_kept fun x hx => ⟨?_, ?_⟩).mono (by decide))
      · have hm : Sum.inl x ∈ rs := by
          have := hx
          simp only [bs, Chip.recordBlocks, List.mem_filterMap] at this
          obtain ⟨y, hy, he⟩ := this
          cases y with
          | inl z => cases he; exact hy
          | inr z => cases he
        exact parseRecords_range hrs x hm
      · intro ht
        apply hd
        rw [List.any_eq_true]
        refine ⟨x, hx, ?_⟩
        simp [Chip.deviceHeld, Chip.hostOwned, ht]

theorem Chip.calHeader_kept (h : List Byte) (recs : List Byte) (c : Chip) : Kept 0x20000000000000000000000000000018201d6 c
    (Chip.calHeader h recs c) := by
  unfold Chip.calHeader
  extract_lets x0
  refine Kept.ite ?_ ?_
  · exact (Chip.calReject_kept ..).mono (by decide)
  · refine Kept.ite ?_ ?_
    · exact (Chip.calReject_kept ..).mono (by decide)
    · exact (Chip.calStage_kept ..).mono (by decide)

theorem Chip.calVerify_kept (key : List Byte) (off : Nat) (len : Nat) (c : Chip) : Kept
    0x20000000000000000000000000000018209d6 c (Chip.calVerify key off len c) := by
  unfold Chip.calVerify
  extract_lets x0 x1 x2 x3 x4 x5 x6 x7
  refine Kept.ite ?_ ?_
  · refine Kept.step (Chip.calReject_kept ..) (by decide) ?_
    subst x0
    exact (Chip.engineCheck_kept ..).mono (by decide)
  · refine Kept.ite ?_ ?_
    · refine Kept.step (Chip.calReject_kept ..) (by decide) ?_
      refine Kept.step (Chip.putData_kept ..) (by decide) ?_
      subst x0
      exact (Chip.engineCheck_kept ..).mono (by decide)
    · refine Kept.ite ?_ ?_
      · refine Kept.step (Chip.calHeader_kept ..) (by decide) ?_
        refine Kept.step (Chip.putData_kept ..) (by decide) ?_
        subst x0
        exact (Chip.engineCheck_kept ..).mono (by decide)
      · refine Kept.step (Chip.calHeader_kept ..) (by decide) ?_
        subst x0
        exact (Chip.engineCheck_kept ..).mono (by decide)

theorem Chip.calApply_kept (c : Chip) : Kept 0x20000000000000000000000000000018209d6 c (Chip.calApply c) := by
  unfold Chip.calApply
  extract_lets x0 x1
  refine Kept.ite ?_ ?_
  · exact (Chip.calReject_kept ..).mono (by decide)
  · split
    · exact (Chip.calReject_kept ..).mono (by decide)
    · refine Kept.ite ?_ ?_
      · exact (Chip.calReject_kept ..).mono (by decide)
      · refine Kept.ite ?_ ?_
        · exact (Chip.setReply_kept ..).mono (by decide)
        · refine Kept.ite ?_ ?_
          · exact (Chip.setReply_kept ..).mono (by decide)
          · exact (Chip.calVerify_kept ..).mono (by decide)

theorem Chip.raiseFloor_kept (c : Chip) : Kept 0x20010 c (Chip.raiseFloor c) := by
  unfold Chip.raiseFloor
  extract_lets x0
  refine Kept.ite ?_ ?_
  · exact (Chip.setReply_kept ..).mono (by decide)
  · refine Kept.ite ?_ ?_
    · exact (Chip.setReply_kept ..).mono (by decide)
    · refine Kept.ite ?_ ?_
      · exact (Chip.setReply_kept ..).mono (by decide)
      · refine Kept.step (Chip.setReply_kept ..) (by decide) ?_
        exact (Chip.modCipher_kept ..).mono (by decide)

theorem Chip.calCommand_kept (c : Chip) : Kept 0x20000000000000000000000000000018209d6 c (Chip.calCommand c) := by
  unfold Chip.calCommand
  refine Kept.ite ?_ ?_
  · exact Kept.rfl
  · exact (Chip.calApply_kept ..).mono (by decide)

end Sys2Proof.Machine
end

