-- ==== Sys2Proof/Laws/KeptPort.lean ====
section
/-!
SUPPORT. The frame laws (`Kept`) of the operations of Machine/Port.lean.
-/

namespace Sys2Proof.Machine

theorem Chip.commitIrq_kept (a : Nat) (v : DWord) (c : Chip) : Kept 0x80000042 c (Chip.commitIrq a v c) := by
  unfold Chip.commitIrq
  refine Kept.ite ?_ ?_
  · exact (Chip.clearPends_kept ..).mono (by decide)
  · refine Kept.ite ?_ ?_
    · exact (Chip.clearPends_kept ..).mono (by decide)
    · refine Kept.step (Chip.samplePins_kept ..) (by decide) ?_
      exact (Chip.storeMasked_kept ..).mono (by decide)

theorem Chip.queueTick_kept (a : Nat) (v : DWord) (phaseG : Bool) (c : Chip) : Kept 0x10 c (Chip.queueTick a v phaseG c) :=
    by
  unfold Chip.queueTick
  exact Kept.bus_set.mono (by decide)

theorem Chip.queueCommit_kept (a : Nat) (v : DWord) (phaseG : Bool) (c : Chip) : Kept 0x80000052 c (Chip.queueCommit a v
    phaseG c) := by
  unfold Chip.queueCommit
  split
  · exact Kept.bus_set.mono (by decide)
  · exact (Chip.queueTick_kept ..).mono (by decide)
  · exact (Chip.queueTick_kept ..).mono (by decide)
  · exact (Chip.queueTick_kept ..).mono (by decide)
  · exact (Chip.queueTick_kept ..).mono (by decide)
  · exact (Chip.queueTick_kept ..).mono (by decide)
  · exact (Chip.commitIrq_kept ..).mono (by decide)
  · exact (Chip.storeMasked_kept ..).mono (by decide)
  · refine Kept.ite ?_ ?_
    · exact (Chip.queueTick_kept ..).mono (by decide)
    · exact Kept.bus_set.mono (by decide)

theorem Chip.localCommit_kept (a : Nat) (v : DWord) (phaseG : Bool) (c : Chip) : Kept 0x480000052 c (Chip.localCommit a v
    phaseG c) := by
  unfold Chip.localCommit
  extract_lets x0 x1
  refine Kept.ite ?_ ?_
  · refine Kept.step (Chip.queueCommit_kept ..) (by decide) ?_
    subst x1
    split
    · exact (Chip.portErr_kept ..).mono (by decide)
    · exact Kept.rfl
  · subst x1
    split
    · exact (Chip.portErr_kept ..).mono (by decide)
    · exact Kept.rfl

end Sys2Proof.Machine
end

