-- ==== Sys2Proof/Laws/KeptRing.lean ====
section
/-!
SUPPORT. The frame laws (`Kept`) of the operations of Machine/Ring.lean.
-/

namespace Sys2Proof.Machine

theorem Chip.modRing_kept (f : Ring → Ring) (c : Chip) : Kept 0x40000 c (Chip.modRing f c) := by
  unfold Chip.modRing
  exact Kept.ring_set.mono (by decide)

theorem Kept.ringEvent {m : Nat} {b c : Chip} {f : Chip → Chip} (hm : 0x400000042 &&& m = 0x400000042) (hf : ∀ d, Kept m d (f d))
    (h : Kept m b c) : Kept m b (Chip.ringEvent f c) := by
  unfold Chip.ringEvent
  extract_lets d e
  have he : Kept m b e := Kept.step (Kept.setFlag_name .devStatus 0 0 (Eq.refl _)) (mask_trans (by decide) hm) (h.trans (hf c))
  split
  · exact he
  · exact Kept.step (Chip.raise_kept ..) (mask_trans (by decide) hm) he

theorem Chip.ringFault_kept (code : Nat) (unit : Nat) (c : Chip) : Kept 0x20000000000000000000000000000010001c2 c
    (Chip.ringFault code unit c) := by
  unfold Chip.ringFault
  refine Kept.step (Chip.fault_kept ..) (by decide) ?_
  exact (Chip.raise_kept ..).mono (by decide)

theorem Chip.unlock_kept (c : Chip) : Kept 0x200000000000040002 c (Chip.unlock c) := by
  unfold Chip.unlock
  refine Kept.step (Chip.modRing_kept ..) (by decide) ?_
  exact (Kept.setFlag_name .ringStatus 0 0 (Eq.refl _)).mono (by decide)

theorem Chip.dropLink_kept (l : Nat) (c : Chip) : Kept 0x20008000000000000000000000000000000000020000000000004000a c
    (Chip.dropLink l c) := by
  unfold Chip.dropLink
  extract_lets x0 x1 x2 x3 x4
  refine Kept.ite ?_ ?_
  · refine Kept.step Kept.tb_set (by decide) ?_
    subst x3
    refine Kept.foldl (fun _ _ => ?_) ?_
    · exact (Kept.put_name .ringMembers _ 0 (Eq.refl _)).mono (by decide)
    · subst x2
      refine Kept.step (Chip.modRing_kept ..) (by decide) ?_
      refine Kept.step (Chip.unlock_kept ..) (by decide) ?_
      refine Kept.step (Kept.setFlag_name .ringStatus 0 0 (Eq.refl _)) (by decide) ?_
      subst x1
      refine Kept.step (Kept.setFld_name .ringJoinStatus 0 0 (Eq.refl _)) (by decide) ?_
      refine Kept.step (Kept.setFld_name .ringJoinStatus 0 0 (Eq.refl _)) (by decide) ?_
      refine Kept.step (Kept.setFld_name .ringJoinStatus 0 0 (Eq.refl _)) (by decide) ?_
      exact (Kept.setFld_name .ringStatus 0 0 (Eq.refl _)).mono (by decide)
  · subst x3
    refine Kept.foldl (fun _ _ => ?_) ?_
    · exact (Kept.put_name .ringMembers _ 0 (Eq.refl _)).mono (by decide)
    · subst x2
      refine Kept.step (Chip.modRing_kept ..) (by decide) ?_
      refine Kept.step (Chip.unlock_kept ..) (by decide) ?_
      refine Kept.step (Kept.setFlag_name .ringStatus 0 0 (Eq.refl _)) (by decide) ?_
      subst x1
      refine Kept.step (Kept.setFld_name .ringJoinStatus 0 0 (Eq.refl _)) (by decide) ?_
      refine Kept.step (Kept.setFld_name .ringJoinStatus 0 0 (Eq.refl _)) (by decide) ?_
      refine Kept.step (Kept.setFld_name .ringJoinStatus 0 0 (Eq.refl _)) (by decide) ?_
      exact (Kept.setFld_name .ringStatus 0 0 (Eq.refl _)).mono (by decide)

theorem Chip.listen_kept (c : Chip) : Kept 0x20008000000000000000000000000000000000020000000000004000a c (Chip.listen c) :=
    by
  unfold Chip.listen
  extract_lets x0
  refine Kept.ite ?_ ?_
  · refine Kept.step (Chip.modRing_kept ..) (by decide) ?_
    exact (Kept.setFld_name .ringStatus 0 0 (Eq.refl _)).mono (by decide)
  · refine Kept.ite ?_ ?_
    · exact (Chip.dropLink_kept ..).mono (by decide)
    · exact Kept.rfl

theorem Chip.enqueue_kept (x : TxCell) (c : Chip) : Kept 0x40000 c (Chip.enqueue x c) := by
  unfold Chip.enqueue
  exact (Chip.modRing_kept ..).mono (by decide)

theorem Chip.sendMsg_kept (type : Nat) (dst : Nat) (body : List Byte) (c : Chip) : Kept 0x40000 c (Chip.sendMsg type dst
    body c) := by
  unfold Chip.sendMsg
  exact (Chip.enqueue_kept ..).mono (by decide)

theorem Chip.setClaimed_kept (b : Bool) (c : Chip) : Kept 0x40000 c (Chip.setClaimed b c) := by
  unfold Chip.setClaimed
  exact (Chip.modRing_kept ..).mono (by decide)

theorem Kept.onClaim {m type : Nat} {x : RingCell} {b c : Chip} {f : Chip → Chip} (hm : 262144 &&& m = 262144)
    (hf : ∀ d, Kept m d (f d)) (h : Kept m b c) : Kept m b (Chip.onClaim type x f c) := by
  unfold Chip.onClaim; split
  · exact (Kept.step (Chip.setClaimed_kept ..) (mask_trans (by decide) hm) h).trans (hf _)
  · exact Kept.step (Chip.setClaimed_kept ..) (mask_trans (by decide) hm) h

theorem Chip.logWrite_kept (w : RWrite) (reason : Nat) (gap : Nat) (c : Chip) : Kept 0x800000000000040046 c (Chip.logWrite w
    reason gap c) := by
  unfold Chip.logWrite
  extract_lets x0 x1 x2 x3
  refine Kept.step (Chip.raise_kept ..) (by decide) ?_
  refine Kept.step (Chip.modRing_kept ..) (by decide) ?_
  refine Kept.step (Kept.setFld_name .remoteErr 0 0 (Eq.refl _)) (by decide) ?_
  subst x3
  refine Kept.ite ?_ ?_
  · refine Kept.step (Kept.setFlag_name .remoteErr 0 0 (Eq.refl _)) (by decide) ?_
    subst x2
    exact (Kept.putRecord_off (by omega)).mono (by decide)
  · subst x2
    exact (Kept.putRecord_off (by omega)).mono (by decide)

theorem Chip.commitErrTail_kept (v : Nat) (c : Chip) : Kept 0x80000000000000000000000000000000000000000000000000040002 c
    (Chip.commitErrTail v c) := by
  unfold Chip.commitErrTail
  refine Kept.step (Chip.modRing_kept ..) (by decide) ?_
  exact (Kept.put_name .ringErrTail 0 0 (Eq.refl _)).mono (by decide)

theorem Chip.setTarget_kept (x : RTarget) (c : Chip) : Kept 0x40000 c (Chip.setTarget x c) := by
  unfold Chip.setTarget
  exact (Chip.modRing_kept ..).mono (by decide)

theorem Chip.restartTargets_kept (p : Nat → Bool) (c : Chip) : Kept 0x40000 c (Chip.restartTargets p c) := by
  unfold Chip.restartTargets
  exact (Chip.modRing_kept ..).mono (by decide)

theorem Chip.restartTarget_kept (t : Nat) (c : Chip) : Kept 0x40000 c (Chip.restartTarget t c) := by
  unfold Chip.restartTarget
  exact (Chip.restartTargets_kept ..).mono (by decide)

theorem Chip.postWrite_kept (target : Nat) (addr : Nat) (data : DWord) (c : Chip) : Kept
    0x10000000000000000000000000000000000000800000000400040056 c (Chip.postWrite target addr data c) := by
  unfold Chip.postWrite
  refine Kept.ite ?_ ?_
  · exact (Chip.portErr_kept ..).mono (by decide)
  · extract_lets x0 x1 x2 x3
    refine Kept.ite ?_ ?_
    · refine Kept.step (Chip.logWrite_kept ..) (by decide) ?_
      refine Kept.step (Kept.incFld_name .ringCounts 0 0 (Eq.refl _)) (by decide) ?_
      subst x3
      refine Kept.step (Kept.setFld_name .remoteErr 0 0 (Eq.refl _)) (by decide) ?_
      exact Kept.bus_set.mono (by decide)
    · refine Kept.step (Chip.modRing_kept ..) (by decide) ?_
      refine Kept.step (Chip.sendMsg_kept ..) (by decide) ?_
      subst x3
      refine Kept.step (Kept.setFld_name .remoteErr 0 0 (Eq.refl _)) (by decide) ?_
      exact Kept.bus_set.mono (by decide)

theorem Chip.modWrites_kept (p : RWrite → Bool) (f : RWrite → RWrite) (c : Chip) : Kept 0x40000 c (Chip.modWrites p f c) :=
    by
  unfold Chip.modWrites
  exact (Chip.modRing_kept ..).mono (by decide)

theorem Chip.takeReport_kept (t : Nat) (pseq : Nat) (acc : Nat) (c : Chip) : Kept 0x40000 c (Chip.takeReport t pseq acc c)
    := by
  unfold Chip.takeReport
  exact (Chip.setTarget_kept ..).mono (by decide)

theorem Chip.judgeOne_kept (rep : Option (Nat × Nat)) (w : RWrite) (c : Chip) : Kept 0x800000000000040046 c (Chip.judgeOne
    rep w c) := by
  unfold Chip.judgeOne
  extract_lets x0
  split
  · refine Kept.step (Chip.logWrite_kept ..) (by decide) ?_
    subst x0
    dsimp only
    exact (Chip.modWrites_kept ..).mono (by decide)
  · refine Kept.ite ?_ ?_
    · refine Kept.step (Chip.logWrite_kept ..) (by decide) ?_
      subst x0
      dsimp only
      exact (Chip.modWrites_kept ..).mono (by decide)
    · refine Kept.ite ?_ ?_
      · subst x0
        dsimp only
        exact (Chip.modWrites_kept ..).mono (by decide)
      · refine Kept.step (Chip.logWrite_kept ..) (by decide) ?_
        subst x0
        dsimp only
        exact (Chip.modWrites_kept ..).mono (by decide)

theorem Chip.judgeTarget_kept (t : Nat) (tag : Nat) (c : Chip) : Kept 0x800000000000040046 c (Chip.judgeTarget t tag c) := by
  unfold Chip.judgeTarget
  extract_lets x0 x1 x2 x3 x4 x5 x6
  subst x0
  split
  · subst x3
    refine Kept.foldl (fun _ _ => ?_) ?_
    · exact (Chip.judgeOne_kept ..).mono (by decide)
    · exact Kept.rfl
  · extract_lets x0 x7
    subst x5
    split
    · refine Kept.ite ?_ ?_
      · refine Kept.step (Chip.modWrites_kept ..) (by decide) ?_
        refine Kept.step (Chip.logWrite_kept ..) (by decide) ?_
        subst x7
        refine Kept.step (Chip.setTarget_kept ..) (by decide) ?_
        refine Kept.step (Chip.modWrites_kept ..) (by decide) ?_
        subst x3
        refine Kept.foldl (fun _ _ => ?_) ?_
        · exact (Chip.judgeOne_kept ..).mono (by decide)
        · exact Kept.rfl
      · subst x7
        refine Kept.step (Chip.setTarget_kept ..) (by decide) ?_
        refine Kept.step (Chip.modWrites_kept ..) (by decide) ?_
        subst x3
        refine Kept.foldl (fun _ _ => ?_) ?_
        · exact (Chip.judgeOne_kept ..).mono (by decide)
        · exact Kept.rfl
    · subst x7
      refine Kept.step (Chip.setTarget_kept ..) (by decide) ?_
      refine Kept.step (Chip.modWrites_kept ..) (by decide) ?_
      subst x3
      refine Kept.foldl (fun _ _ => ?_) ?_
      · exact (Chip.judgeOne_kept ..).mono (by decide)
      · exact Kept.rfl

theorem Chip.takeNack_kept (from' : Nat) (tag : Nat) (pseq : Nat) (reason : Nat) (c : Chip) : Kept 0x800000000000040046 c
    (Chip.takeNack from' tag pseq reason c) := by
  unfold Chip.takeNack
  extract_lets x0
  split
  · exact Kept.rfl
  · refine Kept.ite ?_ ?_
    · exact (Chip.modWrites_kept ..).mono (by decide)
    · refine Kept.ite ?_ ?_
      · refine Kept.step (Chip.logWrite_kept ..) (by decide) ?_
        exact (Chip.modWrites_kept ..).mono (by decide)
      · exact Kept.rfl

theorem Chip.noteWrite_kept (from' : Nat) (pseq : Nat) (applied : Bool) (c : Chip) : Kept 0x40000 c (Chip.noteWrite from'
    pseq applied c) := by
  unfold Chip.noteWrite
  extract_lets x0
  exact (Chip.modRing_kept ..).mono (by decide)

theorem Chip.sendNack_kept (to' : Nat) (tag : Nat) (pseq : Nat) (reason : Nat) (addr : Nat) (c : Chip) : Kept 0x40000 c
    (Chip.sendNack to' tag pseq reason addr c) := by
  unfold Chip.sendNack
  exact (Chip.sendMsg_kept ..).mono (by decide)

theorem Chip.takeWrite_kept (x : RingCell) (phaseG : Bool) (c : Chip) : Kept 0x80040052 c (Chip.takeWrite x phaseG c) := by
  unfold Chip.takeWrite
  extract_lets x0 x1 x2 x3 x4 x5
  refine Kept.ite ?_ ?_
  · refine Kept.ite ?_ ?_
    · refine Kept.step (Chip.sendNack_kept ..) (by decide) ?_
      refine Kept.step (Chip.noteWrite_kept ..) (by decide) ?_
      subst x5
      exact (Chip.setClaimed_kept ..).mono (by decide)
    · split
      · refine Kept.step (Chip.sendNack_kept ..) (by decide) ?_
        refine Kept.step (Chip.noteWrite_kept ..) (by decide) ?_
        subst x5
        exact (Chip.setClaimed_kept ..).mono (by decide)
      · refine Kept.step (Chip.sendNack_kept ..) (by decide) ?_
        refine Kept.step (Chip.noteWrite_kept ..) (by decide) ?_
        subst x5
        exact (Chip.setClaimed_kept ..).mono (by decide)
      · refine Kept.step (Chip.noteWrite_kept ..) (by decide) ?_
        refine Kept.doIf (fun _ => ?_) ?_
        · exact (Chip.queueCommit_kept ..).mono (by decide)
        · subst x5
          exact (Chip.setClaimed_kept ..).mono (by decide)
  · refine Kept.ite ?_ ?_
    · refine Kept.step (Chip.sendNack_kept ..) (by decide) ?_
      exact (Chip.setClaimed_kept ..).mono (by decide)
    · exact (Chip.setClaimed_kept ..).mono (by decide)

theorem Chip.reported_kept (n : Nat) (c : Chip) : Kept 0x40000 c (Chip.reported n c) := by
  unfold Chip.reported
  exact (Chip.modRing_kept ..).mono (by decide)

theorem Chip.sendConfirm_kept (l : List RInit) (c : Chip) : Kept 0x40000 c (Chip.sendConfirm l c) := by
  unfold Chip.sendConfirm
  refine Kept.foldl (fun _ _ => ?_) ?_
  · exact (Chip.reported_kept ..).mono (by decide)
  · exact (Chip.sendMsg_kept ..).mono (by decide)

theorem Chip.confirmAll_kept (c : Chip) : Kept 0x40000 c (Chip.confirmAll c) := by
  unfold Chip.confirmAll
  refine Kept.foldl (fun _ _ => ?_) ?_
  · exact (Chip.sendConfirm_kept ..).mono (by decide)
  · exact Kept.rfl

theorem Chip.setOut_kept (e : Nat) (st : Nat) (c : Chip) : Kept 0x4 c (Chip.setOut e st c) := by
  unfold Chip.setOut
  refine Kept.ite ?_ ?_
  · exact Kept.rfl
  · exact (Kept.putWin16_off (by unfold Chip.outOff; omega)).mono (by decide)

theorem Chip.takeOut_kept (e : Nat) (c : Chip) : Kept 0x100000000000000000020000000000000000000000000000010409c6 c
    (Chip.takeOut e c) := by
  unfold Chip.takeOut
  extract_lets x0 x1 x2
  refine Kept.ite ?_ ?_
  · refine Kept.step (Chip.setOut_kept ..) (by decide) ?_
    subst x1
    subst x0
    exact (Chip.engineCheck_kept ..).mono (by decide)
  · refine Kept.ite ?_ ?_
    · subst x1
      subst x0
      exact (Chip.engineCheck_kept ..).mono (by decide)
    · refine Kept.ite ?_ ?_
      · refine Kept.step (Kept.incFld_name .ringCounts 0 0 (Eq.refl _)) (by decide) ?_
        refine Kept.step (Chip.setOut_kept ..) (by decide) ?_
        subst x1
        subst x0
        exact (Chip.engineCheck_kept ..).mono (by decide)
      · refine Kept.ite ?_ ?_
        · refine Kept.step (Chip.fault_kept ..) (by decide) ?_
          refine Kept.step (Chip.setOut_kept ..) (by decide) ?_
          subst x1
          subst x0
          exact (Chip.engineCheck_kept ..).mono (by decide)
        · refine Kept.ite ?_ ?_
          · subst x1
            subst x0
            exact (Chip.engineCheck_kept ..).mono (by decide)
          · refine Kept.step (Chip.enqueue_kept ..) (by decide) ?_
            refine Kept.step (Chip.setOut_kept ..) (by decide) ?_
            subst x1
            subst x0
            exact (Chip.engineCheck_kept ..).mono (by decide)

theorem Chip.storeIn_kept (src : Nat) (chan : Nat) (len : Nat) (flags : Nat) (pay : List Byte) (c : Chip) : Kept
    0x20000000000000000000000000000000000000000000000000000046 c (Chip.storeIn src chan len flags pay c) := by
  unfold Chip.storeIn
  extract_lets x0 x1 x2
  refine Kept.doIf (fun _ => ?_) ?_
  · exact (Chip.raise_kept ..).mono (by decide)
  · refine Kept.step (Kept.put_name .ringRxHead 0 0 (Eq.refl _)) (by decide) ?_
    subst x2
    exact (Kept.putRecord_off (by omega)).mono (by decide)

theorem Chip.takeHost_kept (x : RingCell) (c : Chip) : Kept 0x200000000000000010020000000000000000000000000000010401c6 c
    (Chip.takeHost x c) := by
  unfold Chip.takeHost
  refine Kept.ite ?_ ?_
  · exact (Chip.setClaimed_kept ..).mono (by decide)
  · refine Kept.ite ?_ ?_
    · refine Kept.step (Chip.storeIn_kept ..) (by decide) ?_
      exact (Chip.setClaimed_kept ..).mono (by decide)
    · extract_lets x0 x1
      split
      · refine Kept.step (Chip.storeIn_kept ..) (by decide) ?_
        refine Kept.step (Chip.modRing_kept ..) (by decide) ?_
        exact (Chip.setClaimed_kept ..).mono (by decide)
      · refine Kept.step (Chip.storeIn_kept ..) (by decide) ?_
        refine Kept.step (Chip.fault_kept ..) (by decide) ?_
        refine Kept.step (Kept.incFld_name .cipherCounts 0 0 (Eq.refl _)) (by decide) ?_
        exact (Chip.setClaimed_kept ..).mono (by decide)

theorem Chip.commitRxTail_kept (v : Nat) (c : Chip) : Kept 0x40000000000000000000000000000000000000000000000400000002 c
    (Chip.commitRxTail v c) := by
  unfold Chip.commitRxTail
  refine Kept.ite ?_ ?_
  · exact (Chip.portErr_kept ..).mono (by decide)
  · exact (Kept.put_name .ringRxTail 0 0 (Eq.refl _)).mono (by decide)

theorem Chip.afterSend_kept (x : TxCell) (l : List Byte) (c : Chip) : Kept
    0x10000000000000000000000000000000000000000000000000040006 c (Chip.afterSend x l c) := by
  unfold Chip.afterSend
  split
  · extract_lets x0 x1 x2 x3 x4
    refine Kept.step (Chip.setTarget_kept ..) (by decide) ?_
    exact (Chip.modRing_kept ..).mono (by decide)
  · refine Kept.step (Chip.modRing_kept ..) (by decide) ?_
    exact (Kept.incFld_name .ringCounts 0 0 (Eq.refl _)).mono (by decide)
  · exact (Chip.modRing_kept ..).mono (by decide)
  · refine Kept.step (Chip.modRing_kept ..) (by decide) ?_
    exact (Chip.setOut_kept ..).mono (by decide)
  · exact Kept.rfl

theorem Chip.sendOne_kept (c : Chip) (x : TxCell) : Kept 0x10000000000000000000000000000000000000000000000000040006 c
    (Chip.sendOne c x) := by
  unfold Chip.sendOne
  extract_lets x0
  refine Kept.ite ?_ ?_
  · exact Kept.rfl
  · split
    · exact Kept.rfl
    · refine Kept.step (Chip.afterSend_kept ..) (by decide) ?_
      exact (Chip.modRing_kept ..).mono (by decide)

theorem Chip.sendJoin_kept (c : Chip) : Kept 0x40000 c (Chip.sendJoin c) := by
  unfold Chip.sendJoin
  extract_lets x0
  refine Kept.step (Chip.modRing_kept ..) (by decide) ?_
  exact (Chip.sendMsg_kept ..).mono (by decide)

theorem Chip.writeEntry_kept (c : Chip) : Kept 0x40000 c (Chip.writeEntry c) := by
  unfold Chip.writeEntry
  extract_lets x0 x1 x2
  subst x0
  split
  · refine Kept.step (Chip.reported_kept ..) (by decide) ?_
    exact (Chip.modRing_kept ..).mono (by decide)
  · exact (Chip.modRing_kept ..).mono (by decide)

theorem Chip.reports_kept (cyc : Nat) (c : Chip) : Kept 0x40000 c (Chip.reports cyc c) := by
  unfold Chip.reports
  extract_lets x0
  refine Kept.ite ?_ ?_
  · refine Kept.step (Chip.confirmAll_kept ..) (by decide) ?_
    exact (Chip.writeEntry_kept ..).mono (by decide)
  · refine Kept.ite ?_ ?_
    · exact Kept.rfl
    · exact (Chip.confirmAll_kept ..).mono (by decide)

theorem Chip.publishShot_kept (at' : Nat) (c : Chip) : Kept 0x40800 c (Chip.publishShot at' c) := by
  unfold Chip.publishShot
  refine Kept.ite ?_ ?_
  · refine Kept.step (Chip.modRing_kept ..) (by decide) ?_
    exact (Chip.useFree_kept ..).mono (by decide)
  · exact Kept.rfl

theorem Chip.sendCycle_kept (cyc : Nat) (at' : Nat) (angle : Bool) (c : Chip) : Kept
    0x10000000000000000000000000000000000000000000000000040806 c (Chip.sendCycle cyc at' angle c) := by
  unfold Chip.sendCycle
  extract_lets x0 x1 x2 x3
  refine Kept.ite ?_ ?_
  · refine Kept.foldl (fun _ _ => ?_) ?_
    · refine Kept.step (Chip.sendOne_kept ..) (by decide) ?_
      exact Kept.rfl
    · subst x1
      refine Kept.step (Chip.modRing_kept ..) (by decide) ?_
      refine Kept.doIf (fun _ => ?_) ?_
      · exact (Chip.publishShot_kept ..).mono (by decide)
      · refine Kept.step (Chip.reports_kept ..) (by decide) ?_
        subst x0
        exact (Chip.modRing_kept ..).mono (by decide)
  · refine Kept.ite ?_ ?_
    · refine Kept.foldl (fun _ _ => ?_) ?_
      · refine Kept.step (Chip.sendOne_kept ..) (by decide) ?_
        exact Kept.rfl
      · subst x3
        refine Kept.ite ?_ ?_
        · refine Kept.step (Chip.sendJoin_kept ..) (by decide) ?_
          subst x0
          exact (Chip.modRing_kept ..).mono (by decide)
        · subst x0
          exact (Chip.modRing_kept ..).mono (by decide)
    · subst x0
      exact (Chip.modRing_kept ..).mono (by decide)

theorem Chip.passGap_kept (c : Chip) : Kept 0x20008000000000000000000000000000000000020000000000004000a c (Chip.passGap c)
    := by
  unfold Chip.passGap
  refine Kept.ite ?_ ?_
  · exact Kept.rfl
  · split
    · refine Kept.ite ?_ ?_
      · exact Kept.rfl
      · refine Kept.step (Chip.listen_kept ..) (by decide) ?_
        exact (Chip.dropLink_kept ..).mono (by decide)
    · refine Kept.ite ?_ ?_
      · refine Kept.step (Chip.modRing_kept ..) (by decide) ?_
        exact (Kept.setFld_name .ringStatus 0 0 (Eq.refl _)).mono (by decide)
      · exact Kept.rfl

theorem Chip.showMembers_kept (c : Chip) : Kept 0x200000000000000000000000000000000000000000000000000000002 c
    (Chip.showMembers c) := by
  unfold Chip.showMembers
  refine Kept.foldl (fun _ _ => ?_) ?_
  · exact (Kept.put_name .ringMembers _ 0 (Eq.refl _)).mono (by decide)
  · exact Kept.rfl

theorem Chip.takeGrant_kept (quota : Nat) (slot : Option Nat) (result : Nat) (c : Chip) : Kept
    0x80000000000000000000000000000000000000000000000000002 c (Chip.takeGrant quota slot result c) := by
  unfold Chip.takeGrant
  refine Kept.step (Kept.setFld_name .ringJoinStatus 0 0 (Eq.refl _)) (by decide) ?_
  refine Kept.step (Kept.setFld_name .ringJoinStatus 0 0 (Eq.refl _)) (by decide) ?_
  refine Kept.step (Kept.setFld_name .ringJoinStatus 0 0 (Eq.refl _)) (by decide) ?_
  exact (Kept.setFld_name .ringJoinStatus 0 0 (Eq.refl _)).mono (by decide)

theorem Chip.masterNow_kept (c : Chip) : Kept 0x300000000000000000000000000000000000200000000000040002 c (Chip.masterNow c)
    := by
  unfold Chip.masterNow
  refine Kept.step (Chip.modRing_kept ..) (by decide) ?_
  refine Kept.step (Kept.setFld_name .ringPhase 0 0 (Eq.refl _)) (by decide) ?_
  refine Kept.step (Kept.setFld_name .ringHop 0 0 (Eq.refl _)) (by decide) ?_
  refine Kept.step (Kept.setFlag_name .ringStatus 0 0 (Eq.refl _)) (by decide) ?_
  refine Kept.step (Kept.setFld_name .ringStatus 0 0 (Eq.refl _)) (by decide) ?_
  refine Kept.step (Kept.setFld_name .ringStatus 0 0 (Eq.refl _)) (by decide) ?_
  refine Kept.step (Kept.setFlag_name .ringStatus 0 0 (Eq.refl _)) (by decide) ?_
  exact (Kept.setFlag_name .ringStatus 0 0 (Eq.refl _)).mono (by decide)

theorem Chip.becomeMaster_kept (c : Chip) : Kept 0x20038000000000000000000000000000000000020000000000004000a c
    (Chip.becomeMaster c) := by
  unfold Chip.becomeMaster
  extract_lets x0 x1 x2
  refine Kept.step (Chip.showMembers_kept ..) (by decide) ?_
  refine Kept.step (Chip.restartTargets_kept ..) (by decide) ?_
  refine Kept.step (Chip.modRing_kept ..) (by decide) ?_
  refine Kept.step (Chip.takeGrant_kept ..) (by decide) ?_
  refine Kept.step (Chip.masterNow_kept ..) (by decide) ?_
  subst x1
  refine Kept.ite ?_ ?_
  · exact Kept.tb_set.mono (by decide)
  · exact Kept.rfl

theorem Chip.takeMastership_kept (grants : List RingGrant) (c : Chip) : Kept
    0x200300000000000000000000000000000000000200000000000040002 c (Chip.takeMastership grants c) := by
  unfold Chip.takeMastership
  extract_lets x0 x1
  refine Kept.step (Chip.showMembers_kept ..) (by decide) ?_
  refine Kept.step (Chip.modRing_kept ..) (by decide) ?_
  exact (Chip.masterNow_kept ..).mono (by decide)

theorem Chip.stepDown_kept (c : Chip) : Kept 0x200000000000000000000000000000000000000200000000000040002 c (Chip.stepDown c)
    := by
  unfold Chip.stepDown
  extract_lets x0
  refine Kept.ite ?_ ?_
  · refine Kept.step (Chip.sendMsg_kept ..) (by decide) ?_
    subst x0
    refine Kept.step (Chip.showMembers_kept ..) (by decide) ?_
    refine Kept.step (Chip.modRing_kept ..) (by decide) ?_
    exact (Kept.setFlag_name .ringStatus 0 0 (Eq.refl _)).mono (by decide)
  · subst x0
    refine Kept.step (Chip.showMembers_kept ..) (by decide) ?_
    refine Kept.step (Chip.modRing_kept ..) (by decide) ?_
    exact (Kept.setFlag_name .ringStatus 0 0 (Eq.refl _)).mono (by decide)

theorem Chip.applySetTime_kept (c : Chip) : Kept 0x20000000000000000000000000000010401ca c (Chip.applySetTime c) := by
  unfold Chip.applySetTime
  split
  · exact Kept.rfl
  · extract_lets x0 x1 x2 x3
    refine Kept.ite ?_ ?_
    · subst x1
      exact (Chip.modRing_kept ..).mono (by decide)
    · refine Kept.ite ?_ ?_
      · refine Kept.doIf (fun _ => ?_) ?_
        · exact (Chip.ringFault_kept ..).mono (by decide)
        · refine Kept.step (Chip.modRing_kept ..) (by decide) ?_
          subst x1
          exact (Chip.modRing_kept ..).mono (by decide)
      · refine Kept.step (Chip.modRing_kept ..) (by decide) ?_
        refine Kept.step Kept.tb_set (by decide) ?_
        subst x1
        exact (Chip.modRing_kept ..).mono (by decide)

theorem Chip.beaconLtr_kept (v : Option Nat) (c : Chip) : Kept 0x10000010042 c (Chip.beaconLtr v c) := by
  unfold Chip.beaconLtr
  extract_lets x0 x1
  refine Kept.ite ?_ ?_
  · subst x1
    split
    · refine Kept.step (Chip.modPower_kept ..) (by decide) ?_
      exact (Kept.setFlag_name .pwrState 0 0 (Eq.refl _)).mono (by decide)
    · refine Kept.step (Chip.modPower_kept ..) (by decide) ?_
      exact (Kept.setFlag_name .pwrState 0 0 (Eq.refl _)).mono (by decide)
  · refine Kept.step (Chip.raise_kept ..) (by decide) ?_
    subst x1
    split
    · refine Kept.step (Chip.modPower_kept ..) (by decide) ?_
      exact (Kept.setFlag_name .pwrState 0 0 (Eq.refl _)).mono (by decide)
    · refine Kept.step (Chip.modPower_kept ..) (by decide) ?_
      exact (Kept.setFlag_name .pwrState 0 0 (Eq.refl _)).mono (by decide)

theorem Chip.startCycle_kept (run : Nat) (c : Chip) : Kept 0x141000000000000000020000000000000000000000000100010509ce c
    (Chip.startCycle run c) := by
  unfold Chip.startCycle
  extract_lets x0 x1 x2 x3 x4 x5 x6 x7
  refine Kept.ite ?_ ?_
  · refine Kept.step (Kept.setFld_name .ringHop 0 0 (Eq.refl _)) (by decide) ?_
    subst x7
    refine Kept.step (Chip.sendCycle_kept ..) (by decide) ?_
    subst x6
    refine Kept.step (Chip.modRing_kept ..) (by decide) ?_
    subst x4
    refine Kept.step (Chip.beaconLtr_kept ..) (by decide) ?_
    refine Kept.step (Kept.put_name .ringCycle 0 0 (Eq.refl _)) (by decide) ?_
    subst x0
    exact (Chip.applySetTime_kept ..).mono (by decide)
  · subst x7
    refine Kept.step (Chip.sendCycle_kept ..) (by decide) ?_
    subst x6
    refine Kept.step (Chip.modRing_kept ..) (by decide) ?_
    subst x4
    refine Kept.step (Chip.beaconLtr_kept ..) (by decide) ?_
    refine Kept.step (Kept.put_name .ringCycle 0 0 (Eq.refl _)) (by decide) ?_
    subst x0
    exact (Chip.applySetTime_kept ..).mono (by decide)

theorem Chip.cycleTick_kept (run : Nat) (grants : List RingGrant) (c : Chip) : Kept
    0x2143800000000000000020000000000000000002000000100010509ce c (Chip.cycleTick run grants c) := by
  unfold Chip.cycleTick
  refine Kept.ite ?_ ?_
  · exact Kept.rfl
  · extract_lets x0 x1
    refine Kept.ite ?_ ?_
    · subst x0
      refine Kept.ite ?_ ?_
      · exact (Chip.takeMastership_kept ..).mono (by decide)
      · exact Kept.rfl
    · refine Kept.ite ?_ ?_
      · refine Kept.step (Chip.stepDown_kept ..) (by decide) ?_
        subst x0
        refine Kept.ite ?_ ?_
        · exact (Chip.takeMastership_kept ..).mono (by decide)
        · exact Kept.rfl
      · refine Kept.ite ?_ ?_
        · refine Kept.step (Chip.startCycle_kept ..) (by decide) ?_
          subst x1
          refine Kept.step (Chip.passGap_kept ..) (by decide) ?_
          subst x0
          refine Kept.ite ?_ ?_
          · exact (Chip.takeMastership_kept ..).mono (by decide)
          · exact Kept.rfl
        · subst x1
          refine Kept.step (Chip.passGap_kept ..) (by decide) ?_
          subst x0
          refine Kept.ite ?_ ?_
          · exact (Chip.takeMastership_kept ..).mono (by decide)
          · exact Kept.rfl

theorem Chip.leave_kept (l : Nat) (c : Chip) : Kept 0x20008000000000000000000000000000000000020000000000004000a c
    (Chip.leave l c) := by
  unfold Chip.leave
  refine Kept.ite ?_ ?_
  · refine Kept.step (Chip.listen_kept ..) (by decide) ?_
    exact (Chip.dropLink_kept ..).mono (by decide)
  · refine Kept.ite ?_ ?_
    · exact Kept.rfl
    · extract_lets x0
      refine Kept.ite ?_ ?_
      · split
        · refine Kept.step (Chip.modRing_kept ..) (by decide) ?_
          subst x0
          exact (Chip.modRing_kept ..).mono (by decide)
        · refine Kept.step (Chip.sendMsg_kept ..) (by decide) ?_
          subst x0
          exact (Chip.modRing_kept ..).mono (by decide)
      · refine Kept.step (Chip.sendMsg_kept ..) (by decide) ?_
        subst x0
        exact (Chip.modRing_kept ..).mono (by decide)

theorem Chip.writeRingControl_kept (v : Nat) (c : Chip) : Kept 0x20008000000000000000000000000000000000060000000000004000a c
    (Chip.writeRingControl v c) := by
  unfold Chip.writeRingControl
  extract_lets x0 x1
  refine Kept.ite ?_ ?_
  · refine Kept.step (Chip.listen_kept ..) (by decide) ?_
    refine Kept.step (Chip.leave_kept ..) (by decide) ?_
    subst x0
    refine Kept.step (Kept.setFld_name .ringControl 0 0 (Eq.refl _)) (by decide) ?_
    exact (Kept.setFld_name .ringControl 0 0 (Eq.refl _)).mono (by decide)
  · refine Kept.step (Chip.listen_kept ..) (by decide) ?_
    subst x0
    refine Kept.step (Kept.setFld_name .ringControl 0 0 (Eq.refl _)) (by decide) ?_
    exact (Kept.setFld_name .ringControl 0 0 (Eq.refl _)).mono (by decide)

theorem Chip.takeJoin_kept (x : RingCell) (c : Chip) : Kept 0x200000000000000000000000000000000000000000000000000040002 c
    (Chip.takeJoin x c) := by
  unfold Chip.takeJoin
  extract_lets x0 x1 x2 x3 x4 x5 x6 x7
  refine Kept.ite ?_ ?_
  · subst x2
    dsimp only
    exact (Chip.sendMsg_kept ..).mono (by decide)
  · refine Kept.step (Chip.showMembers_kept ..) (by decide) ?_
    refine Kept.step (Chip.modRing_kept ..) (by decide) ?_
    subst x2
    dsimp only
    exact (Chip.sendMsg_kept ..).mono (by decide)

theorem Chip.dropMember_kept (n : Nat) (c : Chip) : Kept 0x200000000000000000000000000000000000000000000000000040002 c
    (Chip.dropMember n c) := by
  unfold Chip.dropMember
  refine Kept.step (Chip.showMembers_kept ..) (by decide) ?_
  exact (Chip.modRing_kept ..).mono (by decide)

theorem Chip.masterEntry_kept (n : Nat) (b0 : Nat) (c : Chip) : Kept
    0x2000000000000000000020000000000000000000000000000010401c2 c (Chip.masterEntry n b0 c) := by
  unfold Chip.masterEntry
  split
  · exact Kept.rfl
  · refine Kept.ite ?_ ?_
    · exact Kept.rfl
    · refine Kept.ite ?_ ?_
      · refine Kept.ite ?_ ?_
        · refine Kept.step (Chip.ringFault_kept ..) (by decide) ?_
          exact (Chip.dropMember_kept ..).mono (by decide)
        · exact (Chip.modRing_kept ..).mono (by decide)
      · extract_lets x0 x1
        refine Kept.ite ?_ ?_
        · refine Kept.step (Chip.modRing_kept ..) (by decide) ?_
          subst x1
          exact (Chip.modRing_kept ..).mono (by decide)
        · subst x1
          exact (Chip.modRing_kept ..).mono (by decide)

theorem Chip.takeEntry_kept (n : Nat) (e : List Byte) (c : Chip) : Kept
    0x2000800000000000000020000000000000000002000000000010401ca c (Chip.takeEntry n e c) := by
  unfold Chip.takeEntry
  extract_lets x0 x1 x2 x3 x4
  split
  · subst x4
    refine Kept.ite ?_ ?_
    · refine Kept.step (Chip.masterEntry_kept ..) (by decide) ?_
      subst x3
      refine Kept.ite ?_ ?_
      · refine Kept.step (Chip.restartTarget_kept ..) (by decide) ?_
        subst x2
        refine Kept.ite ?_ ?_
        · exact (Chip.modRing_kept ..).mono (by decide)
        · exact Kept.rfl
      · refine Kept.ite ?_ ?_
        · refine Kept.step (Chip.takeReport_kept ..) (by decide) ?_
          subst x2
          refine Kept.ite ?_ ?_
          · exact (Chip.modRing_kept ..).mono (by decide)
          · exact Kept.rfl
        · subst x2
          refine Kept.ite ?_ ?_
          · exact (Chip.modRing_kept ..).mono (by decide)
          · exact Kept.rfl
    · subst x3
      refine Kept.ite ?_ ?_
      · refine Kept.step (Chip.restartTarget_kept ..) (by decide) ?_
        subst x2
        refine Kept.ite ?_ ?_
        · exact (Chip.modRing_kept ..).mono (by decide)
        · exact Kept.rfl
      · refine Kept.ite ?_ ?_
        · refine Kept.step (Chip.takeReport_kept ..) (by decide) ?_
          subst x2
          refine Kept.ite ?_ ?_
          · exact (Chip.modRing_kept ..).mono (by decide)
          · exact Kept.rfl
        · subst x2
          refine Kept.ite ?_ ?_
          · exact (Chip.modRing_kept ..).mono (by decide)
          · exact Kept.rfl
  · refine Kept.ite ?_ ?_
    · subst x4
      refine Kept.ite ?_ ?_
      · refine Kept.step (Chip.masterEntry_kept ..) (by decide) ?_
        subst x3
        refine Kept.ite ?_ ?_
        · refine Kept.step (Chip.restartTarget_kept ..) (by decide) ?_
          subst x2
          refine Kept.ite ?_ ?_
          · exact (Chip.modRing_kept ..).mono (by decide)
          · exact Kept.rfl
        · refine Kept.ite ?_ ?_
          · refine Kept.step (Chip.takeReport_kept ..) (by decide) ?_
            subst x2
            refine Kept.ite ?_ ?_
            · exact (Chip.modRing_kept ..).mono (by decide)
            · exact Kept.rfl
          · subst x2
            refine Kept.ite ?_ ?_
            · exact (Chip.modRing_kept ..).mono (by decide)
            · exact Kept.rfl
      · subst x3
        refine Kept.ite ?_ ?_
        · refine Kept.step (Chip.restartTarget_kept ..) (by decide) ?_
          subst x2
          refine Kept.ite ?_ ?_
          · exact (Chip.modRing_kept ..).mono (by decide)
          · exact Kept.rfl
        · refine Kept.ite ?_ ?_
          · refine Kept.step (Chip.takeReport_kept ..) (by decide) ?_
            subst x2
            refine Kept.ite ?_ ?_
            · exact (Chip.modRing_kept ..).mono (by decide)
            · exact Kept.rfl
          · subst x2
            refine Kept.ite ?_ ?_
            · exact (Chip.modRing_kept ..).mono (by decide)
            · exact Kept.rfl
    · refine Kept.ite ?_ ?_
      · refine Kept.step (Chip.modRing_kept ..) (by decide) ?_
        subst x4
        refine Kept.ite ?_ ?_
        · refine Kept.step (Chip.masterEntry_kept ..) (by decide) ?_
          subst x3
          refine Kept.ite ?_ ?_
          · refine Kept.step (Chip.restartTarget_kept ..) (by decide) ?_
            subst x2
            refine Kept.ite ?_ ?_
            · exact (Chip.modRing_kept ..).mono (by decide)
            · exact Kept.rfl
          · refine Kept.ite ?_ ?_
            · refine Kept.step (Chip.takeReport_kept ..) (by decide) ?_
              subst x2
              refine Kept.ite ?_ ?_
              · exact (Chip.modRing_kept ..).mono (by decide)
              · exact Kept.rfl
            · subst x2
              refine Kept.ite ?_ ?_
              · exact (Chip.modRing_kept ..).mono (by decide)
              · exact Kept.rfl
        · subst x3
          refine Kept.ite ?_ ?_
          · refine Kept.step (Chip.restartTarget_kept ..) (by decide) ?_
            subst x2
            refine Kept.ite ?_ ?_
            · exact (Chip.modRing_kept ..).mono (by decide)
            · exact Kept.rfl
          · refine Kept.ite ?_ ?_
            · refine Kept.step (Chip.takeReport_kept ..) (by decide) ?_
              subst x2
              refine Kept.ite ?_ ?_
              · exact (Chip.modRing_kept ..).mono (by decide)
              · exact Kept.rfl
            · subst x2
              refine Kept.ite ?_ ?_
              · exact (Chip.modRing_kept ..).mono (by decide)
              · exact Kept.rfl
      · refine Kept.ite ?_ ?_
        · refine Kept.step (Chip.modRing_kept ..) (by decide) ?_
          subst x4
          refine Kept.ite ?_ ?_
          · refine Kept.step (Chip.masterEntry_kept ..) (by decide) ?_
            subst x3
            refine Kept.ite ?_ ?_
            · refine Kept.step (Chip.restartTarget_kept ..) (by decide) ?_
              subst x2
              refine Kept.ite ?_ ?_
              · exact (Chip.modRing_kept ..).mono (by decide)
              · exact Kept.rfl
            · refine Kept.ite ?_ ?_
              · refine Kept.step (Chip.takeReport_kept ..) (by decide) ?_
                subst x2
                refine Kept.ite ?_ ?_
                · exact (Chip.modRing_kept ..).mono (by decide)
                · exact Kept.rfl
              · subst x2
                refine Kept.ite ?_ ?_
                · exact (Chip.modRing_kept ..).mono (by decide)
                · exact Kept.rfl
          · subst x3
            refine Kept.ite ?_ ?_
            · refine Kept.step (Chip.restartTarget_kept ..) (by decide) ?_
              subst x2
              refine Kept.ite ?_ ?_
              · exact (Chip.modRing_kept ..).mono (by decide)
              · exact Kept.rfl
            · refine Kept.ite ?_ ?_
              · refine Kept.step (Chip.takeReport_kept ..) (by decide) ?_
                subst x2
                refine Kept.ite ?_ ?_
                · exact (Chip.modRing_kept ..).mono (by decide)
                · exact Kept.rfl
              · subst x2
                refine Kept.ite ?_ ?_
                · exact (Chip.modRing_kept ..).mono (by decide)
                · exact Kept.rfl
        · refine Kept.step (Chip.leave_kept ..) (by decide) ?_
          refine Kept.step (Chip.modRing_kept ..) (by decide) ?_
          subst x4
          refine Kept.ite ?_ ?_
          · refine Kept.step (Chip.masterEntry_kept ..) (by decide) ?_
            subst x3
            refine Kept.ite ?_ ?_
            · refine Kept.step (Chip.restartTarget_kept ..) (by decide) ?_
              subst x2
              refine Kept.ite ?_ ?_
              · exact (Chip.modRing_kept ..).mono (by decide)
              · exact Kept.rfl
            · refine Kept.ite ?_ ?_
              · refine Kept.step (Chip.takeReport_kept ..) (by decide) ?_
                subst x2
                refine Kept.ite ?_ ?_
                · exact (Chip.modRing_kept ..).mono (by decide)
                · exact Kept.rfl
              · subst x2
                refine Kept.ite ?_ ?_
                · exact (Chip.modRing_kept ..).mono (by decide)
                · exact Kept.rfl
          · subst x3
            refine Kept.ite ?_ ?_
            · refine Kept.step (Chip.restartTarget_kept ..) (by decide) ?_
              subst x2
              refine Kept.ite ?_ ?_
              · exact (Chip.modRing_kept ..).mono (by decide)
              · exact Kept.rfl
            · refine Kept.ite ?_ ?_
              · refine Kept.step (Chip.takeReport_kept ..) (by decide) ?_
                subst x2
                refine Kept.ite ?_ ?_
                · exact (Chip.modRing_kept ..).mono (by decide)
                · exact Kept.rfl
              · subst x2
                refine Kept.ite ?_ ?_
                · exact (Chip.modRing_kept ..).mono (by decide)
                · exact Kept.rfl

theorem Chip.followTime_kept (ref : Nat) (c : Chip) : Kept 0x20000000000000000000000000000010401ca c (Chip.followTime ref c)
    := by
  unfold Chip.followTime
  refine Kept.ite ?_ ?_
  · refine Kept.step (Chip.modRing_kept ..) (by decide) ?_
    exact Kept.tb_set.mono (by decide)
  · extract_lets x0 x1
    refine Kept.ite ?_ ?_
    · refine Kept.step (Chip.ringFault_kept ..) (by decide) ?_
      subst x1
      exact (Chip.modRing_kept ..).mono (by decide)
    · subst x1
      exact (Chip.modRing_kept ..).mono (by decide)

theorem Chip.takeTime_kept (info : BeaconInfo) (j : Int) (c : Chip) : Kept 0x20000000000000000000000000000010401ca c
    (Chip.takeTime info j c) := by
  unfold Chip.takeTime
  extract_lets x0 x1
  refine Kept.ite ?_ ?_
  · exact (Chip.followTime_kept ..).mono (by decide)
  · refine Kept.step (Chip.modRing_kept ..) (by decide) ?_
    exact Kept.tb_set.mono (by decide)

theorem Chip.disciplineTick_kept (info : BeaconInfo) (arrive : Nat) (c : Chip) : Kept
    0x2000000000000000020000000000000000002000000000010401ca c (Chip.disciplineTick info arrive c) := by
  unfold Chip.disciplineTick
  extract_lets x0 x1 x2 x3 x4 x5 x6
  refine Kept.ite ?_ ?_
  · refine Kept.ite ?_ ?_
    · refine Kept.step (Chip.ringFault_kept ..) (by decide) ?_
      refine Kept.step (Chip.unlock_kept ..) (by decide) ?_
      subst x4
      refine Kept.step Kept.tb_set (by decide) ?_
      subst x2
      exact (Kept.setFld_name .ringPhase 0 0 (Eq.refl _)).mono (by decide)
    · refine Kept.step (Chip.takeTime_kept ..) (by decide) ?_
      subst x4
      refine Kept.step Kept.tb_set (by decide) ?_
      subst x2
      exact (Kept.setFld_name .ringPhase 0 0 (Eq.refl _)).mono (by decide)
  · refine Kept.ite ?_ ?_
    · refine Kept.step (Chip.takeTime_kept ..) (by decide) ?_
      refine Kept.step (Chip.modRing_kept ..) (by decide) ?_
      refine Kept.step (Kept.setFlag_name .ringStatus 0 0 (Eq.refl _)) (by decide) ?_
      subst x6
      refine Kept.step (Chip.modRing_kept ..) (by decide) ?_
      subst x4
      refine Kept.step Kept.tb_set (by decide) ?_
      subst x2
      exact (Kept.setFld_name .ringPhase 0 0 (Eq.refl _)).mono (by decide)
    · subst x6
      refine Kept.step (Chip.modRing_kept ..) (by decide) ?_
      subst x4
      refine Kept.step Kept.tb_set (by decide) ?_
      subst x2
      exact (Kept.setFld_name .ringPhase 0 0 (Eq.refl _)).mono (by decide)

theorem Chip.retryWait_kept (c : Chip) : Kept 0x80000000000000000000000000000000000000000000000000002 c (Chip.retryWait c)
    := by
  unfold Chip.retryWait
  extract_lets x0
  refine Kept.ite ?_ ?_
  · exact (Kept.setFld_name .ringJoinStatus 0 0 (Eq.refl _)).mono (by decide)
  · exact Kept.rfl

theorem Chip.missBeacon_kept (errors : Nat) (c : Chip) : Kept 0x10080000000000000000000000000000000000000000000000040002 c
    (Chip.missBeacon errors c) := by
  unfold Chip.missBeacon
  refine Kept.step (Chip.modRing_kept ..) (by decide) ?_
  refine Kept.step (Kept.addFld_name .ringCounts 0 0 (Eq.refl _)) (by decide) ?_
  refine Kept.step (Kept.incFld_name .ringCounts 0 0 (Eq.refl _)) (by decide) ?_
  exact (Chip.retryWait_kept ..).mono (by decide)

theorem Chip.renewHop_kept (hop : Nat) (measure : Bool) (c : Chip) : Kept
    0x100000000000000000000000000000000000000000000000040002 c (Chip.renewHop hop measure c) := by
  unfold Chip.renewHop
  refine Kept.ite ?_ ?_
  · exact Kept.rfl
  · extract_lets x0
    refine Kept.ite ?_ ?_
    · refine Kept.step (Chip.modRing_kept ..) (by decide) ?_
      subst x0
      refine Kept.ite ?_ ?_
      · refine Kept.step (Chip.modRing_kept ..) (by decide) ?_
        exact (Kept.setFld_name .ringHop 0 0 (Eq.refl _)).mono (by decide)
      · exact Kept.rfl
    · subst x0
      refine Kept.ite ?_ ?_
      · refine Kept.step (Chip.modRing_kept ..) (by decide) ?_
        exact (Kept.setFld_name .ringHop 0 0 (Eq.refl _)).mono (by decide)
      · exact Kept.rfl

theorem Chip.joinAgain_kept (c : Chip) : Kept 0x80000000000000000000000000000000000200000000000040002 c (Chip.joinAgain c)
    := by
  unfold Chip.joinAgain
  refine Kept.ite ?_ ?_
  · exact Kept.rfl
  · refine Kept.step (Chip.modRing_kept ..) (by decide) ?_
    refine Kept.step (Kept.setFld_name .ringJoinStatus 0 0 (Eq.refl _)) (by decide) ?_
    refine Kept.step (Kept.setFld_name .ringJoinStatus 0 0 (Eq.refl _)) (by decide) ?_
    refine Kept.step (Kept.setFld_name .ringJoinStatus 0 0 (Eq.refl _)) (by decide) ?_
    exact (Kept.setFld_name .ringStatus 0 0 (Eq.refl _)).mono (by decide)

theorem Chip.followBeacon_kept (l : List Byte) (arrive : Nat) (run : Nat) (c' : Chip) : Kept
    0x143800000000000000020000000000000000002000000100010509ce c' (Chip.followBeacon l arrive run c') := by
  unfold Chip.followBeacon
  extract_lets x0 x1 x2 x3 x4 x5 x6 x7 x8 x9 x10 x11
  refine Kept.ite ?_ ?_
  · refine Kept.step (Kept.setFld_name .ringHop 0 0 (Eq.refl _)) (by decide) ?_
    subst x11
    refine Kept.step (Chip.sendCycle_kept ..) (by decide) ?_
    subst x10
    refine Kept.ite ?_ ?_
    · refine Kept.step (Chip.disciplineTick_kept ..) (by decide) ?_
      subst x9
      refine Kept.step (Chip.retryWait_kept ..) (by decide) ?_
      refine Kept.doIf (fun _ => ?_) ?_
      · exact (Chip.joinAgain_kept ..).mono (by decide)
      · subst x8
        refine Kept.ite ?_ ?_
        · refine Kept.step (Chip.ringFault_kept ..) (by decide) ?_
          subst x6
          refine Kept.step (Chip.modRing_kept ..) (by decide) ?_
          subst x5
          refine Kept.step (Chip.beaconLtr_kept ..) (by decide) ?_
          refine Kept.step (Kept.put_name .ringCycle 0 0 (Eq.refl _)) (by decide) ?_
          refine Kept.step (Kept.setFlag_name .ringStatus 0 0 (Eq.refl _)) (by decide) ?_
          refine Kept.step (Kept.setFld_name .ringStatus 0 0 (Eq.refl _)) (by decide) ?_
          subst x2
          exact (Chip.renewHop_kept ..).mono (by decide)
        · subst x6
          refine Kept.step (Chip.modRing_kept ..) (by decide) ?_
          subst x5
          refine Kept.step (Chip.beaconLtr_kept ..) (by decide) ?_
          refine Kept.step (Kept.put_name .ringCycle 0 0 (Eq.refl _)) (by decide) ?_
          refine Kept.step (Kept.setFlag_name .ringStatus 0 0 (Eq.refl _)) (by decide) ?_
          refine Kept.step (Kept.setFld_name .ringStatus 0 0 (Eq.refl _)) (by decide) ?_
          subst x2
          exact (Chip.renewHop_kept ..).mono (by decide)
    · subst x9
      refine Kept.step (Chip.retryWait_kept ..) (by decide) ?_
      refine Kept.doIf (fun _ => ?_) ?_
      · exact (Chip.joinAgain_kept ..).mono (by decide)
      · subst x8
        refine Kept.ite ?_ ?_
        · refine Kept.step (Chip.ringFault_kept ..) (by decide) ?_
          subst x6
          refine Kept.step (Chip.modRing_kept ..) (by decide) ?_
          subst x5
          refine Kept.step (Chip.beaconLtr_kept ..) (by decide) ?_
          refine Kept.step (Kept.put_name .ringCycle 0 0 (Eq.refl _)) (by decide) ?_
          refine Kept.step (Kept.setFlag_name .ringStatus 0 0 (Eq.refl _)) (by decide) ?_
          refine Kept.step (Kept.setFld_name .ringStatus 0 0 (Eq.refl _)) (by decide) ?_
          subst x2
          exact (Chip.renewHop_kept ..).mono (by decide)
        · subst x6
          refine Kept.step (Chip.modRing_kept ..) (by decide) ?_
          subst x5
          refine Kept.step (Chip.beaconLtr_kept ..) (by decide) ?_
          refine Kept.step (Kept.put_name .ringCycle 0 0 (Eq.refl _)) (by decide) ?_
          refine Kept.step (Kept.setFlag_name .ringStatus 0 0 (Eq.refl _)) (by decide) ?_
          refine Kept.step (Kept.setFld_name .ringStatus 0 0 (Eq.refl _)) (by decide) ?_
          subst x2
          exact (Chip.renewHop_kept ..).mono (by decide)
  · subst x11
    refine Kept.step (Chip.sendCycle_kept ..) (by decide) ?_
    subst x10
    refine Kept.ite ?_ ?_
    · refine Kept.step (Chip.disciplineTick_kept ..) (by decide) ?_
      subst x9
      refine Kept.step (Chip.retryWait_kept ..) (by decide) ?_
      refine Kept.doIf (fun _ => ?_) ?_
      · exact (Chip.joinAgain_kept ..).mono (by decide)
      · subst x8
        refine Kept.ite ?_ ?_
        · refine Kept.step (Chip.ringFault_kept ..) (by decide) ?_
          subst x6
          refine Kept.step (Chip.modRing_kept ..) (by decide) ?_
          subst x5
          refine Kept.step (Chip.beaconLtr_kept ..) (by decide) ?_
          refine Kept.step (Kept.put_name .ringCycle 0 0 (Eq.refl _)) (by decide) ?_
          refine Kept.step (Kept.setFlag_name .ringStatus 0 0 (Eq.refl _)) (by decide) ?_
          refine Kept.step (Kept.setFld_name .ringStatus 0 0 (Eq.refl _)) (by decide) ?_
          subst x2
          exact (Chip.renewHop_kept ..).mono (by decide)
        · subst x6
          refine Kept.step (Chip.modRing_kept ..) (by decide) ?_
          subst x5
          refine Kept.step (Chip.beaconLtr_kept ..) (by decide) ?_
          refine Kept.step (Kept.put_name .ringCycle 0 0 (Eq.refl _)) (by decide) ?_
          refine Kept.step (Kept.setFlag_name .ringStatus 0 0 (Eq.refl _)) (by decide) ?_
          refine Kept.step (Kept.setFld_name .ringStatus 0 0 (Eq.refl _)) (by decide) ?_
          subst x2
          exact (Chip.renewHop_kept ..).mono (by decide)
    · subst x9
      refine Kept.step (Chip.retryWait_kept ..) (by decide) ?_
      refine Kept.doIf (fun _ => ?_) ?_
      · exact (Chip.joinAgain_kept ..).mono (by decide)
      · subst x8
        refine Kept.ite ?_ ?_
        · refine Kept.step (Chip.ringFault_kept ..) (by decide) ?_
          subst x6
          refine Kept.step (Chip.modRing_kept ..) (by decide) ?_
          subst x5
          refine Kept.step (Chip.beaconLtr_kept ..) (by decide) ?_
          refine Kept.step (Kept.put_name .ringCycle 0 0 (Eq.refl _)) (by decide) ?_
          refine Kept.step (Kept.setFlag_name .ringStatus 0 0 (Eq.refl _)) (by decide) ?_
          refine Kept.step (Kept.setFld_name .ringStatus 0 0 (Eq.refl _)) (by decide) ?_
          subst x2
          exact (Chip.renewHop_kept ..).mono (by decide)
        · subst x6
          refine Kept.step (Chip.modRing_kept ..) (by decide) ?_
          subst x5
          refine Kept.step (Chip.beaconLtr_kept ..) (by decide) ?_
          refine Kept.step (Kept.put_name .ringCycle 0 0 (Eq.refl _)) (by decide) ?_
          refine Kept.step (Kept.setFlag_name .ringStatus 0 0 (Eq.refl _)) (by decide) ?_
          refine Kept.step (Kept.setFld_name .ringStatus 0 0 (Eq.refl _)) (by decide) ?_
          subst x2
          exact (Chip.renewHop_kept ..).mono (by decide)

theorem Chip.foreignBeacon_kept (l : List Byte) (c : Chip) : Kept
    0x2000800000000000000020000000000000000002000000000010401c2 c (Chip.foreignBeacon l c) := by
  unfold Chip.foreignBeacon
  extract_lets x0 x1
  refine Kept.ite ?_ ?_
  · exact Kept.rfl
  · refine Kept.ite ?_ ?_
    · refine Kept.step (Chip.ringFault_kept ..) (by decide) ?_
      refine Kept.step (Kept.setFld_name .ringStatus 0 0 (Eq.refl _)) (by decide) ?_
      refine Kept.step (Chip.modRing_kept ..) (by decide) ?_
      refine Kept.step (Chip.joinAgain_kept ..) (by decide) ?_
      refine Kept.step (Chip.stepDown_kept ..) (by decide) ?_
      subst x1
      exact (Chip.modRing_kept ..).mono (by decide)
    · subst x1
      exact (Chip.modRing_kept ..).mono (by decide)

theorem Chip.takeBeacon_kept (l : List Byte) (errors : Nat) (arrive : Nat) (run : Nat) (c : Chip) : Kept
    0x2143800000000000000020000000000000000002000000100010509ce c (Chip.takeBeacon l errors arrive run c) := by
  unfold Chip.takeBeacon
  refine Kept.ite ?_ ?_
  · exact Kept.rfl
  · extract_lets x0 x1
    refine Kept.ite ?_ ?_
    · refine Kept.ite ?_ ?_
      · exact (Chip.foreignBeacon_kept ..).mono (by decide)
      · refine Kept.step (Chip.modRing_kept ..) (by decide) ?_
        exact (Chip.missBeacon_kept ..).mono (by decide)
    · refine Kept.ite ?_ ?_
      · refine Kept.step (Chip.followBeacon_kept ..) (by decide) ?_
        subst x1
        exact (Chip.passGap_kept ..).mono (by decide)
      · refine Kept.step (Chip.sendCycle_kept ..) (by decide) ?_
        refine Kept.step (Chip.missBeacon_kept ..) (by decide) ?_
        subst x1
        exact (Chip.passGap_kept ..).mono (by decide)

theorem Chip.anchorRing_kept (m : Model) (c : Chip) : Kept 0x20040000000000000000000000000010005c2 c (Chip.anchorRing m c) := by
  unfold Chip.anchorRing
  extract_lets ours put place
  have hp : ∀ d, Kept 0x20040000000000000000000000000010005c2 d (place d) := fun d => (Chip.modPred_kept ..).mono (by decide)
  split
  · exact hp c
  · exact Kept.ite (Kept.step (Chip.correctionEffect_kept ..) (by decide)
      (((Chip.shiftModels_kept ..).mono (by decide)).trans (hp _))) (hp c)

theorem Chip.ringToPredictor_kept (m : Model) (c : Chip) : Kept 0x20040000000000000000000000000010005c2 c
    (Chip.ringToPredictor m c) := by
  unfold Chip.ringToPredictor
  refine Kept.ite ?_ ?_
  · exact Kept.rfl
  · split
    · exact (Chip.startWith_kept ..).mono (by decide)
    · refine Kept.ite ?_ ?_
      · exact (Chip.anchorRing_kept ..).mono (by decide)
      · refine Kept.ite ?_ ?_
        · exact (Chip.beginBlend_kept ..).mono (by decide)
        · extract_lets x0
          refine Kept.step (Chip.qualify_kept ..) (by decide) ?_
          subst x0
          refine Kept.ite ?_ ?_
          · exact (Chip.anchorRing_kept ..).mono (by decide)
          · exact Kept.rfl

theorem Chip.takeShot_kept (l : List Byte) (bad : Bool) (previous : Bool) (c : Chip) : Kept
    0x20040080000000000000000000100010007c2 c (Chip.takeShot l bad previous c) := by
  unfold Chip.takeShot
  split
  · exact Kept.rfl
  · extract_lets x0 x1 x2 x3 x4 x5
    refine Kept.ite ?_ ?_
    · exact Kept.rfl
    · refine Kept.ite ?_ ?_
      · subst x2
        refine Kept.ite ?_ ?_
        · exact (Chip.declareStall_kept ..).mono (by decide)
        · exact Kept.rfl
      · refine Kept.ite ?_ ?_
        · refine Kept.step (Kept.setFlag_name .pwrState 0 0 (Eq.refl _)) (by decide) ?_
          subst x5
          refine Kept.step (Chip.ringToPredictor_kept ..) (by decide) ?_
          refine Kept.step (Chip.modPred_kept ..) (by decide) ?_
          subst x2
          refine Kept.ite ?_ ?_
          · exact (Chip.declareStall_kept ..).mono (by decide)
          · exact Kept.rfl
        · subst x5
          refine Kept.step (Chip.ringToPredictor_kept ..) (by decide) ?_
          refine Kept.step (Chip.modPred_kept ..) (by decide) ?_
          subst x2
          refine Kept.ite ?_ ?_
          · exact (Chip.declareStall_kept ..).mono (by decide)
          · exact Kept.rfl

theorem Chip.ringSetTime_kept (c : Chip) : Kept 0x40010 c (Chip.ringSetTime c) := by
  unfold Chip.ringSetTime
  refine Kept.ite ?_ ?_
  · exact (Chip.setReply_kept ..).mono (by decide)
  · extract_lets x0
    refine Kept.step (Chip.setReply_kept ..) (by decide) ?_
    exact (Chip.modRing_kept ..).mono (by decide)

theorem Chip.seen_kept (n : Nat) (c : Chip) : Kept 0x10000000000000000000000000000000000000000000000000000002 c (Chip.seen n
    c) := by
  unfold Chip.seen
  refine Kept.ite ?_ ?_
  · exact (Kept.addFld_name .ringCounts 0 0 (Eq.refl _)).mono (by decide)
  · exact Kept.rfl

end Sys2Proof.Machine
end

