-- ==== Sys2Proof/Laws/KeptView.lean ====
section
/-!
SUPPORT. The frame laws (`Kept`) of the operations of Machine/View.lean.
-/

namespace Sys2Proof.Machine

end Sys2Proof.Machine
end

