-- ==== Sys2Proof/Laws/KeptTroubleCodes.lean ====
section
/-!
SUPPORT. The frame laws (`Kept`) of the operations of Machine/TroubleCodes.lean.
-/

namespace Sys2Proof.Machine

end Sys2Proof.Machine
end

