-- ==== Sys2Proof/Laws/KeptCanBus.lean ====
section
/-!
SUPPORT. The frame laws (`Kept`) of the operations of Machine/CanBus.lean.
-/

namespace Sys2Proof.Machine

theorem Chip.modCan_kept (f : Can → Can) (c : Chip) : Kept 0x100000 c (Chip.modCan f c) := by
  unfold Chip.modCan
  exact Kept.can_set.mono (by decide)

theorem Chip.mbEvent_kept (b : Nat) (c : Chip) : Kept 0x40 c (Chip.mbEvent b c) := by
  unfold Chip.mbEvent
  refine Kept.doIf (fun _ => ?_) ?_
  · exact (Chip.raise_kept ..).mono (by decide)
  · exact Kept.rfl

theorem Chip.putMbData_kept (b : Nat) (data : List Byte) (c : Chip) : Kept 0x20000000000000000000000000000000000000000002 c
    (Chip.putMbData b data c) := by
  unfold Chip.putMbData
  refine Kept.foldl (fun _ _ => ?_) ?_
  · exact (Kept.put_name .mbData _ _ (Eq.refl _)).mono (by decide)
  · exact Kept.rfl

theorem Chip.storeFrame_kept (b : Nat) (f : CanFrame) (c : Chip) : Kept 0x3c000000000000000000000000000000000000000042 c
    (Chip.storeFrame b f c) := by
  unfold Chip.storeFrame
  extract_lets x0 x1 x2
  refine Kept.step (Chip.mbEvent_kept ..) (by decide) ?_
  refine Kept.step (Kept.setFlag_name .mbStatus _ 0 (Eq.refl _)) (by decide) ?_
  refine Kept.step (Kept.put_name .mbStamp _ 0 (Eq.refl _)) (by decide) ?_
  refine Kept.step (Kept.put_name .mbStatus _ 0 (Eq.refl _)) (by decide) ?_
  subst x2
  refine Kept.step (Kept.put_name .mbRxid _ 0 (Eq.refl _)) (by decide) ?_
  exact (Chip.putMbData_kept ..).mono (by decide)

theorem Chip.loseFrame_kept (c : Chip) : Kept 0x80000000000000000000000000000000000000002 c (Chip.loseFrame c) := by
  unfold Chip.loseFrame
  exact (Kept.incFld_name .canCounts 0 0 (Eq.refl _)).mono (by decide)

theorem Chip.showErrors_kept (c : Chip) : Kept 0x400020000000000000000000000000000010001c2 c (Chip.showErrors c) := by
  unfold Chip.showErrors
  refine Kept.ite ?_ ?_
  · exact Kept.rfl
  · extract_lets x0
    refine Kept.ite ?_ ?_
    · refine Kept.step (Chip.fault_kept ..) (by decide) ?_
      exact (Kept.setFld_name .canStatus 0 0 (Eq.refl _)).mono (by decide)
    · exact (Kept.setFld_name .canStatus 0 0 (Eq.refl _)).mono (by decide)

theorem Chip.lowerRec_kept (c : Chip) : Kept 0x400020000000000000000000000000000010009c2 c (Chip.lowerRec c) := by
  unfold Chip.lowerRec
  extract_lets x0
  refine Kept.step (Chip.showErrors_kept ..) (by decide) ?_
  refine Kept.ite ?_ ?_
  · refine Kept.step (Chip.useFree_kept ..) (by decide) ?_
    exact (Kept.setFld_name .canStatus 0 0 (Eq.refl _)).mono (by decide)
  · exact (Kept.setFld_name .canStatus 0 0 (Eq.refl _)).mono (by decide)

theorem Chip.placeFrame_kept (f : CanFrame) (c : Chip) : Kept 0x3c080000000000000000000000000000000000100042 c
    (Chip.placeFrame f c) := by
  unfold Chip.placeFrame
  refine Kept.ite ?_ ?_
  · exact (Chip.modCan_kept ..).mono (by decide)
  · refine Kept.ite ?_ ?_
    · exact (Chip.modCan_kept ..).mono (by decide)
    · refine Kept.ite ?_ ?_
      · exact (Chip.loseFrame_kept ..).mono (by decide)
      · split
        · exact (Chip.storeFrame_kept ..).mono (by decide)
        · split
          · refine Kept.step (Chip.loseFrame_kept ..) (by decide) ?_
            exact (Kept.setFlag_name .mbStatus _ 0 (Eq.refl _)).mono (by decide)
          · exact (Chip.loseFrame_kept ..).mono (by decide)

theorem Chip.receiveFrame_kept (f : CanFrame) (c : Chip) : Kept 0x3c0c00020000000000000000000000000000011009c2 c
    (Chip.receiveFrame f c) := by
  unfold Chip.receiveFrame
  refine Kept.ite ?_ ?_
  · exact Kept.rfl
  · refine Kept.step (Chip.placeFrame_kept ..) (by decide) ?_
    exact (Chip.lowerRec_kept ..).mono (by decide)

theorem Chip.sentFrom_kept (b : Nat) (c : Chip) : Kept 0x48400020000000000000000000000000000011001c2 c (Chip.sentFrom b c)
    := by
  unfold Chip.sentFrom
  extract_lets x0 x1
  refine Kept.ite ?_ ?_
  · refine Kept.step (Chip.modCan_kept ..) (by decide) ?_
    subst x1
    refine Kept.step (Chip.showErrors_kept ..) (by decide) ?_
    refine Kept.step (Kept.setFld_name .canStatus 0 0 (Eq.refl _)) (by decide) ?_
    subst x0
    exact (Chip.modCan_kept ..).mono (by decide)
  · refine Kept.step (Chip.mbEvent_kept ..) (by decide) ?_
    refine Kept.step (Kept.setFlag_name .mbStatus _ 0 (Eq.refl _)) (by decide) ?_
    refine Kept.step (Kept.setFlag_name .mbCfg _ 0 (Eq.refl _)) (by decide) ?_
    subst x1
    refine Kept.step (Chip.showErrors_kept ..) (by decide) ?_
    refine Kept.step (Kept.setFld_name .canStatus 0 0 (Eq.refl _)) (by decide) ?_
    subst x0
    exact (Chip.modCan_kept ..).mono (by decide)

theorem Chip.txComplete_kept (mask : Nat) (c : Chip) : Kept 0x48400020000000000000000000000000000011001c2 c (Chip.txComplete
    mask c) := by
  unfold Chip.txComplete
  refine Kept.ite ?_ ?_
  · exact Kept.rfl
  · split
    · exact (Chip.sentFrom_kept ..).mono (by decide)
    · exact Kept.rfl

theorem Chip.commitMbCfg_kept (b : Nat) (v : DWord) (sending : Bool) (c : Chip) : Kept
    0x4800000000000000000000000000000000000000042 c (Chip.commitMbCfg b v sending c) := by
  unfold Chip.commitMbCfg
  extract_lets x0 x1 x2
  refine Kept.ite ?_ ?_
  · refine Kept.step (Chip.mbEvent_kept ..) (by decide) ?_
    refine Kept.step (Kept.setFlag_name .mbStatus _ 0 (Eq.refl _)) (by decide) ?_
    subst x2
    refine Kept.step (Kept.setFlag_name .mbCfg _ 0 (Eq.refl _)) (by decide) ?_
    subst x1
    exact (Kept.storeMasked_name .mbCfg _ 0 (Eq.refl _)).mono (by decide)
  · subst x2
    refine Kept.step (Kept.setFlag_name .mbCfg _ 0 (Eq.refl _)) (by decide) ?_
    subst x1
    exact (Kept.storeMasked_name .mbCfg _ 0 (Eq.refl _)).mono (by decide)

theorem Chip.restand_kept (code : Nat) (c : Chip) : Kept 0x1000000 c (Chip.restand code c) := by
  refine Kept.keepWin (m := 0x1000004) ?_ QueueOnly.restand (by decide) (by decide)
  unfold Chip.restand
  split
  · exact Kept.ite Kept.rfl ((Chip.putRecord_kept ..).mono (by decide))
  · exact Kept.rfl

theorem Chip.canStart_kept (c : Chip) : Kept 0x400020000000000000000000000000000011001c2 c (Chip.canStart c) := by
  unfold Chip.canStart
  refine Kept.ite ?_ ?_
  · exact (Kept.setFld_name .canStatus 0 0 (Eq.refl _)).mono (by decide)
  · refine Kept.ite ?_ ?_
    · refine Kept.step (Chip.restand_kept ..) (by decide) ?_
      refine Kept.step (Chip.modCan_kept ..) (by decide) ?_
      exact (Kept.setFld_name .canStatus 0 0 (Eq.refl _)).mono (by decide)
    · refine Kept.step (Chip.showErrors_kept ..) (by decide) ?_
      exact (Kept.setFld_name .canStatus 0 0 (Eq.refl _)).mono (by decide)

theorem Chip.canStop_kept (c : Chip) : Kept 0x40000000000000000000000000000000001100002 c (Chip.canStop c) := by
  unfold Chip.canStop
  refine Kept.step (Chip.endStanding_kept ..) (by decide) ?_
  refine Kept.step (Chip.modCan_kept ..) (by decide) ?_
  exact (Kept.setFld_name .canStatus 0 0 (Eq.refl _)).mono (by decide)

theorem Chip.commitCanCfg_kept (v : DWord) (c : Chip) : Kept 0x480020000000000000000000000000000011001c2 c
    (Chip.commitCanCfg v c) := by
  unfold Chip.commitCanCfg
  extract_lets x0 x1 x2
  refine Kept.ite ?_ ?_
  · refine Kept.step (Chip.canStart_kept ..) (by decide) ?_
    subst x1
    exact (Kept.storeMasked_name .canCfg 0 0 (Eq.refl _)).mono (by decide)
  · refine Kept.ite ?_ ?_
    · refine Kept.step (Chip.canStop_kept ..) (by decide) ?_
      subst x1
      exact (Kept.storeMasked_name .canCfg 0 0 (Eq.refl _)).mono (by decide)
    · subst x1
      exact (Kept.storeMasked_name .canCfg 0 0 (Eq.refl _)).mono (by decide)

theorem Chip.goBusOff_kept (c : Chip) : Kept 0xc00020000000000000000000000000000011001c2 c (Chip.goBusOff c) := by
  unfold Chip.goBusOff
  refine Kept.ite ?_ ?_
  · exact Kept.rfl
  · extract_lets x0
    refine Kept.step (Chip.faultStanding_kept ..) (by decide) ?_
    refine Kept.step (Chip.raise_kept ..) (by decide) ?_
    refine Kept.step (Chip.modCan_kept ..) (by decide) ?_
    subst x0
    refine Kept.step (Kept.incFld_name .canCounts 0 0 (Eq.refl _)) (by decide) ?_
    refine Kept.step (Kept.setFld_name .canStatus 0 0 (Eq.refl _)) (by decide) ?_
    exact (Kept.setFld_name .canStatus 0 0 (Eq.refl _)).mono (by decide)

theorem Chip.recoverBus_kept (c : Chip) : Kept 0x40000000000000000000000000000000001100002 c (Chip.recoverBus c) := by
  unfold Chip.recoverBus
  refine Kept.ite ?_ ?_
  · refine Kept.step (Chip.endStanding_kept ..) (by decide) ?_
    refine Kept.step (Chip.modCan_kept ..) (by decide) ?_
    refine Kept.step (Kept.setFld_name .canStatus 0 0 (Eq.refl _)) (by decide) ?_
    refine Kept.step (Kept.setFld_name .canStatus 0 0 (Eq.refl _)) (by decide) ?_
    exact (Kept.setFld_name .canStatus 0 0 (Eq.refl _)).mono (by decide)
  · exact Kept.rfl

theorem Chip.busError_kept (kind : CanError) (tec : Nat) (rec : Nat) (c : Chip) : Kept
    0x400020000000000000000000000000000010001c2 c (Chip.busError kind tec rec c) := by
  unfold Chip.busError
  refine Kept.ite ?_ ?_
  · exact Kept.rfl
  · refine Kept.step (Chip.showErrors_kept ..) (by decide) ?_
    refine Kept.step (Kept.setFld_name .canStatus 0 0 (Eq.refl _)) (by decide) ?_
    refine Kept.step (Kept.setFld_name .canStatus 0 0 (Eq.refl _)) (by decide) ?_
    exact (Kept.setFld_name .canStatus 0 0 (Eq.refl _)).mono (by decide)

theorem Chip.commitCan_kept (a : Nat) (v : DWord) (c : Chip) : Kept 0x48480020000000000000000000000000000811001c2 c
    (Chip.commitCan a v c) := by
  unfold Chip.commitCan
  refine Kept.ite ?_ ?_
  · exact (Chip.commitCanCfg_kept ..).mono (by decide)
  · refine Kept.ite ?_ ?_
    · refine Kept.step (Chip.modCan_kept ..) (by decide) ?_
      exact (Chip.storeMasked_kept ..).mono (by decide)
    · split
      · exact (Chip.commitMbCfg_kept ..).mono (by decide)
      · exact (Chip.storeMasked_kept ..).mono (by decide)

theorem Chip.restoreComm_kept (c : Chip) : Kept 0x40000000000000000000000000000000000100002 c (Chip.restoreComm c) := by
  unfold Chip.restoreComm
  refine Kept.step (Chip.modCan_kept ..) (by decide) ?_
  exact (Kept.setFlag_name .canStatus 0 0 (Eq.refl _)).mono (by decide)

theorem Chip.dtcOn_kept (c : Chip) : Kept 0x400000000000000000000000000000000000100102 c (Chip.dtcOn c) := by
  unfold Chip.dtcOn
  refine Kept.ite ?_ ?_
  · refine Kept.step (Chip.journal_kept ..) (by decide) ?_
    refine Kept.step (Chip.modCan_kept ..) (by decide) ?_
    exact (Kept.setFlag_name .canDiagStatus 0 0 (Eq.refl _)).mono (by decide)
  · exact Kept.rfl

theorem Chip.setSession_kept (n : Nat) (c : Chip) : Kept 0x440000000000000000000000000000000000100102 c (Chip.setSession n
    c) := by
  unfold Chip.setSession
  refine Kept.ite ?_ ?_
  · exact Kept.rfl
  · extract_lets x0
    refine Kept.doIf (fun _ => ?_) ?_
    · exact (Chip.restoreComm_kept ..).mono (by decide)
    · refine Kept.doIf (fun _ => ?_) ?_
      · exact (Chip.dtcOn_kept ..).mono (by decide)
      · subst x0
        refine Kept.step (Kept.setFld_name .canDiagStatus 0 0 (Eq.refl _)) (by decide) ?_
        exact (Kept.setFld_name .canDiagStatus 0 0 (Eq.refl _)).mono (by decide)

theorem Chip.endDiag_kept (c : Chip) : Kept 0x440000000000000000000000000000000000100102 c (Chip.endDiag c) := by
  unfold Chip.endDiag
  refine Kept.step (Chip.modCan_kept ..) (by decide) ?_
  refine Kept.step (Kept.setFlag_name .canDiagStatus 0 0 (Eq.refl _)) (by decide) ?_
  exact (Chip.setSession_kept ..).mono (by decide)

end Sys2Proof.Machine
end

