-- ==== Sys2Proof/Laws/KeptTag.lean ====
section
/-!
SUPPORT. The frame laws (`Kept`) of the operations of Machine/Tag.lean.
-/

namespace Sys2Proof.Machine

theorem Chip.modTag_kept (f : Tag → Tag) (c : Chip) : Kept 0x200000 c (Chip.modTag f c) := by
  unfold Chip.modTag
  exact Kept.tag_set.mono (by decide)

theorem Chip.flushJournal_kept (fails : Nat) (c : Chip) : Kept 0x20000000000000000000000000000010001c2 c (Chip.flushJournal
    fails c) := by
  unfold Chip.flushJournal
  refine Kept.foldl (fun _ _ => ?_) ?_
  · exact (Chip.journalNext_kept ..).mono (by decide)
  · exact Kept.rfl

theorem Chip.writeNow_kept (x : JCause) (fails : Nat) (c : Chip) : Kept 0x20000000000000000000000000000010001c2 c
    (Chip.writeNow x fails c) := by
  unfold Chip.writeNow
  refine Kept.step (Chip.flushJournal_kept ..) (by decide) ?_
  exact (Chip.journal_kept ..).mono (by decide)

theorem Chip.showDue_kept (c : Chip) : Kept 0x100000000000000000000000000000000000000000002 c (Chip.showDue c) := by
  unfold Chip.showDue
  exact (Kept.setFlag_name .tagStatus 0 0 (Eq.refl _)).mono (by decide)

theorem Chip.recomputeDue_kept (c : Chip) : Kept 0x500000000000000000000000000000000000000000002 c (Chip.recomputeDue c) :=
    by
  unfold Chip.recomputeDue
  refine Kept.step (Chip.showDue_kept ..) (by decide) ?_
  exact (Kept.put_name .tagDue 0 0 (Eq.refl _)).mono (by decide)

theorem Chip.startTag_kept (reason : Nat) (clear : Bool) (c : Chip) : Kept 0x100000000000000000000000000000000000000200002 c
    (Chip.startTag reason clear c) := by
  unfold Chip.startTag
  refine Kept.step (Chip.modTag_kept ..) (by decide) ?_
  refine Kept.step (Kept.setFld_name .tagStatus 0 0 (Eq.refl _)) (by decide) ?_
  exact (Kept.setFld_name .tagStatus 0 0 (Eq.refl _)).mono (by decide)

theorem Chip.askTag_kept (reason : Nat) (clear : Bool) (c : Chip) : Kept 0x900000000000000000000000000000000000000200002 c
    (Chip.askTag reason clear c).2 := by
  unfold Chip.askTag
  split
  · dsimp only
    exact (Chip.startTag_kept ..).mono (by decide)
  · dsimp only
    exact (Kept.incFld_name .tagCounts 0 0 (Eq.refl _)).mono (by decide)

theorem Chip.tagPoll_kept (c : Chip) : Kept 0x100000000000000000000000000000000000000200002 c (Chip.tagPoll c) := by
  unfold Chip.tagPoll
  refine Kept.ite ?_ ?_
  · exact (Chip.startTag_kept ..).mono (by decide)
  · exact Kept.rfl

theorem Chip.failTag_kept (c : Chip) : Kept 0x9000000020000000000000000000000000000012001c2 c (Chip.failTag c) := by
  unfold Chip.failTag
  extract_lets x0
  refine Kept.step (Chip.fault_kept ..) (by decide) ?_
  refine Kept.step (Chip.showDue_kept ..) (by decide) ?_
  refine Kept.step (Kept.incFld_name .tagCounts 0 0 (Eq.refl _)) (by decide) ?_
  refine Kept.step (Chip.modTag_kept ..) (by decide) ?_
  subst x0
  refine Kept.step (Kept.setFlag_name .tagStatus 0 0 (Eq.refl _)) (by decide) ?_
  refine Kept.step (Kept.setFld_name .tagStatus 0 0 (Eq.refl _)) (by decide) ?_
  exact (Kept.setFld_name .tagStatus 0 0 (Eq.refl _)).mono (by decide)

theorem Chip.finishTag_kept (c : Chip) : Kept 0xb00000000000000000000000000000000000000000002 c (Chip.finishTag c) := by
  unfold Chip.finishTag
  extract_lets x0 x1
  refine Kept.step (Chip.showDue_kept ..) (by decide) ?_
  refine Kept.doIf (fun _ => ?_) ?_
  · refine Kept.step (Kept.incFld_name .tagCounts 0 0 (Eq.refl _)) (by decide) ?_
    exact (Kept.setFlag_name .tagStatus 0 0 (Eq.refl _)).mono (by decide)
  · subst x1
    refine Kept.step (Kept.incFld_name .tagCounts 0 0 (Eq.refl _)) (by decide) ?_
    refine Kept.step (Kept.setFld_name .tagStatus 0 0 (Eq.refl _)) (by decide) ?_
    subst x0
    refine Kept.step (Kept.setFld_name .tagStatus 0 0 (Eq.refl _)) (by decide) ?_
    exact (Kept.put_name .tagImage 0 0 (Eq.refl _)).mono (by decide)

theorem Chip.tagWritten_kept (ok : Bool) (eraseOk : Bool) (fails : Nat) (c : Chip) : Kept
    0xb000000020000000000000000000000000000012001c2 c (Chip.tagWritten ok eraseOk fails c) := by
  unfold Chip.tagWritten
  extract_lets x0 x1 x2 x3
  refine Kept.ite ?_ ?_
  · refine Kept.ite ?_ ?_
    · refine Kept.step (Kept.setFld_name .tagStatus 0 0 (Eq.refl _)) (by decide) ?_
      subst x2
      exact (Chip.writeNow_kept ..).mono (by decide)
    · refine Kept.step (Chip.failTag_kept ..) (by decide) ?_
      subst x2
      exact (Chip.writeNow_kept ..).mono (by decide)
  · refine Kept.ite ?_ ?_
    · refine Kept.ite ?_ ?_
      · refine Kept.step (Chip.finishTag_kept ..) (by decide) ?_
        subst x3
        exact (Chip.writeNow_kept ..).mono (by decide)
      · refine Kept.step (Chip.failTag_kept ..) (by decide) ?_
        subst x3
        exact (Chip.writeNow_kept ..).mono (by decide)
    · exact Kept.rfl

theorem Chip.bootTag_kept (c : Chip) : Kept 0x3000000020000000000000000000000000000010001c2 c (Chip.bootTag c) := by
  unfold Chip.bootTag
  extract_lets x0 x1 x2
  split
  · refine Kept.ite ?_ ?_
    · refine Kept.step (Chip.fault_kept ..) (by decide) ?_
      refine Kept.step (Kept.setFlag_name .tagStatus 0 0 (Eq.refl _)) (by decide) ?_
      subst x1
      split
      · refine Kept.step (Kept.setFld_name .tagStatus 0 0 (Eq.refl _)) (by decide) ?_
        exact (Kept.setFld_name .tagStatus 0 0 (Eq.refl _)).mono (by decide)
      · exact Kept.rfl
    · refine Kept.step (Kept.put_name .tagImage 0 0 (Eq.refl _)) (by decide) ?_
      subst x1
      split
      · refine Kept.step (Kept.setFld_name .tagStatus 0 0 (Eq.refl _)) (by decide) ?_
        exact (Kept.setFld_name .tagStatus 0 0 (Eq.refl _)).mono (by decide)
      · exact Kept.rfl
  · refine Kept.step (Chip.fault_kept ..) (by decide) ?_
    refine Kept.step (Kept.setFlag_name .tagStatus 0 0 (Eq.refl _)) (by decide) ?_
    subst x1
    split
    · refine Kept.step (Kept.setFld_name .tagStatus 0 0 (Eq.refl _)) (by decide) ?_
      exact (Kept.setFld_name .tagStatus 0 0 (Eq.refl _)).mono (by decide)
    · exact Kept.rfl

theorem Chip.tagUpdate_kept (c : Chip) : Kept 0x900000000000000000000000000000000000000200012 c (Chip.tagUpdate c) := by
  unfold Chip.tagUpdate
  extract_lets x0
  refine Kept.step (Chip.setReply_kept ..) (by decide) ?_
  subst x0
  exact (Chip.askTag_kept ..).mono (by decide)

theorem Chip.nextTagStep_kept (c : Chip) : Kept 0x300000000000000000000000000000000000000000002 c (Chip.nextTagStep c) := by
  unfold Chip.nextTagStep
  split
  · refine Kept.step (Chip.showDue_kept ..) (by decide) ?_
    refine Kept.step (Kept.put_name .tagImage 0 0 (Eq.refl _)) (by decide) ?_
    exact (Kept.setFld_name .tagStatus 0 0 (Eq.refl _)).mono (by decide)
  · exact (Kept.setFld_name .tagStatus 0 0 (Eq.refl _)).mono (by decide)
  · exact (Kept.setFld_name .tagStatus 0 0 (Eq.refl _)).mono (by decide)
  · exact (Kept.setFld_name .tagStatus 0 0 (Eq.refl _)).mono (by decide)
  · exact Kept.rfl

theorem Chip.endTagStep_kept (c : Chip) : Kept 0x300000000000000000000000000000000000000200002 c (Chip.endTagStep c) := by
  unfold Chip.endTagStep
  refine Kept.ite ?_ ?_
  · exact (Chip.nextTagStep_kept ..).mono (by decide)
  · exact (Chip.modTag_kept ..).mono (by decide)

theorem Chip.resumeTag_kept (c : Chip) : Kept 0x300000000000000000000000000000000000000200002 c (Chip.resumeTag c) := by
  unfold Chip.resumeTag
  refine Kept.ite ?_ ?_
  · refine Kept.step (Chip.nextTagStep_kept ..) (by decide) ?_
    exact (Chip.modTag_kept ..).mono (by decide)
  · exact Kept.rfl

end Sys2Proof.Machine
end

