-- ==== Sys2Proof/Laws/KeptPower.lean ====
section
/-!
SUPPORT. The frame laws (`Kept`) of the operations of Machine/Power.lean.
-/

namespace Sys2Proof.Machine

theorem Chip.setPower_kept (n : Nat) (c : Chip) : Kept 0x80000000000000000000000000000000000010000000042 c (Chip.setPower n
    c) := by
  unfold Chip.setPower
  refine Kept.ite ?_ ?_
  · exact Kept.rfl
  · refine Kept.step (Chip.showBoost_kept ..) (by decide) ?_
    refine Kept.step (Chip.raise_kept ..) (by decide) ?_
    exact (Kept.setFld_name .pwrState 0 0 (Eq.refl _)).mono (by decide)

theorem Chip.twinDown_kept (c : Chip) : Kept 0xa000000000000000000000000000000000000000080000000000092046 c (Chip.twinDown
    c) := by
  unfold Chip.twinDown
  refine Kept.step (Chip.modTwin_kept ..) (by decide) ?_
  refine Kept.step (Kept.setFlag_name .twinStatus 0 0 (Eq.refl _)) (by decide) ?_
  exact (Chip.isolate_kept ..).mono (by decide)

theorem Chip.quiet_kept (c : Chip) : Kept 0xa2000940000000004400020000005003208000002900000004011db1ce c (Chip.quiet c) := by
  unfold Chip.quiet
  extract_lets x0 x1
  refine Kept.step (Chip.endDiag_kept ..) (by decide) ?_
  refine Kept.step (Chip.canStop_kept ..) (by decide) ?_
  refine Kept.step (Chip.modPower_kept ..) (by decide) ?_
  refine Kept.step Kept.tb_set (by decide) ?_
  subst x0
  refine Kept.step (Chip.twinDown_kept ..) (by decide) ?_
  refine Kept.ringEvent (by decide) (fun _ => ?_) ?_
  · exact (Chip.dropLink_kept ..).mono (by decide)
  · refine Kept.step (Chip.stopConv_kept ..) (by decide) ?_
    exact (Chip.disarm_kept ..).mono (by decide)

/-- What waits for a tick goes on waiting, for fewer of them. -/
theorem Chip.settleWaits_kept (c : Chip) : Kept 0x800010 c (Chip.settleWaits c) := by
  unfold Chip.settleWaits
  extract_lets c1
  refine Kept.step Kept.bus_set (by decide) (Kept.mono (m := 0x800000) ?_ (by decide))
  refine Kept.own_of (fun h => ⟨h.1, h.2.1, ?_, ?_⟩) (Eq.refl _) (Eq.refl _) (Eq.refl _) (Eq.refl _)
  · intro r hr
    obtain ⟨q, hq, rfl⟩ := List.mem_map.mp hr
    exact h.2.2.1 q hq
  · intro r hr
    obtain ⟨q, hq, rfl⟩ := List.mem_map.mp hr
    exact h.2.2.2 q hq

theorem Chip.sleep_kept (n : Nat) (c : Chip) : Kept 0xa2000940000800004440020000005003209000002900000104019fb1de c
    (Chip.sleep n c) := by
  unfold Chip.sleep
  extract_lets x0
  refine Kept.ite ?_ ?_
  · refine Kept.step (Kept.setFlag_name .devStatus 0 0 (Eq.refl _)) (by decide) ?_
    refine Kept.step (Chip.emptyAll_kept ..) (by decide) ?_
    subst x0
    refine Kept.step (Chip.showConv_kept ..) (by decide) ?_
    refine Kept.step (Chip.setPower_kept ..) (by decide) ?_
    refine Kept.ite ?_ ?_
    · refine Kept.step (Chip.settleWaits_kept ..) (by decide) ?_
      exact (Chip.quiet_kept ..).mono (by decide)
    · exact Kept.rfl
  · subst x0
    refine Kept.step (Chip.showConv_kept ..) (by decide) ?_
    refine Kept.step (Chip.setPower_kept ..) (by decide) ?_
    refine Kept.ite ?_ ?_
    · refine Kept.step (Chip.settleWaits_kept ..) (by decide) ?_
      exact (Chip.quiet_kept ..).mono (by decide)
    · exact Kept.rfl

theorem Chip.railsOff_kept (c : Chip) : Kept 0x400000000000000000000000000000040003000a c (Chip.railsOff c) := by
  unfold Chip.railsOff
  extract_lets x0 x1
  refine Kept.step Kept.tb_set (by decide) ?_
  subst x0
  refine Kept.step (Chip.modPower_kept ..) (by decide) ?_
  refine Kept.step (Kept.setFlag_name .devStatus 0 0 (Eq.refl _)) (by decide) ?_
  refine Kept.step (Kept.setFlag_name .devStatus 0 0 (Eq.refl _)) (by decide) ?_
  exact (Chip.emptyAll_kept ..).mono (by decide)

theorem Chip.offStep_kept (c : Chip) : Kept 0xa2000940000000004440020000005003208000002900000004011fb1ce c (Chip.offStep c)
    := by
  unfold Chip.offStep
  refine Kept.ite ?_ ?_
  · refine Kept.step (Chip.railsOff_kept ..) (by decide) ?_
    exact (Chip.quiet_kept ..).mono (by decide)
  · exact Kept.rfl

theorem Chip.leaveRing_kept (c : Chip) : Kept 0x20008000000000000000000000000000000000020000000040004004a c (Chip.leaveRing
    c) := by
  unfold Chip.leaveRing
  refine Kept.ite ?_ ?_
  · refine Kept.ringEvent (by decide) (fun _ => ?_) ?_
    · exact (Chip.leave_kept ..).mono (by decide)
    · exact Kept.rfl
  · exact Kept.rfl

theorem Chip.beginOff_kept (forced : Bool) (c : Chip) : Kept 0x20009400000010000000000000050020000000021000000040025314e c
    (Chip.beginOff forced c) := by
  unfold Chip.beginOff
  extract_lets x0 x1 x2
  refine Kept.ite ?_ ?_
  · exact (Chip.modPower_kept ..).mono (by decide)
  · refine Kept.ite ?_ ?_
    · refine Kept.step (Chip.tagPoll_kept ..) (by decide) ?_
      refine Kept.step (Kept.setFld_name .tagStatus 0 0 (Eq.refl _)) (by decide) ?_
      subst x2
      refine Kept.step (Chip.modJnl_kept ..) (by decide) ?_
      refine Kept.step (Chip.journal_kept ..) (by decide) ?_
      subst x1
      refine Kept.step (Chip.leaveRing_kept ..) (by decide) ?_
      refine Kept.step (Chip.modPower_kept ..) (by decide) ?_
      exact (Chip.disarm_kept ..).mono (by decide)
    · subst x2
      refine Kept.step (Chip.modJnl_kept ..) (by decide) ?_
      refine Kept.step (Chip.journal_kept ..) (by decide) ?_
      subst x1
      refine Kept.step (Chip.leaveRing_kept ..) (by decide) ?_
      refine Kept.step (Chip.modPower_kept ..) (by decide) ?_
      exact (Chip.disarm_kept ..).mono (by decide)

theorem Chip.abandonOff_kept (c : Chip) : Kept 0x100000000000000000000000000000000000000010002 c (Chip.abandonOff c) := by
  unfold Chip.abandonOff
  refine Kept.ite ?_ ?_
  · refine Kept.doIf (fun _ => ?_) ?_
    · exact (Kept.setFld_name .tagStatus 0 0 (Eq.refl _)).mono (by decide)
    · exact (Chip.modPower_kept ..).mono (by decide)
  · exact Kept.rfl

theorem Chip.leaveWatch_kept (code : Nat) (c : Chip) : Kept 0x2000800002820000400020000000000001000002000000104011541ca c
    (Chip.leaveWatch code c) := by
  unfold Chip.leaveWatch
  extract_lets x0 x1 x2 x3 x4
  refine Kept.step (Chip.samplePins_kept ..) (by decide) ?_
  refine Kept.step (Chip.showConv_kept ..) (by decide) ?_
  refine Kept.step (Chip.modPower_kept ..) (by decide) ?_
  subst x4
  refine Kept.step (Chip.modTimers_kept ..) (by decide) ?_
  refine Kept.step Kept.irq_set (by decide) ?_
  subst x2
  refine Kept.ringEvent (by decide) (fun _ => ?_) ?_
  · exact (Chip.listen_kept ..).mono (by decide)
  · refine Kept.step (Chip.canStart_kept ..) (by decide) ?_
    refine Kept.step (Chip.setPower_kept ..) (by decide) ?_
    subst x1
    refine Kept.step (Kept.setFlag_name .pwrStatus 0 0 (Eq.refl _)) (by decide) ?_
    refine Kept.step (Kept.incFld_name .pwrCounts 0 0 (Eq.refl _)) (by decide) ?_
    exact (Kept.setFld_name .pwrState 0 0 (Eq.refl _)).mono (by decide)

theorem Chip.noteChoice_kept (c : Chip) : Kept 0x10000 c (Chip.noteChoice c) := by
  unfold Chip.noteChoice
  refine Kept.ite ?_ ?_
  · exact (Chip.modPower_kept ..).mono (by decide)
  · exact Kept.rfl

theorem Chip.evalPower_kept (c0 : Chip) : Kept 0xa200094000282100444002000000500320900000290000010401bff1de c0
    (Chip.evalPower c0) := by
  unfold Chip.evalPower
  extract_lets x0 x1 x2
  refine Kept.ite ?_ ?_
  · subst x0
    refine Kept.step (Chip.noteChoice_kept ..) (by decide) ?_
    exact (Chip.abandonOff_kept ..).mono (by decide)
  · refine Kept.ite ?_ ?_
    · refine Kept.step (Chip.offStep_kept ..) (by decide) ?_
      refine Kept.step (Chip.tagPoll_kept ..) (by decide) ?_
      subst x0
      refine Kept.step (Chip.noteChoice_kept ..) (by decide) ?_
      exact (Chip.abandonOff_kept ..).mono (by decide)
    · refine Kept.ite ?_ ?_
      · refine Kept.step (Chip.showConv_kept ..) (by decide) ?_
        refine Kept.step (Chip.setPower_kept ..) (by decide) ?_
        subst x0
        refine Kept.step (Chip.noteChoice_kept ..) (by decide) ?_
        exact (Chip.abandonOff_kept ..).mono (by decide)
      · refine Kept.ite ?_ ?_
        · refine Kept.ite ?_ ?_
          · refine Kept.step (Chip.leaveWatch_kept ..) (by decide) ?_
            subst x0
            refine Kept.step (Chip.noteChoice_kept ..) (by decide) ?_
            exact (Chip.abandonOff_kept ..).mono (by decide)
          · subst x0
            refine Kept.step (Chip.noteChoice_kept ..) (by decide) ?_
            exact (Chip.abandonOff_kept ..).mono (by decide)
        · refine Kept.ite ?_ ?_
          · subst x0
            refine Kept.step (Chip.noteChoice_kept ..) (by decide) ?_
            exact (Chip.abandonOff_kept ..).mono (by decide)
          · refine Kept.ite ?_ ?_
            · refine Kept.step (Chip.offStep_kept ..) (by decide) ?_
              refine Kept.step (Chip.beginOff_kept ..) (by decide) ?_
              subst x0
              refine Kept.step (Chip.noteChoice_kept ..) (by decide) ?_
              exact (Chip.abandonOff_kept ..).mono (by decide)
            · refine Kept.ite ?_ ?_
              · refine Kept.step (Chip.leaveRing_kept ..) (by decide) ?_
                subst x0
                refine Kept.step (Chip.noteChoice_kept ..) (by decide) ?_
                exact (Chip.abandonOff_kept ..).mono (by decide)
              · refine Kept.step (Chip.sleep_kept ..) (by decide) ?_
                subst x0
                refine Kept.step (Chip.noteChoice_kept ..) (by decide) ?_
                exact (Chip.abandonOff_kept ..).mono (by decide)

theorem Chip.wakeBy_kept (code : Nat) (c : Chip) : Kept 0x2000800002820000400020000000000001000002000000104011541ca c
    (Chip.wakeBy code c) := by
  unfold Chip.wakeBy
  refine Kept.ite ?_ ?_
  · refine Kept.ite ?_ ?_
    · exact (Chip.modPower_kept ..).mono (by decide)
    · exact Kept.rfl
  · refine Kept.ite ?_ ?_
    · exact Kept.rfl
    · split
      · exact (Chip.leaveWatch_kept ..).mono (by decide)
      · split
        · refine Kept.step (Chip.modPower_kept ..) (by decide) ?_
          exact (Kept.setFld_name .pwrState 0 0 (Eq.refl _)).mono (by decide)
        · refine Kept.step (Chip.modPower_kept ..) (by decide) ?_
          refine Kept.step (Kept.incFld_name .pwrCounts 0 0 (Eq.refl _)) (by decide) ?_
          exact (Kept.setFld_name .pwrState 0 0 (Eq.refl _)).mono (by decide)
      · refine Kept.ite ?_ ?_
        · exact (Kept.setFld_name .pwrState 0 0 (Eq.refl _)).mono (by decide)
        · exact Kept.rfl

theorem Chip.writeLtr_kept (v : Word) (c : Chip) : Kept 0x2000800002821000400020000000000001000002000000184011541ca c
    (Chip.writeLtr v c) := by
  unfold Chip.writeLtr
  extract_lets x0 x1
  refine Kept.ite ?_ ?_
  · exact Kept.rfl
  · refine Kept.ite ?_ ?_
    · refine Kept.step (Chip.wakeBy_kept ..) (by decide) ?_
      subst x1
      refine Kept.step (Chip.abandonOff_kept ..) (by decide) ?_
      refine Kept.step (Kept.put_name .ltr 0 0 (Eq.refl _)) (by decide) ?_
      exact (Chip.noteChoice_kept ..).mono (by decide)
    · subst x1
      refine Kept.step (Chip.abandonOff_kept ..) (by decide) ?_
      refine Kept.step (Kept.put_name .ltr 0 0 (Eq.refl _)) (by decide) ?_
      exact (Chip.noteChoice_kept ..).mono (by decide)

theorem Chip.keyIs_kept (high : Bool) (c : Chip) : Kept 0x2000800002821000400020000000000001000002000000104011541ca c
    (Chip.keyIs high c) := by
  unfold Chip.keyIs
  extract_lets x0
  refine Kept.ite ?_ ?_
  · refine Kept.step (Chip.wakeBy_kept ..) (by decide) ?_
    refine Kept.step (Chip.abandonOff_kept ..) (by decide) ?_
    subst x0
    refine Kept.step (Chip.modPower_kept ..) (by decide) ?_
    refine Kept.step (Kept.setFlag_name .pwrStatus 0 0 (Eq.refl _)) (by decide) ?_
    exact (Chip.noteChoice_kept ..).mono (by decide)
  · refine Kept.step (Chip.abandonOff_kept ..) (by decide) ?_
    subst x0
    refine Kept.step (Chip.modPower_kept ..) (by decide) ?_
    refine Kept.step (Kept.setFlag_name .pwrStatus 0 0 (Eq.refl _)) (by decide) ?_
    exact (Chip.noteChoice_kept ..).mono (by decide)

theorem resetRegs_ok (cause : Nat) (l : List (Nat × DWord)) : RegsOk (Chip.resetRegs cause l) := by
  unfold Chip.resetRegs
  have : ∀ (l m : List (Nat × DWord)), RegsOk m → RegsOk (l.foldl (fun m x =>
      Sparse.set regReset m x.1 (if cause = 6 then Chip.retained x.1 x.2 else Chip.cleared (cause == 0) x.1 x.2)) m) := by
    intro l
    induction l with
    | nil => exact fun m h => h
    | cons x l ih => exact fun m h => ih _ (Sparse.wf_set _ _ h)
  exact this l [] rfl

theorem Sparse.wf_filter {V : Type} [DecidableEq V] {d : Nat → V} (p : Nat × V → Bool) :
    ∀ {l : List (Nat × V)}, Sparse.wf d l = true → Sparse.wf d (l.filter p) = true
  | [], _ => rfl
  | (a, v) :: l, h => by
    have ha : ∀ {l : List (Nat × V)} {b : Nat}, Sparse.wf d l = true → Sparse.above b l = true →
        Sparse.above b (l.filter p) = true := by
      intro l
      induction l with
      | nil => intros; rfl
      | cons x l ih =>
        intro b hw hb
        obtain ⟨e, w⟩ := x
        simp only [Sparse.wf, Bool.and_eq_true] at hw
        simp only [Sparse.above, decide_eq_true_eq] at hb
        rw [List.filter_cons]; split
        · simpa [Sparse.above] using hb
        · exact ih hw.2 (Sparse.above_trans hb hw.1.1)
    simp only [Sparse.wf, Bool.and_eq_true] at h
    rw [List.filter_cons]; split
    · simp only [Sparse.wf, Bool.and_eq_true]
      exact ⟨⟨ha h.2 h.1.1, h.1.2⟩, Sparse.wf_filter p h.2⟩
    · exact Sparse.wf_filter p h.2

theorem resetWindow_ok (cause : Nat) {w : Window} (h : WinOk w) : WinOk (Chip.resetWindow cause w) := by
  unfold Chip.resetWindow
  split
  · exact h
  split
  · exact ⟨rfl, by simp [OwnOk]⟩
  · exact ⟨Sparse.wf_filter _ h.1, by simp [OwnOk]⟩

theorem Chip.resetWith_kept (cause : Nat) (c : Chip) : Kept 0x800000040000000010083fff7fe c (Chip.resetWith cause c) := by
  unfold Chip.resetWith
  extract_lets keep s1 s2 s3 s4 fresh s5 c0 c1 c2
  have h0 : Kept 0x800000040000000010083fff7fe c c0 := by
    refine ⟨fun h => ⟨resetRegs_ok cause _, resetWindow_ok cause h.2⟩, fun k hk => ?_, fun _ h => absurd h (by decide)⟩
    cases k <;> first | rfl | exact absurd hk (by decide)
  have h1 : Kept 0x800000040000000010083fff7fe c c1 := Kept.step (Chip.setBit_kept ..) (by decide) h0
  have h2 : Kept 0x800000040000000010083fff7fe c c2 := Kept.ite (Kept.step (Chip.setFld_kept ..) (by decide) h1) h1
  exact Kept.doIf (fun d => (Chip.journal_kept ..).mono (by decide)) h2

theorem Chip.hardReset_kept (cause : Nat) (c : Chip) : Kept 0x800000040000000010083fff7fe c (Chip.hardReset cause c) := by
  unfold Chip.hardReset
  refine Kept.ite ?_ ?_
  · exact Kept.rfl
  · exact (Chip.resetWith_kept ..).mono (by decide)

theorem Chip.resumeOpTime_kept (c : Chip) : Kept 0x20000000000000000000000000000010001c2 c (Chip.resumeOpTime c) := by
  unfold Chip.resumeOpTime
  extract_lets x0 x1
  split
  · refine Kept.step (Chip.modJnl_kept ..) (by decide) ?_
    subst x1
    refine Kept.foldl (fun _ _ => ?_) ?_
    · exact (Chip.fault_kept ..).mono (by decide)
    · exact Kept.rfl
  · subst x1
    refine Kept.foldl (fun _ _ => ?_) ?_
    · exact (Chip.fault_kept ..).mono (by decide)
    · exact Kept.rfl

theorem Chip.bootDone_kept (patch : Bool) (c : Chip) : Kept 0x2000800002807000440020000000000000000002000000204011701ca c
    (Chip.bootDone patch c) := by
  unfold Chip.bootDone
  refine Kept.ite ?_ ?_
  · exact Kept.rfl
  · extract_lets x0 x1 x2 x3
    refine Kept.ringEvent (by decide) (fun _ => ?_) ?_
    · exact (Chip.listen_kept ..).mono (by decide)
    · refine Kept.step (Chip.recomputeDue_kept ..) (by decide) ?_
      refine Kept.step (Chip.refreshSupply_kept ..) (by decide) ?_
      refine Kept.step (Chip.updateBands_kept ..) (by decide) ?_
      refine Kept.step (Chip.canStart_kept ..) (by decide) ?_
      subst x3
      refine Kept.step (Chip.journal_kept ..) (by decide) ?_
      refine Kept.step (Chip.bootTag_kept ..) (by decide) ?_
      subst x2
      refine Kept.step (Chip.deriveKekProv_kept ..) (by decide) ?_
      refine Kept.step (Chip.resumeOpTime_kept ..) (by decide) ?_
      refine Kept.step (Kept.setFlag_name .devStatus 0 0 (Eq.refl _)) (by decide) ?_
      subst x1
      refine Kept.step (Chip.modPower_kept ..) (by decide) ?_
      exact (Kept.setFlag_name .devStatus 0 0 (Eq.refl _)).mono (by decide)

theorem Chip.powerOff_kept (c : Chip) : Kept 0x20009400000010000000000000050020000000021000000040025315e c (Chip.powerOff c)
    := by
  unfold Chip.powerOff
  refine Kept.ite ?_ ?_
  · exact (Chip.setReply_kept ..).mono (by decide)
  · refine Kept.step (Chip.beginOff_kept ..) (by decide) ?_
    exact (Chip.setReply_kept ..).mono (by decide)

theorem Chip.resetWhenSent_kept (c : Chip) : Kept 0x800000040000000010083fff7fe c (Chip.resetWhenSent c) := by
  unfold Chip.resetWhenSent
  refine Kept.ite ?_ ?_
  · exact (Chip.resetWith_kept ..).mono (by decide)
  · exact Kept.rfl

end Sys2Proof.Machine
end

