-- ==== Sys2Proof/Laws/KeptDiag.lean ====
section
/-!
SUPPORT. The frame laws (`Kept`) of the operations of Machine/Diag.lean.
-/

namespace Sys2Proof.Machine

theorem Chip.queueFrame_kept (fdf : Bool) (brs : Bool) (l : List Byte) (c : Chip) : Kept 0x100000 c (Chip.queueFrame fdf brs
    l c) := by
  unfold Chip.queueFrame
  exact (Chip.modCan_kept ..).mono (by decide)

theorem Chip.sendDiag_kept (fdf : Bool) (brs : Bool) (l : List Byte) (c : Chip) : Kept 0x100000 c (Chip.sendDiag fdf brs l
    c) := by
  unfold Chip.sendDiag
  extract_lets x0 x1
  refine Kept.ite ?_ ?_
  · exact (Chip.queueFrame_kept ..).mono (by decide)
  · refine Kept.ite ?_ ?_
    · exact (Chip.queueFrame_kept ..).mono (by decide)
    · refine Kept.step (Chip.modCan_kept ..) (by decide) ?_
      exact (Chip.queueFrame_kept ..).mono (by decide)

theorem Chip.sendConsecutive_kept (c : Chip) : Kept 0x100000 c (Chip.sendConsecutive c) := by
  unfold Chip.sendConsecutive
  split
  · exact Kept.rfl
  · extract_lets x0 x1 x2
    refine Kept.step (Chip.modCan_kept ..) (by decide) ?_
    subst x1
    exact (Chip.queueFrame_kept ..).mono (by decide)

theorem Chip.sendBlock_kept (n : Nat) (c : Chip) : Kept 0x100000 c (Chip.sendBlock n c) := by
  induction n generalizing c with
  | zero => exact Kept.rfl
  | succ n ih =>
    unfold Chip.sendBlock; split
    · exact Kept.ite ((Chip.sendConsecutive_kept ..).trans (ih _)) Kept.rfl
    · exact Kept.rfl

theorem Chip.flowControl_kept (f : CanFrame) (fs : Nat) (c : Chip) : Kept 0x100000 c (Chip.flowControl f fs c) := by
  unfold Chip.flowControl
  exact (Chip.queueFrame_kept ..).mono (by decide)

theorem Chip.dropReq_kept (c : Chip) : Kept 0x100000 c (Chip.dropReq c) := by
  unfold Chip.dropReq
  exact (Chip.modCan_kept ..).mono (by decide)

theorem Chip.positive_kept (r : DiagReq) (hasSub : Bool) (l : List Byte) (c : Chip) : Kept 0x100000 c (Chip.positive r
    hasSub l c) := by
  unfold Chip.positive
  refine Kept.step (Chip.dropReq_kept ..) (by decide) ?_
  refine Kept.ite ?_ ?_
  · exact Kept.rfl
  · exact (Chip.sendDiag_kept ..).mono (by decide)

theorem Chip.sendNegative_kept (r : DiagReq) (nrc : Nat) (c : Chip) : Kept 0x80000000000000000000000000000000000100002 c
    (Chip.sendNegative r nrc c) := by
  unfold Chip.sendNegative
  refine Kept.ite ?_ ?_
  · exact Kept.rfl
  · refine Kept.doIf (fun _ => ?_) ?_
    · exact (Kept.incFld_name .canCounts 0 0 (Eq.refl _)).mono (by decide)
    · exact (Chip.sendDiag_kept ..).mono (by decide)

theorem Chip.negative_kept (r : DiagReq) (nrc : Nat) (c : Chip) : Kept 0x80000000000000000000000000000000000100002 c
    (Chip.negative r nrc c) := by
  unfold Chip.negative
  refine Kept.step (Chip.dropReq_kept ..) (by decide) ?_
  exact (Chip.sendNegative_kept ..).mono (by decide)

theorem Chip.takeRequest_kept (r : DiagReq) (c : Chip) : Kept 0x2000080000000000000000000000000000000000100002 c
    (Chip.takeRequest r c) := by
  unfold Chip.takeRequest
  extract_lets x0
  refine Kept.ite ?_ ?_
  · refine Kept.step (Chip.modCan_kept ..) (by decide) ?_
    subst x0
    refine Kept.step (Kept.setFlag_name .pwrStatus 0 0 (Eq.refl _)) (by decide) ?_
    exact (Kept.incFld_name .canCounts 0 0 (Eq.refl _)).mono (by decide)
  · refine Kept.ite ?_ ?_
    · subst x0
      refine Kept.step (Kept.setFlag_name .pwrStatus 0 0 (Eq.refl _)) (by decide) ?_
      exact (Kept.incFld_name .canCounts 0 0 (Eq.refl _)).mono (by decide)
    · refine Kept.step (Chip.sendNegative_kept ..) (by decide) ?_
      subst x0
      refine Kept.step (Kept.setFlag_name .pwrStatus 0 0 (Eq.refl _)) (by decide) ?_
      exact (Kept.incFld_name .canCounts 0 0 (Eq.refl _)).mono (by decide)

theorem Chip.nextFrame_kept {c d : Chip} {x : Bool × CanFrame} (h : Chip.nextFrame c = some (x, d)) : Kept 1048576 c d := by
  unfold Chip.nextFrame at h
  split at h
  · cases h
  · cases h; exact Chip.modCan_kept ..

theorem Kept.withFrame {m kind : Nat} {b c : Chip} {f : Bool → CanFrame → Chip → Chip} (hm : 1048576 &&& m = 1048576)
    (hf : ∀ u x d, Kept m d (f u x d)) (h : Kept m b c) : Kept m b (Chip.withFrame kind f c) := by
  unfold Chip.withFrame; split
  · exact h
  · split
    · exact h
    · rename_i x d hx
      split
      · exact (Kept.step (Chip.nextFrame_kept hx) hm h).trans (hf _ _ _)
      · exact h

theorem Chip.takeSingle_kept (functional : Bool) (f : CanFrame) (c : Chip) : Kept
    0x2000080000000000000000000000000000000000100002 c (Chip.takeSingle functional f c) := by
  unfold Chip.takeSingle
  split
  · refine Kept.step (Chip.takeRequest_kept ..) (by decide) ?_
    refine Kept.ite ?_ ?_
    · exact Kept.rfl
    · exact (Chip.modCan_kept ..).mono (by decide)
  · exact Kept.rfl

theorem Chip.takeFirst_kept (f : CanFrame) (c : Chip) : Kept 0x100000 c (Chip.takeFirst f c) := by
  unfold Chip.takeFirst
  split
  · refine Kept.ite ?_ ?_
    · exact (Chip.flowControl_kept ..).mono (by decide)
    · refine Kept.step (Chip.modCan_kept ..) (by decide) ?_
      exact (Chip.flowControl_kept ..).mono (by decide)
  · exact Kept.rfl

theorem Chip.takeConsecutive_kept (f : CanFrame) (c : Chip) : Kept 0x2000080000000000000000000000000000000000100002 c
    (Chip.takeConsecutive f c) := by
  unfold Chip.takeConsecutive
  split
  · exact Kept.rfl
  · refine Kept.ite ?_ ?_
    · exact (Chip.modCan_kept ..).mono (by decide)
    · extract_lets x0
      refine Kept.ite ?_ ?_
      · exact (Chip.modCan_kept ..).mono (by decide)
      · refine Kept.step (Chip.takeRequest_kept ..) (by decide) ?_
        exact (Chip.modCan_kept ..).mono (by decide)

theorem Chip.takeFlow_kept (f : CanFrame) (c : Chip) : Kept 0x100800 c (Chip.takeFlow f c) := by
  unfold Chip.takeFlow
  split
  · exact Kept.rfl
  · refine Kept.ite ?_ ?_
    · exact Kept.rfl
    · extract_lets x0
      split
      · refine Kept.step (Chip.sendBlock_kept ..) (by decide) ?_
        refine Kept.step (Chip.useFree_kept ..) (by decide) ?_
        exact (Chip.modCan_kept ..).mono (by decide)
      · exact (Chip.modCan_kept ..).mono (by decide)
      · exact (Chip.modCan_kept ..).mono (by decide)

theorem Kept.serve {m : Nat} {b c : Chip} {p : DiagReq → Bool} {f : DiagReq → Chip → Chip} (hf : ∀ r d, Kept m d (f r d))
    (h : Kept m b c) : Kept m b (Chip.serve p f c) := by
  unfold Chip.serve; split
  · split
    · exact h.trans (hf _ _)
    · exact h
  · exact h

theorem Kept.answerWith {m : Nat} {chk : Option Nat} {r : DiagReq} {b c : Chip} {f : Chip → Chip}
    (hm : 0x80000000000000000000000000000000000100002 &&& m = 0x80000000000000000000000000000000000100002) (hf : ∀ d, Kept m d (f d)) (h : Kept m b c) : Kept m b (Chip.answerWith chk r f c) := by
  unfold Chip.answerWith; split
  · exact Kept.step (Chip.negative_kept ..) (mask_trans (by decide) hm) h
  · exact h.trans (hf _)

theorem Chip.sessionControl_kept (r : DiagReq) (c : Chip) : Kept 0x4c0000000000000000000000000000000000100102 c
    (Chip.sessionControl r c) := by
  unfold Chip.sessionControl
  refine Kept.answerWith (by decide) (fun _ => ?_) ?_
  · refine Kept.step (Chip.setSession_kept ..) (by decide) ?_
    exact (Chip.positive_kept ..).mono (by decide)
  · exact Kept.rfl

theorem Chip.ecuReset_kept (r : DiagReq) (c : Chip) : Kept 0x80000000000000800000040000000010083fff7fe c (Chip.ecuReset r c)
    := by
  unfold Chip.ecuReset
  refine Kept.answerWith (by decide) (fun _ => ?_) ?_
  · refine Kept.ite ?_ ?_
    · exact (Chip.negative_kept ..).mono (by decide)
    · refine Kept.step (Chip.resetWhenSent_kept ..) (by decide) ?_
      refine Kept.step (Chip.modCan_kept ..) (by decide) ?_
      exact (Chip.positive_kept ..).mono (by decide)
  · exact Kept.rfl

theorem Chip.clearCodes_kept (fails : Nat) (r : DiagReq) (c : Chip) : Kept 0x800020000000000000000000000000000011001c2 c
    (Chip.clearCodes fails r c) := by
  unfold Chip.clearCodes
  refine Kept.answerWith (by decide) (fun _ => ?_) ?_
  · refine Kept.ite ?_ ?_
    · exact (Chip.negative_kept ..).mono (by decide)
    · refine Kept.step (Chip.positive_kept ..) (by decide) ?_
      exact (Chip.writeNow_kept ..).mono (by decide)
  · exact Kept.rfl

theorem Chip.reportCount_kept (r : DiagReq) (c : Chip) : Kept 0x80000000000000000000000000000000000100002 c
    (Chip.reportCount r c) := by
  unfold Chip.reportCount
  refine Kept.answerWith (by decide) (fun _ => ?_) ?_
  · exact (Chip.positive_kept ..).mono (by decide)
  · exact Kept.rfl

theorem Chip.reportCodes_kept (r : DiagReq) (c : Chip) : Kept 0x80000000000000000000000000000000000100002 c
    (Chip.reportCodes r c) := by
  unfold Chip.reportCodes
  refine Kept.answerWith (by decide) (fun _ => ?_) ?_
  · exact (Chip.positive_kept ..).mono (by decide)
  · exact Kept.rfl

theorem Chip.reportRecords_kept (n : Nat) (recs : Chip → Nat → List (Nat × Option (List Byte))) (r : DiagReq) (c : Chip) :
    Kept 0x80000000000000000000000000000000000100002 c (Chip.reportRecords n recs r c) := by
  unfold Chip.reportRecords
  extract_lets x0
  refine Kept.answerWith (by decide) (fun _ => ?_) ?_
  · refine Kept.ite ?_ ?_
    · exact (Chip.negative_kept ..).mono (by decide)
    · split
      · exact (Chip.positive_kept ..).mono (by decide)
      · exact (Chip.negative_kept ..).mono (by decide)
  · exact Kept.rfl

theorem Chip.readIdentifiers_kept (r : DiagReq) (c : Chip) : Kept 0x80000000000000000000000000000000000100802 c
    (Chip.readIdentifiers r c) := by
  unfold Chip.readIdentifiers
  extract_lets x0
  refine Kept.answerWith (by decide) (fun _ => ?_) ?_
  · refine Kept.ite ?_ ?_
    · exact (Chip.negative_kept ..).mono (by decide)
    · refine Kept.step (Chip.positive_kept ..) (by decide) ?_
      exact Kept.free_set.mono (by decide)
  · exact Kept.rfl

theorem Chip.writeIdentifier_kept (r : DiagReq) (c : Chip) : Kept 0x80004000000000000000000000000000000100002 c
    (Chip.writeIdentifier r c) := by
  unfold Chip.writeIdentifier
  refine Kept.answerWith (by decide) (fun _ => ?_) ?_
  · refine Kept.ite ?_ ?_
    · exact (Chip.negative_kept ..).mono (by decide)
    · refine Kept.ite ?_ ?_
      · exact (Chip.negative_kept ..).mono (by decide)
      · refine Kept.ite ?_ ?_
        · exact (Chip.negative_kept ..).mono (by decide)
        · refine Kept.ite ?_ ?_
          · exact (Chip.negative_kept ..).mono (by decide)
          · refine Kept.step (Chip.positive_kept ..) (by decide) ?_
            exact (Kept.setFld_name .faultCfg 0 0 (Eq.refl _)).mono (by decide)
  · exact Kept.rfl

theorem Chip.communication_kept (r : DiagReq) (c : Chip) : Kept 0xc0000000000000000000000000000000000100002 c
    (Chip.communication r c) := by
  unfold Chip.communication
  refine Kept.answerWith (by decide) (fun _ => ?_) ?_
  · refine Kept.ite ?_ ?_
    · exact (Chip.negative_kept ..).mono (by decide)
    · extract_lets x0 x1
      refine Kept.step (Chip.positive_kept ..) (by decide) ?_
      subst x1
      refine Kept.ite ?_ ?_
      · exact (Chip.restoreComm_kept ..).mono (by decide)
      · refine Kept.step (Chip.modCan_kept ..) (by decide) ?_
        refine Kept.doIf (fun _ => ?_) ?_
        · exact (Kept.setFlag_name .canStatus 0 0 (Eq.refl _)).mono (by decide)
        · exact Kept.rfl
  · exact Kept.rfl

theorem Chip.stillHere_kept (r : DiagReq) (c : Chip) : Kept 0x80000000000000000000000000000000000100002 c (Chip.stillHere r
    c) := by
  unfold Chip.stillHere
  refine Kept.answerWith (by decide) (fun _ => ?_) ?_
  · exact (Chip.positive_kept ..).mono (by decide)
  · exact Kept.rfl

theorem Chip.dtcSetting_kept (fails : Nat) (r : DiagReq) (c : Chip) : Kept 0x4800020000000000000000000000000000011001c2 c
    (Chip.dtcSetting fails r c) := by
  unfold Chip.dtcSetting
  refine Kept.answerWith (by decide) (fun _ => ?_) ?_
  · extract_lets x0
    refine Kept.step (Chip.positive_kept ..) (by decide) ?_
    subst x0
    refine Kept.ite ?_ ?_
    · refine Kept.step (Chip.writeNow_kept ..) (by decide) ?_
      refine Kept.step (Kept.setFlag_name .canDiagStatus 0 0 (Eq.refl _)) (by decide) ?_
      exact (Chip.modCan_kept ..).mono (by decide)
    · refine Kept.ite ?_ ?_
      · refine Kept.step (Chip.flushJournal_kept ..) (by decide) ?_
        exact (Chip.dtcOn_kept ..).mono (by decide)
      · exact Kept.rfl
  · exact Kept.rfl

theorem Chip.requestSeed_kept (level : Nat) (r : DiagReq) (c : Chip) : Kept 0x80000000000000000000000000000000000100002 c
    (Chip.requestSeed level r c) := by
  unfold Chip.requestSeed
  refine Kept.answerWith (by decide) (fun _ => ?_) ?_
  · refine Kept.ite ?_ ?_
    · exact (Chip.negative_kept ..).mono (by decide)
    · refine Kept.ite ?_ ?_
      · exact (Chip.negative_kept ..).mono (by decide)
      · refine Kept.ite ?_ ?_
        · exact (Chip.positive_kept ..).mono (by decide)
        · extract_lets x0
          refine Kept.step (Chip.positive_kept ..) (by decide) ?_
          exact (Chip.modCan_kept ..).mono (by decide)
  · exact Kept.rfl

theorem Chip.keyFailed_kept (r : DiagReq) (time : Nat) (c : Chip) : Kept 0x4871220000000000000000000000000000011209c6 c
    (Chip.keyFailed r time c) := by
  unfold Chip.keyFailed
  extract_lets x0 x1 x2 x3
  refine Kept.step (Chip.negative_kept ..) (by decide) ?_
  subst x3
  refine Kept.ite ?_ ?_
  · refine Kept.step (Chip.fault_kept ..) (by decide) ?_
    refine Kept.step (Chip.keyAlarm_kept ..) (by decide) ?_
    subst x2
    refine Kept.doIf (fun _ => ?_) ?_
    · refine Kept.step (Chip.fault_kept ..) (by decide) ?_
      exact (Kept.setFlag_name .canDiagStatus 0 0 (Eq.refl _)).mono (by decide)
    · subst x1
      refine Kept.step (Chip.modCan_kept ..) (by decide) ?_
      exact (Kept.incFld_name .canDiagStatus 0 0 (Eq.refl _)).mono (by decide)
  · subst x2
    refine Kept.doIf (fun _ => ?_) ?_
    · refine Kept.step (Chip.fault_kept ..) (by decide) ?_
      exact (Kept.setFlag_name .canDiagStatus 0 0 (Eq.refl _)).mono (by decide)
    · subst x1
      refine Kept.step (Chip.modCan_kept ..) (by decide) ?_
      exact (Kept.incFld_name .canDiagStatus 0 0 (Eq.refl _)).mono (by decide)

theorem Chip.sendKey_kept (level : Nat) (time : Nat) (r : DiagReq) (c : Chip) : Kept
    0x4871220000000000000000000000000000011209c6 c (Chip.sendKey level time r c) := by
  unfold Chip.sendKey
  refine Kept.answerWith (by decide) (fun _ => ?_) ?_
  · split
    · exact (Chip.negative_kept ..).mono (by decide)
    · extract_lets x0
      split
      · refine Kept.step (Chip.negative_kept ..) (by decide) ?_
        subst x0
        exact (Chip.modCan_kept ..).mono (by decide)
      · refine Kept.ite ?_ ?_
        · refine Kept.step (Chip.positive_kept ..) (by decide) ?_
          refine Kept.step (Chip.modCan_kept ..) (by decide) ?_
          refine Kept.step (Kept.setFld_name .canDiagStatus 0 0 (Eq.refl _)) (by decide) ?_
          refine Kept.step (Kept.setFld_name .canDiagStatus 0 0 (Eq.refl _)) (by decide) ?_
          subst x0
          exact (Chip.modCan_kept ..).mono (by decide)
        · refine Kept.step (Chip.keyFailed_kept ..) (by decide) ?_
          subst x0
          exact (Chip.modCan_kept ..).mono (by decide)
  · exact Kept.rfl

theorem Chip.routineJournal_kept (r : DiagReq) (c : Chip) : Kept 0x800020000000000000000000000000000011009c2 c
    (Chip.routineJournal r c) := by
  unfold Chip.routineJournal
  refine Kept.answerWith (by decide) (fun _ => ?_) ?_
  · extract_lets x0 x1 x2 x3
    split
    · exact (Chip.negative_kept ..).mono (by decide)
    · refine Kept.ite ?_ ?_
      · exact (Chip.negative_kept ..).mono (by decide)
      · refine Kept.step (Chip.positive_kept ..) (by decide) ?_
        subst x3
        refine Kept.foldl_snd (fun _ _ => ?_) ?_
        · refine Kept.step (Chip.readEntry_kept ..) (by decide) ?_
          exact Kept.rfl
        · exact Kept.rfl
  · exact Kept.rfl

theorem Chip.routineTag_kept (r : DiagReq) (c : Chip) : Kept 0x900080000000000000000000000000000000000300002 c
    (Chip.routineTag r c) := by
  unfold Chip.routineTag
  refine Kept.answerWith (by decide) (fun _ => ?_) ?_
  · extract_lets x0
    refine Kept.step (Chip.positive_kept ..) (by decide) ?_
    subst x0
    exact (Chip.askTag_kept ..).mono (by decide)
  · exact Kept.rfl

theorem Chip.routinePurge_kept (time : Nat) (r : DiagReq) (c : Chip) : Kept 0x871220000000000000000000000000000011209c6 c
    (Chip.routinePurge time r c) := by
  unfold Chip.routinePurge
  refine Kept.answerWith (by decide) (fun _ => ?_) ?_
  · refine Kept.step (Chip.positive_kept ..) (by decide) ?_
    exact (Chip.keyAlarm_kept ..).mono (by decide)
  · exact Kept.rfl

theorem Chip.forwardRequest_kept (c : Chip) : Kept 0x400000000000000000000000000000000000100042 c (Chip.forwardRequest c) :=
    by
  unfold Chip.forwardRequest
  split
  · refine Kept.ite ?_ ?_
    · extract_lets x0
      refine Kept.step (Chip.raise_kept ..) (by decide) ?_
      refine Kept.step (Kept.setFlag_name .canDiagStatus 0 0 (Eq.refl _)) (by decide) ?_
      exact (Chip.modCan_kept ..).mono (by decide)
    · exact Kept.rfl
  · exact Kept.rfl

theorem Chip.endForward_kept (c : Chip) : Kept 0x400000000000000000000000000000000000100002 c (Chip.endForward c) := by
  unfold Chip.endForward
  refine Kept.step (Chip.dropReq_kept ..) (by decide) ?_
  refine Kept.step (Chip.modCan_kept ..) (by decide) ?_
  exact (Kept.setFlag_name .canDiagStatus 0 0 (Eq.refl _)).mono (by decide)

theorem Chip.forwardTimeout_kept (ms : Nat) (c : Chip) : Kept 0x4800020000000000000000000000000000011001c2 c
    (Chip.forwardTimeout ms c) := by
  unfold Chip.forwardTimeout
  split
  · refine Kept.ite ?_ ?_
    · refine Kept.step (Chip.fault_kept ..) (by decide) ?_
      refine Kept.step (Chip.endForward_kept ..) (by decide) ?_
      exact (Chip.sendNegative_kept ..).mono (by decide)
    · exact Kept.rfl
  · exact Kept.rfl

theorem Chip.serviceGet_kept (c : Chip) : Kept 0x10 c (Chip.serviceGet c) := by
  unfold Chip.serviceGet
  split
  · exact (Chip.setReply_kept ..).mono (by decide)
  · extract_lets x0 x1
    refine Kept.ite ?_ ?_
    · exact (Chip.setReply_kept ..).mono (by decide)
    · exact (Chip.setReply_kept ..).mono (by decide)

theorem Chip.servicePut_kept (c : Chip) : Kept 0x480000000000000000000000000000000000100012 c (Chip.servicePut c) := by
  unfold Chip.servicePut
  split
  · exact (Chip.setReply_kept ..).mono (by decide)
  · extract_lets x0 x1 x2 x3
    refine Kept.ite ?_ ?_
    · exact (Chip.setReply_kept ..).mono (by decide)
    · refine Kept.ite ?_ ?_
      · exact (Chip.setReply_kept ..).mono (by decide)
      · refine Kept.ite ?_ ?_
        · refine Kept.step (Chip.setReply_kept ..) (by decide) ?_
          refine Kept.step (Chip.endForward_kept ..) (by decide) ?_
          exact (Chip.sendNegative_kept ..).mono (by decide)
        · refine Kept.ite ?_ ?_
          · refine Kept.step (Chip.setReply_kept ..) (by decide) ?_
            subst x3
            exact (Chip.modCan_kept ..).mono (by decide)
          · refine Kept.ite ?_ ?_
            · refine Kept.step (Chip.setReply_kept ..) (by decide) ?_
              subst x3
              exact (Chip.modCan_kept ..).mono (by decide)
            · refine Kept.step (Chip.setReply_kept ..) (by decide) ?_
              refine Kept.step (Chip.endForward_kept ..) (by decide) ?_
              refine Kept.doIf (fun _ => ?_) ?_
              · exact (Kept.incFld_name .canCounts 0 0 (Eq.refl _)).mono (by decide)
              · refine Kept.step (Chip.sendDiag_kept ..) (by decide) ?_
                subst x3
                exact (Chip.modCan_kept ..).mono (by decide)

theorem Chip.serviceForward_kept (c : Chip) : Kept 0x200000000000000000000000000000000000100012 c (Chip.serviceForward c) :=
    by
  unfold Chip.serviceForward
  extract_lets x0 x1
  refine Kept.ite ?_ ?_
  · exact (Chip.setReply_kept ..).mono (by decide)
  · refine Kept.step (Chip.setReply_kept ..) (by decide) ?_
    refine Kept.step (Chip.modCan_kept ..) (by decide) ?_
    refine Kept.step (Kept.setFlag_name .canDiagCfg 0 0 (Eq.refl _)) (by decide) ?_
    exact (Kept.setFlag_name .canDiagCfg 0 0 (Eq.refl _)).mono (by decide)

end Sys2Proof.Machine
end

