-- ==== Sys2Proof/Laws/KeptApply.lean ====
section
/-!
SUPPORT. The frame laws (`Kept`) of the operations of Machine/Apply.lean.
-/

namespace Sys2Proof.Machine

theorem Chip.commitOutput_kept (a : Nat) (v : DWord) (c : Chip) : Kept
    0x4000000000000002000000701e000000000100000000810039c6 c (Chip.commitOutput a v c) := by
  unfold Chip.commitOutput
  refine Kept.ite ?_ ?_
  · exact (Chip.commitInjEnable_kept ..).mono (by decide)
  · refine Kept.ite ?_ ?_
    · exact (Chip.clearShort_kept ..).mono (by decide)
    · split
      · refine Kept.ite ?_ ?_
        · exact (Chip.clearTrip_kept ..).mono (by decide)
        · exact Kept.rfl
      · exact (Chip.storeMasked_kept ..).mono (by decide)

theorem Chip.commitConv_kept (a : Nat) (v : DWord) (c : Chip) : Kept 0x20000000001608000000000000004810081c6 c
    (Chip.commitConv a v c) := by
  unfold Chip.commitConv
  refine Kept.ite ?_ ?_
  · exact (Chip.commitConvStart_kept ..).mono (by decide)
  · refine Kept.ite ?_ ?_
    · exact (Chip.commitConvSync_kept ..).mono (by decide)
    · split
      · exact (Chip.commitRingTail_kept ..).mono (by decide)
      · exact (Chip.commitConvCfg_kept ..).mono (by decide)

theorem Chip.takeInBlocks_kept (bs : List Nat) (c : Chip) : Kept 0x4001000000000002004008000000000000010000000001081fc6 c
    (Chip.takeInBlocks bs c) := by
  unfold Chip.takeInBlocks
  extract_lets x0 x1 x2
  refine Kept.foldl (fun _ _ => ?_) ?_
  · exact (Chip.returnEvents_kept ..).mono (by decide)
  · subst x2
    refine Kept.doIf (fun _ => ?_) ?_
    · exact (Chip.takeRefConfig_kept ..).mono (by decide)
    · subst x1
      refine Kept.foldl (fun _ _ => ?_) ?_
      · exact (Chip.takeLearned_kept ..).mono (by decide)
      · subst x0
        refine Kept.foldl (fun _ _ => ?_) ?_
        · exact (Chip.takeTooth_kept ..).mono (by decide)
        · exact Kept.rfl

theorem Chip.inval_kept (b : Nat) (c : Chip) : Kept 0x4001000000000002004008000000000000010000000001081fc6 c (Chip.inval b
    c) := by
  unfold Chip.inval
  refine Kept.ite ?_ ?_
  · exact (Chip.invalEvents_kept ..).mono (by decide)
  · refine Kept.ite ?_ ?_
    · exact (Chip.takeInBlocks_kept ..).mono (by decide)
    · exact Kept.rfl

theorem Chip.applyCommit_kept (a : Nat) (w : DWord) (c : Chip) : Kept 0x4001480000000002004008701f6090000003000000048109bfc6
    c (Chip.applyCommit a w c) := by
  unfold Chip.applyCommit
  extract_lets x0
  refine Kept.ite ?_ ?_
  · exact Kept.rfl
  · refine Kept.ite ?_ ?_
    · exact (Chip.commitSchedControl_kept ..).mono (by decide)
    · refine Kept.ite ?_ ?_
      · exact (Chip.inval_kept ..).mono (by decide)
      · split
        · refine Kept.step (Chip.showConv_kept ..) (by decide) ?_
          exact (Chip.commitConv_kept ..).mono (by decide)
        · exact (Chip.commitOutput_kept ..).mono (by decide)
        · exact (Chip.commitWheel_kept ..).mono (by decide)
        · exact (Chip.commitBoost_kept ..).mono (by decide)
        · split
          · exact (Chip.commitTioSel_kept ..).mono (by decide)
          · exact Kept.rfl
        · exact (Chip.storeMasked_kept ..).mono (by decide)

theorem Chip.applySup_kept (a : Nat) (w : DWord) (time : Nat) (persists : Nat) (sending : Bool) (c : Chip) : Kept
    0xc000000000050484f1220000000000000000000000000004811609c6 c (Chip.applySup a w time persists sending c) := by
  unfold Chip.applySup
  extract_lets x0
  refine Kept.ite ?_ ?_
  · exact (Chip.startJobs_kept ..).mono (by decide)
  · refine Kept.ite ?_ ?_
    · exact (Chip.commitErase_kept ..).mono (by decide)
    · refine Kept.ite ?_ ?_
      · refine Kept.doIf (fun _ => ?_) ?_
        · exact (Chip.clearAlarm_kept ..).mono (by decide)
        · exact Kept.rfl
      · refine Kept.ite ?_ ?_
        · exact (Chip.commitRxTail_kept ..).mono (by decide)
        · refine Kept.ite ?_ ?_
          · exact (Chip.commitErrTail_kept ..).mono (by decide)
          · split
            · split
              · exact (Chip.commitMbCfg_kept ..).mono (by decide)
              · exact (Chip.commitCan_kept ..).mono (by decide)
            · refine Kept.step (Chip.recomputeDue_kept ..) (by decide) ?_
              exact (Chip.storeMasked_kept ..).mono (by decide)
            · exact (Chip.storeMasked_kept ..).mono (by decide)

theorem Chip.endReturn_kept (b : Nat) (c : Chip) : Kept 0x10000000800002 c (Chip.endReturn b c) := by
  unfold Chip.endReturn
  extract_lets c1
  refine Kept.doIf (fun d => (Kept.setFld_name .ownStatus 0 0 (Eq.refl _)).mono (by decide)) ?_
  refine Kept.mono (m := 8388608) (Kept.own_of (fun h => ⟨h.1, h.2.1, fun r hr => ?_, fun r hr => ?_⟩) (Eq.refl _) (Eq.refl _)
    (Eq.refl _) (Eq.refl _)) (by decide)
  · exact h.2.2.1 r (List.mem_filter.mp hr).1
  · exact h.2.2.2 r (List.mem_filter.mp hr).1

theorem Chip.takeReturns_kept (c : Chip) : Kept 0x4001000000000002004008000000000000010010000001881fc6 c (Chip.takeReturns c) := by
  unfold Chip.takeReturns
  extract_lets bs c1
  refine Kept.step (Chip.takeInBlocks_kept ..) (by decide) ?_
  have h1 : Kept 0x4001000000000002004008000000000000010010000001881fc6 c c1 := Kept.foldl (fun d x => (Chip.endReturn_kept ..).mono (by decide)) Kept.rfl
  refine h1.trans (Kept.mono (m := 8388608) (Kept.own_of (fun h => ⟨h.1, h.2.1, fun r hr => ?_, fun r hr => ?_⟩) (Eq.refl _)
    (Eq.refl _) (Eq.refl _) (Eq.refl _)) (by decide))
  · obtain ⟨q, hq, rfl⟩ := List.mem_map.mp hr
    exact h.2.2.1 q hq
  · obtain ⟨q, hq, rfl⟩ := List.mem_map.mp hr
    exact h.2.2.2 q hq

theorem Chip.applyPackage_kept (x : Staged) (c : Chip) : Kept 0x4001480000000002004008701f609000000300100004818bbfd6 c
    (Chip.applyPackage x c) := by
  unfold Chip.applyPackage
  extract_lets x0 x1 x2 x3
  refine Kept.step (Chip.setReply_kept ..) (by decide) ?_
  subst x2
  refine Kept.step (Chip.takeInBlocks_kept ..) (by decide) ?_
  refine Kept.foldl (fun _ _ => ?_) ?_
  · exact (Chip.applyCommit_kept ..).mono (by decide)
  · subst x1
    refine Kept.step (Chip.modCipher_kept ..) (by decide) ?_
    refine Kept.foldl (fun _ _ => ?_) ?_
    · exact (Chip.endReturn_kept ..).mono (by decide)
    · exact Kept.rfl

theorem Chip.calTick_kept (c : Chip) : Kept 0x4001480000000002004008701f609000000300100004818bbfd6 c (Chip.calTick c) := by
  unfold Chip.calTick
  split
  · exact (Chip.applyPackage_kept ..).mono (by decide)
  · exact Kept.rfl

end Sys2Proof.Machine
end

