-- ==== Sys2Proof/Laws/KeptTwin.lean ====
section
/-!
SUPPORT. The frame laws (`Kept`) of the operations of Machine/Twin.lean.
-/

namespace Sys2Proof.Machine

theorem Chip.formDigest_kept (c : Chip) : Kept 0x80000 c (Chip.formDigest c) := by
  unfold Chip.formDigest
  refine Kept.ite ?_ ?_
  · exact Kept.rfl
  · exact (Chip.modTwin_kept ..).mono (by decide)

theorem Chip.beginPacket_kept (f : BitVec 32) (p : Packet) (rest : List Packet) (c : Chip) : Kept
    0x20000000000000000000000000000010809c6 c (Chip.beginPacket f p rest c) := by
  unfold Chip.beginPacket
  split
  · refine Kept.ite ?_ ?_
    · exact Kept.rfl
    · extract_lets x0
      refine Kept.step (Chip.modTwin_kept ..) (by decide) ?_
      subst x0
      exact (Chip.readBlock_kept ..).mono (by decide)
  · exact (Chip.modTwin_kept ..).mono (by decide)

theorem Chip.fillStream_kept (f : BitVec 32) (k : Nat) (c : Chip) : Kept 0x20000000000000000000000000000010809c6 c
    (Chip.fillStream f k c) := by
  unfold Chip.fillStream
  refine Kept.stepN (fun _ => ?_) ?_
  · split
    · refine Kept.ite ?_ ?_
      · exact (Chip.beginPacket_kept ..).mono (by decide)
      · exact Kept.rfl
    · exact Kept.rfl
  · exact Kept.rfl

theorem Chip.sendTwin_kept (f : BitVec 32) (tick : Nat) (len : Nat) (mc : Nat) (hand : Bool) (c : Chip) : Kept
    0x20000000000000000000000000000010809c6 c (Chip.sendTwin f tick len mc hand c) := by
  unfold Chip.sendTwin
  refine Kept.ite ?_ ?_
  · exact (Chip.modTwin_kept ..).mono (by decide)
  · extract_lets x0 x1 x2 x3 x4 x5 x6
    refine Kept.step (Chip.modTwin_kept ..) (by decide) ?_
    subst x2
    exact (Chip.fillStream_kept ..).mono (by decide)

theorem Chip.beginCopy_kept (c : Chip) : Kept 0x2000000000000000000000000000000000000000000000000000080002 c (Chip.beginCopy
    c) := by
  unfold Chip.beginCopy
  refine Kept.step (Chip.modTwin_kept ..) (by decide) ?_
  refine Kept.step (Kept.setFld_name .twinProgress 0 0 (Eq.refl _)) (by decide) ?_
  refine Kept.step (Kept.setFld_name .twinProgress 0 0 (Eq.refl _)) (by decide) ?_
  refine Kept.step (Kept.setFld_name .twinProgress 0 0 (Eq.refl _)) (by decide) ?_
  exact (Kept.setFld_name .twinProgress 0 0 (Eq.refl _)).mono (by decide)

theorem Chip.rejoin_kept (c : Chip) : Kept 0xa000000000000000000000000000000000000000080000000000092046 c (Chip.rejoin c) :=
    by
  unfold Chip.rejoin
  refine Kept.ite ?_ ?_
  · refine Kept.step (Chip.modTwin_kept ..) (by decide) ?_
    refine Kept.step (Chip.beginCopy_kept ..) (by decide) ?_
    exact (Chip.twinMove_kept ..).mono (by decide)
  · exact Kept.rfl

theorem Chip.digestMatch_kept (c : Chip) : Kept 0xa000000000000000000000000000000000000000080000000000092046 c
    (Chip.digestMatch c) := by
  unfold Chip.digestMatch
  extract_lets x0 x1
  refine Kept.ite ?_ ?_
  · subst x0
    exact (Chip.modTwin_kept ..).mono (by decide)
  · refine Kept.ite ?_ ?_
    · refine Kept.step (Kept.setFld_name .twinProgress 0 0 (Eq.refl _)) (by decide) ?_
      refine Kept.step (Chip.twinMove_kept ..) (by decide) ?_
      subst x1
      refine Kept.step (Kept.incFld_name .twinProgress 0 0 (Eq.refl _)) (by decide) ?_
      subst x0
      exact (Chip.modTwin_kept ..).mono (by decide)
    · subst x1
      refine Kept.step (Kept.incFld_name .twinProgress 0 0 (Eq.refl _)) (by decide) ?_
      subst x0
      exact (Chip.modTwin_kept ..).mono (by decide)

theorem Chip.mismatchShadow_kept (c : Chip) : Kept 0xa0000000000000000000020000000000000000000800000000010921c6 c
    (Chip.mismatchShadow c) := by
  unfold Chip.mismatchShadow
  extract_lets x0 x1
  refine Kept.ite ?_ ?_
  · refine Kept.doIf (fun _ => ?_) ?_
    · exact (Chip.beginCopy_kept ..).mono (by decide)
    · refine Kept.step (Chip.twinFault_kept ..) (by decide) ?_
      subst x1
      refine Kept.ite ?_ ?_
      · refine Kept.step (Kept.setFld_name .twinProgress 0 0 (Eq.refl _)) (by decide) ?_
        refine Kept.step (Kept.setFld_name .twinProgress 0 0 (Eq.refl _)) (by decide) ?_
        refine Kept.step (Chip.twinMove_kept ..) (by decide) ?_
        subst x0
        exact (Kept.setFld_name .twinProgress 0 0 (Eq.refl _)).mono (by decide)
      · subst x0
        exact (Kept.setFld_name .twinProgress 0 0 (Eq.refl _)).mono (by decide)
  · subst x1
    refine Kept.ite ?_ ?_
    · refine Kept.step (Kept.setFld_name .twinProgress 0 0 (Eq.refl _)) (by decide) ?_
      refine Kept.step (Kept.setFld_name .twinProgress 0 0 (Eq.refl _)) (by decide) ?_
      refine Kept.step (Chip.twinMove_kept ..) (by decide) ?_
      subst x0
      exact (Kept.setFld_name .twinProgress 0 0 (Eq.refl _)).mono (by decide)
    · subst x0
      exact (Kept.setFld_name .twinProgress 0 0 (Eq.refl _)).mono (by decide)

theorem Chip.mismatchOwner_kept (c : Chip) : Kept 0x80000 c (Chip.mismatchOwner c) := by
  unfold Chip.mismatchOwner
  refine Kept.ite ?_ ?_
  · exact (Chip.modTwin_kept ..).mono (by decide)
  · exact Kept.rfl

theorem Chip.digestMismatch_kept (own : BitVec 64) (theirs : BitVec 64) (c : Chip) : Kept
    0xe0000000000000000000020000000000000000000800000000010921c6 c (Chip.digestMismatch own theirs c) := by
  unfold Chip.digestMismatch
  extract_lets x0 x1 x2
  refine Kept.ite ?_ ?_
  · refine Kept.step (Chip.mismatchOwner_kept ..) (by decide) ?_
    subst x2
    refine Kept.step (Chip.modTwin_kept ..) (by decide) ?_
    subst x1
    refine Kept.ite ?_ ?_
    · refine Kept.step (Chip.twinFault_kept ..) (by decide) ?_
      refine Kept.step (Chip.twinLog_kept ..) (by decide) ?_
      subst x0
      refine Kept.step (Kept.setFlag_name .twinStatus 0 0 (Eq.refl _)) (by decide) ?_
      exact (Kept.incFld_name .twinCounts 0 0 (Eq.refl _)).mono (by decide)
    · subst x0
      refine Kept.step (Kept.setFlag_name .twinStatus 0 0 (Eq.refl _)) (by decide) ?_
      exact (Kept.incFld_name .twinCounts 0 0 (Eq.refl _)).mono (by decide)
  · refine Kept.step (Chip.mismatchShadow_kept ..) (by decide) ?_
    subst x2
    refine Kept.step (Chip.modTwin_kept ..) (by decide) ?_
    subst x1
    refine Kept.ite ?_ ?_
    · refine Kept.step (Chip.twinFault_kept ..) (by decide) ?_
      refine Kept.step (Chip.twinLog_kept ..) (by decide) ?_
      subst x0
      refine Kept.step (Kept.setFlag_name .twinStatus 0 0 (Eq.refl _)) (by decide) ?_
      exact (Kept.incFld_name .twinCounts 0 0 (Eq.refl _)).mono (by decide)
    · subst x0
      refine Kept.step (Kept.setFlag_name .twinStatus 0 0 (Eq.refl _)) (by decide) ?_
      exact (Kept.incFld_name .twinCounts 0 0 (Eq.refl _)).mono (by decide)

theorem Chip.compareDigest_kept (p : BitVec 32) (mc : Nat) (value : BitVec 64) (c : Chip) : Kept
    0xe0000000000000000000020000000000000000000800000000010921c6 c (Chip.compareDigest p mc value c) := by
  unfold Chip.compareDigest
  refine Kept.ite ?_ ?_
  · exact Kept.rfl
  · split
    · refine Kept.ite ?_ ?_
      · exact (Chip.digestMatch_kept ..).mono (by decide)
      · exact (Chip.digestMismatch_kept ..).mono (by decide)
    · exact Kept.rfl

theorem Chip.linkRise_kept (c : Chip) : Kept 0xa000000000000000000000000000000000000000080000000000092046 c (Chip.linkRise
    c) := by
  unfold Chip.linkRise
  extract_lets x0
  refine Kept.doIf (fun _ => ?_) ?_
  · exact (Chip.rejoin_kept ..).mono (by decide)
  · subst x0
    refine Kept.step (Chip.modTwin_kept ..) (by decide) ?_
    exact (Kept.setFlag_name .twinStatus 0 0 (Eq.refl _)).mono (by decide)

theorem Chip.linkFall_kept (c : Chip) : Kept 0xa0000000000000000000020000000000000000000800000000010921c6 c (Chip.linkFall
    c) := by
  unfold Chip.linkFall
  extract_lets x0 x1
  refine Kept.ite ?_ ?_
  · refine Kept.step (Chip.isolate_kept ..) (by decide) ?_
    subst x1
    refine Kept.ite ?_ ?_
    · subst x0
      refine Kept.step (Chip.modTwin_kept ..) (by decide) ?_
      exact (Kept.setFlag_name .twinStatus 0 0 (Eq.refl _)).mono (by decide)
    · refine Kept.step (Chip.twinFault_kept ..) (by decide) ?_
      subst x0
      refine Kept.step (Chip.modTwin_kept ..) (by decide) ?_
      exact (Kept.setFlag_name .twinStatus 0 0 (Eq.refl _)).mono (by decide)
  · subst x1
    refine Kept.ite ?_ ?_
    · subst x0
      refine Kept.step (Chip.modTwin_kept ..) (by decide) ?_
      exact (Kept.setFlag_name .twinStatus 0 0 (Eq.refl _)).mono (by decide)
    · refine Kept.step (Chip.twinFault_kept ..) (by decide) ?_
      subst x0
      refine Kept.step (Chip.modTwin_kept ..) (by decide) ?_
      exact (Kept.setFlag_name .twinStatus 0 0 (Eq.refl _)).mono (by decide)

theorem Chip.linkTick_kept (c : Chip) : Kept 0xa0000000000000000000020000000000000000000800000000010921c6 c (Chip.linkTick
    c) := by
  unfold Chip.linkTick
  refine Kept.ite ?_ ?_
  · exact Kept.rfl
  · extract_lets x0
    refine Kept.ite ?_ ?_
    · refine Kept.step (Chip.linkFall_kept ..) (by decide) ?_
      subst x0
      exact (Chip.modTwin_kept ..).mono (by decide)
    · subst x0
      exact (Chip.modTwin_kept ..).mono (by decide)

theorem Chip.twinSkew_kept (own : Nat) (theirs : Nat) (c : Chip) : Kept
    0x100000000000000000000000000000000000000000000000000008000a c (Chip.twinSkew own theirs c) := by
  unfold Chip.twinSkew
  extract_lets x0 x1 x2
  refine Kept.ite ?_ ?_
  · refine Kept.step Kept.tb_set (by decide) ?_
    subst x1
    refine Kept.step (Chip.modTwin_kept ..) (by decide) ?_
    refine Kept.step (Kept.setFld_name .twinSync 0 0 (Eq.refl _)) (by decide) ?_
    exact (Kept.setFld_name .twinSync 0 0 (Eq.refl _)).mono (by decide)
  · subst x1
    refine Kept.step (Chip.modTwin_kept ..) (by decide) ?_
    refine Kept.step (Kept.setFld_name .twinSync 0 0 (Eq.refl _)) (by decide) ?_
    exact (Kept.setFld_name .twinSync 0 0 (Eq.refl _)).mono (by decide)

theorem Kept.tb_twin_set {c : Chip} {x : TimeBase} {y : Twin} : Kept 524296 c { c with tb := x, twin := y } :=
  ⟨id, fun k hk => by cases k <;> first | rfl | exact absurd hk (by decide), fun _ _ _ => Eq.refl _⟩

theorem Chip.adjustPair_kept (p : BitVec 32) (len : Nat) (c : Chip) : Kept 0x8 c (Chip.adjustPair p len c) := by
  unfold Chip.adjustPair
  refine Kept.ite ?_ ?_
  · exact Kept.rfl
  · extract_lets x0 x1
    split
    · extract_lets x2 x3
      refine Kept.ite ?_ ?_
      · exact Kept.rfl
      · exact Kept.tb_set.mono (by decide)
    · exact Kept.rfl

theorem Chip.takeItem_kept (p : BitVec 32) (x : Nat × Bool × Nat) (c : Chip) : Kept 0x80a00 c (Chip.takeItem p x c) := by
  unfold Chip.takeItem
  extract_lets x0 x1 x2 x3 x4
  refine Kept.step (Chip.modTwin_kept ..) (by decide) ?_
  refine Kept.step (Chip.modWheel_kept ..) (by decide) ?_
  exact (Chip.useFree_kept ..).mono (by decide)

theorem Chip.partnerFlags_kept (fl : Nat) (mc : Nat) (c : Chip) : Kept
    0x800000000000000000000000000000000000000000000000000080002 c (Chip.partnerFlags fl mc c) := by
  unfold Chip.partnerFlags
  extract_lets x0 x1 x2 x3
  refine Kept.ite ?_ ?_
  · refine Kept.ite ?_ ?_
    · refine Kept.step (Chip.modTwin_kept ..) (by decide) ?_
      subst x3
      refine Kept.step (Chip.modTwin_kept ..) (by decide) ?_
      refine Kept.step (Kept.setFlag_name .twinPartner 0 0 (Eq.refl _)) (by decide) ?_
      refine Kept.step (Kept.setFlag_name .twinPartner 0 0 (Eq.refl _)) (by decide) ?_
      exact (Kept.setFld_name .twinPartner 0 0 (Eq.refl _)).mono (by decide)
    · refine Kept.ite ?_ ?_
      · refine Kept.step (Chip.modTwin_kept ..) (by decide) ?_
        subst x3
        refine Kept.step (Chip.modTwin_kept ..) (by decide) ?_
        refine Kept.step (Kept.setFlag_name .twinPartner 0 0 (Eq.refl _)) (by decide) ?_
        refine Kept.step (Kept.setFlag_name .twinPartner 0 0 (Eq.refl _)) (by decide) ?_
        exact (Kept.setFld_name .twinPartner 0 0 (Eq.refl _)).mono (by decide)
      · refine Kept.step (Chip.modTwin_kept ..) (by decide) ?_
        subst x3
        refine Kept.step (Chip.modTwin_kept ..) (by decide) ?_
        refine Kept.step (Kept.setFlag_name .twinPartner 0 0 (Eq.refl _)) (by decide) ?_
        refine Kept.step (Kept.setFlag_name .twinPartner 0 0 (Eq.refl _)) (by decide) ?_
        exact (Kept.setFld_name .twinPartner 0 0 (Eq.refl _)).mono (by decide)
  · subst x3
    refine Kept.step (Chip.modTwin_kept ..) (by decide) ?_
    refine Kept.step (Kept.setFlag_name .twinPartner 0 0 (Eq.refl _)) (by decide) ?_
    refine Kept.step (Kept.setFlag_name .twinPartner 0 0 (Eq.refl _)) (by decide) ?_
    exact (Kept.setFld_name .twinPartner 0 0 (Eq.refl _)).mono (by decide)

theorem Chip.checkPartner_kept (c : Chip) : Kept 0xa000000000000000000000000000000000000000080000000000092046 c
    (Chip.checkPartner c) := by
  unfold Chip.checkPartner
  refine Kept.ite ?_ ?_
  · exact Kept.rfl
  · refine Kept.ite ?_ ?_
    · exact (Chip.modTwin_kept ..).mono (by decide)
    · refine Kept.ite ?_ ?_
      · exact (Chip.modTwin_kept ..).mono (by decide)
      · refine Kept.step (Chip.modTwin_kept ..) (by decide) ?_
        exact (Chip.isolate_kept ..).mono (by decide)

theorem Chip.checkHand_kept (c : Chip) : Kept 0x80000 c (Chip.checkHand c) := by
  unfold Chip.checkHand
  refine Kept.ite ?_ ?_
  · split
    · refine Kept.ite ?_ ?_
      · exact (Chip.modTwin_kept ..).mono (by decide)
      · exact Kept.rfl
    · exact Kept.rfl
  · refine Kept.ite ?_ ?_
    · refine Kept.ite ?_ ?_
      · exact (Chip.modTwin_kept ..).mono (by decide)
      · exact (Chip.modTwin_kept ..).mono (by decide)
    · exact Kept.rfl

theorem Chip.dropOwnEdges_kept (was : Bool) (c : Chip) : Kept 0x200 c (Chip.dropOwnEdges was c) := by
  unfold Chip.dropOwnEdges
  refine Kept.ite ?_ ?_
  · exact Kept.rfl
  · refine Kept.foldl (fun _ _ => ?_) ?_
    · exact (Chip.modWheel_kept ..).mono (by decide)
    · exact Kept.rfl

theorem Chip.takeValid_kept (l : List Byte) (items : List Byte × List (Nat × Bool × Nat)) (arrival : Nat) (c : Chip) : Kept
    0xf800000000000000000002000000000000000000080000000001092bce c (Chip.takeValid l items arrival c) := by
  unfold Chip.takeValid
  extract_lets x0 x1 x2 x3 x4 x5 x6 x7
  refine Kept.step (Chip.checkHand_kept ..) (by decide) ?_
  refine Kept.step (Chip.checkPartner_kept ..) (by decide) ?_
  refine Kept.ite ?_ ?_
  · refine Kept.step (Chip.compareDigest_kept ..) (by decide) ?_
    subst x7
    refine Kept.ite ?_ ?_
    · refine Kept.foldl (fun _ _ => ?_) ?_
      · exact (Chip.takeItem_kept ..).mono (by decide)
      · refine Kept.step (Chip.dropOwnEdges_kept ..) (by decide) ?_
        subst x6
        refine Kept.step (Chip.modTwin_kept ..) (by decide) ?_
        subst x5
        refine Kept.step (Chip.adjustPair_kept ..) (by decide) ?_
        refine Kept.step (Chip.twinSkew_kept ..) (by decide) ?_
        subst x3
        refine Kept.ite ?_ ?_
        · refine Kept.step (Chip.linkRise_kept ..) (by decide) ?_
          subst x2
          refine Kept.step (Chip.partnerFlags_kept ..) (by decide) ?_
          exact (Chip.modTwin_kept ..).mono (by decide)
        · subst x2
          refine Kept.step (Chip.partnerFlags_kept ..) (by decide) ?_
          exact (Chip.modTwin_kept ..).mono (by decide)
    · subst x6
      refine Kept.step (Chip.modTwin_kept ..) (by decide) ?_
      subst x5
      refine Kept.step (Chip.adjustPair_kept ..) (by decide) ?_
      refine Kept.step (Chip.twinSkew_kept ..) (by decide) ?_
      subst x3
      refine Kept.ite ?_ ?_
      · refine Kept.step (Chip.linkRise_kept ..) (by decide) ?_
        subst x2
        refine Kept.step (Chip.partnerFlags_kept ..) (by decide) ?_
        exact (Chip.modTwin_kept ..).mono (by decide)
      · subst x2
        refine Kept.step (Chip.partnerFlags_kept ..) (by decide) ?_
        exact (Chip.modTwin_kept ..).mono (by decide)
  · subst x7
    refine Kept.ite ?_ ?_
    · refine Kept.foldl (fun _ _ => ?_) ?_
      · exact (Chip.takeItem_kept ..).mono (by decide)
      · refine Kept.step (Chip.dropOwnEdges_kept ..) (by decide) ?_
        subst x6
        refine Kept.step (Chip.modTwin_kept ..) (by decide) ?_
        subst x5
        refine Kept.step (Chip.adjustPair_kept ..) (by decide) ?_
        refine Kept.step (Chip.twinSkew_kept ..) (by decide) ?_
        subst x3
        refine Kept.ite ?_ ?_
        · refine Kept.step (Chip.linkRise_kept ..) (by decide) ?_
          subst x2
          refine Kept.step (Chip.partnerFlags_kept ..) (by decide) ?_
          exact (Chip.modTwin_kept ..).mono (by decide)
        · subst x2
          refine Kept.step (Chip.partnerFlags_kept ..) (by decide) ?_
          exact (Chip.modTwin_kept ..).mono (by decide)
    · subst x6
      refine Kept.step (Chip.modTwin_kept ..) (by decide) ?_
      subst x5
      refine Kept.step (Chip.adjustPair_kept ..) (by decide) ?_
      refine Kept.step (Chip.twinSkew_kept ..) (by decide) ?_
      subst x3
      refine Kept.ite ?_ ?_
      · refine Kept.step (Chip.linkRise_kept ..) (by decide) ?_
        subst x2
        refine Kept.step (Chip.partnerFlags_kept ..) (by decide) ?_
        exact (Chip.modTwin_kept ..).mono (by decide)
      · subst x2
        refine Kept.step (Chip.partnerFlags_kept ..) (by decide) ?_
        exact (Chip.modTwin_kept ..).mono (by decide)

theorem Chip.takeTwinFrame_kept (l : List Byte) (symErr : Bool) (arrival : Nat) (c : Chip) : Kept
    0xf800000000000000000002000000000000000000080000000001092bce c (Chip.takeTwinFrame l symErr arrival c) := by
  unfold Chip.takeTwinFrame
  refine Kept.ite ?_ ?_
  · exact Kept.rfl
  · extract_lets x0
    refine Kept.ite ?_ ?_
    · subst x0
      refine Kept.step (Chip.modTwin_kept ..) (by decide) ?_
      exact (Kept.incFld_name .twinCounts 0 0 (Eq.refl _)).mono (by decide)
    · split
      · exact (Chip.takeValid_kept ..).mono (by decide)
      · subst x0
        refine Kept.step (Chip.modTwin_kept ..) (by decide) ?_
        exact (Kept.incFld_name .twinCounts 0 0 (Eq.refl _)).mono (by decide)

theorem Chip.joinGroup_kept (x : Mirror) (c : Chip) : Kept 0x2000000000000000000000000000000000000000000000000000080002 c
    (Chip.joinGroup x c) := by
  unfold Chip.joinGroup
  refine Kept.ite ?_ ?_
  · exact Kept.rfl
  · extract_lets x0
    refine Kept.doIf (fun _ => ?_) ?_
    · exact (Kept.setFld_name .twinProgress 0 0 (Eq.refl _)).mono (by decide)
    · subst x0
      exact (Chip.modTwin_kept ..).mono (by decide)

theorem Chip.takeBlockPacket_kept (l : List Byte) (c : Chip) : Kept
    0x2000000000000000000000000000000000000000000000000000080002 c (Chip.takeBlockPacket l c) := by
  unfold Chip.takeBlockPacket
  extract_lets x0
  refine Kept.ite ?_ ?_
  · exact (Chip.joinGroup_kept ..).mono (by decide)
  · exact Kept.rfl

theorem Chip.takeCommitPacket_kept (l : List Byte) (c : Chip) : Kept
    0x2000000000000000000000000000000000000000000000000000080002 c (Chip.takeCommitPacket l c) := by
  unfold Chip.takeCommitPacket
  exact (Chip.joinGroup_kept ..).mono (by decide)

theorem Chip.takeDirectPacket_kept (l : List Byte) (c : Chip) : Kept
    0x2000000000000000000000000000000000000000000000000000080002 c (Chip.takeDirectPacket l c) := by
  unfold Chip.takeDirectPacket
  exact (Chip.joinGroup_kept ..).mono (by decide)

theorem Chip.takeApplyPacket_kept (l : List Byte) (c : Chip) : Kept 0x80000 c (Chip.takeApplyPacket l c) := by
  unfold Chip.takeApplyPacket
  refine Kept.ite ?_ ?_
  · exact (Chip.modTwin_kept ..).mono (by decide)
  · exact Kept.rfl

theorem Chip.takeCapturePacket_kept (l : List Byte) (c : Chip) : Kept 0x80000 c (Chip.takeCapturePacket l c) := by
  unfold Chip.takeCapturePacket
  exact (Chip.modTwin_kept ..).mono (by decide)

theorem Chip.takeHello_kept (l : List Byte) (at' : BitVec 32) (c : Chip) : Kept
    0xa8000000000000000000020000000000000000000800000000010923c6 c (Chip.takeHello l at' c) := by
  unfold Chip.takeHello
  extract_lets x0 x1 x2 x3
  refine Kept.ite ?_ ?_
  · refine Kept.ite ?_ ?_
    · subst x3
      refine Kept.step (Chip.modTwin_kept ..) (by decide) ?_
      subst x2
      refine Kept.step (Chip.dropOwnEdges_kept ..) (by decide) ?_
      subst x1
      refine Kept.step (Chip.modTwin_kept ..) (by decide) ?_
      refine Kept.step (Kept.setFld_name .twinPartner 0 0 (Eq.refl _)) (by decide) ?_
      refine Kept.step (Kept.setFld_name .twinPartner 0 0 (Eq.refl _)) (by decide) ?_
      exact (Kept.setFld_name .twinPartner 0 0 (Eq.refl _)).mono (by decide)
    · refine Kept.step (Chip.twinFault_kept ..) (by decide) ?_
      refine Kept.step (Chip.isolate_kept ..) (by decide) ?_
      subst x3
      refine Kept.step (Chip.modTwin_kept ..) (by decide) ?_
      subst x2
      refine Kept.step (Chip.dropOwnEdges_kept ..) (by decide) ?_
      subst x1
      refine Kept.step (Chip.modTwin_kept ..) (by decide) ?_
      refine Kept.step (Kept.setFld_name .twinPartner 0 0 (Eq.refl _)) (by decide) ?_
      refine Kept.step (Kept.setFld_name .twinPartner 0 0 (Eq.refl _)) (by decide) ?_
      exact (Kept.setFld_name .twinPartner 0 0 (Eq.refl _)).mono (by decide)
  · subst x2
    refine Kept.step (Chip.dropOwnEdges_kept ..) (by decide) ?_
    subst x1
    refine Kept.step (Chip.modTwin_kept ..) (by decide) ?_
    refine Kept.step (Kept.setFld_name .twinPartner 0 0 (Eq.refl _)) (by decide) ?_
    refine Kept.step (Kept.setFld_name .twinPartner 0 0 (Eq.refl _)) (by decide) ?_
    exact (Kept.setFld_name .twinPartner 0 0 (Eq.refl _)).mono (by decide)

theorem Kept.takePacket {m k : Nat} {b c : Chip} {f : List Byte → BitVec 32 → Chip → Chip} (hm : 524288 &&& m = 524288)
    (hf : ∀ l t d, Kept m d (f l t d)) (h : Kept m b c) : Kept m b (Chip.takePacket k f c) := by
  unfold Chip.takePacket; split
  · split
    · exact (Kept.step (Chip.modTwin_kept ..) hm h).trans (hf _ _ _)
    · exact h
  · exact h

theorem Chip.takeAnyPacket_kept (c : Chip) : Kept 0xa8000000000000000000020000000000000000000800000000010923c6 c
    (Chip.takeAnyPacket c) := by
  unfold Chip.takeAnyPacket
  split
  · extract_lets x0
    split
    · refine Kept.step (Chip.takeBlockPacket_kept ..) (by decide) ?_
      subst x0
      exact (Chip.modTwin_kept ..).mono (by decide)
    · refine Kept.step (Chip.takeCommitPacket_kept ..) (by decide) ?_
      subst x0
      exact (Chip.modTwin_kept ..).mono (by decide)
    · refine Kept.step (Chip.takeDirectPacket_kept ..) (by decide) ?_
      subst x0
      exact (Chip.modTwin_kept ..).mono (by decide)
    · refine Kept.step (Chip.takeApplyPacket_kept ..) (by decide) ?_
      subst x0
      exact (Chip.modTwin_kept ..).mono (by decide)
    · refine Kept.step (Chip.takeCapturePacket_kept ..) (by decide) ?_
      subst x0
      exact (Chip.modTwin_kept ..).mono (by decide)
    · refine Kept.step (Chip.takeHello_kept ..) (by decide) ?_
      subst x0
      exact (Chip.modTwin_kept ..).mono (by decide)
    · subst x0
      exact (Chip.modTwin_kept ..).mono (by decide)
  · exact Kept.rfl

theorem Chip.writeMirror_kept (x : Mirror) (c : Chip) : Kept 0x8000004001480000000002004008701f6090000003000000048109bfc6 c
    (Chip.writeMirror x c) := by
  unfold Chip.writeMirror
  split
  · refine Kept.ite ?_ ?_
    · refine Kept.step (Chip.twinFault_kept ..) (by decide) ?_
      exact (Chip.twinLog_kept ..).mono (by decide)
    · exact (Chip.putBytes_kept ..).mono (by decide)
  · refine Kept.ite ?_ ?_
    · exact (Chip.applyCommit_kept ..).mono (by decide)
    · exact Kept.rfl
  · refine Kept.ite ?_ ?_
    · exact (Chip.applyCommit_kept ..).mono (by decide)
    · exact Kept.rfl

theorem Chip.takeGroup_kept (c : Chip) : Kept 0xa000004001480000000002004008701f6090000003000000048109bfc6 c (Chip.takeGroup
    c) := by
  unfold Chip.takeGroup
  split
  · exact Kept.rfl
  · extract_lets x0 x1 x2 x3 x4
    refine Kept.ite ?_ ?_
    · subst x4
      refine Kept.step (Chip.takeInBlocks_kept ..) (by decide) ?_
      subst x3
      refine Kept.foldl (fun _ _ => ?_) ?_
      · exact (Chip.writeMirror_kept ..).mono (by decide)
      · exact (Chip.modTwin_kept ..).mono (by decide)
    · refine Kept.ite ?_ ?_
      · refine Kept.step (Kept.setFld_name .twinProgress 0 0 (Eq.refl _)) (by decide) ?_
        refine Kept.step (Kept.setFld_name .twinProgress 0 0 (Eq.refl _)) (by decide) ?_
        subst x4
        refine Kept.step (Chip.takeInBlocks_kept ..) (by decide) ?_
        subst x3
        refine Kept.foldl (fun _ _ => ?_) ?_
        · exact (Chip.writeMirror_kept ..).mono (by decide)
        · exact (Chip.modTwin_kept ..).mono (by decide)
      · refine Kept.step (Kept.setFld_name .twinProgress 0 0 (Eq.refl _)) (by decide) ?_
        subst x4
        refine Kept.step (Chip.takeInBlocks_kept ..) (by decide) ?_
        subst x3
        refine Kept.foldl (fun _ _ => ?_) ?_
        · exact (Chip.writeMirror_kept ..).mono (by decide)
        · exact (Chip.modTwin_kept ..).mono (by decide)

end Sys2Proof.Machine
end

