-- ==== Sys2Proof/Laws/KeptEquinox.lean ====
section
/-!
SUPPORT. The frame laws (`Kept`) of the operations of Machine/Equinox.lean.
-/

namespace Sys2Proof.Machine

theorem Chip.sendCapture_kept (c : Chip) : Kept 0x80000 c (Chip.sendCapture c) := by
  unfold Chip.sendCapture
  split
  · refine Kept.ite ?_ ?_
    · exact Kept.rfl
    · extract_lets x0
      exact (Chip.modTwin_kept ..).mono (by decide)
  · exact Kept.rfl

theorem Chip.sendCopy_kept (c : Chip) : Kept 0x80000 c (Chip.sendCopy c) := by
  unfold Chip.sendCopy
  refine Kept.ite ?_ ?_
  · exact Kept.rfl
  · exact (Chip.modTwin_kept ..).mono (by decide)

theorem Chip.applyInput_kept (l : List Byte) (n : Nat) (c : Chip) : Kept 0x8000000000000000000000000000202 c
    (Chip.applyInput l n c) := by
  unfold Chip.applyInput
  extract_lets x0 x1
  refine Kept.step (Chip.modWheel_kept ..) (by decide) ?_
  refine Kept.step (Kept.setFld_name .wheelStatus _ 0 (Eq.refl _)) (by decide) ?_
  exact (Kept.setFld_name .wheelStatus _ 0 (Eq.refl _)).mono (by decide)

theorem Chip.applyPredictor_kept (l : List Byte) (c : Chip) : Kept 0x400 c (Chip.applyPredictor l c) := by
  unfold Chip.applyPredictor
  extract_lets x0 x1 x2 x3 x4 x5 x6
  exact (Chip.modPred_kept ..).mono (by decide)

theorem Chip.showSteps_kept (state : Nat) (dir : Nat) (c : Chip) : Kept 0x40 c (Chip.showSteps state dir c) := by
  unfold Chip.showSteps
  refine Kept.doIf (fun _ => ?_) ?_
  · exact (Chip.raise_kept ..).mono (by decide)
  · refine Kept.doIf (fun _ => ?_) ?_
    · exact (Chip.raise_kept ..).mono (by decide)
    · exact Kept.rfl

theorem Chip.applyCapture_kept (l : List Byte) (c : Chip) : Kept
    0x2000000000800000000000000088000000000000000000000000081642 c (Chip.applyCapture l c) := by
  unfold Chip.applyCapture
  extract_lets x0 x1 x2
  refine Kept.step (Chip.modTwin_kept ..) (by decide) ?_
  refine Kept.step (Kept.setFld_name .twinProgress 0 0 (Eq.refl _)) (by decide) ?_
  refine Kept.step (Kept.setFld_name .twinProgress 0 0 (Eq.refl _)) (by decide) ?_
  refine Kept.step (Kept.setFld_name .twinProgress 0 0 (Eq.refl _)) (by decide) ?_
  subst x2
  refine Kept.step (Chip.modSched_kept ..) (by decide) ?_
  subst x1
  refine Kept.step (Kept.put_name .schedCycle 0 0 (Eq.refl _)) (by decide) ?_
  refine Kept.step (Kept.put_name .predStatus 0 0 (Eq.refl _)) (by decide) ?_
  refine Kept.step (Chip.showSteps_kept ..) (by decide) ?_
  refine Kept.step (Chip.applyPredictor_kept ..) (by decide) ?_
  subst x0
  refine Kept.foldl (fun _ _ => ?_) ?_
  · exact (Chip.applyInput_kept ..).mono (by decide)
  · exact Kept.rfl

theorem Chip.captureTick_kept (c : Chip) : Kept 0x2000000000800000000000000088000000000000000000000000081642 c
    (Chip.captureTick c) := by
  unfold Chip.captureTick
  split
  · exact Kept.rfl
  · extract_lets x0
    refine Kept.ite ?_ ?_
    · refine Kept.step (Chip.applyCapture_kept ..) (by decide) ?_
      subst x0
      exact (Chip.modTwin_kept ..).mono (by decide)
    · subst x0
      exact (Chip.modTwin_kept ..).mono (by decide)

theorem Chip.disagree_kept (n : Nat) (c : Chip) : Kept 0x40000000000000000000020000000000000000000000000000010801c2 c
    (Chip.disagree n c) := by
  unfold Chip.disagree
  extract_lets x0 x1 x2
  refine Kept.ite ?_ ?_
  · refine Kept.step (Chip.twinFault_kept ..) (by decide) ?_
    refine Kept.step (Chip.modTwin_kept ..) (by decide) ?_
    subst x2
    exact (Kept.incFld_name .twinCounts 0 0 (Eq.refl _)).mono (by decide)
  · refine Kept.step (Chip.modTwin_kept ..) (by decide) ?_
    subst x2
    exact (Kept.incFld_name .twinCounts 0 0 (Eq.refl _)).mono (by decide)

theorem Chip.pairTick_kept (before : Nat) (c : Chip) : Kept 0x40000000000000000000020000000000000000000000000000010801c2 c
    (Chip.pairTick before c) := by
  unfold Chip.pairTick
  refine Kept.ite ?_ ?_
  · exact Kept.rfl
  · extract_lets x0 x1 x2 x3 x4
    refine Kept.foldl (fun _ _ => ?_) ?_
    · exact (Chip.disagree_kept ..).mono (by decide)
    · exact (Chip.modTwin_kept ..).mono (by decide)

theorem Chip.resumeHold_kept (k : Nat) (c : Chip) : Kept 0x100000000000000000000000002002 c (Chip.resumeHold k c) := by
  unfold Chip.resumeHold
  extract_lets x0 x1
  refine Kept.ite ?_ ?_
  · refine Kept.step (Chip.showBank_kept ..) (by decide) ?_
    exact (Chip.modInj_kept ..).mono (by decide)
  · exact Kept.rfl

theorem Chip.resumeOutputs_kept (c : Chip) : Kept 0x100000000000000000000000002002 c (Chip.resumeOutputs c) := by
  unfold Chip.resumeOutputs
  extract_lets x0
  refine Kept.foldl (fun _ _ => ?_) ?_
  · exact (Chip.modValve_kept ..).mono (by decide)
  · subst x0
    refine Kept.foldl (fun _ _ => ?_) ?_
    · exact (Chip.resumeHold_kept ..).mono (by decide)
    · exact Kept.rfl

theorem Chip.claimGates_kept (kind : Nat) (detail : Nat) (c : Chip) : Kept
    0xa000000000000000000000000000100000000000080000000000092046 c (Chip.claimGates kind detail c) := by
  unfold Chip.claimGates
  extract_lets x0 x1
  refine Kept.step (Chip.resumeOutputs_kept ..) (by decide) ?_
  refine Kept.step (Chip.modTwin_kept ..) (by decide) ?_
  subst x1
  refine Kept.step (Kept.setFlag_name .twinStatus 0 0 (Eq.refl _)) (by decide) ?_
  refine Kept.step (Kept.setFld_name .twinProgress 0 0 (Eq.refl _)) (by decide) ?_
  refine Kept.step (Kept.setFld_name .twinProgress 0 0 (Eq.refl _)) (by decide) ?_
  exact (Chip.twinMove_kept ..).mono (by decide)

theorem Chip.takeover_kept (c : Chip) : Kept 0xe0000000000000000000020000001000000000000800000000010d21c6 c (Chip.takeover
    c) := by
  unfold Chip.takeover
  refine Kept.ite ?_ ?_
  · exact Kept.rfl
  · extract_lets x0 x1
    refine Kept.doIf (fun _ => ?_) ?_
    · exact (Chip.modRing_kept ..).mono (by decide)
    · subst x1
      refine Kept.step (Chip.twinFault_kept ..) (by decide) ?_
      refine Kept.step (Chip.claimGates_kept ..) (by decide) ?_
      exact (Kept.incFld_name .twinCounts 0 0 (Eq.refl _)).mono (by decide)

theorem Chip.refuseHand_kept (detail : Nat) (c : Chip) : Kept 0x20000000000000000000000000000010001c2 c (Chip.refuseHand
    detail c) := by
  unfold Chip.refuseHand
  exact (Chip.twinFault_kept ..).mono (by decide)

theorem Chip.askHand_kept (free : Bool) (c : Chip) : Kept 0xa0000000000000000000020000001000000000000800000000010921c6 c
    (Chip.askHand free c) := by
  unfold Chip.askHand
  refine Kept.ite ?_ ?_
  · refine Kept.ite ?_ ?_
    · exact (Chip.claimGates_kept ..).mono (by decide)
    · exact (Chip.refuseHand_kept ..).mono (by decide)
  · refine Kept.ite ?_ ?_
    · exact Kept.rfl
    · refine Kept.ite ?_ ?_
      · exact (Chip.refuseHand_kept ..).mono (by decide)
      · refine Kept.ite ?_ ?_
        · exact (Chip.refuseHand_kept ..).mono (by decide)
        · refine Kept.ite ?_ ?_
          · exact (Chip.refuseHand_kept ..).mono (by decide)
          · exact (Chip.modTwin_kept ..).mono (by decide)

theorem Chip.executeHand_kept (c : Chip) : Kept 0xa000000000000000000000000000100000000000080000000000093046 c
    (Chip.executeHand c) := by
  unfold Chip.executeHand
  extract_lets x0
  refine Kept.ite ?_ ?_
  · refine Kept.step (Chip.modTwin_kept ..) (by decide) ?_
    refine Kept.step (Chip.twinMove_kept ..) (by decide) ?_
    subst x0
    exact (Chip.modTwin_kept ..).mono (by decide)
  · refine Kept.ite ?_ ?_
    · refine Kept.step (Chip.modSched_kept ..) (by decide) ?_
      refine Kept.step (Chip.claimGates_kept ..) (by decide) ?_
      subst x0
      exact (Chip.modTwin_kept ..).mono (by decide)
    · subst x0
      exact (Chip.modTwin_kept ..).mono (by decide)

theorem Chip.countHand_kept (c : Chip) : Kept 0x20000000000000000000000000000010801c2 c (Chip.countHand c) := by
  unfold Chip.countHand
  split
  · exact Kept.rfl
  · refine Kept.ite ?_ ?_
    · refine Kept.step (Chip.refuseHand_kept ..) (by decide) ?_
      exact (Chip.modTwin_kept ..).mono (by decide)
    · exact (Chip.modTwin_kept ..).mono (by decide)

theorem Chip.collide_kept (c : Chip) : Kept 0xa0000000000000000000020000000000000000000800000000010921c6 c (Chip.collide c)
    := by
  unfold Chip.collide
  refine Kept.ite ?_ ?_
  · exact Kept.rfl
  · refine Kept.ite ?_ ?_
    · refine Kept.step (Chip.twinFault_kept ..) (by decide) ?_
      exact (Chip.isolate_kept ..).mono (by decide)
    · refine Kept.step (Chip.twinFault_kept ..) (by decide) ?_
      exact (Chip.twinLog_kept ..).mono (by decide)

theorem Chip.commitTwinControl_kept (v : Nat) (free : Bool) (c : Chip) : Kept
    0xa0000000000000000000020000001000000000001800000000010921c6 c (Chip.commitTwinControl v free c) := by
  unfold Chip.commitTwinControl
  extract_lets x0 x1 x2
  refine Kept.ite ?_ ?_
  · refine Kept.step (Chip.isolate_kept ..) (by decide) ?_
    subst x1
    exact (Kept.setFlag_name .twinControl 0 0 (Eq.refl _)).mono (by decide)
  · refine Kept.doIf (fun _ => ?_) ?_
    · exact (Chip.askHand_kept ..).mono (by decide)
    · subst x2
      refine Kept.doIf (fun _ => ?_) ?_
      · exact (Chip.rejoin_kept ..).mono (by decide)
      · subst x1
        exact (Kept.setFlag_name .twinControl 0 0 (Eq.refl _)).mono (by decide)

theorem Chip.writeTwinControl_kept (v : Nat) (phaseG : Bool) (c : Chip) : Kept 0x80000000000000000012 c
    (Chip.writeTwinControl v phaseG c) := by
  unfold Chip.writeTwinControl
  extract_lets x0
  refine Kept.step (Chip.queueTick_kept ..) (by decide) ?_
  subst x0
  refine Kept.ite_snd ?_ ?_
  · exact (Chip.useUnlock_kept ..).mono (by decide)
  · exact Kept.rfl

theorem Chip.keepHits_kept (was : Chip) (due : List (Nat × DWord)) (c : Chip) : Kept 0x100000000000000000000000002 c
    (Chip.keepHits was due c) := by
  unfold Chip.keepHits
  refine Kept.foldl (fun _ _ => ?_) ?_
  · refine Kept.ite ?_ ?_
    · exact (Kept.setFlag_name .resStatus _ 0 (Eq.refl _)).mono (by decide)
    · exact Kept.rfl
  · exact Kept.rfl

theorem Chip.takeCommits_kept (free : Bool) (c : Chip) : Kept 0xa000004001480000000002004008701f609000001b000000048109bfd6 c
    (Chip.takeCommits free c) := by
  unfold Chip.takeCommits
  extract_lets x0 x1 x2
  refine Kept.step (Chip.keepHits_kept ..) (by decide) ?_
  refine Kept.foldl (fun _ _ => ?_) ?_
  · refine Kept.ite ?_ ?_
    · exact (Chip.commitTwinControl_kept ..).mono (by decide)
    · exact (Chip.applyCommit_kept ..).mono (by decide)
  · subst x2
    exact Kept.bus_set.mono (by decide)

theorem Chip.senseOwner_kept (ownIn : Bool) (c : Chip) : Kept 0xa0000000000000000000020000000000000000000800000000010921c6 c
    (Chip.senseOwner ownIn c) := by
  unfold Chip.senseOwner
  extract_lets x0
  refine Kept.doIf (fun _ => ?_) ?_
  · exact (Chip.collide_kept ..).mono (by decide)
  · exact (Kept.setFlag_name .twinStatus 0 0 (Eq.refl _)).mono (by decide)

theorem Chip.twinTick_kept (ownIn : Bool) (ownFree : Bool) (c : Chip) : Kept
    0xe8000000000000000000020000001000000000000800000000010d23c6 c (Chip.twinTick ownIn ownFree c) := by
  unfold Chip.twinTick
  refine Kept.ite ?_ ?_
  · exact Kept.rfl
  · extract_lets x0 x1
    refine Kept.doIf (fun _ => ?_) ?_
    · exact (Chip.takeover_kept ..).mono (by decide)
    · subst x1
      refine Kept.step (Chip.countHand_kept ..) (by decide) ?_
      subst x0
      refine Kept.stepN (fun _ => ?_) ?_
      · exact (Chip.takeAnyPacket_kept ..).mono (by decide)
      · refine Kept.step (Chip.linkTick_kept ..) (by decide) ?_
        exact (Chip.senseOwner_kept ..).mono (by decide)

theorem Chip.takeChanges_kept (free : Bool) (c : Chip) : Kept 0xa000004001c80000000002004088701f609000001b00100004818bbfd6 c
    (Chip.takeChanges free c) := by
  unfold Chip.takeChanges
  extract_lets x0 x1
  refine Kept.step (Chip.captureTick_kept ..) (by decide) ?_
  refine Kept.step (Chip.takeGroup_kept ..) (by decide) ?_
  refine Kept.step (Chip.modTwin_kept ..) (by decide) ?_
  refine Kept.step (Chip.mirrorGroup_kept ..) (by decide) ?_
  subst x1
  refine Kept.step (Chip.takeReturns_kept ..) (by decide) ?_
  refine Kept.step (Chip.calTick_kept ..) (by decide) ?_
  exact (Chip.takeCommits_kept ..).mono (by decide)

theorem Chip.noteTick_kept (c : Chip) : Kept 0x8 c (Chip.noteTick c) := by
  unfold Chip.noteTick
  exact Kept.tb_set.mono (by decide)

theorem Chip.countWrap_kept (c : Chip) : Kept 0x2000000000000000000000000000000000000000000000000000000002 c (Chip.countWrap
    c) := by
  unfold Chip.countWrap
  refine Kept.ite ?_ ?_
  · exact (Kept.setFld_name .twinProgress 0 0 (Eq.refl _)).mono (by decide)
  · exact Kept.rfl

end Sys2Proof.Machine
end

