-- ==== Sys2Proof/Laws/KeptTestPort.lean ====
section
/-!
SUPPORT. The frame laws (`Kept`) of the operations of Machine/TestPort.lean.
-/

namespace Sys2Proof.Machine

theorem Chip.modTap_kept (f : Tap → Tap) (c : Chip) : Kept 0x400000 c (Chip.modTap f c) := by
  unfold Chip.modTap
  exact Kept.tap_set.mono (by decide)

theorem Chip.selectTap_kept (i : TapInstr) (c : Chip) : Kept 0x400000 c (Chip.selectTap i c) := by
  unfold Chip.selectTap
  exact (Chip.modTap_kept ..).mono (by decide)

theorem Chip.scanBoundary_kept (x : Option DrScan) (c : Chip) : Kept 0x400000 c (Chip.scanBoundary x c) := by
  unfold Chip.scanBoundary
  split
  · exact (Chip.modTap_kept ..).mono (by decide)
  · exact Kept.rfl

end Sys2Proof.Machine
end

