-- ==== Sys2Proof/Laws/KeptHostBus.lean ====
section
/-!
SUPPORT. The frame laws (`Kept`) of the operations of Machine/HostBus.lean.
-/

namespace Sys2Proof.Machine

theorem Chip.writeDevUnlock_kept (v : Nat) (c : Chip) : Kept 0x80000000000000000012 c (Chip.writeDevUnlock v c) := by
  unfold Chip.writeDevUnlock
  extract_lets x0 x1 x2 x3
  refine Kept.ite ?_ ?_
  · refine Kept.step Kept.bus_set (by decide) ?_
    subst x1
    refine Kept.doIf (fun _ => ?_) ?_
    · exact (Kept.incFld_name .devUnlock 0 0 (Eq.refl _)).mono (by decide)
    · exact Kept.rfl
  · refine Kept.ite ?_ ?_
    · refine Kept.ite ?_ ?_
      · exact Kept.bus_set.mono (by decide)
      · exact Kept.rfl
    · refine Kept.step Kept.bus_set (by decide) ?_
      subst x1
      refine Kept.doIf (fun _ => ?_) ?_
      · exact (Kept.incFld_name .devUnlock 0 0 (Eq.refl _)).mono (by decide)
      · exact Kept.rfl

theorem Chip.closeUnlock_kept (c : Chip) : Kept 0x10 c (Chip.closeUnlock c) := by
  unfold Chip.closeUnlock
  refine Kept.ite ?_ ?_
  · exact Kept.bus_set.mono (by decide)
  · exact Kept.rfl

theorem Chip.writeDevControl_kept (v : Nat) (c : Chip) : Kept 0x8000000c0000000010883fff7fe c (Chip.writeDevControl v c) :=
    by
  unfold Chip.writeDevControl
  extract_lets x0 x1 x2 x3
  refine Kept.ite ?_ ?_
  · refine Kept.step (Chip.resetWith_kept ..) (by decide) ?_
    subst x3
    refine Kept.doIf (fun _ => ?_) ?_
    · exact (Kept.setFlag_name .devControl 0 0 (Eq.refl _)).mono (by decide)
    · subst x2
      refine Kept.step (Kept.setFlag_name .devControl 0 0 (Eq.refl _)) (by decide) ?_
      refine Kept.step (Kept.setFlag_name .devControl 0 0 (Eq.refl _)) (by decide) ?_
      subst x1
      refine Kept.ite_snd ?_ ?_
      · exact (Chip.useUnlock_kept ..).mono (by decide)
      · exact Kept.rfl
  · subst x3
    refine Kept.doIf (fun _ => ?_) ?_
    · exact (Kept.setFlag_name .devControl 0 0 (Eq.refl _)).mono (by decide)
    · subst x2
      refine Kept.step (Kept.setFlag_name .devControl 0 0 (Eq.refl _)) (by decide) ?_
      refine Kept.step (Kept.setFlag_name .devControl 0 0 (Eq.refl _)) (by decide) ?_
      subst x1
      refine Kept.ite_snd ?_ ?_
      · exact (Chip.useUnlock_kept ..).mono (by decide)
      · exact Kept.rfl

theorem Chip.setNode_kept (n : Nat) (c : Chip) : Kept 0x4000040002 c (Chip.setNode n c) := by
  unfold Chip.setNode
  refine Kept.step (Chip.modRing_kept ..) (by decide) ?_
  refine Kept.step (Kept.setFlag_name .ringAddr 0 0 (Eq.refl _)) (by decide) ?_
  exact (Kept.setFld_name .ringAddr 0 0 (Eq.refl _)).mono (by decide)

theorem Chip.writeRingAddr_kept (v : Nat) (c : Chip) : Kept 0x20008000000000000000000000000000000008020000000440004005a c
    (Chip.writeRingAddr v c) := by
  unfold Chip.writeRingAddr
  extract_lets x0 x1 x2
  refine Kept.ringEvent (by decide) (fun _ => ?_) ?_
  · exact (Chip.listen_kept ..).mono (by decide)
  · refine Kept.doIf (fun _ => ?_) ?_
    · exact (Chip.setNode_kept ..).mono (by decide)
    · subst x2
      refine Kept.step (Kept.setFlag_name .ringAddr 0 0 (Eq.refl _)) (by decide) ?_
      refine Kept.step (Kept.setFlag_name .ringAddr 0 0 (Eq.refl _)) (by decide) ?_
      refine Kept.step (Kept.setFlag_name .ringAddr 0 0 (Eq.refl _)) (by decide) ?_
      subst x1
      refine Kept.ite_snd ?_ ?_
      · exact (Chip.useUnlock_kept ..).mono (by decide)
      · exact Kept.rfl

theorem Chip.writePortDataH_kept (hi : Nat) (phaseG : Bool) (c : Chip) : Kept
    0x10000000000000000000000000000000000000800000000480040056 c (Chip.writePortDataH hi phaseG c) := by
  unfold Chip.writePortDataH
  extract_lets x0 x1 x2
  refine Kept.ite ?_ ?_
  · refine Kept.ringEvent (by decide) (fun _ => ?_) ?_
    · exact (Chip.postWrite_kept ..).mono (by decide)
    · exact Kept.rfl
  · exact (Chip.localCommit_kept ..).mono (by decide)

theorem Chip.portRead_kept (c : Chip) : Kept 0x1000000000000000000000000000000000200000480000002 c (Chip.portRead c).2 := by
  unfold Chip.portRead
  dsimp only
  refine Kept.ite_snd ?_ ?_
  · dsimp only
    refine Kept.step (Chip.portErr_kept ..) (by decide) ?_
    exact (Kept.put_name .portDataH 0 0 (Eq.refl _)).mono (by decide)
  · refine Kept.ite_snd ?_ ?_
    · dsimp only
      refine Kept.step (Chip.portErr_kept ..) (by decide) ?_
      exact (Kept.put_name .portDataH 0 0 (Eq.refl _)).mono (by decide)
    · split
      · dsimp only
        refine Kept.step (Chip.portErr_kept ..) (by decide) ?_
        exact (Kept.put_name .portDataH 0 0 (Eq.refl _)).mono (by decide)
      · dsimp only
        refine Kept.step (Kept.put_name .portDataH 0 0 (Eq.refl _)) (by decide) ?_
        refine Kept.doIf (fun _ => ?_) ?_
        · exact (Kept.setFld_name .cacheStatus 0 0 (Eq.refl _)).mono (by decide)
        · refine Kept.ite ?_ ?_
          · exact Kept.rfl
          · exact (Chip.put_kept ..).mono (by decide)

theorem Chip.ringDoorbell_kept (c : Chip) : Kept 0x800000000000012 c (Chip.ringDoorbell c) := by
  unfold Chip.ringDoorbell
  refine Kept.ite ?_ ?_
  · exact (Kept.setFlag_name .mbxStatus 0 0 (Eq.refl _)).mono (by decide)
  · refine Kept.ite ?_ ?_
    · exact (Kept.setFlag_name .mbxStatus 0 0 (Eq.refl _)).mono (by decide)
    · refine Kept.ite ?_ ?_
      · exact (Kept.setFlag_name .mbxStatus 0 0 (Eq.refl _)).mono (by decide)
      · extract_lets x0 x1
        refine Kept.step Kept.bus_set (by decide) ?_
        subst x0
        exact (Kept.setFlag_name .mbxStatus 0 0 (Eq.refl _)).mono (by decide)

theorem Chip.mailboxCommands_kept : ∀ x ∈ Chip.mailboxCommands, ∀ c, Kept 0x200094000000900687122000000500200000000210000000401b739de c (x.2 c) := by
  simp only [Chip.mailboxCommands, List.forall_mem_cons]
  refine ⟨fun c => ?_, fun c => ?_, fun c => ?_, fun c => ?_, fun c => ?_, fun c => ?_, fun c => ?_, fun c => ?_, fun c => ?_,
    fun c => ?_, fun c => ?_, fun c => ?_, fun x hx => nomatch hx⟩
  · exact (Chip.powerOff_kept ..).mono (by decide)
  · exact (Chip.ringSetTime_kept ..).mono (by decide)
  · exact (Chip.calCommand_kept ..).mono (by decide)
  · exact (Chip.raiseFloor_kept ..).mono (by decide)
  · exact Kept.step (Chip.setReply_kept ..) (by decide) ((Chip.keyAlarm_kept ..).mono (by decide))
  · exact (Chip.serviceGet_kept ..).mono (by decide)
  · exact (Chip.servicePut_kept ..).mono (by decide)
  · exact (Chip.serviceForward_kept ..).mono (by decide)
  · exact (Chip.tagUpdate_kept ..).mono (by decide)
  · exact (Chip.replyJournalInfo_kept ..).mono (by decide)
  · exact (Chip.replyJournalRead_kept ..).mono (by decide)
  · exact (Chip.replyJournalNote_kept ..).mono (by decide)

theorem Chip.executeCommand_kept (c : Chip) : Kept 0x200094000000900687122000000500200000000210000000401b739de c (Chip.executeCommand c) := by
  unfold Chip.executeCommand
  refine Kept.onCommand (by decide) (fun d => ?_) Kept.rfl
  split
  · rename_i x hx
    exact (Chip.mailboxCommands_kept x (List.mem_of_find?_eq_some hx) d).mono (by decide)
  · exact (Chip.setReply_kept ..).mono (by decide)

theorem Chip.sendReply_kept (r : Reply) (c : Chip) : Kept 0x800000001000056 c (Chip.sendReply r c) := by
  unfold Chip.sendReply
  extract_lets x0 x1 x2 x3
  refine Kept.step Kept.bus_set (by decide) ?_
  subst x2
  refine Kept.step (Chip.raise_kept ..) (by decide) ?_
  refine Kept.step (Kept.setFlag_name .mbxStatus 0 0 (Eq.refl _)) (by decide) ?_
  refine Kept.step (Kept.setFlag_name .mbxStatus 0 0 (Eq.refl _)) (by decide) ?_
  subst x1
  refine Kept.step (Kept.setFld_name .mbxStatus 0 0 (Eq.refl _)) (by decide) ?_
  exact (Chip.putWords_kept ..).mono (by decide)

theorem Chip.completeCommand_kept (c : Chip) : Kept 0x200094000000900687122000000500200000000210800000401b739de c
    (Chip.completeCommand c) := by
  unfold Chip.completeCommand
  extract_lets x0
  split
  · refine Kept.ite ?_ ?_
    · refine Kept.step (Chip.sendReply_kept ..) (by decide) ?_
      subst x0
      exact (Chip.executeCommand_kept ..).mono (by decide)
    · subst x0
      exact (Chip.executeCommand_kept ..).mono (by decide)
  · subst x0
    exact (Chip.executeCommand_kept ..).mono (by decide)

theorem Chip.ownResult_kept (b : Nat) (result : Nat) (c : Chip) : Kept 0x10000000000002 c (Chip.ownResult b result c) := by
  unfold Chip.ownResult
  refine Kept.step (Kept.setFlag_name .ownStatus 0 0 (Eq.refl _)) (by decide) ?_
  refine Kept.step (Kept.setFld_name .ownStatus 0 0 (Eq.refl _)) (by decide) ?_
  exact (Kept.setFld_name .ownStatus 0 0 (Eq.refl _)).mono (by decide)

theorem Kept.modWin {c : Chip} {f : Window → Window} (h : WinOk c.win → WinOk (f c.win)) : Kept 25165828 c (Chip.modWin f c) :=
  Kept.win_of h

theorem Chip.takeBlock_kept (b : Nat) (c : Chip) : Kept 0x10000000801202 c (Chip.takeBlock b c) := by
  unfold Chip.takeBlock
  split
  · exact (Chip.ownResult_kept ..).mono (by decide)
  split
  · exact (Chip.ownResult_kept ..).mono (by decide)
  split
  · exact (Chip.ownResult_kept ..).mono (by decide)
  split
  · exact (Chip.ownResult_kept ..).mono (by decide)
  · rename_i _ ht hn _
    extract_lets c1
    refine Kept.step (Chip.ownResult_kept ..) (by decide) ?_
    refine Kept.doIf (fun d => (Chip.takeEvents_kept ..).mono (by decide)) ?_
    refine Kept.doIf (fun d => (Chip.modWheel_kept ..).mono (by decide)) ?_
    refine Kept.mono (m := 8388608) ?_ (by decide)
    refine Kept.own_of (fun h => ⟨h.1, fun x hx => ?_, fun r hr => ?_, fun r hr => ?_⟩) (Eq.refl _) (Eq.refl _) (Eq.refl _)
      (Eq.refl _)
    · rcases List.mem_append.mp hx with hx | hx
      · exact h.2.1 x hx
      · rw [List.mem_singleton] at hx; subst hx; simpa using ht
    · exact h.2.2.1 r (List.mem_filter.mp hr).1
    · obtain ⟨hr, hb⟩ := List.mem_filter.mp hr
      intro hm
      rcases List.mem_append.mp hm with hm | hm
      · exact h.2.2.2 r hr hm
      · rw [List.mem_singleton] at hm; simp [hm] at hb

theorem Chip.returnBlock_kept (b : Nat) (phaseG : Bool) (c : Chip) : Kept 0x10000000800002 c (Chip.returnBlock b phaseG c) := by
  unfold Chip.returnBlock
  split
  · exact (Chip.ownResult_kept ..).mono (by decide)
  split
  · exact (Chip.ownResult_kept ..).mono (by decide)
  split
  · rename_i hb ht ho
    refine Kept.step (Chip.ownResult_kept ..) (by decide) ?_
    have hm : b ∈ c.win.taken := by
      simp only [Chip.hostOwned, Bool.or_eq_true, decide_eq_true_eq, List.contains_eq_mem] at ho
      rcases ho with ho | ho
      · exact absurd ho hb
      · exact ho
    refine Kept.mono (m := 8388608) (Kept.own_of (fun h => ⟨h.1, fun x hx => ?_, fun r hr => ?_, fun r hr => ?_⟩) (Eq.refl _)
      (Eq.refl _) (Eq.refl _) (Eq.refl _)) (by decide)
    · exact h.2.1 x (List.mem_filter.mp hx).1
    · rcases List.mem_append.mp hr with hr | hr
      · exact h.2.2.1 r hr
      · rw [List.mem_singleton] at hr; subst hr; exact h.2.1 b hm
    · rcases List.mem_append.mp hr with hr | hr
      · exact fun hx => h.2.2.2 r hr (List.mem_filter.mp hx).1
      · rw [List.mem_singleton] at hr; subst hr
        intro hx; simpa using (List.mem_filter.mp hx).2
  · exact (Chip.ownResult_kept ..).mono (by decide)

theorem Chip.writeOwnReq_kept (v : Nat) (phaseG : Bool) (c : Chip) : Kept 0x10000000801202 c (Chip.writeOwnReq v phaseG c)
    := by
  unfold Chip.writeOwnReq
  split
  · exact (Chip.takeBlock_kept ..).mono (by decide)
  · exact (Chip.returnBlock_kept ..).mono (by decide)
  · exact Kept.rfl

theorem Chip.performWrite_kept (w : Nat) (v : Nat) (c : Chip) : Kept 0x1000004 c (Chip.performWrite w v c) :=
  (Chip.putWin16_kept ..).trans (Kept.mono (m := 4) (n := 0x1000004) (Kept.latch_of (Eq.refl _) (Eq.refl _) (Eq.refl _) (Eq.refl _)) (by decide))

theorem Chip.byteWrite_kept (w : Nat) (data : Nat) (low : Bool) (c : Chip) : Kept 0x20000000000000000000000000000010009c6 c
    (Chip.byteWrite w data low c) := by
  unfold Chip.byteWrite
  split
  · exact (Chip.performWrite_kept ..).mono (by decide)
  · refine Kept.step (Chip.eccSingle_kept ..) (by decide) ?_
    exact (Chip.performWrite_kept ..).mono (by decide)
  · exact (Chip.eccDouble_kept ..).mono (by decide)
  · extract_lets q
    have hq : Kept 0x20000000000000000000000000000010009c6 c q.2.2 := (Chip.readMany_kept ..).mono (by decide)
    exact Kept.ite (Kept.step (Chip.performWrite_kept ..) (by decide) hq) hq

theorem Chip.windowWrite_kept (w : Nat) (data : Nat) (low : Bool) (high : Bool) (c : Chip) : Kept
    0x20000000000000000000000200000010009c6 c (Chip.windowWrite w data low high c) := by
  unfold Chip.windowWrite
  refine Kept.ite ?_ ?_
  · exact Kept.rfl
  · refine Kept.ite ?_ ?_
    · exact (Kept.incFld_name .ownViolCount 0 0 (Eq.refl _)).mono (by decide)
    · refine Kept.ite ?_ ?_
      · exact (Chip.performWrite_kept ..).mono (by decide)
      · exact (Chip.byteWrite_kept ..).mono (by decide)

theorem Chip.readWord_kept (w : Nat) (detail : Nat) (c : Chip) : Kept 0x20000000000000000000000000000010009c6 c
    (Chip.readWord w detail c).2 := by
  unfold Chip.readWord
  split
  · dsimp only
    exact Kept.rfl
  · dsimp only
    exact (Chip.repair_kept ..).mono (by decide)
  · dsimp only
    exact (Chip.eccDouble_kept ..).mono (by decide)
  · dsimp only
    exact (Chip.readMany_kept ..).mono (by decide)

theorem Chip.windowRead_kept (w : Nat) (c : Chip) : Kept 0x20000000000000000000000000000010009c6 c (Chip.windowRead w c).2 := by
  unfold Chip.windowRead
  split
  · extract_lets p v q
    exact (((Chip.readWord_kept ..).mono (by decide)).trans ((Chip.readWord_kept ..).mono (by decide))).trans
      (Kept.mono (m := 4) (Kept.latch_of (Eq.refl _) (Eq.refl _) (Eq.refl _) (Eq.refl _)) (by decide))
  · split
    · exact Kept.rfl
    · exact (Chip.readWord_kept ..).mono (by decide)

theorem Chip.scrub_kept (w : Nat) (c : Chip) : Kept 0x20000000000000000000000000000010009c6 c (Chip.scrub w c) := by
  unfold Chip.scrub
  refine Kept.ite ?_ ?_
  · exact (Chip.readWord_kept ..).mono (by decide)
  · exact Kept.rfl

theorem Chip.scrubAll_kept (c : Chip) : Kept 0x20000000000000000000000000000010009c6 c (Chip.scrubAll c) := by
  unfold Chip.scrubAll
  refine Kept.foldl (fun _ _ => ?_) ?_
  · exact (Chip.scrub_kept ..).mono (by decide)
  · exact Kept.rfl

theorem Chip.latchSet_kept (p : AngleSet) (c : Chip) : Kept 0xe000000000000002 c (Chip.latchSet p c).2 := by
  unfold Chip.latchSet
  dsimp only
  refine Kept.step (Kept.put_name .syncStatus 0 0 (Eq.refl _)) (by decide) ?_
  refine Kept.step (Kept.put_name .speed 0 0 (Eq.refl _)) (by decide) ?_
  exact (Kept.put_name .angleH 0 0 (Eq.refl _)).mono (by decide)

theorem Chip.angleRead_kept (steps : Nat) (c : Chip) : Kept 0xe000000000000002 c (Chip.angleRead steps c).2 := by
  unfold Chip.angleRead
  exact (Chip.latchSet_kept ..).mono (by decide)

theorem Chip.frameCountRead_kept (c : Chip) : Kept 0x2000000002 c (Chip.frameCountRead c).2 := by
  unfold Chip.frameCountRead
  dsimp only
  exact (Kept.put_name .frameCountH 0 0 (Eq.refl _)).mono (by decide)

theorem Chip.clearRead_kept (a : Nat) (c : Chip) : Kept 0x80000002 c (Chip.clearRead a c).2 := by
  unfold Chip.clearRead
  dsimp only
  exact (Chip.put_kept ..).mono (by decide)

theorem Chip.readDirect_kept (a : Nat) (c : Chip) : Kept 0x100000000000000000000000000000000e204002480000042 c
    (Chip.readDirect a c).2 := by
  unfold Chip.readDirect
  refine Kept.ite_snd ?_ ?_
  · exact (Chip.angleRead_kept ..).mono (by decide)
  · refine Kept.ite_snd ?_ ?_
    · exact (Chip.frameCountRead_kept ..).mono (by decide)
    · refine Kept.ite_snd ?_ ?_
      · exact (Chip.portRead_kept ..).mono (by decide)
      · refine Kept.ite_snd ?_ ?_
        · exact (Chip.claim_kept ..).mono (by decide)
        · refine Kept.ite_snd ?_ ?_
          · exact (Chip.claim_kept ..).mono (by decide)
          · refine Kept.ite_snd ?_ ?_
            · exact (Chip.clearRead_kept ..).mono (by decide)
            · exact Kept.rfl

theorem Chip.snapshot_kept (c : Chip) : Kept 0x3c00000000000000000000000000000000000000000000000000002 c (Chip.snapshot c)
    := by
  unfold Chip.snapshot
  extract_lets x0
  refine Kept.step (Kept.put_name .ringCapFrame 0 0 (Eq.refl _)) (by decide) ?_
  refine Kept.step (Kept.put_name .ringCapEpoch 0 0 (Eq.refl _)) (by decide) ?_
  refine Kept.step (Kept.put_name .ringCapTimeH 0 0 (Eq.refl _)) (by decide) ?_
  exact (Kept.put_name .ringCapTimeL 0 0 (Eq.refl _)).mono (by decide)

theorem Chip.writeInval_kept (v : Nat) (phaseG : Bool) (c : Chip) : Kept 0x10 c (Chip.writeInval v phaseG c) := by
  unfold Chip.writeInval
  extract_lets x0
  refine Kept.ite ?_ ?_
  · exact (Chip.queueTick_kept ..).mono (by decide)
  · exact Kept.rfl

theorem Chip.specialWrites_kept : ∀ x ∈ Chip.specialWrites, ∀ v g c, Kept 0xa213c94000000000200002000000500a000000c1e90815014c83fff7fe c (x.2 v g c) := by
  simp only [Chip.specialWrites, List.cons_append, List.nil_append, List.forall_mem_cons]
  refine ⟨fun v g c => ?_, fun v g c => ?_, fun v g c => ?_, fun v g c => ?_, fun v g c => ?_, fun v g c => ?_, fun v g c => ?_,
    fun v g c => ?_, fun v g c => ?_, fun v g c => ?_, fun v g c => ?_, fun v g c => ?_, fun v g c => ?_, fun v g c => ?_,
    fun v g c => ?_, fun v g c => ?_, fun v g c => ?_, fun v g c => ?_, fun v g c => ?_, fun x hx => nomatch hx⟩
  · exact Kept.doIf (fun d => (Kept.setFld_name .devStatus 0 0 (Eq.refl _)).mono (by decide)) ((Kept.storeMasked_name .devStatus 0 0 (Eq.refl _)).mono (by decide))
  · exact (Chip.writeDevControl_kept ..).mono (by decide)
  · exact (Chip.writeRingAddr_kept ..).mono (by decide)
  · exact (Chip.ackFault_kept ..).mono (by decide)
  · exact (Chip.complete_kept ..).mono (by decide)
  · exact (Chip.complete_kept ..).mono (by decide)
  · exact Kept.step (Chip.samplePins_kept ..) (by decide) ((Kept.storeMasked_name .irqGlobal 0 0 (Eq.refl _)).mono (by decide))
  · exact (Chip.setPend_kept ..).mono (by decide)
  · exact (Chip.writeOwnReq_kept ..).mono (by decide)
  · exact (Chip.writePortDataH_kept ..).mono (by decide)
  · exact Kept.doIf (fun d => (Chip.ringDoorbell_kept ..).mono (by decide)) Kept.rfl
  · exact (Chip.queueTick_kept ..).mono (by decide)
  · exact (Chip.writeInval_kept ..).mono (by decide)
  · exact (Chip.writeTwinControl_kept ..).mono (by decide)
  · exact Kept.ringEvent (by decide) (fun d => (Chip.writeRingControl_kept ..).mono (by decide)) Kept.rfl
  · exact (Chip.writeSafeControl_kept ..).mono (by decide)
  · exact (Chip.wdtKicked_kept ..).mono (by decide)
  · exact (Chip.snapshot_kept ..).mono (by decide)
  · exact (Chip.writeDevUnlock_kept ..).mono (by decide)

theorem Chip.writeDirect_kept (a : Nat) (v : Word) (phaseG : Bool) (c : Chip) : Kept 0xa213c94000000000200002000000500a000000c1e90815014c83fff7fe c (Chip.writeDirect a v phaseG c) := by
  unfold Chip.writeDirect; split
  · rename_i x hx
    exact Chip.specialWrites_kept x (List.mem_of_find?_eq_some hx) v phaseG c
  · exact Kept.ite ((Chip.storeMasked_kept ..).mono (by decide)) Kept.rfl

theorem Chip.busWrite_kept (a : Nat) (v : Word) (low : Bool) (high : Bool) (phaseG : Bool) (c : Chip) : Kept
    0xa213c94000282100240002000000500a001000c1e9083501cc83fffffe c (Chip.busWrite a v low high phaseG c) := by
  unfold Chip.busWrite
  refine Kept.ite ?_ ?_
  · refine Kept.hostWrite ?_
    exact (Chip.windowWrite_kept ..).mono (by decide)
  · refine Kept.ite ?_ ?_
    · exact Kept.rfl
    · refine Kept.ite ?_ ?_
      · exact (Chip.writeLtr_kept ..).mono (by decide)
      · refine Kept.hostWrite ?_
        exact (Chip.writeDirect_kept ..).mono (by decide)

theorem Kept.abortRead {m : Nat} {c : Chip} {f : Chip → Nat × Chip} (hm : 2064 &&& m = 2064) (hf : ∀ d, Kept m d (f d).2) :
    Kept m c (Chip.abortRead f c) := by
  unfold Chip.abortRead; split
  · exact Kept.step (Chip.answer_kept ..) (mask_trans (by decide) hm)
      (Kept.step (Chip.useFree_kept ..) (mask_trans (by decide) hm) (hf c))
  · exact Kept.step (Chip.answer_kept ..) (mask_trans (by decide) hm)
      (Kept.step (Chip.useFree_kept ..) (mask_trans (by decide) hm) Kept.rfl)

theorem Chip.abortAccess_kept (x0 : HostAccess) (x1 : Chip) : Kept 0x100010000000200000000000000000000e2040024810009d6 x1
    (Chip.abortAccess x0 x1) := by
  unfold Chip.abortAccess
  split
  · refine Kept.abortRead (by decide) (fun _ => ?_)
    exact (Chip.readDirect_kept ..).mono (by decide)
  · refine Kept.abortRead (by decide) (fun _ => ?_)
    exact (Chip.windowRead_kept ..).mono (by decide)
  · exact Kept.rfl

end Sys2Proof.Machine
end

