-- ==== Sys2Proof/Laws/KeptFrame.lean ====
section
/-!
SUPPORT. The frame laws (`Kept`) of the operations of Machine/Frame.lean.
-/

namespace Sys2Proof.Machine

theorem Chip.injEdge_kept (k : Nat) (x : Edge) (c : Chip) : Kept 0x40000000000000020000007000000000000100000000810031c6 c
    (Chip.injEdge k x c) := by
  unfold Chip.injEdge
  split
  · exact (Chip.injCut_kept ..).mono (by decide)
  · exact (Chip.injFinish_kept ..).mono (by decide)
  · refine Kept.ite ?_ ?_
    · exact (Chip.injEnd_kept ..).mono (by decide)
    · exact (Chip.injStart_kept ..).mono (by decide)

theorem Chip.valveEdge_kept (v : Nat) (x : Edge) (c : Chip) : Kept 0x4000000000000000000000000000000000010000000000003046 c
    (Chip.valveEdge v x c) := by
  unfold Chip.valveEdge
  split
  · exact (Chip.valveCut_kept ..).mono (by decide)
  · exact (Chip.valveStop_kept ..).mono (by decide)
  · refine Kept.ite ?_ ?_
    · exact (Chip.valveStop_kept ..).mono (by decide)
    · exact (Chip.valveStart_kept ..).mono (by decide)

theorem Chip.tioEdge_kept (k : Nat) (x : Edge) (c : Chip) : Kept 0x4000000000000000000000000000000000010000000000003046 c
    (Chip.tioEdge k x c) := by
  unfold Chip.tioEdge
  split
  · exact (Chip.tioOff_kept ..).mono (by decide)
  · exact (Chip.modTio_kept ..).mono (by decide)
  · refine Kept.ite ?_ ?_
    · exact (Chip.modTio_kept ..).mono (by decide)
    · exact (Chip.modTio_kept ..).mono (by decide)

theorem Chip.convEdgeOf_kept (r : Nat) (x : Edge) (c : Chip) : Kept 0x8000 c (Chip.convEdgeOf r x c) := by
  unfold Chip.convEdgeOf
  refine Kept.ite ?_ ?_
  · exact (Chip.convSync_kept ..).mono (by decide)
  · refine Kept.ite ?_ ?_
    · exact (Chip.convStart_kept ..).mono (by decide)
    · refine Kept.ite ?_ ?_
      · exact Kept.rfl
      · exact (Chip.convEnd_kept ..).mono (by decide)

theorem Chip.driveEdge_kept (x : Edge) (c : Chip) : Kept 0x400000000000000200000070000002500001000000008100f1c6 c
    (Chip.driveEdge x c) := by
  unfold Chip.driveEdge
  refine Kept.ite ?_ ?_
  · exact (Chip.injEdge_kept ..).mono (by decide)
  · refine Kept.ite ?_ ?_
    · exact (Chip.valveEdge_kept ..).mono (by decide)
    · refine Kept.ite ?_ ?_
      · exact (Chip.tioEdge_kept ..).mono (by decide)
      · refine Kept.ite ?_ ?_
        · exact (Chip.triggerTimer_kept ..).mono (by decide)
        · refine Kept.ite ?_ ?_
          · exact (Chip.convEdgeOf_kept ..).mono (by decide)
          · exact (Chip.setPend_kept ..).mono (by decide)

theorem Chip.runEdge_kept (x : Edge) (c : Chip) : Kept 0x400100000000000200000070000002500001000000008100f1ce c
    (Chip.runEdge x c) := by
  unfold Chip.runEdge
  extract_lets x0 x1
  refine Kept.ite ?_ ?_
  · refine Kept.step (Chip.leaveCache_kept ..) (by decide) ?_
    subst x1
    refine Kept.ite ?_ ?_
    · subst x0
      exact (Chip.atStep_kept ..).mono (by decide)
    · refine Kept.step (Chip.driveEdge_kept ..) (by decide) ?_
      subst x0
      exact (Chip.atStep_kept ..).mono (by decide)
  · subst x1
    refine Kept.ite ?_ ?_
    · subst x0
      exact (Chip.atStep_kept ..).mono (by decide)
    · refine Kept.step (Chip.driveEdge_kept ..) (by decide) ?_
      subst x0
      exact (Chip.atStep_kept ..).mono (by decide)

theorem Chip.executeNext_kept (c : Chip) : Kept 0x400100000000000200000070000002500001000000008100f1ce c (Chip.executeNext
    c) := by
  unfold Chip.executeNext
  split
  · exact Kept.rfl
  · extract_lets x0 x1
    refine Kept.step (Chip.runEdge_kept ..) (by decide) ?_
    refine Kept.foldl (fun _ _ => ?_) ?_
    · exact (Chip.shiftEnd_kept ..).mono (by decide)
    · subst x1
      exact (Chip.modSched_kept ..).mono (by decide)

theorem Chip.executeAll_kept (c : Chip) : Kept 0x400100000000000200000070000002500001000000008100f1ce c (Chip.executeAll c)
    := by
  unfold Chip.executeAll
  refine Kept.stepN (fun _ => ?_) ?_
  · exact (Chip.executeNext_kept ..).mono (by decide)
  · exact Kept.rfl

theorem Chip.advance_kept (c : Chip) : Kept 0x48008 c (Chip.advance c) :=
  ⟨id, fun k hk => by cases k <;> first | rfl | exact absurd hk (by decide), fun _ _ _ => Eq.refl _⟩

theorem Chip.trim_kept (c : Chip) : Kept 0x8 c (Chip.trim c) := by
  unfold Chip.trim
  extract_lets x0
  exact Kept.tb_set.mono (by decide)

theorem Chip.countFrame_kept (n : Nat) (c : Chip) : Kept 0x190 c (Chip.countFrame n c) := by
  unfold Chip.countFrame
  extract_lets x0 x1 x2 x3
  refine Kept.ite ?_ ?_
  · refine Kept.step (Chip.modJnl_kept ..) (by decide) ?_
    subst x2
    refine Kept.step Kept.bus_set (by decide) ?_
    subst x0
    exact (Chip.wdtCount_kept ..).mono (by decide)
  · subst x2
    refine Kept.step Kept.bus_set (by decide) ?_
    subst x0
    exact (Chip.wdtCount_kept ..).mono (by decide)

theorem Chip.sampleShunts_kept (v : Vector Byte 6) (c : Chip) : Kept 0x100000000000000000000000000002 c (Chip.sampleShunts v
    c) := by
  unfold Chip.sampleShunts
  refine Kept.foldl (fun _ _ => ?_) ?_
  · exact (Kept.setFld_name .bankStatus _ 0 (Eq.refl _)).mono (by decide)
  · exact Kept.rfl

theorem Chip.runA_kept (before : Nat) (c : Chip) : Kept 0x2000000000000000000002004798000000000000000000000001080fe6 c
    (Chip.runA before c) := by
  unfold Chip.runA
  refine Kept.step (Chip.countWrap_kept ..) (by decide) ?_
  refine Kept.step (Chip.sendCapture_kept ..) (by decide) ?_
  refine Kept.step (Chip.checkPasses_kept ..) (by decide) ?_
  refine Kept.step (Chip.phaseA_kept ..) (by decide) ?_
  exact (Chip.takeEdges_kept ..).mono (by decide)

theorem Chip.missA_kept (c : Chip) : Kept 0x1400 c (Chip.missA c) := by
  unfold Chip.missA
  refine Kept.step (Chip.skipE_kept ..) (by decide) ?_
  exact (Chip.modPred_kept ..).mono (by decide)

theorem Chip.missE_kept (c : Chip) : Kept 0x800000000000000000000000000000000000000000001402 c (Chip.missE c) := by
  unfold Chip.missE
  refine Kept.step (Chip.skipE_kept ..) (by decide) ?_
  refine Kept.step (Chip.modPred_kept ..) (by decide) ?_
  exact (Chip.countCycle_kept ..).mono (by decide)

theorem Chip.overrun_kept (unit : Nat) (c : Chip) : Kept 0xa0000140000000000000020000005002000000000900000004010931ce c
    (Chip.overrun unit c) := by
  unfold Chip.overrun
  extract_lets x0 x1 x2
  refine Kept.doIf (fun _ => ?_) ?_
  · exact (Chip.faultF3_kept ..).mono (by decide)
  · subst x2
    refine Kept.step Kept.tb_set (by decide) ?_
    subst x0
    refine Kept.step (Chip.fault_kept ..) (by decide) ?_
    exact (Chip.raise_kept ..).mono (by decide)

theorem Chip.phases_kept (lost : Option Phase) (before : Nat) (c : Chip) : Kept
    0xa00003ffff800000000002004798500a00000000090000000401093fee c (Chip.phases lost before c) := by
  unfold Chip.phases
  split
  · refine Kept.step (Chip.overrun_kept ..) (by decide) ?_
    exact (Chip.missA_kept ..).mono (by decide)
  · refine Kept.step (Chip.overrun_kept ..) (by decide) ?_
    refine Kept.step (Chip.missE_kept ..) (by decide) ?_
    exact (Chip.runA_kept ..).mono (by decide)
  · refine Kept.step (Chip.overrun_kept ..) (by decide) ?_
    refine Kept.step (Chip.phaseEOnly_kept ..) (by decide) ?_
    exact (Chip.runA_kept ..).mono (by decide)
  · refine Kept.step (Chip.overrun_kept ..) (by decide) ?_
    refine Kept.step (Chip.phaseEOnly_kept ..) (by decide) ?_
    exact (Chip.runA_kept ..).mono (by decide)
  · extract_lets x0 x1
    refine Kept.step Kept.tb_set (by decide) ?_
    subst x0
    refine Kept.step (Chip.phaseE_kept ..) (by decide) ?_
    exact (Chip.runA_kept ..).mono (by decide)

theorem Chip.qualTick_kept (lapse : Bool) (c : Chip) : Kept 0x800000000000000000000000000000080a c (Chip.qualTick lapse c)
    := by
  unfold Chip.qualTick
  extract_lets x0 x1 x2 x3 x4
  refine Kept.ite ?_ ?_
  · subst x2
    refine Kept.ite ?_ ?_
    · subst x1
      exact Kept.tb_set.mono (by decide)
    · refine Kept.ite ?_ ?_
      · refine Kept.step (Kept.setFld_name .clockMon 0 0 (Eq.refl _)) (by decide) ?_
        subst x1
        exact Kept.tb_set.mono (by decide)
      · refine Kept.step (Kept.setFld_name .clockMon 0 0 (Eq.refl _)) (by decide) ?_
        refine Kept.step (Chip.useFree_kept ..) (by decide) ?_
        subst x1
        exact Kept.tb_set.mono (by decide)
  · refine Kept.step (Kept.setFld_name .clockMon 0 0 (Eq.refl _)) (by decide) ?_
    refine Kept.step Kept.tb_set (by decide) ?_
    subst x2
    refine Kept.ite ?_ ?_
    · subst x1
      exact Kept.tb_set.mono (by decide)
    · refine Kept.ite ?_ ?_
      · refine Kept.step (Kept.setFld_name .clockMon 0 0 (Eq.refl _)) (by decide) ?_
        subst x1
        exact Kept.tb_set.mono (by decide)
      · refine Kept.step (Kept.setFld_name .clockMon 0 0 (Eq.refl _)) (by decide) ?_
        refine Kept.step (Chip.useFree_kept ..) (by decide) ?_
        subst x1
        exact Kept.tb_set.mono (by decide)

theorem Chip.renew_kept (lapse : Bool) (c : Chip) : Kept 0x80000000002008000000120900000000000020001008dce c (Chip.renew
    lapse c) := by
  unfold Chip.renew
  refine Kept.step (Chip.qualTick_kept ..) (by decide) ?_
  refine Kept.step (Chip.showConv_kept ..) (by decide) ?_
  refine Kept.step (Chip.showBoost_kept ..) (by decide) ?_
  refine Kept.step (Chip.refreshSupply_kept ..) (by decide) ?_
  exact (Chip.settleAngles_kept ..).mono (by decide)

theorem Chip.tickEffects_kept (t : TickInput) (c : Chip) : Kept 0xe800014001c80000000002004088701f609000001b00100004818fbfd6
    c (Chip.tickEffects t c) := by
  unfold Chip.tickEffects
  extract_lets x0 x1
  refine Kept.step (Chip.armTick_kept ..) (by decide) ?_
  refine Kept.step (Chip.clearLatch_kept ..) (by decide) ?_
  refine Kept.step (Chip.takeChanges_kept ..) (by decide) ?_
  subst x1
  refine Kept.doIf (fun _ => ?_) ?_
  · exact (Chip.executeHand_kept ..).mono (by decide)
  · subst x0
    refine Kept.step (Chip.twinTick_kept ..) (by decide) ?_
    exact (Chip.handOver_kept ..).mono (by decide)

theorem Chip.afterWake_kept (c : Chip) : Kept 0x18080 c (Chip.afterWake c) := by
  unfold Chip.afterWake
  refine Kept.ite ?_ ?_
  · exact Kept.rfl
  · extract_lets x0
    refine Kept.doIf (fun _ => ?_) ?_
    · exact (Chip.wdtStart_kept ..).mono (by decide)
    · subst x0
      refine Kept.step (Chip.modConv_kept ..) (by decide) ?_
      exact (Chip.modPower_kept ..).mono (by decide)

theorem Chip.executeBefore_kept (k : Int) (c : Chip) : Kept 0x400100000000000200000070000002500001000000008100f1ce c
    (Chip.executeBefore k c) := by
  unfold Chip.executeBefore
  refine Kept.stepN (fun _ => ?_) ?_
  · split
    · refine Kept.ite ?_ ?_
      · exact (Chip.executeNext_kept ..).mono (by decide)
      · exact Kept.rfl
    · exact Kept.rfl
  · exact Kept.rfl

theorem Chip.finishFrame_kept (n : Nat) (c : Chip) : Kept 0x40010000000000020000007000000edf0001000000048100f1de c
    (Chip.finishFrame n c) := by
  unfold Chip.finishFrame
  extract_lets x0
  refine Kept.step (Chip.executeAll_kept ..) (by decide) ?_
  refine Kept.foldl (fun _ _ => ?_) ?_
  · refine Kept.step (Chip.nextEdge_kept ..) (by decide) ?_
    exact (Chip.executeBefore_kept ..).mono (by decide)
  · exact Kept.rfl

theorem Chip.frameTick_kept (t : TickInput) (c : Chip) : Kept 0xe80003ffffc8010000000200c798701f609edf001b0010020483affffe c
    (Chip.frameTick t c) := by
  unfold Chip.frameTick
  extract_lets x0 x1 x2 x3
  refine Kept.step (Chip.tagPoll_kept ..) (by decide) ?_
  refine Kept.step (Chip.renew_kept ..) (by decide) ?_
  refine Kept.step (Chip.phases_kept ..) (by decide) ?_
  refine Kept.step Kept.pubOld_set (by decide) ?_
  subst x3
  refine Kept.step (Chip.trim_kept ..) (by decide) ?_
  refine Kept.step (Chip.sendTwin_kept ..) (by decide) ?_
  refine Kept.step (Chip.sendCopy_kept ..) (by decide) ?_
  refine Kept.step (Chip.pairTick_kept ..) (by decide) ?_
  subst x2
  refine Kept.step (Chip.tickEffects_kept ..) (by decide) ?_
  refine Kept.step (Chip.afterWake_kept ..) (by decide) ?_
  subst x1
  refine Kept.step (Chip.countFrame_kept ..) (by decide) ?_
  refine Kept.step (Chip.noteTick_kept ..) (by decide) ?_
  refine Kept.step (Chip.sampleShunts_kept ..) (by decide) ?_
  refine Kept.step (Chip.advance_kept ..) (by decide) ?_
  subst x0
  refine Kept.step (Chip.finishFrame_kept ..) (by decide) ?_
  exact (Chip.formDigest_kept ..).mono (by decide)

theorem Chip.firstTick_kept (c : Chip) : Kept 0xa00003ffffc8000000000200c798701f609000001b001003048189bffe c (Chip.firstTick
    c) := by
  unfold Chip.firstTick
  refine Kept.ite ?_ ?_
  · exact Kept.rfl
  · extract_lets x0 x1 x2 x3 x4 x5 x6 x7 x8 x9 x10
    refine Kept.step (Chip.samplePins_kept ..) (by decide) ?_
    refine Kept.step (Chip.renew_kept ..) (by decide) ?_
    refine Kept.step (Chip.phases_kept ..) (by decide) ?_
    refine Kept.step (Chip.noteTick_kept ..) (by decide) ?_
    refine Kept.step (Chip.clearLatch_kept ..) (by decide) ?_
    subst x10
    refine Kept.ite ?_ ?_
    · refine Kept.step (Chip.takeInBlocks_kept ..) (by decide) ?_
      subst x9
      refine Kept.foldl (fun _ _ => ?_) ?_
      · exact (Chip.endReturn_kept ..).mono (by decide)
      · subst x7
        refine Kept.step (Chip.takeCommits_kept ..) (by decide) ?_
        subst x6
        refine Kept.doIf (fun _ => ?_) ?_
        · exact (Chip.wdtStart_kept ..).mono (by decide)
        · refine Kept.step Kept.tb_set (by decide) ?_
          subst x4
          refine Kept.step (Chip.setPower_kept ..) (by decide) ?_
          subst x3
          refine Kept.step (Kept.setFlag_name .devStatus 0 0 (Eq.refl _)) (by decide) ?_
          refine Kept.step Kept.tb_set (by decide) ?_
          subst x1
          refine Kept.doIf (fun _ => ?_) ?_
          · exact (Chip.scrubAll_kept ..).mono (by decide)
          · exact Kept.rfl
    · subst x3
      refine Kept.step (Kept.setFlag_name .devStatus 0 0 (Eq.refl _)) (by decide) ?_
      refine Kept.step Kept.tb_set (by decide) ?_
      subst x1
      refine Kept.doIf (fun _ => ?_) ?_
      · exact (Chip.scrubAll_kept ..).mono (by decide)
      · exact Kept.rfl

end Sys2Proof.Machine
end

