-- ==== Sys2Proof/Laws/KeptExec.lean ====
section
/-!
SUPPORT. Every command completes, with its frame: the components that it may change, and that it keeps the block sound.
-/

namespace Sys2Proof.Machine

theorem execPowerOnReset_kept (twinSel : Bool) (s : State) : RunsKept 0x800000040000000010083fff7fe s (execPowerOnReset
    twinSel s) := by
  refine RunsKept.of_run ?_
  refine Kept.step (Chip.modTwin_kept ..) (by decide) ?_
  exact (Chip.resetWith_kept ..).mono (by decide)

theorem execBrownout_kept (s : State) : RunsKept 0x800000040000000010083fff7fe s (execBrownout s) := by
  refine RunsKept.of_run ?_
  exact (Chip.hardReset_kept ..).mono (by decide)

theorem execPinReset_kept (s : State) : RunsKept 0x200080000282000040002000000000800100040200000010483fff7fe s (execPinReset
    s) := by
  refine RunsKept.of_run ?_
  refine Kept.ite ?_ ?_
  · exact (Chip.wakeBy_kept ..).mono (by decide)
  · exact (Chip.resetWith_kept ..).mono (by decide)

theorem execSoftReset_kept (s : State) : RunsKept 0x8000000c0000000010083fff7fe s (execSoftReset s) := by
  refine RunsKept.of_run ?_
  refine Kept.hostWrite ?_
  refine Kept.ite ?_ ?_
  · exact (Chip.resetWith_kept ..).mono (by decide)
  · exact (Chip.useUnlock_kept ..).mono (by decide)

theorem execLockstepReset_kept (s : State) : RunsKept 0x800000040000000010083fff7fe s (execLockstepReset s) := by
  refine RunsKept.of_run ?_
  exact (Chip.hardReset_kept ..).mono (by decide)

theorem execClockLossReset_kept (s : State) : RunsKept 0x800000040000000010083fff7fe s (execClockLossReset s) := by
  refine RunsKept.of_run ?_
  exact (Chip.hardReset_kept ..).mono (by decide)

theorem execThermalReset_kept (s : State) : RunsKept 0x800000040000000010083fff7fe s (execThermalReset s) := by
  refine RunsKept.of_run ?_
  exact (Chip.hardReset_kept ..).mono (by decide)

theorem execRetainWake_kept (s : State) : RunsKept 0x800000040000000010083fff7fe s (execRetainWake s) := by
  refine RunsKept.of_run ?_
  refine Kept.ite ?_ ?_
  · exact (Chip.resetWith_kept ..).mono (by decide)
  · exact Kept.rfl

theorem execResetRelease_kept (s : State) : RunsKept 0xa00003ffffc8000000000200c798701f609000001b001003048189bffe s
    (execResetRelease s) := by
  refine RunsKept.of_run ?_
  exact (Chip.firstTick_kept ..).mono (by decide)

theorem execBootComplete_kept (s : State) (patch : Bool) : RunsKept
    0x2000800002807000440020000000000000000002000000204011701ca s (execBootComplete s patch) := by
  refine RunsKept.of_run ?_
  exact (Chip.bootDone_kept ..).mono (by decide)

theorem execClockFallback_kept (s : State) : RunsKept 0x20080000000000000000000000004010009ca s (execClockFallback s) := by
  refine RunsKept.of_run ?_
  refine Kept.ite ?_ ?_
  · refine Kept.step (Chip.switchClock_kept ..) (by decide) ?_
    refine Kept.step (Chip.fault_kept ..) (by decide) ?_
    refine Kept.step (Kept.setFld_name .clockMon 0 0 (Eq.refl _)) (by decide) ?_
    refine Kept.step (Kept.incFld_name .clockMon 0 0 (Eq.refl _)) (by decide) ?_
    exact (Kept.setFlag_name .devStatus 0 0 (Eq.refl _)).mono (by decide)
  · exact Kept.rfl

theorem execClockRestored_kept (s : State) : RunsKept 0x20080000000000000000000000004010009ca s (execClockRestored s) := by
  refine RunsKept.of_run ?_
  refine Kept.ite ?_ ?_
  · exact Kept.rfl
  · refine Kept.step (Chip.switchClock_kept ..) (by decide) ?_
    refine Kept.step (Chip.fault_kept ..) (by decide) ?_
    refine Kept.step (Kept.setFld_name .clockMon 0 0 (Eq.refl _)) (by decide) ?_
    exact (Kept.setFlag_name .devStatus 0 0 (Eq.refl _)).mono (by decide)

theorem execDebugHalt_kept (s : State) : RunsKept 0x400000002 s (execDebugHalt s) := by
  refine RunsKept.of_run ?_
  refine Kept.ite ?_ ?_
  · exact Kept.rfl
  · exact (Kept.setFlag_name .devStatus 0 0 (Eq.refl _)).mono (by decide)

theorem execDebugResume_kept (s : State) : RunsKept 0x300004000000000000800000040000000010483fff7fe s (execDebugResume s) :=
    by
  refine RunsKept.of_run ?_
  refine Kept.ite ?_ ?_
  · exact Kept.rfl
  · refine Kept.step (Chip.resetWhenSent_kept ..) (by decide) ?_
    refine Kept.step (Chip.resumeTag_kept ..) (by decide) ?_
    refine Kept.step (Chip.restoreKek_kept ..) (by decide) ?_
    exact (Kept.setFlag_name .devStatus 0 0 (Eq.refl _)).mono (by decide)

theorem execFrameTick_kept (t : TickInput) (s : State) : RunsKept
    0xe80003ffffc8010000000200c798701f609edf001b0010020483affffe s (execFrameTick t s) := by
  refine RunsKept.of_run ?_
  refine Kept.ite ?_ ?_
  · exact (Chip.frameTick_kept ..).mono (by decide)
  · exact Kept.rfl

theorem execFrameOverrunPersist_kept (s : State) : RunsKept 0xa0000140000000000000020000005002000000000900000004010931ce s
    (execFrameOverrunPersist s) := by
  refine RunsKept.of_run ?_
  refine Kept.ite ?_ ?_
  · exact Kept.rfl
  · refine Kept.step (Chip.faultF3_kept ..) (by decide) ?_
    exact Kept.tb_set.mono (by decide)

theorem execCommitTakeEffect_kept (s : State) : RunsKept 0xa000004001480000000002004008701f609000001b000000048109bfd6 s
    (execCommitTakeEffect s) := by
  refine RunsKept.of_run ?_
  refine Kept.ite ?_ ?_
  · refine Kept.mirrorsOf (by decide) (fun _ => ?_) ?_
    · exact (Chip.takeCommits_kept ..).mono (by decide)
    · exact Kept.rfl
  · exact Kept.rfl

theorem execBlockReturnTakeEffect_kept (s : State) : RunsKept 0x4001000000000002004008000000000000010010000001881fc6 s
    (execBlockReturnTakeEffect s) := by
  refine RunsKept.of_run ?_
  refine Kept.ite ?_ ?_
  · refine Kept.mirrorsOf (by decide) (fun _ => ?_) ?_
    · exact (Chip.takeReturns_kept ..).mono (by decide)
    · exact Kept.rfl
  · exact Kept.rfl

theorem execOutputEdgeExecute_kept (s : State) : RunsKept 0x400100000000000200000070000002500001000000008100f1ce s
    (execOutputEdgeExecute s) := by
  refine RunsKept.of_run ?_
  refine Kept.ite ?_ ?_
  · exact (Chip.executeNext_kept ..).mono (by decide)
  · exact Kept.rfl

theorem execTimeModeEndDue_kept (i : BitVec 11) (s : State) : RunsKept
    0x14004000000000000000000000000000000010000000000003046 s (execTimeModeEndDue i s) := by
  refine RunsKept.of_run ?_
  refine Kept.ite ?_ ?_
  · exact (Chip.commitTimeEnd_kept ..).mono (by decide)
  · exact Kept.rfl

theorem execWindowWrite_kept (w : BitVec 16) (data : Word) (be0 : Bool) (be1 : Bool) (s : State) : RunsKept
    0x20000000000000000000000200000010009c6 s (execWindowWrite w data be0 be1 s) := by
  refine RunsKept.of_run ?_
  refine Kept.hostWrite ?_
  exact (Chip.windowWrite_kept ..).mono (by decide)

theorem execWindowRead_kept (w : BitVec 16) (s : State) : RunsKept 0x20000000000000000000000000000010009d6 s (execWindowRead
    w s) := by
  refine RunsKept.of_run ?_
  refine Kept.hostRead (by decide) ?_
  exact (Chip.windowRead_kept ..).mono (by decide)

theorem execScrubberRead_kept (w : BitVec 16) (s : State) : RunsKept 0x20000000000000000000000000000010009c6 s
    (execScrubberRead w s) := by
  refine RunsKept.of_run ?_
  refine Kept.ite ?_ ?_
  · exact (Chip.scrub_kept ..).mono (by decide)
  · exact Kept.rfl

theorem execAngleLRead_kept (s : State) (steps : Fin 401) : RunsKept 0xe000000000000012 s (execAngleLRead s steps) := by
  refine RunsKept.of_run ?_
  refine Kept.hostRead (by decide) ?_
  exact (Chip.angleRead_kept ..).mono (by decide)

theorem execFrameCountLRead_kept (s : State) : RunsKept 0x2000000012 s (execFrameCountLRead s) := by
  refine RunsKept.of_run ?_
  refine Kept.hostRead (by decide) ?_
  exact (Chip.frameCountRead_kept ..).mono (by decide)

theorem execPortDataLWrite_kept (data : Word) (s : State) : RunsKept 0x100000000000002 s (execPortDataLWrite data s) := by
  refine RunsKept.of_run ?_
  refine Kept.hostWrite ?_
  exact (Kept.put_name .portDataL 0 0 (Eq.refl _)).mono (by decide)

theorem execPortCommit_kept (hi : Word) (phaseG : Bool) (s : State) : RunsKept
    0x10000000000000000000000000000000000000800000000480040056 s (execPortCommit hi phaseG s) := by
  refine RunsKept.of_run ?_
  refine Kept.hostWrite ?_
  exact (Chip.writePortDataH_kept ..).mono (by decide)

theorem execRemoteWritePost_kept (hi : Word) (phaseG : Bool) (s : State) : RunsKept
    0x10000000000000000000000000000000000000800000000480040056 s (execRemoteWritePost hi phaseG s) := by
  refine RunsKept.of_run ?_
  refine Kept.hostWrite ?_
  exact (Chip.writePortDataH_kept ..).mono (by decide)

theorem execPortRead_kept (s : State) : RunsKept 0x1000000000000000000000000000000000200000480000012 s (execPortRead s) := by
  refine RunsKept.of_run ?_
  refine Kept.hostRead (by decide) ?_
  exact (Chip.portRead_kept ..).mono (by decide)

theorem execUnlockFirstKey_kept (s : State) : RunsKept 0x80000000000000000012 s (execUnlockFirstKey s) := by
  refine RunsKept.of_run ?_
  refine Kept.hostWrite ?_
  exact (Chip.writeDevUnlock_kept ..).mono (by decide)

theorem execUnlockSecondKey_kept (s : State) : RunsKept 0x80000000000000000012 s (execUnlockSecondKey s) := by
  refine RunsKept.of_run ?_
  refine Kept.hostWrite ?_
  exact (Chip.writeDevUnlock_kept ..).mono (by decide)

theorem execUnlockWrongKey_kept (data : Word) (s : State) : RunsKept 0x80000000000000000012 s (execUnlockWrongKey data s) :=
    by
  refine RunsKept.of_run ?_
  refine Kept.hostWrite ?_
  exact (Chip.writeDevUnlock_kept ..).mono (by decide)

theorem execUnlockWindowExpire_kept (s : State) : RunsKept 0x10 s (execUnlockWindowExpire s) := by
  refine RunsKept.of_run ?_
  refine Kept.ite ?_ ?_
  · exact (Chip.closeUnlock_kept ..).mono (by decide)
  · exact Kept.rfl

theorem execRegisterWrite_kept (a : BitVec 18) (data : Word) (be0 : Bool) (be1 : Bool) (phaseG : Bool) (s : State) :
    RunsKept 0xa213c94000282100240002000000500a001000c1e9083501cc83fffffe s (execRegisterWrite a data be0 be1 phaseG s) := by
  refine RunsKept.of_run ?_
  exact (Chip.busWrite_kept ..).mono (by decide)

theorem execHostAccessAbort_kept (access : HostAccess) (s : State) : RunsKept
    0x100010000000200000000000000000000e2040024810009d6 s (execHostAccessAbort access s) := by
  refine RunsKept.of_run ?_
  exact (Chip.abortAccess_kept ..).mono (by decide)

theorem execBlockTake_kept (b : Fin 512) (s : State) : RunsKept 0x10000000801202 s (execBlockTake b s) := by
  refine RunsKept.of_run ?_
  refine Kept.hostWrite ?_
  exact (Chip.takeBlock_kept ..).mono (by decide)

theorem execBlockReturn_kept (b : Fin 512) (phaseG : Bool) (s : State) : RunsKept 0x10000000800002 s (execBlockReturn b
    phaseG s) := by
  refine RunsKept.of_run ?_
  refine Kept.hostWrite ?_
  exact (Chip.returnBlock_kept ..).mono (by decide)

theorem execOwnViolCountRead_kept (s : State) : RunsKept 0x80000012 s (execOwnViolCountRead s) := by
  refine RunsKept.of_run ?_
  refine Kept.hostRead (by decide) ?_
  exact (Chip.clearRead_kept ..).mono (by decide)

theorem execIrqAnomalyCountRead_kept (s : State) : RunsKept 0x80000012 s (execIrqAnomalyCountRead s) := by
  refine RunsKept.of_run ?_
  refine Kept.hostRead (by decide) ?_
  exact (Chip.clearRead_kept ..).mono (by decide)

theorem execTimeSnapshot_kept (steps : Fin 401) (s : State) : RunsKept
    0x3c0000000000000000000000000000000000000000000000000000a s (execTimeSnapshot steps s) := by
  refine RunsKept.of_run ?_
  refine Kept.hostWrite ?_
  refine Kept.step (Chip.snapshot_kept ..) (by decide) ?_
  exact (Chip.atStep_kept ..).mono (by decide)

theorem execLtrWrite_kept (data : Word) (s : State) : RunsKept 0x2000800002821000400020000000000001000002000000184011541ca s
    (execLtrWrite data s) := by
  refine RunsKept.of_run ?_
  exact (Chip.writeLtr_kept ..).mono (by decide)

theorem execInvalBlock_kept (data : Word) (phaseG : Bool) (s : State) : RunsKept 0x10 s (execInvalBlock data phaseG s) := by
  refine RunsKept.of_run ?_
  refine Kept.hostWrite ?_
  exact (Chip.writeInval_kept ..).mono (by decide)

theorem execSchedControlWrite_kept (data : Word) (phaseG : Bool) (s : State) : RunsKept 0x10 s (execSchedControlWrite data
    phaseG s) := by
  refine RunsKept.of_run ?_
  refine Kept.hostWrite ?_
  exact (Chip.queueTick_kept ..).mono (by decide)

theorem execRingAddrWrite_kept (data : Word) (s : State) : RunsKept
    0x20008000000000000000000000000000000008020000000440004005a s (execRingAddrWrite data s) := by
  refine RunsKept.of_run ?_
  refine Kept.hostWrite ?_
  exact (Chip.writeRingAddr_kept ..).mono (by decide)

theorem execTestPortDisable_kept (s : State) : RunsKept 0x8000000c0000000010883fff7fe s (execTestPortDisable s) := by
  refine RunsKept.of_run ?_
  refine Kept.hostWrite ?_
  exact (Chip.writeDevControl_kept ..).mono (by decide)

theorem execJournalInfo_kept (s : State) : RunsKept 0x20000000000000000000000000000010009d6 s (execJournalInfo s) := by
  refine RunsKept.of_run ?_
  refine Kept.withCommand (by decide) (fun _ => ?_) ?_
  · exact (Chip.replyJournalInfo_kept ..).mono (by decide)
  · exact Kept.rfl

theorem execJournalRead_kept (s : State) : RunsKept 0x20000000000000000000000000000010009d6 s (execJournalRead s) := by
  refine RunsKept.of_run ?_
  refine Kept.withCommand (by decide) (fun _ => ?_) ?_
  · exact (Chip.replyJournalRead_kept ..).mono (by decide)
  · exact Kept.rfl

theorem execJournalNote_kept (s : State) : RunsKept 0x20000000000000000000000000000010009d6 s (execJournalNote s) := by
  refine RunsKept.of_run ?_
  refine Kept.withCommand (by decide) (fun _ => ?_) ?_
  · exact (Chip.replyJournalNote_kept ..).mono (by decide)
  · exact Kept.rfl

theorem execPowerOff_kept (s : State) : RunsKept 0x2000940000001000000020000005002000000002100000004012539de s (execPowerOff
    s) := by
  refine RunsKept.of_run ?_
  refine Kept.withCommand (by decide) (fun _ => ?_) ?_
  · exact (Chip.powerOff_kept ..).mono (by decide)
  · exact Kept.rfl

theorem execRingSetTime_kept (s : State) : RunsKept 0x20000000000000000000000000000010409d6 s (execRingSetTime s) := by
  refine RunsKept.of_run ?_
  refine Kept.withCommand (by decide) (fun _ => ?_) ?_
  · exact (Chip.ringSetTime_kept ..).mono (by decide)
  · exact Kept.rfl

theorem execCalApply_kept (s : State) : RunsKept 0x20000000000000000000000000000018209d6 s (execCalApply s) := by
  refine RunsKept.of_run ?_
  refine Kept.withCommand (by decide) (fun _ => ?_) ?_
  · exact (Chip.calCommand_kept ..).mono (by decide)
  · exact Kept.rfl

theorem execCalApplyTick_kept (s : State) : RunsKept 0x4001480000000002004008701f609000000300100004818bbfd6 s
    (execCalApplyTick s) := by
  refine RunsKept.of_run ?_
  refine Kept.ite ?_ ?_
  · refine Kept.mirrorsOf (by decide) (fun _ => ?_) ?_
    · exact (Chip.calTick_kept ..).mono (by decide)
    · exact Kept.rfl
  · exact Kept.rfl

theorem execCalRaiseFloor_kept (s : State) : RunsKept 0x20000000000000000000000000000010209d6 s (execCalRaiseFloor s) := by
  refine RunsKept.of_run ?_
  refine Kept.withCommand (by decide) (fun _ => ?_) ?_
  · exact (Chip.raiseFloor_kept ..).mono (by decide)
  · exact Kept.rfl

theorem execKeyPurge_kept (time : Word) (s : State) : RunsKept 0x71220000000000000000000000000000010209d6 s (execKeyPurge
    time s) := by
  refine RunsKept.of_run ?_
  refine Kept.withCommand (by decide) (fun _ => ?_) ?_
  · refine Kept.step (Chip.setReply_kept ..) (by decide) ?_
    exact (Chip.keyAlarm_kept ..).mono (by decide)
  · exact Kept.rfl

theorem execServiceGet_kept (s : State) : RunsKept 0x20000000000000000000000000000010009d6 s (execServiceGet s) := by
  refine RunsKept.of_run ?_
  refine Kept.withCommand (by decide) (fun _ => ?_) ?_
  · exact (Chip.serviceGet_kept ..).mono (by decide)
  · exact Kept.rfl

theorem execServicePut_kept (s : State) : RunsKept 0x4800020000000000000000000000000000011009d6 s (execServicePut s) := by
  refine RunsKept.of_run ?_
  refine Kept.withCommand (by decide) (fun _ => ?_) ?_
  · exact (Chip.servicePut_kept ..).mono (by decide)
  · exact Kept.rfl

theorem execServiceForward_kept (s : State) : RunsKept 0x2000020000000000000000000000000000011009d6 s (execServiceForward s)
    := by
  refine RunsKept.of_run ?_
  refine Kept.withCommand (by decide) (fun _ => ?_) ?_
  · exact (Chip.serviceForward_kept ..).mono (by decide)
  · exact Kept.rfl

theorem execTagUpdate_kept (s : State) : RunsKept 0x9000000020000000000000000000000000000012009d6 s (execTagUpdate s) := by
  refine RunsKept.of_run ?_
  refine Kept.withCommand (by decide) (fun _ => ?_) ?_
  · exact (Chip.tagUpdate_kept ..).mono (by decide)
  · exact Kept.rfl

theorem execMailboxComplete_kept (s : State) : RunsKept 0x200094000000900687122000000500200000000210800000401b739de s
    (execMailboxComplete s) := by
  refine RunsKept.of_run ?_
  exact (Chip.completeCommand_kept ..).mono (by decide)

theorem execIrqClaim_kept (x : HostTarget) (s : State) : RunsKept 0x4000000000052 s (execIrqClaim x s) := by
  refine RunsKept.of_run ?_
  refine Kept.hostRead (by decide) ?_
  exact (Chip.claim_kept ..).mono (by decide)

theorem execIrqComplete_kept (x : HostTarget) (data : Word) (s : State) : RunsKept 0x4000000000042 s (execIrqComplete x data
    s) := by
  refine RunsKept.of_run ?_
  refine Kept.hostWrite ?_
  exact (Chip.complete_kept ..).mono (by decide)

theorem execIrqSetPend_kept (data : Word) (s : State) : RunsKept 0x40 s (execIrqSetPend data s) := by
  refine RunsKept.of_run ?_
  refine Kept.hostWrite ?_
  exact (Chip.setPend_kept ..).mono (by decide)

theorem execIrqPendClr_kept (high : Bool) (mask : DWord) (s : State) : RunsKept 0x40 s (execIrqPendClr high mask s) := by
  refine RunsKept.of_run ?_
  exact (Chip.clearPends_kept ..).mono (by decide)

theorem execSupSourceClaim_kept (s : State) : RunsKept 0x140 s (execSupSourceClaim s) := by
  refine RunsKept.of_run ?_
  split
  · refine Kept.ite ?_ ?_
    · exact (Chip.supClaim_kept ..).mono (by decide)
    · exact Kept.rfl
  · exact Kept.rfl

theorem execSourceEventFlush_kept (x : Fin 64) (s : State) : RunsKept 0x140 s (execSourceEventFlush x s) := by
  refine RunsKept.of_run ?_
  refine Kept.ite ?_ ?_
  · exact (Chip.flushSource_kept ..).mono (by decide)
  · exact Kept.rfl

theorem execFaultAck_kept (data : Word) (s : State) : RunsKept 0x20000000000000000000000000000010001c2 s (execFaultAck data
    s) := by
  refine RunsKept.of_run ?_
  refine Kept.hostWrite ?_
  exact (Chip.ackFault_kept ..).mono (by decide)

theorem execSafeNFall_kept (s : State) : RunsKept 0x140000000000000020000005002000000000100000004010031c6 s (execSafeNFall
    s) := by
  refine RunsKept.of_run ?_
  refine Kept.ite ?_ ?_
  · exact (Chip.modFlt_kept ..).mono (by decide)
  · refine Kept.ite ?_ ?_
    · exact (Chip.safeNFell_kept ..).mono (by decide)
    · exact Kept.rfl

theorem execSafeNRise_kept (s : State) : RunsKept 0x1000080 s (execSafeNRise s) := by
  refine RunsKept.of_run ?_
  refine Kept.ite ?_ ?_
  · exact (Chip.modFlt_kept ..).mono (by decide)
  · refine Kept.ite ?_ ?_
    · exact Kept.rfl
    · exact (Chip.safeNRose_kept ..).mono (by decide)

theorem execForceF3_kept (s : State) : RunsKept 0xa0000140000000000000020000005002000000000900000004010931c6 s (execForceF3
    s) := by
  refine RunsKept.of_run ?_
  refine Kept.hostWrite ?_
  exact (Chip.faultF3_kept ..).mono (by decide)

theorem execArmRequest_kept (phaseG : Bool) (s : State) : RunsKept
    0xa0000140000000000000020000005002000000810900000004010931d6 s (execArmRequest phaseG s) := by
  refine RunsKept.of_run ?_
  refine Kept.hostWrite ?_
  exact (Chip.writeSafeControl_kept ..).mono (by decide)

theorem execDisarmRequest_kept (phaseG : Bool) (s : State) : RunsKept
    0xa0000140000000000000020000005002000000810900000004010931d6 s (execDisarmRequest phaseG s) := by
  refine RunsKept.of_run ?_
  refine Kept.hostWrite ?_
  exact (Chip.writeSafeControl_kept ..).mono (by decide)

theorem execWatchdogEnable_kept (window : BitVec 7) (s : State) : RunsKept
    0xa0000140000000000000020000005002000000810900000004010931d6 s (execWatchdogEnable window s) := by
  refine RunsKept.of_run ?_
  refine Kept.hostWrite ?_
  exact (Chip.writeSafeControl_kept ..).mono (by decide)

theorem execWdtKick_kept (data : Word) (s : State) : RunsKept 0xa0000140000000002000020000005002000000000900000004010931c6 s
    (execWdtKick data s) := by
  refine RunsKept.of_run ?_
  refine Kept.hostWrite ?_
  exact (Chip.wdtKicked_kept ..).mono (by decide)

theorem execWatchdogExpired_kept (s : State) : RunsKept 0xa0000140000000002000020000005002000000000900000004010931c6 s
    (execWatchdogExpired s) := by
  refine RunsKept.of_run ?_
  refine Kept.ite ?_ ?_
  · exact (Chip.wdtExpire_kept ..).mono (by decide)
  · exact Kept.rfl

theorem execJournalWrite_kept (ok : Bool) (eraseOk : Bool) (s : State) : RunsKept 0x20000000000000000000000000000010001c2 s
    (execJournalWrite ok eraseOk s) := by
  refine RunsKept.of_run ?_
  refine Kept.ite ?_ ?_
  · exact (Chip.journalNext_kept ..).mono (by decide)
  · exact Kept.rfl

theorem execJournalAllowanceRegain_kept (s : State) : RunsKept 0x100 s (execJournalAllowanceRegain s) := by
  refine RunsKept.of_run ?_
  refine Kept.ite ?_ ?_
  · exact Kept.rfl
  · exact (Chip.modJnl_kept ..).mono (by decide)

theorem execHours_kept (s : State) : RunsKept 0x100 s (execHours s) := by
  refine RunsKept.of_run ?_
  refine Kept.ite ?_ ?_
  · refine Kept.step (Chip.journal_kept ..) (by decide) ?_
    exact (Chip.modJnl_kept ..).mono (by decide)
  · exact Kept.rfl

theorem execWheelEdge_kept (n : Fin 4) (at' : Int) (pol : Bool) (peak : Byte) (s : State) (dip : Byte) (held : Byte) :
    RunsKept 0x20000380000000000000000000100010803c2 s (execWheelEdge n at' pol peak s dip held) := by
  refine RunsKept.of_run ?_
  extract_lets x0 x1 x2 x3 x4 x5
  refine Kept.ite ?_ ?_
  · exact Kept.rfl
  · refine Kept.ite ?_ ?_
    · exact Kept.rfl
    · refine Kept.ite ?_ ?_
      · exact Kept.rfl
      · refine Kept.ite ?_ ?_
        · subst x1
          exact (Chip.modWheel_kept ..).mono (by decide)
        · refine Kept.ite ?_ ?_
          · refine Kept.step (Chip.rejectEdge_kept ..) (by decide) ?_
            subst x1
            exact (Chip.modWheel_kept ..).mono (by decide)
          · refine Kept.step (Chip.acceptEdge_kept ..) (by decide) ?_
            subst x1
            exact (Chip.modWheel_kept ..).mono (by decide)

theorem execEdgeTakeIn_kept (n : Fin 4) (s : State) : RunsKept 0x2004018000120900000000000000001088fc6 s (execEdgeTakeIn n
    s) := by
  refine RunsKept.of_run ?_
  split
  · refine Kept.ite ?_ ?_
    · refine Kept.step (Chip.settleAngles_kept ..) (by decide) ?_
      refine Kept.step (Chip.flushRows_kept ..) (by decide) ?_
      exact (Chip.takeEdge_kept ..).mono (by decide)
    · exact Kept.rfl
  · exact Kept.rfl

theorem execVrThresholdDecay_kept (n : Fin 4) (s : State) : RunsKept 0x200 s (execVrThresholdDecay n s) := by
  refine RunsKept.of_run ?_
  extract_lets x0
  split
  · refine Kept.ite ?_ ?_
    · exact (Chip.modWheel_kept ..).mono (by decide)
    · exact Kept.rfl
  · exact Kept.rfl

theorem execWheelNoSignal_kept (n : Fin 4) (s : State) : RunsKept 0x20000080000000000000000000000010001c2 s
    (execWheelNoSignal n s) := by
  refine RunsKept.of_run ?_
  refine Kept.ite ?_ ?_
  · refine Kept.step (Chip.fault_kept ..) (by decide) ?_
    exact (Kept.setFlag_name .wheelStatus _ 0 (Eq.refl _)).mono (by decide)
  · exact Kept.rfl

theorem execStallTimeout_kept (s : State) : RunsKept 0x20040080001209000000000000100010087c6 s (execStallTimeout s) := by
  refine RunsKept.of_run ?_
  split
  · refine Kept.ite ?_ ?_
    · refine Kept.step (Chip.settleAngles_kept ..) (by decide) ?_
      exact (Chip.declareStall_kept ..).mono (by decide)
    · exact Kept.rfl
  · exact Kept.rfl

theorem execDrLimitReached_kept (s : State) : RunsKept 0x20040080001209000000000000100010087c6 s (execDrLimitReached s) := by
  refine RunsKept.of_run ?_
  refine Kept.ite ?_ ?_
  · refine Kept.step (Chip.settleAngles_kept ..) (by decide) ?_
    exact (Chip.declareStall_kept ..).mono (by decide)
  · exact Kept.rfl

theorem execSnapshotTimeout_kept (s : State) : RunsKept 0x400 s (execSnapshotTimeout s) := by
  refine RunsKept.of_run ?_
  exact (Chip.modPred_kept ..).mono (by decide)

theorem execBankGrant_kept (k : Fin 24) (at' : Fin 403) (s : State) : RunsKept
    0x40000000000000020000007000000000000100000000810031ce s (execBankGrant k at' s) := by
  refine RunsKept.of_run ?_
  extract_lets x0
  refine Kept.ite ?_ ?_
  · refine Kept.step (Chip.showBank_kept ..) (by decide) ?_
    refine Kept.step (Chip.tryGrant_kept ..) (by decide) ?_
    subst x0
    exact (Chip.atStep_kept ..).mono (by decide)
  · subst x0
    exact (Chip.atStep_kept ..).mono (by decide)

theorem execBankWaitTimeout_kept (k : Fin 24) (at' : Fin 403) (s : State) : RunsKept
    0x40000000000000020000007000000000000100000000810031ce s (execBankWaitTimeout k at' s) := by
  refine RunsKept.of_run ?_
  extract_lets x0
  refine Kept.ite ?_ ?_
  · refine Kept.step (Chip.showBank_kept ..) (by decide) ?_
    refine Kept.step (Chip.settleBank_kept ..) (by decide) ?_
    refine Kept.step (Chip.refuseWaiting_kept ..) (by decide) ?_
    subst x0
    exact (Chip.atStep_kept ..).mono (by decide)
  · subst x0
    exact (Chip.atStep_kept ..).mono (by decide)

theorem execBoostThresholdReached_kept (k : Fin 24) (at' : Fin 403) (s : State) : RunsKept
    0x40000000000000020000007000000000000100000000810031ce s (execBoostThresholdReached k at' s) := by
  refine RunsKept.of_run ?_
  extract_lets x0
  refine Kept.ite ?_ ?_
  · refine Kept.step (Chip.reachPeak_kept ..) (by decide) ?_
    subst x0
    exact (Chip.atStep_kept ..).mono (by decide)
  · subst x0
    exact (Chip.atStep_kept ..).mono (by decide)

theorem execBoostTimeLimit_kept (k : Fin 24) (code : Byte) (at' : Fin 403) (s : State) : RunsKept
    0x40000000000000020000007000000000000100000000810031ce s (execBoostTimeLimit k code at' s) := by
  refine RunsKept.of_run ?_
  extract_lets x0
  refine Kept.ite ?_ ?_
  · refine Kept.step (Chip.boostLimit_kept ..) (by decide) ?_
    subst x0
    exact (Chip.atStep_kept ..).mono (by decide)
  · subst x0
    exact (Chip.atStep_kept ..).mono (by decide)

theorem execTransitionEnd_kept (k : Fin 24) (fell : Bool) (at' : Fin 403) (s : State) : RunsKept
    0x40000000000000020000007000000000000100000000810031ce s (execTransitionEnd k fell at' s) := by
  refine RunsKept.of_run ?_
  extract_lets x0 x1
  refine Kept.ite ?_ ?_
  · refine Kept.step (Chip.showBank_kept ..) (by decide) ?_
    refine Kept.step (Chip.settleBank_kept ..) (by decide) ?_
    refine Kept.step (Chip.modInj_kept ..) (by decide) ?_
    subst x0
    exact (Chip.atStep_kept ..).mono (by decide)
  · subst x0
    exact (Chip.atStep_kept ..).mono (by decide)

theorem execHoldChop_kept (n : Fin 6) (on : Bool) (at' : Fin 403) (s : State) : RunsKept 0x2008 s (execHoldChop n on at' s)
    := by
  refine RunsKept.of_run ?_
  extract_lets x0 x1 x2
  refine Kept.ite ?_ ?_
  · refine Kept.step (Chip.noteIdle_kept ..) (by decide) ?_
    refine Kept.step (Chip.switchHsv_kept ..) (by decide) ?_
    subst x0
    exact (Chip.atStep_kept ..).mono (by decide)
  · subst x0
    exact (Chip.atStep_kept ..).mono (by decide)

theorem execInjHoldLost_kept (n : Fin 6) (code : Byte) (s : State) : RunsKept 0x20000004000000000000000000000010021c2 s
    (execInjHoldLost n code s) := by
  refine RunsKept.of_run ?_
  extract_lets x0 x1
  refine Kept.ite ?_ ?_
  · refine Kept.foldl (fun _ _ => ?_) ?_
    · refine Kept.step (Chip.outFault_kept ..) (by decide) ?_
      exact (Chip.judge_kept ..).mono (by decide)
    · exact Kept.rfl
  · exact Kept.rfl

theorem execInjOvercurrent_kept (n : Fin 6) (s : State) : RunsKept 0x40000000000000020000007002000000000100000000810039c6 s
    (execInjOvercurrent n s) := by
  refine RunsKept.of_run ?_
  refine Kept.ite ?_ ?_
  · exact (Chip.tripBank_kept ..).mono (by decide)
  · exact Kept.rfl

theorem execInjIdleCurrent_kept (n : Fin 6) (code : Byte) (s : State) : RunsKept
    0x40000000000000020000007002000000000100000000810039c6 s (execInjIdleCurrent n code s) := by
  refine RunsKept.of_run ?_
  refine Kept.ite ?_ ?_
  · exact (Chip.tripBank_kept ..).mono (by decide)
  · exact Kept.rfl

theorem execBankTripClear_kept (n : Fin 6) (still : Bool) (s : State) : RunsKept
    0x40000000000000020000007002000000000100000000810839d6 s (execBankTripClear n still s) := by
  refine RunsKept.of_run ?_
  refine Kept.ite ?_ ?_
  · exact Kept.rfl
  · refine Kept.mirrorsOf (by decide) (fun _ => ?_) ?_
    · extract_lets x0
      refine Kept.ite ?_ ?_
      · refine Kept.step (Chip.clearTrip_kept ..) (by decide) ?_
        subst x0
        exact (Chip.takeCommit_kept ..).mono (by decide)
      · subst x0
        exact (Chip.takeCommit_kept ..).mono (by decide)
    · exact Kept.rfl

theorem execInjEnableCommit_kept (v : DWord) (s : State) : RunsKept 0x4000000000000002000000700c000000000100000000810839d6 s
    (execInjEnableCommit v s) := by
  refine RunsKept.of_run ?_
  refine Kept.ite ?_ ?_
  · refine Kept.mirrorsOf (by decide) (fun _ => ?_) ?_
    · refine Kept.step (Chip.commitInjEnable_kept ..) (by decide) ?_
      exact (Chip.takeCommit_kept ..).mono (by decide)
    · exact Kept.rfl
  · exact Kept.rfl

theorem execValvePullEnd_kept (v : Fin 16) (at' : Fin 403) (s : State) : RunsKept 0x2008 s (execValvePullEnd v at' s) := by
  refine RunsKept.of_run ?_
  refine Kept.step (Chip.pullEnd_kept ..) (by decide) ?_
  exact (Chip.atStep_kept ..).mono (by decide)

theorem execValveStartDelayEnd_kept (v : Fin 16) (at' : Fin 403) (s : State) : RunsKept 0x2008 s (execValveStartDelayEnd v
    at' s) := by
  refine RunsKept.of_run ?_
  extract_lets x0 x1
  split
  · refine Kept.ite ?_ ?_
    · refine Kept.step (Chip.valveOn_kept ..) (by decide) ?_
      subst x0
      exact (Chip.atStep_kept ..).mono (by decide)
    · subst x0
      exact (Chip.atStep_kept ..).mono (by decide)
  · subst x0
    exact (Chip.atStep_kept ..).mono (by decide)

theorem execValveOpen_kept (v : Fin 16) (s : State) : RunsKept 0x20000000010000000000000000000010001c2 s (execValveOpen v s)
    := by
  refine RunsKept.of_run ?_
  refine Kept.ite ?_ ?_
  · refine Kept.step (Chip.fault_kept ..) (by decide) ?_
    refine Kept.step (Chip.raise_kept ..) (by decide) ?_
    exact (Kept.setFld_name .valveStatus 0 0 (Eq.refl _)).mono (by decide)
  · exact Kept.rfl

theorem execValveShort_kept (v : Fin 16) (at' : Fin 403) (s : State) : RunsKept 0x20000000010000000000000000000010021ca s
    (execValveShort v at' s) := by
  refine RunsKept.of_run ?_
  extract_lets x0
  refine Kept.ite ?_ ?_
  · refine Kept.step (Chip.valveShort_kept ..) (by decide) ?_
    subst x0
    exact (Chip.atStep_kept ..).mono (by decide)
  · subst x0
    exact (Chip.atStep_kept ..).mono (by decide)

theorem execShortLatchClear_kept (mask : Word) (s : State) : RunsKept 0x20000000010000000000000000000010809d6 s
    (execShortLatchClear mask s) := by
  refine RunsKept.of_run ?_
  refine Kept.ite ?_ ?_
  · refine Kept.mirrorsOf (by decide) (fun _ => ?_) ?_
    · refine Kept.step (Chip.clearShort_kept ..) (by decide) ?_
      exact (Chip.takeCommit_kept ..).mono (by decide)
    · exact Kept.rfl
  · exact Kept.rfl

theorem execTimerMatch_kept (lead : Nat) (s : State) : RunsKept 0xcdf0000000000048000605a s (execTimerMatch lead s) := by
  refine RunsKept.of_run ?_
  refine Kept.step (Chip.nextEdge_kept ..) (by decide) ?_
  exact (Chip.bclkEdges_kept ..).mono (by decide)

theorem execTimerOverflow_kept (lead : Nat) (s : State) : RunsKept 0xcdf0000000000048000605a s (execTimerOverflow lead s) :=
    by
  refine RunsKept.of_run ?_
  refine Kept.step (Chip.nextEdge_kept ..) (by decide) ?_
  exact (Chip.bclkEdges_kept ..).mono (by decide)

theorem execTimerPinCapture_kept (k : Fin 8) (level : Bool) (lead : Nat) (s : State) (held : Nat) : RunsKept
    0xcdf0000000000048000605a s (execTimerPinCapture k level lead s held) := by
  refine RunsKept.of_run ?_
  refine Kept.step (Chip.nextEdge_kept ..) (by decide) ?_
  exact (Chip.bclkEdges_kept ..).mono (by decide)

theorem execChValueCommit_kept (n : Fin 16) (v : DWord) (lead : Nat) (s : State) : RunsKept 0xcdf0000000000048000605a s
    (execChValueCommit n v lead s) := by
  refine RunsKept.of_run ?_
  exact (Chip.commitEdge_kept ..).mono (by decide)

theorem execChCtrlCommit_kept (n : Fin 16) (v : DWord) (lead : Nat) (s : State) : RunsKept 0xcdf0000000000048000605a s
    (execChCtrlCommit n v lead s) := by
  refine RunsKept.of_run ?_
  exact (Chip.commitEdge_kept ..).mono (by decide)

theorem execTuCfgCommit_kept (u : Fin 4) (v : DWord) (lead : Nat) (s : State) : RunsKept 0xcdf0000000000048000605a s
    (execTuCfgCommit u v lead s) := by
  refine RunsKept.of_run ?_
  exact (Chip.commitEdge_kept ..).mono (by decide)

theorem execTimerSnap_kept (lead : Nat) (s : State) : RunsKept 0xcdf0000000000048000605a s (execTimerSnap lead s) := by
  refine RunsKept.of_run ?_
  exact (Chip.commitEdge_kept ..).mono (by decide)

theorem execTioSelCommit_kept (k : Fin 8) (v : DWord) (s : State) : RunsKept
    0x4000000000020000000000000000000000000000010829d6 s (execTioSelCommit k v s) := by
  refine RunsKept.of_run ?_
  refine Kept.ite ?_ ?_
  · refine Kept.mirrorsOf (by decide) (fun _ => ?_) ?_
    · refine Kept.step (Chip.commitTioSel_kept ..) (by decide) ?_
      exact (Chip.takeCommit_kept ..).mono (by decide)
    · exact Kept.rfl
  · exact Kept.rfl

theorem execConvWindowOpen_kept (r : Fin 16) (s : State) : RunsKept 0x20000000001209000000000000000010081c6 s
    (execConvWindowOpen r s) := by
  refine RunsKept.of_run ?_
  split
  · refine Kept.ite ?_ ?_
    · extract_lets x0
      refine Kept.step (Chip.showConv_kept ..) (by decide) ?_
      refine Kept.step (Chip.monitorSecond_kept ..) (by decide) ?_
      refine Kept.ite ?_ ?_
      · refine Kept.step (Chip.openAngle_kept ..) (by decide) ?_
        subst x0
        exact (Chip.inboxDrop_kept ..).mono (by decide)
      · refine Kept.step (Chip.openTimed_kept ..) (by decide) ?_
        subst x0
        exact (Chip.inboxDrop_kept ..).mono (by decide)
    · exact Kept.rfl
  · exact Kept.rfl

theorem execConvWindowClose_kept (r : Fin 16) (raw : Int) (s : State) (clip : Bool) : RunsKept
    0x2840000000020000000001249000000000000000810189c6 s (execConvWindowClose r raw s clip) := by
  refine RunsKept.of_run ?_
  split
  · refine Kept.ite ?_ ?_
    · extract_lets x0 x1
      split
      · refine Kept.ite ?_ ?_
        · refine Kept.step (Chip.showConv_kept ..) (by decide) ?_
          refine Kept.step (Chip.finishWin_kept ..) (by decide) ?_
          subst x0
          exact (Chip.inboxDrop_kept ..).mono (by decide)
        · subst x0
          exact (Chip.inboxDrop_kept ..).mono (by decide)
      · subst x0
        exact (Chip.inboxDrop_kept ..).mono (by decide)
    · exact Kept.rfl
  · exact Kept.rfl

theorem execTimeWindowComplete_kept (k : Fin 2) (raw : Int) (s : State) (clip : Bool) : RunsKept
    0x2840000000020000000001249000000000000000810189c6 s (execTimeWindowComplete k raw s clip) := by
  refine RunsKept.of_run ?_
  split
  · refine Kept.ite ?_ ?_
    · refine Kept.step (Chip.showConv_kept ..) (by decide) ?_
      exact (Chip.finishWin_kept ..).mono (by decide)
    · exact Kept.rfl
  · exact Kept.rfl

theorem execPendingWindowStart_kept (k : Fin 2) (at' : Fin 403) (s : State) : RunsKept 0x100000000000000000008002 s
    (execPendingWindowStart k at' s) := by
  refine RunsKept.of_run ?_
  split
  · refine Kept.ite ?_ ?_
    · refine Kept.step (Chip.showConv_kept ..) (by decide) ?_
      refine Kept.step (Chip.openWin_kept ..) (by decide) ?_
      exact (Chip.modConv_kept ..).mono (by decide)
    · exact Kept.rfl
  · exact Kept.rfl

theorem execPendingWindowExpire_kept (r : Fin 17) (at' : Fin 403) (s : State) : RunsKept
    0x20000000001209000000000000000010081c6 s (execPendingWindowExpire r at' s) := by
  refine RunsKept.of_run ?_
  split
  · refine Kept.ite ?_ ?_
    · refine Kept.step (Chip.showConv_kept ..) (by decide) ?_
      refine Kept.step (Chip.monitorSecond_kept ..) (by decide) ?_
      refine Kept.step (Chip.loseWindow_kept ..) (by decide) ?_
      exact (Chip.modConv_kept ..).mono (by decide)
    · exact Kept.rfl
  · exact Kept.rfl

theorem execWindowTruncate_kept (k : Fin 2) (raw : Int) (s : State) (clip : Bool) : RunsKept
    0x2840000000020000000001249000000000000000810189c6 s (execWindowTruncate k raw s clip) := by
  refine RunsKept.of_run ?_
  split
  · extract_lets x0
    refine Kept.ite ?_ ?_
    · refine Kept.step (Chip.showConv_kept ..) (by decide) ?_
      exact (Chip.finishWin_kept ..).mono (by decide)
    · exact Kept.rfl
  · exact Kept.rfl

theorem execConvSyncApply_kept (k : Fin 2) (s : State) : RunsKept 0x20000000001209000000000000000010081c6 s
    (execConvSyncApply k s) := by
  refine RunsKept.of_run ?_
  split
  · refine Kept.ite ?_ ?_
    · refine Kept.step (Chip.showConv_kept ..) (by decide) ?_
      refine Kept.step (Chip.syncCore_kept ..) (by decide) ?_
      exact (Chip.inboxDrop_kept ..).mono (by decide)
    · exact Kept.rfl
  · exact Kept.rfl

theorem execDecimatorOutput_kept (k : Fin 2) (raw : Int) (s : State) (varies : Option (Int × Int)) (clip : Bool) : RunsKept
    0x20000000001209000000000000000010081c6 s (execDecimatorOutput k raw s varies clip) := by
  refine RunsKept.of_run ?_
  extract_lets x0 x1 x2 x3
  refine Kept.ite ?_ ?_
  · refine Kept.step (Chip.showConv_kept ..) (by decide) ?_
    refine Kept.step (Chip.result_kept ..) (by decide) ?_
    subst x3
    exact (Chip.decimate_kept ..).mono (by decide)
  · exact Kept.rfl

theorem execConvStart_kept (mask : Word) (s : State) : RunsKept 0x100000000000000000008012 s (execConvStart mask s) := by
  refine RunsKept.of_run ?_
  refine Kept.ite ?_ ?_
  · refine Kept.step (Chip.showConv_kept ..) (by decide) ?_
    refine Kept.step (Chip.commitConvStart_kept ..) (by decide) ?_
    exact (Chip.takeCommit_kept ..).mono (by decide)
  · exact Kept.rfl

theorem execConvSync_kept (mask : BitVec 2) (s : State) : RunsKept 0x100000000000000000008012 s (execConvSync mask s) := by
  refine RunsKept.of_run ?_
  refine Kept.ite ?_ ?_
  · refine Kept.step (Chip.showConv_kept ..) (by decide) ?_
    refine Kept.step (Chip.commitConvSync_kept ..) (by decide) ?_
    exact (Chip.takeCommit_kept ..).mono (by decide)
  · exact Kept.rfl

theorem execRingTailCommit_kept (r : Fin 16) (v : DWord) (s : State) : RunsKept 0x140000000000000000400000052 s
    (execRingTailCommit r v s) := by
  refine RunsKept.of_run ?_
  refine Kept.ite ?_ ?_
  · refine Kept.step (Chip.commitRingTail_kept ..) (by decide) ?_
    exact (Chip.takeCommit_kept ..).mono (by decide)
  · exact Kept.rfl

theorem execMonitorBurst_kept (s : State) : RunsKept 0x20000000001209000000000000000010081c6 s (execMonitorBurst s) := by
  refine RunsKept.of_run ?_
  refine Kept.ite ?_ ?_
  · refine Kept.step (Chip.showConv_kept ..) (by decide) ?_
    exact (Chip.monitorBurst_kept ..).mono (by decide)
  · exact Kept.rfl

theorem execVbatBandChange_kept (mv : Nat) (s : State) : RunsKept 0x2800000000020000000000000000000000000000010101c2 s
    (execVbatBandChange mv s) := by
  refine RunsKept.of_run ?_
  refine Kept.ite ?_ ?_
  · exact (Chip.modPower_kept ..).mono (by decide)
  · refine Kept.step (Chip.updateBands_kept ..) (by decide) ?_
    exact (Chip.modPower_kept ..).mono (by decide)

theorem execHoldupUpdate_kept (vhold : BitVec 10) (vpre : BitVec 10) (s : State) : RunsKept
    0x14000000000000000000000000000000000000000000002 s (execHoldupUpdate vhold vpre s) := by
  refine RunsKept.of_run ?_
  refine Kept.ite ?_ ?_
  · exact Kept.rfl
  · refine Kept.step (Chip.updateHoldup_kept ..) (by decide) ?_
    refine Kept.step (Kept.setFld_name .supplyMeas 0 0 (Eq.refl _)) (by decide) ?_
    exact (Kept.setFld_name .supplyMeas 0 0 (Eq.refl _)).mono (by decide)

theorem execBoostChargeControl_kept (meas : BitVec 10) (s : State) : RunsKept
    0x800000000020000000000000000000000000000010101c2 s (execBoostChargeControl meas s) := by
  refine RunsKept.of_run ?_
  exact (Chip.boostSample_kept ..).mono (by decide)

theorem execBoostStartTimeout_kept (s : State) (ms : Nat) : RunsKept 0x800000000020000000000000000000000000000010001c2 s
    (execBoostStartTimeout s ms) := by
  refine RunsKept.of_run ?_
  refine Kept.ite ?_ ?_
  · refine Kept.step (Chip.boostFault_kept ..) (by decide) ?_
    exact (Kept.setFlag_name .boostStatus 0 0 (Eq.refl _)).mono (by decide)
  · exact Kept.rfl

theorem execBoostOvercurrent_kept (s : State) (code : BitVec 10) : RunsKept
    0x800000000020000000000000000000000000000010101c2 s (execBoostOvercurrent s code) := by
  refine RunsKept.of_run ?_
  refine Kept.ite ?_ ?_
  · refine Kept.step (Chip.showBoost_kept ..) (by decide) ?_
    refine Kept.step (Chip.boostFault_kept ..) (by decide) ?_
    refine Kept.step (Kept.setFlag_name .boostStatus 0 0 (Eq.refl _)) (by decide) ?_
    exact (Chip.modPower_kept ..).mono (by decide)
  · exact Kept.rfl

theorem execBoostOcPauseEnd_kept (s : State) : RunsKept 0x80000000000000000000000000000000000000000010002 s
    (execBoostOcPauseEnd s) := by
  refine RunsKept.of_run ?_
  refine Kept.step (Chip.showBoost_kept ..) (by decide) ?_
  exact (Chip.modPower_kept ..).mono (by decide)

theorem execRailOutOfReg_kept (r : Rail) (s : State) : RunsKept 0x2800000000020000000000000000000000000000010101c2 s
    (execRailOutOfReg r s) := by
  refine RunsKept.of_run ?_
  refine Kept.ite ?_ ?_
  · exact (Chip.railIs_kept ..).mono (by decide)
  · exact Kept.rfl

theorem execPowerStateChange_kept (s : State) : RunsKept 0xa200094000282100444002000000500320900000290000010401bff1de s
    (execPowerStateChange s) := by
  refine RunsKept.of_run ?_
  exact (Chip.evalPower_kept ..).mono (by decide)

theorem execDeferredEntry_kept (s : State) : RunsKept 0xa200094000282100444002000000500320900000290000010401bff1de s
    (execDeferredEntry s) := by
  refine RunsKept.of_run ?_
  refine Kept.ite ?_ ?_
  · exact Kept.rfl
  · exact (Chip.evalPower_kept ..).mono (by decide)

theorem execWake_kept (code : Fin 8) (s : State) : RunsKept 0x2000800002820000400020000000000001000002000000104011541ca s
    (execWake code s) := by
  refine RunsKept.of_run ?_
  exact (Chip.wakeBy_kept ..).mono (by decide)

theorem execWakeDwellEnd_kept (s : State) (ms : Nat) : RunsKept 0x2000000000000000000000000000000000000000000002 s
    (execWakeDwellEnd s ms) := by
  refine RunsKept.of_run ?_
  refine Kept.ite ?_ ?_
  · exact (Kept.setFlag_name .pwrStatus 0 0 (Eq.refl _)).mono (by decide)
  · exact Kept.rfl

theorem execKeyInChange_kept (high : Bool) (s : State) : RunsKept
    0x2000800002821000400020000000000001000002000000104011541ca s (execKeyInChange high s) := by
  refine RunsKept.of_run ?_
  exact (Chip.keyIs_kept ..).mono (by decide)

theorem execKeyoffDelayExpire_kept (s : State) (held : Nat) : RunsKept 0x10000 s (execKeyoffDelayExpire s held) := by
  refine RunsKept.of_run ?_
  refine Kept.ite ?_ ?_
  · exact Kept.rfl
  · exact (Chip.modPower_kept ..).mono (by decide)

theorem execRingCycleStart_kept (run : Word) (grants : List RingGrant) (s : State) : RunsKept
    0x2143800000000000000020000000000000000002000000104010509ce s (execRingCycleStart run grants s) := by
  refine RunsKept.of_run ?_
  refine Kept.ringEvent (by decide) (fun _ => ?_) ?_
  · exact (Chip.cycleTick_kept ..).mono (by decide)
  · exact Kept.rfl

theorem execBeaconReceive_kept (bytes : Vector Byte 31) (errors : Byte) (arrive : Fin 2011) (run : Word) (s : State) :
    RunsKept 0x2143800000000000000020000000000000000002000000104010509ce s (execBeaconReceive bytes errors arrive run s) :=
        by
  refine RunsKept.of_run ?_
  refine Kept.ringEvent (by decide) (fun _ => ?_) ?_
  · exact (Chip.takeBeacon_kept ..).mono (by decide)
  · exact Kept.rfl

theorem execCycleReturn_kept (bytes : Vector Byte 31) (errors : Byte) (s : State) (areas : CycleAreas) : RunsKept
    0x10200000000000000000000000000000000000000000000000040002 s (execCycleReturn bytes errors s areas) := by
  refine RunsKept.of_run ?_
  extract_lets x0 x1
  refine Kept.ite ?_ ?_
  · exact Kept.rfl
  · refine Kept.ite ?_ ?_
    · refine Kept.step (Chip.modRing_kept ..) (by decide) ?_
      refine Kept.step (Kept.setFld_name .ringPhase 0 0 (Eq.refl _)) (by decide) ?_
      subst x1
      exact (Chip.modRing_kept ..).mono (by decide)
    · refine Kept.step (Chip.modRing_kept ..) (by decide) ?_
      refine Kept.step (Kept.addFld_name .ringCounts 0 0 (Eq.refl _)) (by decide) ?_
      refine Kept.step (Kept.incFld_name .ringCounts 0 0 (Eq.refl _)) (by decide) ?_
      subst x1
      exact (Chip.modRing_kept ..).mono (by decide)

theorem execSnapshotReceive_kept (bytes : Vector Byte 24) (errors : Byte) (previous : Bool) (s : State) : RunsKept
    0x100000000000000000020040080000000000000000000100010007c2 s (execSnapshotReceive bytes errors previous s) := by
  refine RunsKept.of_run ?_
  refine Kept.step (Chip.takeShot_kept ..) (by decide) ?_
  exact (Chip.seen_kept ..).mono (by decide)

theorem execStatusEntryReceive_kept (node : Byte) (entry : Vector Byte 4) (s : State) (errors : Fin 5) : RunsKept
    0x2100800000000000000020000000000000000002000000004010401ca s (execStatusEntryReceive node entry s errors) := by
  refine RunsKept.of_run ?_
  refine Kept.ringEvent (by decide) (fun _ => ?_) ?_
  · extract_lets x0
    refine Kept.ite ?_ ?_
    · refine Kept.step (Chip.takeEntry_kept ..) (by decide) ?_
      subst x0
      exact (Chip.seen_kept ..).mono (by decide)
    · subst x0
      exact (Chip.seen_kept ..).mono (by decide)
  · exact Kept.rfl

theorem execWriteMessage_kept (cell : RingCell) (phaseG : Bool) (s : State) : RunsKept
    0x10000000000000000000000000000000000000000000000080040052 s (execWriteMessage cell phaseG s) := by
  refine RunsKept.of_run ?_
  refine Kept.step (Chip.takeWrite_kept ..) (by decide) ?_
  exact (Chip.seen_kept ..).mono (by decide)

theorem execNackMessage_kept (cell : RingCell) (s : State) : RunsKept
    0x10000000000000000000000000000000000000800000000000040046 s (execNackMessage cell s) := by
  refine RunsKept.of_run ?_
  refine Kept.onClaim (by decide) (fun _ => ?_) ?_
  · exact (Chip.takeNack_kept ..).mono (by decide)
  · exact (Chip.seen_kept ..).mono (by decide)

theorem execConfirmMessage_kept (cell : RingCell) (s : State) : RunsKept
    0x10000000000000000000000000000000000000000000000000040002 s (execConfirmMessage cell s) := by
  refine RunsKept.of_run ?_
  extract_lets c
  have hc : Kept 0x10000000000000000000000000000000000000000000000000040002 s.chip c :=
    Kept.onClaim (by decide) (fun _ => Kept.rfl) ((Chip.seen_kept ..).mono (by decide))
  refine Kept.ite (Kept.foldl (fun _ _ => Kept.ite ((Chip.takeReport_kept ..).mono (by decide)) Kept.rfl) hc) hc

theorem execJoinMessage_kept (cell : RingCell) (s : State) : RunsKept
    0x210000000000000000000000000000000000000000000000000040002 s (execJoinMessage cell s) := by
  refine RunsKept.of_run ?_
  extract_lets x0
  refine Kept.ite ?_ ?_
  · refine Kept.step (Chip.takeJoin_kept ..) (by decide) ?_
    refine Kept.step (Chip.setClaimed_kept ..) (by decide) ?_
    subst x0
    exact (Chip.seen_kept ..).mono (by decide)
  · refine Kept.step (Chip.setClaimed_kept ..) (by decide) ?_
    subst x0
    exact (Chip.seen_kept ..).mono (by decide)

theorem execJoinAckMessage_kept (cell : RingCell) (s : State) : RunsKept
    0x100800000000000000020000000000000000002000000004010401c2 s (execJoinAckMessage cell s) := by
  refine RunsKept.of_run ?_
  refine Kept.ringEvent (by decide) (fun _ => ?_) ?_
  · extract_lets x0 x1 x2 x3
    refine Kept.ite ?_ ?_
    · refine Kept.ite ?_ ?_
      · refine Kept.step (Chip.ringFault_kept ..) (by decide) ?_
        refine Kept.step (Chip.modRing_kept ..) (by decide) ?_
        refine Kept.step (Kept.setFld_name .ringJoinStatus 0 0 (Eq.refl _)) (by decide) ?_
        subst x1
        refine Kept.step (Chip.modRing_kept ..) (by decide) ?_
        refine Kept.step (Chip.setClaimed_kept ..) (by decide) ?_
        subst x0
        exact (Chip.seen_kept ..).mono (by decide)
      · refine Kept.ite ?_ ?_
        · refine Kept.doIf (fun _ => ?_) ?_
          · exact (Chip.ringFault_kept ..).mono (by decide)
          · refine Kept.step (Chip.restartTargets_kept ..) (by decide) ?_
            subst x3
            refine Kept.step (Chip.modRing_kept ..) (by decide) ?_
            refine Kept.step (Chip.takeGrant_kept ..) (by decide) ?_
            refine Kept.step (Kept.setFld_name .ringStatus 0 0 (Eq.refl _)) (by decide) ?_
            subst x1
            refine Kept.step (Chip.modRing_kept ..) (by decide) ?_
            refine Kept.step (Chip.setClaimed_kept ..) (by decide) ?_
            subst x0
            exact (Chip.seen_kept ..).mono (by decide)
        · subst x1
          refine Kept.step (Chip.modRing_kept ..) (by decide) ?_
          refine Kept.step (Chip.setClaimed_kept ..) (by decide) ?_
          subst x0
          exact (Chip.seen_kept ..).mono (by decide)
    · refine Kept.step (Chip.setClaimed_kept ..) (by decide) ?_
      subst x0
      exact (Chip.seen_kept ..).mono (by decide)
  · exact Kept.rfl

theorem execLeaveMessage_kept (cell : RingCell) (s : State) : RunsKept
    0x210000000000000000000000000000000000000000000000000040002 s (execLeaveMessage cell s) := by
  refine RunsKept.of_run ?_
  extract_lets x0
  refine Kept.ite ?_ ?_
  · refine Kept.step (Chip.dropMember_kept ..) (by decide) ?_
    refine Kept.step (Chip.setClaimed_kept ..) (by decide) ?_
    subst x0
    exact (Chip.seen_kept ..).mono (by decide)
  · refine Kept.step (Chip.setClaimed_kept ..) (by decide) ?_
    subst x0
    exact (Chip.seen_kept ..).mono (by decide)

theorem execHostMessage_kept (cell : RingCell) (s : State) : RunsKept
    0x300000000000000010020000000000000000000000000000010401c6 s (execHostMessage cell s) := by
  refine RunsKept.of_run ?_
  refine Kept.onClaim (by decide) (fun _ => ?_) ?_
  · exact (Chip.takeHost_kept ..).mono (by decide)
  · exact (Chip.seen_kept ..).mono (by decide)

theorem execCellReturned_kept (cell : RingCell) (s : State) : RunsKept
    0x10000000000000000000000000000000000000000000000000040006 s (execCellReturned cell s) := by
  refine RunsKept.of_run ?_
  extract_lets x0 x1 x2 x3
  refine Kept.ite ?_ ?_
  · refine Kept.step (Chip.setClaimed_kept ..) (by decide) ?_
    subst x0
    exact (Chip.seen_kept ..).mono (by decide)
  · split
    · refine Kept.step (Chip.restartTarget_kept ..) (by decide) ?_
      refine Kept.step (Chip.modRing_kept ..) (by decide) ?_
      subst x1
      refine Kept.step (Chip.setClaimed_kept ..) (by decide) ?_
      subst x0
      exact (Chip.seen_kept ..).mono (by decide)
    · split
      · refine Kept.step (Chip.modRing_kept ..) (by decide) ?_
        refine Kept.step (Chip.setOut_kept ..) (by decide) ?_
        subst x1
        refine Kept.step (Chip.setClaimed_kept ..) (by decide) ?_
        subst x0
        exact (Chip.seen_kept ..).mono (by decide)
      · subst x1
        refine Kept.step (Chip.setClaimed_kept ..) (by decide) ?_
        subst x0
        exact (Chip.seen_kept ..).mono (by decide)
    · subst x1
      refine Kept.step (Chip.setClaimed_kept ..) (by decide) ?_
      subst x0
      exact (Chip.seen_kept ..).mono (by decide)

theorem execOutboundEntrySend_kept (s : State) : RunsKept 0x100000000000000000020000000000000000000000000000010409c6 s
    (execOutboundEntrySend s) := by
  refine RunsKept.of_run ?_
  split
  · refine Kept.ite ?_ ?_
    · exact (Chip.takeOut_kept ..).mono (by decide)
    · exact Kept.rfl
  · exact Kept.rfl

theorem execOutboundDelivered_kept (e : Fin 128) (s : State) : RunsKept 0x40004 s (execOutboundDelivered e s) := by
  refine RunsKept.of_run ?_
  refine Kept.ite ?_ ?_
  · refine Kept.step (Chip.modRing_kept ..) (by decide) ?_
    exact (Chip.setOut_kept ..).mono (by decide)
  · exact Kept.rfl

theorem execRingRxTailCommit_kept (v : DWord) (s : State) : RunsKept
    0x40000000000000000000000000000000000000000000000400000012 s (execRingRxTailCommit v s) := by
  refine RunsKept.of_run ?_
  refine Kept.step (Chip.commitRxTail_kept ..) (by decide) ?_
  exact (Chip.takeSup_kept ..).mono (by decide)

theorem execRemoteWriteExpire_kept (tag : Byte) (s : State) : RunsKept 0x800000000000040046 s (execRemoteWriteExpire tag s)
    := by
  refine RunsKept.of_run ?_
  split
  · refine Kept.step (Chip.logWrite_kept ..) (by decide) ?_
    exact (Chip.modRing_kept ..).mono (by decide)
  · exact Kept.rfl

theorem execRemoteWriteJudge_kept (tag : Byte) (s : State) : RunsKept 0x800000000000040046 s (execRemoteWriteJudge tag s) :=
    by
  refine RunsKept.of_run ?_
  split
  · exact (Chip.judgeTarget_kept ..).mono (by decide)
  · exact Kept.rfl

theorem execRingMasterLost_kept (s : State) : RunsKept 0x100000000000000000020000000000000000002000000004010401c2 s
    (execRingMasterLost s) := by
  refine RunsKept.of_run ?_
  refine Kept.ringEvent (by decide) (fun _ => ?_) ?_
  · refine Kept.ite ?_ ?_
    · refine Kept.step (Chip.ringFault_kept ..) (by decide) ?_
      refine Kept.step (Chip.modRing_kept ..) (by decide) ?_
      refine Kept.step (Chip.unlock_kept ..) (by decide) ?_
      exact (Kept.addFld_name .ringCounts 0 0 (Eq.refl _)).mono (by decide)
    · exact Kept.rfl
  · exact Kept.rfl

theorem execMasterElection_kept (s : State) (periods : Nat) : RunsKept
    0x20038000000000000000000000000000000000020000000040004004a s (execMasterElection s periods) := by
  refine RunsKept.of_run ?_
  refine Kept.ringEvent (by decide) (fun _ => ?_) ?_
  · refine Kept.ite ?_ ?_
    · exact (Chip.becomeMaster_kept ..).mono (by decide)
    · exact Kept.rfl
  · exact Kept.rfl

theorem execRingBroken_kept (s : State) : RunsKept 0x20000000000000000000000000000010001c2 s (execRingBroken s) := by
  refine RunsKept.of_run ?_
  refine Kept.ite ?_ ?_
  · exact (Chip.ringFault_kept ..).mono (by decide)
  · exact Kept.rfl

theorem execRingJoinFailed_kept (s : State) : RunsKept 0x800000000000000020000000000000000000000000004010401c2 s
    (execRingJoinFailed s) := by
  refine RunsKept.of_run ?_
  refine Kept.ringEvent (by decide) (fun _ => ?_) ?_
  · refine Kept.ite ?_ ?_
    · refine Kept.step (Chip.ringFault_kept ..) (by decide) ?_
      refine Kept.step (Chip.modRing_kept ..) (by decide) ?_
      refine Kept.step (Kept.setFld_name .ringJoinStatus 0 0 (Eq.refl _)) (by decide) ?_
      exact (Kept.setFld_name .ringJoinStatus 0 0 (Eq.refl _)).mono (by decide)
    · exact Kept.rfl
  · exact Kept.rfl

theorem execJoinRetry_kept (s : State) : RunsKept 0x80000000000000000000000000000000000000000000000040002 s (execJoinRetry
    s) := by
  refine RunsKept.of_run ?_
  refine Kept.ite ?_ ?_
  · refine Kept.step (Chip.modRing_kept ..) (by decide) ?_
    exact (Kept.setFld_name .ringJoinStatus 0 0 (Eq.refl _)).mono (by decide)
  · exact Kept.rfl

theorem execRingFound_kept (s : State) (periods : Nat) : RunsKept
    0x20038000000000000000000000000000000000020000000040004004a s (execRingFound s periods) := by
  refine RunsKept.of_run ?_
  refine Kept.ringEvent (by decide) (fun _ => ?_) ?_
  · refine Kept.ite ?_ ?_
    · exact (Chip.becomeMaster_kept ..).mono (by decide)
    · exact Kept.rfl
  · exact Kept.rfl

theorem execInsertEnable_kept (s : State) : RunsKept 0x20008000000000000000000000000000000000060000000040004004a s
    (execInsertEnable s) := by
  refine RunsKept.of_run ?_
  refine Kept.hostWrite ?_
  refine Kept.ringEvent (by decide) (fun _ => ?_) ?_
  · exact (Chip.writeRingControl_kept ..).mono (by decide)
  · exact Kept.rfl

theorem execRingLeave_kept (s : State) : RunsKept 0x20008000000000000000000000000000000000060000000040004004a s
    (execRingLeave s) := by
  refine RunsKept.of_run ?_
  refine Kept.hostWrite ?_
  refine Kept.ringEvent (by decide) (fun _ => ?_) ?_
  · exact (Chip.writeRingControl_kept ..).mono (by decide)
  · exact Kept.rfl

theorem execTwinFrameReceive_kept (bytes : Vector Byte 23) (symErr : Bool) (arrival : Word) (s : State) : RunsKept
    0xf800000000000000000002000000000000000000080000000001092bce s (execTwinFrameReceive bytes symErr arrival s) := by
  refine RunsKept.of_run ?_
  exact (Chip.takeTwinFrame_kept ..).mono (by decide)

theorem execTwinLinkLost_kept (s : State) : RunsKept 0xa0000000000000000000020000000000000000000800000000010921c6 s
    (execTwinLinkLost s) := by
  refine RunsKept.of_run ?_
  refine Kept.ite ?_ ?_
  · exact (Chip.linkFall_kept ..).mono (by decide)
  · exact Kept.rfl

theorem execMirrorBlock_kept (s : State) : RunsKept 0x2000000000000000000000000000000000000000000000000000080002 s
    (execMirrorBlock s) := by
  refine RunsKept.of_run ?_
  refine Kept.takePacket (by decide) (fun _ _ _ => ?_) ?_
  · exact (Chip.takeBlockPacket_kept ..).mono (by decide)
  · exact Kept.rfl

theorem execMirrorCommit_kept (s : State) : RunsKept 0x2000000000000000000000000000000000000000000000000000080002 s
    (execMirrorCommit s) := by
  refine RunsKept.of_run ?_
  refine Kept.takePacket (by decide) (fun _ _ _ => ?_) ?_
  · exact (Chip.takeCommitPacket_kept ..).mono (by decide)
  · exact Kept.rfl

theorem execMirrorDirect_kept (s : State) : RunsKept 0x2000000000000000000000000000000000000000000000000000080002 s
    (execMirrorDirect s) := by
  refine RunsKept.of_run ?_
  refine Kept.takePacket (by decide) (fun _ _ _ => ?_) ?_
  · exact (Chip.takeDirectPacket_kept ..).mono (by decide)
  · exact Kept.rfl

theorem execMirrorApply_kept (s : State) : RunsKept 0x80000 s (execMirrorApply s) := by
  refine RunsKept.of_run ?_
  refine Kept.takePacket (by decide) (fun _ _ _ => ?_) ?_
  · exact (Chip.takeApplyPacket_kept ..).mono (by decide)
  · exact Kept.rfl

theorem execMirrorGroupTakeIn_kept (s : State) : RunsKept 0xa000004001480000000002004008701f6090000003000000048109bfc6 s
    (execMirrorGroupTakeIn s) := by
  refine RunsKept.of_run ?_
  refine Kept.ite ?_ ?_
  · exact (Chip.takeGroup_kept ..).mono (by decide)
  · exact Kept.rfl

theorem execCapturePacket_kept (s : State) : RunsKept 0x80000 s (execCapturePacket s) := by
  refine RunsKept.of_run ?_
  refine Kept.takePacket (by decide) (fun _ _ _ => ?_) ?_
  · exact (Chip.takeCapturePacket_kept ..).mono (by decide)
  · exact Kept.rfl

theorem execCaptureApply_kept (s : State) : RunsKept 0x2000000000800000000000000088000000000000000000000000081642 s
    (execCaptureApply s) := by
  refine RunsKept.of_run ?_
  refine Kept.ite ?_ ?_
  · exact (Chip.captureTick_kept ..).mono (by decide)
  · exact Kept.rfl

theorem execHello_kept (s : State) : RunsKept 0xa8000000000000000000020000000000000000000800000000010923c6 s (execHello s)
    := by
  refine RunsKept.of_run ?_
  refine Kept.takePacket (by decide) (fun _ _ _ => ?_) ?_
  · exact (Chip.takeHello_kept ..).mono (by decide)
  · exact Kept.rfl

theorem execTwinEnable_kept (en : Bool) (phaseG : Bool) (s : State) : RunsKept 0x80000000000000000012 s (execTwinEnable en
    phaseG s) := by
  refine RunsKept.of_run ?_
  refine Kept.hostWrite ?_
  exact (Chip.writeTwinControl_kept ..).mono (by decide)

theorem execTwinIsolate_kept (en : Bool) (phaseG : Bool) (s : State) : RunsKept 0x80000000000000000012 s (execTwinIsolate en
    phaseG s) := by
  refine RunsKept.of_run ?_
  refine Kept.hostWrite ?_
  exact (Chip.writeTwinControl_kept ..).mono (by decide)

theorem execTwinRejoin_kept (en : Bool) (phaseG : Bool) (s : State) : RunsKept 0x80000000000000000012 s (execTwinRejoin en
    phaseG s) := by
  refine RunsKept.of_run ?_
  refine Kept.hostWrite ?_
  exact (Chip.writeTwinControl_kept ..).mono (by decide)

theorem execFoundingClaim_kept (en : Bool) (phaseG : Bool) (s : State) : RunsKept 0x80000000000000000012 s
    (execFoundingClaim en phaseG s) := by
  refine RunsKept.of_run ?_
  refine Kept.hostWrite ?_
  exact (Chip.writeTwinControl_kept ..).mono (by decide)

theorem execPlannedHandover_kept (en : Bool) (phaseG : Bool) (s : State) : RunsKept 0x80000000000000000012 s
    (execPlannedHandover en phaseG s) := by
  refine RunsKept.of_run ?_
  refine Kept.hostWrite ?_
  exact (Chip.writeTwinControl_kept ..).mono (by decide)

theorem execHandoverExecute_kept (s : State) : RunsKept 0xa000000000000000000000000000100000000000080000000000093046 s
    (execHandoverExecute s) := by
  refine RunsKept.of_run ?_
  refine Kept.ite ?_ ?_
  · exact (Chip.executeHand_kept ..).mono (by decide)
  · exact Kept.rfl

theorem execTwinTakeover_kept (s : State) : RunsKept 0xe0000000000000000000020000001000000000000800000000010d21c6 s
    (execTwinTakeover s) := by
  refine RunsKept.of_run ?_
  refine Kept.step (Chip.takeover_kept ..) (by decide) ?_
  exact (Kept.setFlag_name .twinStatus 0 0 (Eq.refl _)).mono (by decide)

theorem execTwinOwnerCollision_kept (s : State) : RunsKept 0xa0000000000000000000020000000000000000000800000000010921c6 s
    (execTwinOwnerCollision s) := by
  refine RunsKept.of_run ?_
  refine Kept.ite ?_ ?_
  · refine Kept.step (Chip.collide_kept ..) (by decide) ?_
    exact (Kept.setFlag_name .twinStatus 0 0 (Eq.refl _)).mono (by decide)
  · exact Kept.rfl

theorem execCipherStart_kept (mask : Byte) (s : State) : RunsKept 0x70220000000000000000000000000000010209d6 s
    (execCipherStart mask s) := by
  refine RunsKept.of_run ?_
  refine Kept.step (Chip.startJobs_kept ..) (by decide) ?_
  exact (Chip.takeSup_kept ..).mono (by decide)

theorem execGcmEncrypt_kept (wait : Word) (s : State) : RunsKept 0x70220000000000000000000000000000010209c6 s
    (execGcmEncrypt wait s) := by
  refine RunsKept.of_run ?_
  exact (Chip.runOp_kept ..).mono (by decide)

theorem execGcmDecrypt_kept (wait : Word) (s : State) : RunsKept 0x70220000000000000000000000000000010209c6 s
    (execGcmDecrypt wait s) := by
  refine RunsKept.of_run ?_
  exact (Chip.runOp_kept ..).mono (by decide)

theorem execCtr_kept (wait : Word) (s : State) : RunsKept 0x70220000000000000000000000000000010209c6 s (execCtr wait s) := by
  refine RunsKept.of_run ?_
  exact (Chip.runOp_kept ..).mono (by decide)

theorem execCmacGenerate_kept (wait : Word) (s : State) : RunsKept 0x70220000000000000000000000000000010209c6 s
    (execCmacGenerate wait s) := by
  refine RunsKept.of_run ?_
  exact (Chip.runOp_kept ..).mono (by decide)

theorem execCmacVerify_kept (wait : Word) (s : State) : RunsKept 0x70220000000000000000000000000000010209c6 s
    (execCmacVerify wait s) := by
  refine RunsKept.of_run ?_
  exact (Chip.runOp_kept ..).mono (by decide)

theorem execDerive_kept (wait : Word) (s : State) : RunsKept 0x70220000000000000000000000000000010209c6 s (execDerive wait
    s) := by
  refine RunsKept.of_run ?_
  exact (Chip.runOp_kept ..).mono (by decide)

theorem execUnwrap_kept (wait : Word) (s : State) : RunsKept 0x70220000000000000000000000000000010209c6 s (execUnwrap wait
    s) := by
  refine RunsKept.of_run ?_
  exact (Chip.runOp_kept ..).mono (by decide)

theorem execCipherErase_kept (mask : Word) (time : Word) (s : State) : RunsKept 0x70220000000000000000000000000000010209d6 s
    (execCipherErase mask time s) := by
  refine RunsKept.of_run ?_
  refine Kept.step (Chip.commitErase_kept ..) (by decide) ?_
  exact (Chip.takeSup_kept ..).mono (by decide)

theorem execKeyAlarm_kept (cause : Fin 4) (time : Word) (s : State) : RunsKept 0x71220000000000000000000000000000010209c6 s
    (execKeyAlarm cause time s) := by
  refine RunsKept.of_run ?_
  refine Kept.ite ?_ ?_
  · exact (Chip.keyAlarm_kept ..).mono (by decide)
  · exact Kept.rfl

theorem execAlarmLatchClear_kept (persists : BitVec 3) (s : State) : RunsKept 0x4120000000000000000000000000000001020012 s
    (execAlarmLatchClear persists s) := by
  refine RunsKept.of_run ?_
  refine Kept.step (Chip.clearAlarm_kept ..) (by decide) ?_
  exact (Chip.takeSup_kept ..).mono (by decide)

theorem execCanFrameReceive_kept (f : CanFrame) (s : State) : RunsKept 0x3c0c00020000000000000000000000000000011009c2 s
    (execCanFrameReceive f s) := by
  refine RunsKept.of_run ?_
  exact (Chip.receiveFrame_kept ..).mono (by decide)

theorem execMbTxRequest_kept (b : Fin 12) (v : DWord) (s : State) : RunsKept 0x4800000000000000000000000000000000000000052 s
    (execMbTxRequest b v s) := by
  refine RunsKept.of_run ?_
  refine Kept.step (Chip.commitMbCfg_kept ..) (by decide) ?_
  exact (Chip.takeSup_kept ..).mono (by decide)

theorem execMbTxAbort_kept (b : Fin 12) (v : DWord) (sending : Bool) (s : State) : RunsKept
    0x4800000000000000000000000000000000000000052 s (execMbTxAbort b v sending s) := by
  refine RunsKept.of_run ?_
  refine Kept.step (Chip.commitMbCfg_kept ..) (by decide) ?_
  exact (Chip.takeSup_kept ..).mono (by decide)

theorem execCanTxComplete_kept (queued : Word) (s : State) : RunsKept 0x4840002000000000800000040000000010083fff7fe s
    (execCanTxComplete queued s) := by
  refine RunsKept.of_run ?_
  refine Kept.step (Chip.resetWhenSent_kept ..) (by decide) ?_
  exact (Chip.txComplete_kept ..).mono (by decide)

theorem execMbFullClear_kept (b : Fin 12) (v : DWord) (s : State) : RunsKept 0x4000000000000000000000000000000000000000012 s
    (execMbFullClear b v s) := by
  refine RunsKept.of_run ?_
  refine Kept.step (Kept.storeMasked_name .mbStatus _ 0 (Eq.refl _)) (by decide) ?_
  exact (Chip.takeSup_kept ..).mono (by decide)

theorem execCanCfgCommit_kept (v : DWord) (s : State) : RunsKept 0x480020000000000000000000000000000011001d2 s
    (execCanCfgCommit v s) := by
  refine RunsKept.of_run ?_
  refine Kept.step (Chip.commitCanCfg_kept ..) (by decide) ?_
  exact (Chip.takeSup_kept ..).mono (by decide)

theorem execCanBusOff_kept (s : State) : RunsKept 0xc00020000000000000000000000000000011001c2 s (execCanBusOff s) := by
  refine RunsKept.of_run ?_
  exact (Chip.goBusOff_kept ..).mono (by decide)

theorem execCanBusoffRecovery_kept (s : State) : RunsKept 0x40000000000000000000000000000000001100002 s
    (execCanBusoffRecovery s) := by
  refine RunsKept.of_run ?_
  exact (Chip.recoverBus_kept ..).mono (by decide)

theorem execSingleFrame_kept (s : State) : RunsKept 0x2000080000000000000000000000000000000000100002 s (execSingleFrame s)
    := by
  refine RunsKept.of_run ?_
  refine Kept.withFrame (by decide) (fun _ _ _ => ?_) ?_
  · exact (Chip.takeSingle_kept ..).mono (by decide)
  · exact Kept.rfl

theorem execFirstFrame_kept (s : State) : RunsKept 0x100000 s (execFirstFrame s) := by
  refine RunsKept.of_run ?_
  refine Kept.withFrame (by decide) (fun _ _ _ => ?_) ?_
  · exact (Chip.takeFirst_kept ..).mono (by decide)
  · exact Kept.rfl

theorem execConsecutiveFrame_kept (s : State) : RunsKept 0x2000080000000000000000000000000000000000100002 s
    (execConsecutiveFrame s) := by
  refine RunsKept.of_run ?_
  refine Kept.withFrame (by decide) (fun _ _ _ => ?_) ?_
  · exact (Chip.takeConsecutive_kept ..).mono (by decide)
  · exact Kept.rfl

theorem execFlowControl_kept (s : State) : RunsKept 0x100800 s (execFlowControl s) := by
  refine RunsKept.of_run ?_
  refine Kept.withFrame (by decide) (fun _ _ _ => ?_) ?_
  · exact (Chip.takeFlow_kept ..).mono (by decide)
  · exact Kept.rfl

theorem execIsotpTimeout_kept (sending : Bool) (s : State) : RunsKept 0x100000 s (execIsotpTimeout sending s) := by
  refine RunsKept.of_run ?_
  refine Kept.ite ?_ ?_
  · exact (Chip.modCan_kept ..).mono (by decide)
  · exact Kept.rfl

theorem execDiagnosticSessionControl_kept (s : State) : RunsKept 0x4c0000000000000000000000000000000000100102 s
    (execDiagnosticSessionControl s) := by
  refine RunsKept.of_run ?_
  refine Kept.serve (fun _ _ => ?_) ?_
  · exact (Chip.sessionControl_kept ..).mono (by decide)
  · exact Kept.rfl

theorem execEcuReset_kept (s : State) : RunsKept 0x80000000000000800000040000000010083fff7fe s (execEcuReset s) := by
  refine RunsKept.of_run ?_
  refine Kept.serve (fun _ _ => ?_) ?_
  · exact (Chip.ecuReset_kept ..).mono (by decide)
  · exact Kept.rfl

theorem execClearDiagnosticInformation_kept (s : State) (fails : Nat) : RunsKept 0x800020000000000000000000000000000011001c2
    s (execClearDiagnosticInformation s fails) := by
  refine RunsKept.of_run ?_
  refine Kept.serve (fun _ _ => ?_) ?_
  · exact (Chip.clearCodes_kept ..).mono (by decide)
  · exact Kept.rfl

theorem execReportNumberOfDtcByStatusMask_kept (s : State) : RunsKept 0x80000000000000000000000000000000000100002 s
    (execReportNumberOfDtcByStatusMask s) := by
  refine RunsKept.of_run ?_
  refine Kept.serve (fun _ _ => ?_) ?_
  · exact (Chip.reportCount_kept ..).mono (by decide)
  · exact Kept.rfl

theorem execReportDtcByStatusMask_kept (s : State) : RunsKept 0x80000000000000000000000000000000000100002 s
    (execReportDtcByStatusMask s) := by
  refine RunsKept.of_run ?_
  refine Kept.serve (fun _ _ => ?_) ?_
  · exact (Chip.reportCodes_kept ..).mono (by decide)
  · exact Kept.rfl

theorem execReportDtcSnapshotRecord_kept (s : State) : RunsKept 0x80000000000000000000000000000000000100002 s
    (execReportDtcSnapshotRecord s) := by
  refine RunsKept.of_run ?_
  refine Kept.serve (fun _ _ => ?_) ?_
  · exact (Chip.reportRecords_kept ..).mono (by decide)
  · exact Kept.rfl

theorem execReportDtcExtendedDataRecord_kept (s : State) : RunsKept 0x80000000000000000000000000000000000100002 s
    (execReportDtcExtendedDataRecord s) := by
  refine RunsKept.of_run ?_
  refine Kept.serve (fun _ _ => ?_) ?_
  · exact (Chip.reportRecords_kept ..).mono (by decide)
  · exact Kept.rfl

theorem execReadDataByIdentifier_kept (s : State) : RunsKept 0x80000000000000000000000000000000000100802 s
    (execReadDataByIdentifier s) := by
  refine RunsKept.of_run ?_
  refine Kept.serve (fun _ _ => ?_) ?_
  · exact (Chip.readIdentifiers_kept ..).mono (by decide)
  · exact Kept.rfl

theorem execWriteDataByIdentifier_kept (s : State) : RunsKept 0x80004000000000000000000000000000000100002 s
    (execWriteDataByIdentifier s) := by
  refine RunsKept.of_run ?_
  refine Kept.serve (fun _ _ => ?_) ?_
  · exact (Chip.writeIdentifier_kept ..).mono (by decide)
  · exact Kept.rfl

theorem execRequestSeed_kept (s : State) : RunsKept 0x80000000000000000000000000000000000100002 s (execRequestSeed s) := by
  refine RunsKept.of_run ?_
  refine Kept.serve (fun _ _ => ?_) ?_
  · exact (Chip.requestSeed_kept ..).mono (by decide)
  · exact Kept.rfl

theorem execSendKey_kept (time : Word) (s : State) : RunsKept 0x4871220000000000000000000000000000011209c6 s (execSendKey
    time s) := by
  refine RunsKept.of_run ?_
  refine Kept.serve (fun _ _ => ?_) ?_
  · exact (Chip.sendKey_kept ..).mono (by decide)
  · exact Kept.rfl

theorem execSecurityDelayEnd_kept (s : State) : RunsKept 0x400000000000000000000000000000000000000002 s
    (execSecurityDelayEnd s) := by
  refine RunsKept.of_run ?_
  exact (Kept.setFlag_name .canDiagStatus 0 0 (Eq.refl _)).mono (by decide)

theorem execCommunicationControl_kept (s : State) : RunsKept 0xc0000000000000000000000000000000000100002 s
    (execCommunicationControl s) := by
  refine RunsKept.of_run ?_
  refine Kept.serve (fun _ _ => ?_) ?_
  · exact (Chip.communication_kept ..).mono (by decide)
  · exact Kept.rfl

theorem execRoutineJournalRead_kept (s : State) : RunsKept 0x800020000000000000000000000000000011009c2 s
    (execRoutineJournalRead s) := by
  refine RunsKept.of_run ?_
  refine Kept.serve (fun _ _ => ?_) ?_
  · exact (Chip.routineJournal_kept ..).mono (by decide)
  · exact Kept.rfl

theorem execTagRefresh_kept (s : State) : RunsKept 0x900080000000000000000000000000000000000300002 s (execTagRefresh s) := by
  refine RunsKept.of_run ?_
  refine Kept.serve (fun _ _ => ?_) ?_
  · exact (Chip.routineTag_kept ..).mono (by decide)
  · exact Kept.rfl

theorem execRoutineKeyPurge_kept (time : Word) (s : State) : RunsKept 0x871220000000000000000000000000000011209c6 s
    (execRoutineKeyPurge time s) := by
  refine RunsKept.of_run ?_
  refine Kept.serve (fun _ _ => ?_) ?_
  · exact (Chip.routinePurge_kept ..).mono (by decide)
  · exact Kept.rfl

theorem execTesterPresent_kept (s : State) : RunsKept 0x80000000000000000000000000000000000100002 s (execTesterPresent s) :=
    by
  refine RunsKept.of_run ?_
  refine Kept.serve (fun _ _ => ?_) ?_
  · exact (Chip.stillHere_kept ..).mono (by decide)
  · exact Kept.rfl

theorem execControlDtcSetting_kept (s : State) (fails : Nat) : RunsKept 0x4800020000000000000000000000000000011001c2 s
    (execControlDtcSetting s fails) := by
  refine RunsKept.of_run ?_
  refine Kept.serve (fun _ _ => ?_) ?_
  · exact (Chip.dtcSetting_kept ..).mono (by decide)
  · exact Kept.rfl

theorem execUnsupportedService_kept (s : State) : RunsKept 0x80000000000000000000000000000000000100002 s
    (execUnsupportedService s) := by
  refine RunsKept.of_run ?_
  refine Kept.serve (fun _ _ => ?_) ?_
  · exact (Chip.negative_kept ..).mono (by decide)
  · exact Kept.rfl

theorem execForwardedRequest_kept (s : State) : RunsKept 0x400000000000000000000000000000000000100042 s
    (execForwardedRequest s) := by
  refine RunsKept.of_run ?_
  exact (Chip.forwardRequest_kept ..).mono (by decide)

theorem execForwardTimeout_kept (s : State) (ms : Word) : RunsKept 0x4800020000000000000000000000000000011001c2 s
    (execForwardTimeout s ms) := by
  refine RunsKept.of_run ?_
  exact (Chip.forwardTimeout_kept ..).mono (by decide)

theorem execResponsePending_kept (s : State) : RunsKept 0x80000000000000000000000000000000000100002 s (execResponsePending
    s) := by
  refine RunsKept.of_run ?_
  split
  · refine Kept.ite ?_ ?_
    · exact (Chip.sendNegative_kept ..).mono (by decide)
    · exact Kept.rfl
  · exact Kept.rfl

theorem execSessionTimeout_kept (s : State) : RunsKept 0x440000000000000000000000000000000000100102 s (execSessionTimeout s)
    := by
  refine RunsKept.of_run ?_
  refine Kept.ite ?_ ?_
  · exact (Chip.setSession_kept ..).mono (by decide)
  · exact Kept.rfl

theorem execTagPumpReady_kept (s : State) : RunsKept 0x300000000000000000000000000000000000000200002 s (execTagPumpReady s)
    := by
  refine RunsKept.of_run ?_
  refine Kept.ite ?_ ?_
  · exact (Chip.endTagStep_kept ..).mono (by decide)
  · exact Kept.rfl

theorem execTagDrivePhaseEnd_kept (s : State) : RunsKept 0x300000000000000000000000000000000000000200002 s
    (execTagDrivePhaseEnd s) := by
  refine RunsKept.of_run ?_
  refine Kept.ite ?_ ?_
  · exact (Chip.endTagStep_kept ..).mono (by decide)
  · exact Kept.rfl

theorem execTagJournalDone_kept (ok : Bool) (eraseOk : Bool) (s : State) (fails : Nat) : RunsKept
    0xb000000020000000000000000000000000000012001c2 s (execTagJournalDone ok eraseOk s fails) := by
  refine RunsKept.of_run ?_
  refine Kept.ite ?_ ?_
  · exact (Chip.tagWritten_kept ..).mono (by decide)
  · exact Kept.rfl

theorem execTagFailed_kept (s : State) : RunsKept 0x9000000020000000000000000000000000000012001c2 s (execTagFailed s) := by
  refine RunsKept.of_run ?_
  refine Kept.ite ?_ ?_
  · exact (Chip.failTag_kept ..).mono (by decide)
  · exact Kept.rfl

theorem execTagRecoveryStart_kept (s : State) : RunsKept 0x100000000000000000000000000000000000000200002 s
    (execTagRecoveryStart s) := by
  refine RunsKept.of_run ?_
  refine Kept.ite ?_ ?_
  · exact (Chip.startTag_kept ..).mono (by decide)
  · exact Kept.rfl

theorem execTagSkipped_kept (s : State) : RunsKept 0x1000000020000000000000000000000000000010001c2 s (execTagSkipped s) := by
  refine RunsKept.of_run ?_
  refine Kept.ite ?_ ?_
  · refine Kept.step (Chip.fault_kept ..) (by decide) ?_
    refine Kept.step (Kept.setFld_name .tagStatus 0 0 (Eq.refl _)) (by decide) ?_
    exact (Kept.setFld_name .tagStatus 0 0 (Eq.refl _)).mono (by decide)
  · exact Kept.rfl

theorem execTagDueRecompute_kept (s : State) : RunsKept 0x500000000000000000000000000000000000000000002 s
    (execTagDueRecompute s) := by
  refine RunsKept.of_run ?_
  refine Kept.ite ?_ ?_
  · exact (Chip.recomputeDue_kept ..).mono (by decide)
  · exact Kept.rfl

theorem execTapReset_kept (s : State) : RunsKept 0x400000 s (execTapReset s) := by
  refine RunsKept.of_run ?_
  exact (Chip.selectTap_kept ..).mono (by decide)

theorem execExtest_kept (scan : Option DrScan) (s : State) : RunsKept 0x400000 s (execExtest scan s) := by
  refine RunsKept.of_run ?_
  refine Kept.step (Chip.scanBoundary_kept ..) (by decide) ?_
  exact (Chip.selectTap_kept ..).mono (by decide)

theorem execIdcode_kept (s : State) : RunsKept 0x400000 s (execIdcode s) := by
  refine RunsKept.of_run ?_
  exact (Chip.selectTap_kept ..).mono (by decide)

theorem execSamplePreload_kept (scan : Option DrScan) (s : State) : RunsKept 0x400000 s (execSamplePreload scan s) := by
  refine RunsKept.of_run ?_
  refine Kept.step (Chip.scanBoundary_kept ..) (by decide) ?_
  exact (Chip.selectTap_kept ..).mono (by decide)

theorem execBypass_kept (s : State) : RunsKept 0x400000 s (execBypass s) := by
  refine RunsKept.of_run ?_
  exact (Chip.selectTap_kept ..).mono (by decide)

theorem execMbxDoorbell_kept (s : State) : RunsKept 0x800000000000012 s (execMbxDoorbell s) := by
  refine RunsKept.of_run ?_
  refine Kept.hostWrite ?_
  exact (Chip.ringDoorbell_kept ..).mono (by decide)

theorem execSupervisorCommitTakeIn_kept (time : Word) (persists : BitVec 3) (sending : Bool) (s : State) : RunsKept
    0xc000000000050484f1220000000000000000000000000004811609d6 s (execSupervisorCommitTakeIn time persists sending s) := by
  refine RunsKept.of_run ?_
  split
  · refine Kept.step (Chip.applySup_kept ..) (by decide) ?_
    exact (Chip.takeSup_kept ..).mono (by decide)
  · exact Kept.rfl

theorem execRailInRegulation_kept (r : Rail) (s : State) : RunsKept 0x2800000000020000000000000000000000000000010101c2 s
    (execRailInRegulation r s) := by
  refine RunsKept.of_run ?_
  refine Kept.ite ?_ ?_
  · exact (Chip.railIs_kept ..).mono (by decide)
  · exact Kept.rfl

theorem execCanBusError_kept (kind : CanError) (tec : Byte) (rec : Byte) (s : State) : RunsKept
    0x400020000000000000000000000000000010001c2 s (execCanBusError kind tec rec s) := by
  refine RunsKept.of_run ?_
  exact (Chip.busError_kept ..).mono (by decide)

theorem execStminElapsed_kept (s : State) (us : DWord) : RunsKept 0x100000 s (execStminElapsed s us) := by
  refine RunsKept.of_run ?_
  split
  · refine Kept.ite ?_ ?_
    · exact (Chip.sendConsecutive_kept ..).mono (by decide)
    · exact Kept.rfl
  · exact Kept.rfl

theorem execValveOpenClear_kept (v : Fin 16) (s : State) : RunsKept 0x80000002 s (execValveOpenClear v s) := by
  refine RunsKept.of_run ?_
  exact (Chip.setBit_kept ..).mono (by decide)

theorem execValvePwmTransition_kept (v : Fin 16) (at' : Fin 403) (s : State) : RunsKept 0x2008 s (execValvePwmTransition v
    at' s) := by
  refine RunsKept.of_run ?_
  refine Kept.step (Chip.pwmTurn_kept ..) (by decide) ?_
  exact (Chip.atStep_kept ..).mono (by decide)

end Sys2Proof.Machine
end

