-- ==== Sys2Proof/Laws/Names.lean ====
section
/-!
SUPPORT. A register outside the names of a frame's mask keeps its value.
-/

namespace Sys2Proof.Machine

/-- How many registers a name has, by each of its indices. -/
def RegName.counts : RegName → Nat × Nat
  | .tuCfg => (4, 1)
  | .tuCount => (4, 1)
  | .tuStatus => (4, 1)
  | .chCtrl => (4, 4)
  | .chValue => (4, 4)
  | .chInterval => (4, 4)
  | .chStatus => (4, 4)
  | .tuSnap => (4, 1)
  | .coreCfg => (2, 1)
  | .monResult => (8, 1)
  | .reqCfg => (16, 1)
  | .reqTime => (16, 1)
  | .resHead => (16, 1)
  | .resTail => (16, 1)
  | .resWm => (16, 1)
  | .resStatus => (16, 1)
  | .injCh => (24, 1)
  | .valveCfg => (16, 1)
  | .vreg => (8, 1)
  | .profI => (8, 1)
  | .profT => (8, 1)
  | .profCtrl => (8, 1)
  | .bankCfg => (6, 1)
  | .bankStatus => (6, 1)
  | .bankCounts => (6, 1)
  | .injDiag => (24, 1)
  | .wheelCfg => (4, 1)
  | .wheelVr => (4, 1)
  | .wheelFilt => (4, 1)
  | .wheelVerify => (4, 1)
  | .wheelStatus => (4, 1)
  | .wheelCounts => (4, 1)
  | .wheelEdges => (4, 1)
  | .irqSrc => (64, 1)
  | .jobResult => (8, 1)
  | .slotInfo => (16, 1)
  | .mbCfg => (16, 1)
  | .mbId => (16, 1)
  | .mbMask => (16, 1)
  | .mbStatus => (16, 1)
  | .mbRxid => (16, 1)
  | .mbStamp => (16, 1)
  | .mbData => (16, 16)
  | .tioSel => (8, 1)
  | .ringMembers => (8, 1)
  | _ => (1, 1)

theorem RegName.addr_mod (r : RegName) (i j : Nat) : r.addr i j = r.addr (i % r.counts.1) (j % r.counts.2) := by
  cases r <;> first
    | rfl
    | (dsimp only [RegName.addr, RegName.counts]
       first
        | (unfold R.tuCfg; simp only [Nat.mod_mod])
        | (unfold R.tuCount; simp only [Nat.mod_mod])
        | (unfold R.tuStatus; simp only [Nat.mod_mod])
        | (unfold R.chCtrl; simp only [Nat.mod_mod])
        | (unfold R.chValue; simp only [Nat.mod_mod])
        | (unfold R.chInterval; simp only [Nat.mod_mod])
        | (unfold R.chStatus; simp only [Nat.mod_mod])
        | (unfold R.tuSnap; simp only [Nat.mod_mod])
        | (unfold R.coreCfg; simp only [Nat.mod_mod])
        | (unfold R.monResult; simp only [Nat.mod_mod])
        | (unfold R.reqCfg; simp only [Nat.mod_mod])
        | (unfold R.reqTime; simp only [Nat.mod_mod])
        | (unfold R.resHead; simp only [Nat.mod_mod])
        | (unfold R.resTail; simp only [Nat.mod_mod])
        | (unfold R.resWm; simp only [Nat.mod_mod])
        | (unfold R.resStatus; simp only [Nat.mod_mod])
        | (unfold R.injCh; simp only [Nat.mod_mod])
        | (unfold R.valveCfg; simp only [Nat.mod_mod])
        | (unfold R.vreg; simp only [Nat.mod_mod])
        | (unfold R.profI; simp only [Nat.mod_mod])
        | (unfold R.profT; simp only [Nat.mod_mod])
        | (unfold R.profCtrl; simp only [Nat.mod_mod])
        | (unfold R.bankCfg; simp only [Nat.mod_mod])
        | (unfold R.bankStatus; simp only [Nat.mod_mod])
        | (unfold R.bankCounts; simp only [Nat.mod_mod])
        | (unfold R.injDiag; simp only [Nat.mod_mod])
        | (unfold R.wheelCfg; simp only [Nat.mod_mod])
        | (unfold R.wheelVr; simp only [Nat.mod_mod])
        | (unfold R.wheelFilt; simp only [Nat.mod_mod])
        | (unfold R.wheelVerify; simp only [Nat.mod_mod])
        | (unfold R.wheelStatus; simp only [Nat.mod_mod])
        | (unfold R.wheelCounts; simp only [Nat.mod_mod])
        | (unfold R.wheelEdges; simp only [Nat.mod_mod])
        | (unfold R.irqSrc; simp only [Nat.mod_mod])
        | (unfold R.jobResult; simp only [Nat.mod_mod])
        | (unfold R.slotInfo; simp only [Nat.mod_mod])
        | (unfold R.mbCfg; simp only [Nat.mod_mod])
        | (unfold R.mbId; simp only [Nat.mod_mod])
        | (unfold R.mbMask; simp only [Nat.mod_mod])
        | (unfold R.mbStatus; simp only [Nat.mod_mod])
        | (unfold R.mbRxid; simp only [Nat.mod_mod])
        | (unfold R.mbStamp; simp only [Nat.mod_mod])
        | (unfold R.mbData; simp only [Nat.mod_mod])
        | (unfold R.tioSel; simp only [Nat.mod_mod])
        | (unfold R.ringMembers; simp only [Nat.mod_mod]))

/-- The register at `a` is none of the name's. -/
def RegName.avoids (r : RegName) (a : Nat) : Bool :=
  (List.range r.counts.1).all fun i => (List.range r.counts.2).all fun j => r.addr i j != a

theorem RegName.counts_pos (r : RegName) : 0 < r.counts.1 ∧ 0 < r.counts.2 := by cases r <;> decide

theorem RegName.addr_ne {r : RegName} {a : Nat} (h : r.avoids a = true) (i j : Nat) : r.addr i j ≠ a := by
  have h1 := List.all_eq_true.mp h (i % r.counts.1) (List.mem_range.mpr (Nat.mod_lt _ r.counts_pos.1))
  have h2 := List.all_eq_true.mp h1 (j % r.counts.2) (List.mem_range.mpr (Nat.mod_lt _ r.counts_pos.2))
  rw [r.addr_mod]
  simpa using h2

/-- The names. -/
def RegName.all : List RegName := (List.range 201).map RegName.ofNat

theorem RegName.mem_all (r : RegName) : r ∈ RegName.all := by
  refine List.mem_map.mpr ⟨r.ctorIdx, List.mem_range.mpr ?_, RegName.ofNat_ctorIdx r⟩
  cases r <;> decide

theorem Kept.get_of {m : Nat} {c d : Chip} (h : Kept m c d) (a : Nat) (h31 : m.testBit 31 = false)
    (ha : (RegName.all.all fun r => !m.testBit (32 + r.ctorIdx) || r.avoids a) = true) : d.get a = c.get a := by
  refine h.2.2 a h31 fun r hr => r.addr_ne ?_
  have := List.all_eq_true.mp ha r r.mem_all
  simpa [hr] using this

theorem Kept.fld_of {m : Nat} {c d : Chip} (h : Kept m c d) (f : Fld) (h31 : m.testBit 31 = false)
    (ha : (RegName.all.all fun r => !m.testBit (32 + r.ctorIdx) || r.avoids f.reg) = true) : d.fld f = c.fld f := by
  unfold Chip.fld; rw [h.get_of f.reg h31 ha]

theorem Kept.flag_of {m : Nat} {c d : Chip} (h : Kept m c d) (f : Fld) (h31 : m.testBit 31 = false)
    (ha : (RegName.all.all fun r => !m.testBit (32 + r.ctorIdx) || r.avoids f.reg) = true) : d.flag f = c.flag f := by
  unfold Chip.flag; rw [h.fld_of f h31 ha]

theorem Kept.same_of {m : Nat} {c d : Chip} (h : Kept m c d) (k : Comp) (hk : m.testBit k.bit = false) : k.same c d := h.2.1 k hk

end Sys2Proof.Machine
end

