-- ==== Sys2Proof/Laws/State.lean ====
section
/-!
SUPPORT. What each update of the state leaves alone, one lemma for each component of the block, and what a register reads as after
an update that is not one of the register file.
-/

namespace Sys2Proof.Machine

@[simp] theorem Chip.put_part (a : Nat) (v : DWord) (c : Chip) : (c.put a v).part = c.part := (rfl)
@[simp] theorem Chip.put_win (a : Nat) (v : DWord) (c : Chip) : (c.put a v).win = c.win := (rfl)
@[simp] theorem Chip.put_tb (a : Nat) (v : DWord) (c : Chip) : (c.put a v).tb = c.tb := (rfl)
@[simp] theorem Chip.put_bus (a : Nat) (v : DWord) (c : Chip) : (c.put a v).bus = c.bus := (rfl)
@[simp] theorem Chip.put_pub (a : Nat) (v : DWord) (c : Chip) : (c.put a v).pub = c.pub := (rfl)
@[simp] theorem Chip.put_pubOld (a : Nat) (v : DWord) (c : Chip) : (c.put a v).pubOld = c.pubOld := (rfl)
@[simp] theorem Chip.put_irq (a : Nat) (v : DWord) (c : Chip) : (c.put a v).irq = c.irq := (rfl)
@[simp] theorem Chip.put_flt (a : Nat) (v : DWord) (c : Chip) : (c.put a v).flt = c.flt := (rfl)
@[simp] theorem Chip.put_jnl (a : Nat) (v : DWord) (c : Chip) : (c.put a v).jnl = c.jnl := (rfl)
@[simp] theorem Chip.put_wheels (a : Nat) (v : DWord) (c : Chip) : (c.put a v).wheels = c.wheels := (rfl)
@[simp] theorem Chip.put_pred (a : Nat) (v : DWord) (c : Chip) : (c.put a v).pred = c.pred := (rfl)
@[simp] theorem Chip.put_free (a : Nat) (v : DWord) (c : Chip) : (c.put a v).free = c.free := (rfl)
@[simp] theorem Chip.put_sched (a : Nat) (v : DWord) (c : Chip) : (c.put a v).sched = c.sched := (rfl)
@[simp] theorem Chip.put_outs (a : Nat) (v : DWord) (c : Chip) : (c.put a v).outs = c.outs := (rfl)
@[simp] theorem Chip.put_timers (a : Nat) (v : DWord) (c : Chip) : (c.put a v).timers = c.timers := (rfl)
@[simp] theorem Chip.put_conv (a : Nat) (v : DWord) (c : Chip) : (c.put a v).conv = c.conv := (rfl)
@[simp] theorem Chip.put_power (a : Nat) (v : DWord) (c : Chip) : (c.put a v).power = c.power := (rfl)
@[simp] theorem Chip.put_cipher (a : Nat) (v : DWord) (c : Chip) : (c.put a v).cipher = c.cipher := (rfl)
@[simp] theorem Chip.put_ring (a : Nat) (v : DWord) (c : Chip) : (c.put a v).ring = c.ring := (rfl)
@[simp] theorem Chip.put_twin (a : Nat) (v : DWord) (c : Chip) : (c.put a v).twin = c.twin := (rfl)
@[simp] theorem Chip.put_can (a : Nat) (v : DWord) (c : Chip) : (c.put a v).can = c.can := (rfl)
@[simp] theorem Chip.put_tag (a : Nat) (v : DWord) (c : Chip) : (c.put a v).tag = c.tag := (rfl)
@[simp] theorem Chip.put_tap (a : Nat) (v : DWord) (c : Chip) : (c.put a v).tap = c.tap := (rfl)
@[simp] theorem Chip.put_memOk (a : Nat) (v : DWord) (c : Chip) : (c.put a v).MemOk = c.MemOk := (rfl)
@[simp] theorem Chip.put_hasFreeSlot (a : Nat) (v : DWord) (c : Chip) : (c.put a v).hasFreeSlot = c.hasFreeSlot := (rfl)

@[simp] theorem Chip.setFld_part (f : Fld) (n : Nat) (c : Chip) : (c.setFld f n).part = c.part := (rfl)
@[simp] theorem Chip.setFld_win (f : Fld) (n : Nat) (c : Chip) : (c.setFld f n).win = c.win := (rfl)
@[simp] theorem Chip.setFld_tb (f : Fld) (n : Nat) (c : Chip) : (c.setFld f n).tb = c.tb := (rfl)
@[simp] theorem Chip.setFld_bus (f : Fld) (n : Nat) (c : Chip) : (c.setFld f n).bus = c.bus := (rfl)
@[simp] theorem Chip.setFld_pub (f : Fld) (n : Nat) (c : Chip) : (c.setFld f n).pub = c.pub := (rfl)
@[simp] theorem Chip.setFld_pubOld (f : Fld) (n : Nat) (c : Chip) : (c.setFld f n).pubOld = c.pubOld := (rfl)
@[simp] theorem Chip.setFld_irq (f : Fld) (n : Nat) (c : Chip) : (c.setFld f n).irq = c.irq := (rfl)
@[simp] theorem Chip.setFld_flt (f : Fld) (n : Nat) (c : Chip) : (c.setFld f n).flt = c.flt := (rfl)
@[simp] theorem Chip.setFld_jnl (f : Fld) (n : Nat) (c : Chip) : (c.setFld f n).jnl = c.jnl := (rfl)
@[simp] theorem Chip.setFld_wheels (f : Fld) (n : Nat) (c : Chip) : (c.setFld f n).wheels = c.wheels := (rfl)
@[simp] theorem Chip.setFld_pred (f : Fld) (n : Nat) (c : Chip) : (c.setFld f n).pred = c.pred := (rfl)
@[simp] theorem Chip.setFld_free (f : Fld) (n : Nat) (c : Chip) : (c.setFld f n).free = c.free := (rfl)
@[simp] theorem Chip.setFld_sched (f : Fld) (n : Nat) (c : Chip) : (c.setFld f n).sched = c.sched := (rfl)
@[simp] theorem Chip.setFld_outs (f : Fld) (n : Nat) (c : Chip) : (c.setFld f n).outs = c.outs := (rfl)
@[simp] theorem Chip.setFld_timers (f : Fld) (n : Nat) (c : Chip) : (c.setFld f n).timers = c.timers := (rfl)
@[simp] theorem Chip.setFld_conv (f : Fld) (n : Nat) (c : Chip) : (c.setFld f n).conv = c.conv := (rfl)
@[simp] theorem Chip.setFld_power (f : Fld) (n : Nat) (c : Chip) : (c.setFld f n).power = c.power := (rfl)
@[simp] theorem Chip.setFld_cipher (f : Fld) (n : Nat) (c : Chip) : (c.setFld f n).cipher = c.cipher := (rfl)
@[simp] theorem Chip.setFld_ring (f : Fld) (n : Nat) (c : Chip) : (c.setFld f n).ring = c.ring := (rfl)
@[simp] theorem Chip.setFld_twin (f : Fld) (n : Nat) (c : Chip) : (c.setFld f n).twin = c.twin := (rfl)
@[simp] theorem Chip.setFld_can (f : Fld) (n : Nat) (c : Chip) : (c.setFld f n).can = c.can := (rfl)
@[simp] theorem Chip.setFld_tag (f : Fld) (n : Nat) (c : Chip) : (c.setFld f n).tag = c.tag := (rfl)
@[simp] theorem Chip.setFld_tap (f : Fld) (n : Nat) (c : Chip) : (c.setFld f n).tap = c.tap := (rfl)
@[simp] theorem Chip.setFld_memOk (f : Fld) (n : Nat) (c : Chip) : (c.setFld f n).MemOk = c.MemOk := (rfl)
@[simp] theorem Chip.setFld_hasFreeSlot (f : Fld) (n : Nat) (c : Chip) : (c.setFld f n).hasFreeSlot = c.hasFreeSlot := (rfl)

@[simp] theorem Chip.setFlag_part (f : Fld) (b : Bool) (c : Chip) : (c.setFlag f b).part = c.part := (rfl)
@[simp] theorem Chip.setFlag_win (f : Fld) (b : Bool) (c : Chip) : (c.setFlag f b).win = c.win := (rfl)
@[simp] theorem Chip.setFlag_tb (f : Fld) (b : Bool) (c : Chip) : (c.setFlag f b).tb = c.tb := (rfl)
@[simp] theorem Chip.setFlag_bus (f : Fld) (b : Bool) (c : Chip) : (c.setFlag f b).bus = c.bus := (rfl)
@[simp] theorem Chip.setFlag_pub (f : Fld) (b : Bool) (c : Chip) : (c.setFlag f b).pub = c.pub := (rfl)
@[simp] theorem Chip.setFlag_pubOld (f : Fld) (b : Bool) (c : Chip) : (c.setFlag f b).pubOld = c.pubOld := (rfl)
@[simp] theorem Chip.setFlag_irq (f : Fld) (b : Bool) (c : Chip) : (c.setFlag f b).irq = c.irq := (rfl)
@[simp] theorem Chip.setFlag_flt (f : Fld) (b : Bool) (c : Chip) : (c.setFlag f b).flt = c.flt := (rfl)
@[simp] theorem Chip.setFlag_jnl (f : Fld) (b : Bool) (c : Chip) : (c.setFlag f b).jnl = c.jnl := (rfl)
@[simp] theorem Chip.setFlag_wheels (f : Fld) (b : Bool) (c : Chip) : (c.setFlag f b).wheels = c.wheels := (rfl)
@[simp] theorem Chip.setFlag_pred (f : Fld) (b : Bool) (c : Chip) : (c.setFlag f b).pred = c.pred := (rfl)
@[simp] theorem Chip.setFlag_free (f : Fld) (b : Bool) (c : Chip) : (c.setFlag f b).free = c.free := (rfl)
@[simp] theorem Chip.setFlag_sched (f : Fld) (b : Bool) (c : Chip) : (c.setFlag f b).sched = c.sched := (rfl)
@[simp] theorem Chip.setFlag_outs (f : Fld) (b : Bool) (c : Chip) : (c.setFlag f b).outs = c.outs := (rfl)
@[simp] theorem Chip.setFlag_timers (f : Fld) (b : Bool) (c : Chip) : (c.setFlag f b).timers = c.timers := (rfl)
@[simp] theorem Chip.setFlag_conv (f : Fld) (b : Bool) (c : Chip) : (c.setFlag f b).conv = c.conv := (rfl)
@[simp] theorem Chip.setFlag_power (f : Fld) (b : Bool) (c : Chip) : (c.setFlag f b).power = c.power := (rfl)
@[simp] theorem Chip.setFlag_cipher (f : Fld) (b : Bool) (c : Chip) : (c.setFlag f b).cipher = c.cipher := (rfl)
@[simp] theorem Chip.setFlag_ring (f : Fld) (b : Bool) (c : Chip) : (c.setFlag f b).ring = c.ring := (rfl)
@[simp] theorem Chip.setFlag_twin (f : Fld) (b : Bool) (c : Chip) : (c.setFlag f b).twin = c.twin := (rfl)
@[simp] theorem Chip.setFlag_can (f : Fld) (b : Bool) (c : Chip) : (c.setFlag f b).can = c.can := (rfl)
@[simp] theorem Chip.setFlag_tag (f : Fld) (b : Bool) (c : Chip) : (c.setFlag f b).tag = c.tag := (rfl)
@[simp] theorem Chip.setFlag_tap (f : Fld) (b : Bool) (c : Chip) : (c.setFlag f b).tap = c.tap := (rfl)
@[simp] theorem Chip.setFlag_memOk (f : Fld) (b : Bool) (c : Chip) : (c.setFlag f b).MemOk = c.MemOk := (rfl)
@[simp] theorem Chip.setFlag_hasFreeSlot (f : Fld) (b : Bool) (c : Chip) : (c.setFlag f b).hasFreeSlot = c.hasFreeSlot := (rfl)

@[simp] theorem Chip.setBit_part (a i : Nat) (b : Bool) (c : Chip) : (c.setBit a i b).part = c.part := (rfl)
@[simp] theorem Chip.setBit_win (a i : Nat) (b : Bool) (c : Chip) : (c.setBit a i b).win = c.win := (rfl)
@[simp] theorem Chip.setBit_tb (a i : Nat) (b : Bool) (c : Chip) : (c.setBit a i b).tb = c.tb := (rfl)
@[simp] theorem Chip.setBit_bus (a i : Nat) (b : Bool) (c : Chip) : (c.setBit a i b).bus = c.bus := (rfl)
@[simp] theorem Chip.setBit_pub (a i : Nat) (b : Bool) (c : Chip) : (c.setBit a i b).pub = c.pub := (rfl)
@[simp] theorem Chip.setBit_pubOld (a i : Nat) (b : Bool) (c : Chip) : (c.setBit a i b).pubOld = c.pubOld := (rfl)
@[simp] theorem Chip.setBit_irq (a i : Nat) (b : Bool) (c : Chip) : (c.setBit a i b).irq = c.irq := (rfl)
@[simp] theorem Chip.setBit_flt (a i : Nat) (b : Bool) (c : Chip) : (c.setBit a i b).flt = c.flt := (rfl)
@[simp] theorem Chip.setBit_jnl (a i : Nat) (b : Bool) (c : Chip) : (c.setBit a i b).jnl = c.jnl := (rfl)
@[simp] theorem Chip.setBit_wheels (a i : Nat) (b : Bool) (c : Chip) : (c.setBit a i b).wheels = c.wheels := (rfl)
@[simp] theorem Chip.setBit_pred (a i : Nat) (b : Bool) (c : Chip) : (c.setBit a i b).pred = c.pred := (rfl)
@[simp] theorem Chip.setBit_free (a i : Nat) (b : Bool) (c : Chip) : (c.setBit a i b).free = c.free := (rfl)
@[simp] theorem Chip.setBit_sched (a i : Nat) (b : Bool) (c : Chip) : (c.setBit a i b).sched = c.sched := (rfl)
@[simp] theorem Chip.setBit_outs (a i : Nat) (b : Bool) (c : Chip) : (c.setBit a i b).outs = c.outs := (rfl)
@[simp] theorem Chip.setBit_timers (a i : Nat) (b : Bool) (c : Chip) : (c.setBit a i b).timers = c.timers := (rfl)
@[simp] theorem Chip.setBit_conv (a i : Nat) (b : Bool) (c : Chip) : (c.setBit a i b).conv = c.conv := (rfl)
@[simp] theorem Chip.setBit_power (a i : Nat) (b : Bool) (c : Chip) : (c.setBit a i b).power = c.power := (rfl)
@[simp] theorem Chip.setBit_cipher (a i : Nat) (b : Bool) (c : Chip) : (c.setBit a i b).cipher = c.cipher := (rfl)
@[simp] theorem Chip.setBit_ring (a i : Nat) (b : Bool) (c : Chip) : (c.setBit a i b).ring = c.ring := (rfl)
@[simp] theorem Chip.setBit_twin (a i : Nat) (b : Bool) (c : Chip) : (c.setBit a i b).twin = c.twin := (rfl)
@[simp] theorem Chip.setBit_can (a i : Nat) (b : Bool) (c : Chip) : (c.setBit a i b).can = c.can := (rfl)
@[simp] theorem Chip.setBit_tag (a i : Nat) (b : Bool) (c : Chip) : (c.setBit a i b).tag = c.tag := (rfl)
@[simp] theorem Chip.setBit_tap (a i : Nat) (b : Bool) (c : Chip) : (c.setBit a i b).tap = c.tap := (rfl)
@[simp] theorem Chip.setBit_memOk (a i : Nat) (b : Bool) (c : Chip) : (c.setBit a i b).MemOk = c.MemOk := (rfl)
@[simp] theorem Chip.setBit_hasFreeSlot (a i : Nat) (b : Bool) (c : Chip) : (c.setBit a i b).hasFreeSlot = c.hasFreeSlot := (rfl)

@[simp] theorem Chip.addFld_part (f : Fld) (n : Nat) (c : Chip) : (c.addFld f n).part = c.part := (rfl)
@[simp] theorem Chip.addFld_win (f : Fld) (n : Nat) (c : Chip) : (c.addFld f n).win = c.win := (rfl)
@[simp] theorem Chip.addFld_tb (f : Fld) (n : Nat) (c : Chip) : (c.addFld f n).tb = c.tb := (rfl)
@[simp] theorem Chip.addFld_bus (f : Fld) (n : Nat) (c : Chip) : (c.addFld f n).bus = c.bus := (rfl)
@[simp] theorem Chip.addFld_pub (f : Fld) (n : Nat) (c : Chip) : (c.addFld f n).pub = c.pub := (rfl)
@[simp] theorem Chip.addFld_pubOld (f : Fld) (n : Nat) (c : Chip) : (c.addFld f n).pubOld = c.pubOld := (rfl)
@[simp] theorem Chip.addFld_irq (f : Fld) (n : Nat) (c : Chip) : (c.addFld f n).irq = c.irq := (rfl)
@[simp] theorem Chip.addFld_flt (f : Fld) (n : Nat) (c : Chip) : (c.addFld f n).flt = c.flt := (rfl)
@[simp] theorem Chip.addFld_jnl (f : Fld) (n : Nat) (c : Chip) : (c.addFld f n).jnl = c.jnl := (rfl)
@[simp] theorem Chip.addFld_wheels (f : Fld) (n : Nat) (c : Chip) : (c.addFld f n).wheels = c.wheels := (rfl)
@[simp] theorem Chip.addFld_pred (f : Fld) (n : Nat) (c : Chip) : (c.addFld f n).pred = c.pred := (rfl)
@[simp] theorem Chip.addFld_free (f : Fld) (n : Nat) (c : Chip) : (c.addFld f n).free = c.free := (rfl)
@[simp] theorem Chip.addFld_sched (f : Fld) (n : Nat) (c : Chip) : (c.addFld f n).sched = c.sched := (rfl)
@[simp] theorem Chip.addFld_outs (f : Fld) (n : Nat) (c : Chip) : (c.addFld f n).outs = c.outs := (rfl)
@[simp] theorem Chip.addFld_timers (f : Fld) (n : Nat) (c : Chip) : (c.addFld f n).timers = c.timers := (rfl)
@[simp] theorem Chip.addFld_conv (f : Fld) (n : Nat) (c : Chip) : (c.addFld f n).conv = c.conv := (rfl)
@[simp] theorem Chip.addFld_power (f : Fld) (n : Nat) (c : Chip) : (c.addFld f n).power = c.power := (rfl)
@[simp] theorem Chip.addFld_cipher (f : Fld) (n : Nat) (c : Chip) : (c.addFld f n).cipher = c.cipher := (rfl)
@[simp] theorem Chip.addFld_ring (f : Fld) (n : Nat) (c : Chip) : (c.addFld f n).ring = c.ring := (rfl)
@[simp] theorem Chip.addFld_twin (f : Fld) (n : Nat) (c : Chip) : (c.addFld f n).twin = c.twin := (rfl)
@[simp] theorem Chip.addFld_can (f : Fld) (n : Nat) (c : Chip) : (c.addFld f n).can = c.can := (rfl)
@[simp] theorem Chip.addFld_tag (f : Fld) (n : Nat) (c : Chip) : (c.addFld f n).tag = c.tag := (rfl)
@[simp] theorem Chip.addFld_tap (f : Fld) (n : Nat) (c : Chip) : (c.addFld f n).tap = c.tap := (rfl)
@[simp] theorem Chip.addFld_memOk (f : Fld) (n : Nat) (c : Chip) : (c.addFld f n).MemOk = c.MemOk := (rfl)
@[simp] theorem Chip.addFld_hasFreeSlot (f : Fld) (n : Nat) (c : Chip) : (c.addFld f n).hasFreeSlot = c.hasFreeSlot := (rfl)

@[simp] theorem Chip.incFld_part (f : Fld) (c : Chip) : (c.incFld f).part = c.part := (rfl)
@[simp] theorem Chip.incFld_win (f : Fld) (c : Chip) : (c.incFld f).win = c.win := (rfl)
@[simp] theorem Chip.incFld_tb (f : Fld) (c : Chip) : (c.incFld f).tb = c.tb := (rfl)
@[simp] theorem Chip.incFld_bus (f : Fld) (c : Chip) : (c.incFld f).bus = c.bus := (rfl)
@[simp] theorem Chip.incFld_pub (f : Fld) (c : Chip) : (c.incFld f).pub = c.pub := (rfl)
@[simp] theorem Chip.incFld_pubOld (f : Fld) (c : Chip) : (c.incFld f).pubOld = c.pubOld := (rfl)
@[simp] theorem Chip.incFld_irq (f : Fld) (c : Chip) : (c.incFld f).irq = c.irq := (rfl)
@[simp] theorem Chip.incFld_flt (f : Fld) (c : Chip) : (c.incFld f).flt = c.flt := (rfl)
@[simp] theorem Chip.incFld_jnl (f : Fld) (c : Chip) : (c.incFld f).jnl = c.jnl := (rfl)
@[simp] theorem Chip.incFld_wheels (f : Fld) (c : Chip) : (c.incFld f).wheels = c.wheels := (rfl)
@[simp] theorem Chip.incFld_pred (f : Fld) (c : Chip) : (c.incFld f).pred = c.pred := (rfl)
@[simp] theorem Chip.incFld_free (f : Fld) (c : Chip) : (c.incFld f).free = c.free := (rfl)
@[simp] theorem Chip.incFld_sched (f : Fld) (c : Chip) : (c.incFld f).sched = c.sched := (rfl)
@[simp] theorem Chip.incFld_outs (f : Fld) (c : Chip) : (c.incFld f).outs = c.outs := (rfl)
@[simp] theorem Chip.incFld_timers (f : Fld) (c : Chip) : (c.incFld f).timers = c.timers := (rfl)
@[simp] theorem Chip.incFld_conv (f : Fld) (c : Chip) : (c.incFld f).conv = c.conv := (rfl)
@[simp] theorem Chip.incFld_power (f : Fld) (c : Chip) : (c.incFld f).power = c.power := (rfl)
@[simp] theorem Chip.incFld_cipher (f : Fld) (c : Chip) : (c.incFld f).cipher = c.cipher := (rfl)
@[simp] theorem Chip.incFld_ring (f : Fld) (c : Chip) : (c.incFld f).ring = c.ring := (rfl)
@[simp] theorem Chip.incFld_twin (f : Fld) (c : Chip) : (c.incFld f).twin = c.twin := (rfl)
@[simp] theorem Chip.incFld_can (f : Fld) (c : Chip) : (c.incFld f).can = c.can := (rfl)
@[simp] theorem Chip.incFld_tag (f : Fld) (c : Chip) : (c.incFld f).tag = c.tag := (rfl)
@[simp] theorem Chip.incFld_tap (f : Fld) (c : Chip) : (c.incFld f).tap = c.tap := (rfl)
@[simp] theorem Chip.incFld_memOk (f : Fld) (c : Chip) : (c.incFld f).MemOk = c.MemOk := (rfl)
@[simp] theorem Chip.incFld_hasFreeSlot (f : Fld) (c : Chip) : (c.incFld f).hasFreeSlot = c.hasFreeSlot := (rfl)

@[simp] theorem Chip.addReg_part (a n : Nat) (c : Chip) : (c.addReg a n).part = c.part := (rfl)
@[simp] theorem Chip.addReg_win (a n : Nat) (c : Chip) : (c.addReg a n).win = c.win := (rfl)
@[simp] theorem Chip.addReg_tb (a n : Nat) (c : Chip) : (c.addReg a n).tb = c.tb := (rfl)
@[simp] theorem Chip.addReg_bus (a n : Nat) (c : Chip) : (c.addReg a n).bus = c.bus := (rfl)
@[simp] theorem Chip.addReg_pub (a n : Nat) (c : Chip) : (c.addReg a n).pub = c.pub := (rfl)
@[simp] theorem Chip.addReg_pubOld (a n : Nat) (c : Chip) : (c.addReg a n).pubOld = c.pubOld := (rfl)
@[simp] theorem Chip.addReg_irq (a n : Nat) (c : Chip) : (c.addReg a n).irq = c.irq := (rfl)
@[simp] theorem Chip.addReg_flt (a n : Nat) (c : Chip) : (c.addReg a n).flt = c.flt := (rfl)
@[simp] theorem Chip.addReg_jnl (a n : Nat) (c : Chip) : (c.addReg a n).jnl = c.jnl := (rfl)
@[simp] theorem Chip.addReg_wheels (a n : Nat) (c : Chip) : (c.addReg a n).wheels = c.wheels := (rfl)
@[simp] theorem Chip.addReg_pred (a n : Nat) (c : Chip) : (c.addReg a n).pred = c.pred := (rfl)
@[simp] theorem Chip.addReg_free (a n : Nat) (c : Chip) : (c.addReg a n).free = c.free := (rfl)
@[simp] theorem Chip.addReg_sched (a n : Nat) (c : Chip) : (c.addReg a n).sched = c.sched := (rfl)
@[simp] theorem Chip.addReg_outs (a n : Nat) (c : Chip) : (c.addReg a n).outs = c.outs := (rfl)
@[simp] theorem Chip.addReg_timers (a n : Nat) (c : Chip) : (c.addReg a n).timers = c.timers := (rfl)
@[simp] theorem Chip.addReg_conv (a n : Nat) (c : Chip) : (c.addReg a n).conv = c.conv := (rfl)
@[simp] theorem Chip.addReg_power (a n : Nat) (c : Chip) : (c.addReg a n).power = c.power := (rfl)
@[simp] theorem Chip.addReg_cipher (a n : Nat) (c : Chip) : (c.addReg a n).cipher = c.cipher := (rfl)
@[simp] theorem Chip.addReg_ring (a n : Nat) (c : Chip) : (c.addReg a n).ring = c.ring := (rfl)
@[simp] theorem Chip.addReg_twin (a n : Nat) (c : Chip) : (c.addReg a n).twin = c.twin := (rfl)
@[simp] theorem Chip.addReg_can (a n : Nat) (c : Chip) : (c.addReg a n).can = c.can := (rfl)
@[simp] theorem Chip.addReg_tag (a n : Nat) (c : Chip) : (c.addReg a n).tag = c.tag := (rfl)
@[simp] theorem Chip.addReg_tap (a n : Nat) (c : Chip) : (c.addReg a n).tap = c.tap := (rfl)
@[simp] theorem Chip.addReg_memOk (a n : Nat) (c : Chip) : (c.addReg a n).MemOk = c.MemOk := (rfl)
@[simp] theorem Chip.addReg_hasFreeSlot (a n : Nat) (c : Chip) : (c.addReg a n).hasFreeSlot = c.hasFreeSlot := (rfl)

@[simp] theorem Chip.answer_part (v : Word) (c : Chip) : (c.answer v).part = c.part := (rfl)
@[simp] theorem Chip.answer_regs (v : Word) (c : Chip) : (c.answer v).regs = c.regs := (rfl)
@[simp] theorem Chip.answer_win (v : Word) (c : Chip) : (c.answer v).win = c.win := (rfl)
@[simp] theorem Chip.answer_tb (v : Word) (c : Chip) : (c.answer v).tb = c.tb := (rfl)
@[simp] theorem Chip.answer_bus (v : Word) (c : Chip) : (c.answer v).bus = { c.bus with read := v } := (rfl)
@[simp] theorem Chip.answer_pub (v : Word) (c : Chip) : (c.answer v).pub = c.pub := (rfl)
@[simp] theorem Chip.answer_pubOld (v : Word) (c : Chip) : (c.answer v).pubOld = c.pubOld := (rfl)
@[simp] theorem Chip.answer_irq (v : Word) (c : Chip) : (c.answer v).irq = c.irq := (rfl)
@[simp] theorem Chip.answer_flt (v : Word) (c : Chip) : (c.answer v).flt = c.flt := (rfl)
@[simp] theorem Chip.answer_jnl (v : Word) (c : Chip) : (c.answer v).jnl = c.jnl := (rfl)
@[simp] theorem Chip.answer_wheels (v : Word) (c : Chip) : (c.answer v).wheels = c.wheels := (rfl)
@[simp] theorem Chip.answer_pred (v : Word) (c : Chip) : (c.answer v).pred = c.pred := (rfl)
@[simp] theorem Chip.answer_free (v : Word) (c : Chip) : (c.answer v).free = c.free := (rfl)
@[simp] theorem Chip.answer_sched (v : Word) (c : Chip) : (c.answer v).sched = c.sched := (rfl)
@[simp] theorem Chip.answer_outs (v : Word) (c : Chip) : (c.answer v).outs = c.outs := (rfl)
@[simp] theorem Chip.answer_timers (v : Word) (c : Chip) : (c.answer v).timers = c.timers := (rfl)
@[simp] theorem Chip.answer_conv (v : Word) (c : Chip) : (c.answer v).conv = c.conv := (rfl)
@[simp] theorem Chip.answer_power (v : Word) (c : Chip) : (c.answer v).power = c.power := (rfl)
@[simp] theorem Chip.answer_cipher (v : Word) (c : Chip) : (c.answer v).cipher = c.cipher := (rfl)
@[simp] theorem Chip.answer_ring (v : Word) (c : Chip) : (c.answer v).ring = c.ring := (rfl)
@[simp] theorem Chip.answer_twin (v : Word) (c : Chip) : (c.answer v).twin = c.twin := (rfl)
@[simp] theorem Chip.answer_can (v : Word) (c : Chip) : (c.answer v).can = c.can := (rfl)
@[simp] theorem Chip.answer_tag (v : Word) (c : Chip) : (c.answer v).tag = c.tag := (rfl)
@[simp] theorem Chip.answer_tap (v : Word) (c : Chip) : (c.answer v).tap = c.tap := (rfl)
@[simp] theorem Chip.answer_get (v : Word) (r : Nat) (c : Chip) : (c.answer v).get r = c.get r := (rfl)
@[simp] theorem Chip.answer_fld (v : Word) (g : Fld) (c : Chip) : (c.answer v).fld g = c.fld g := (rfl)
@[simp] theorem Chip.answer_flag (v : Word) (g : Fld) (c : Chip) : (c.answer v).flag g = c.flag g := (rfl)
@[simp] theorem Chip.answer_bit (v : Word) (r i : Nat) (c : Chip) : (c.answer v).bit r i = c.bit r i := (rfl)
@[simp] theorem Chip.answer_regOk (v : Word) (c : Chip) : (c.answer v).RegOk = c.RegOk := (rfl)
@[simp] theorem Chip.answer_memOk (v : Word) (c : Chip) : (c.answer v).MemOk = c.MemOk := (rfl)
@[simp] theorem Chip.answer_hasFreeSlot (v : Word) (c : Chip) : (c.answer v).hasFreeSlot = c.hasFreeSlot := (rfl)

@[simp] theorem Chip.takeCommit_part (a : Nat) (c : Chip) : (c.takeCommit a).part = c.part := (rfl)
@[simp] theorem Chip.takeCommit_regs (a : Nat) (c : Chip) : (c.takeCommit a).regs = c.regs := (rfl)
@[simp] theorem Chip.takeCommit_win (a : Nat) (c : Chip) : (c.takeCommit a).win = c.win := (rfl)
@[simp] theorem Chip.takeCommit_tb (a : Nat) (c : Chip) : (c.takeCommit a).tb = c.tb := (rfl)
@[simp] theorem Chip.takeCommit_pub (a : Nat) (c : Chip) : (c.takeCommit a).pub = c.pub := (rfl)
@[simp] theorem Chip.takeCommit_pubOld (a : Nat) (c : Chip) : (c.takeCommit a).pubOld = c.pubOld := (rfl)
@[simp] theorem Chip.takeCommit_irq (a : Nat) (c : Chip) : (c.takeCommit a).irq = c.irq := (rfl)
@[simp] theorem Chip.takeCommit_flt (a : Nat) (c : Chip) : (c.takeCommit a).flt = c.flt := (rfl)
@[simp] theorem Chip.takeCommit_jnl (a : Nat) (c : Chip) : (c.takeCommit a).jnl = c.jnl := (rfl)
@[simp] theorem Chip.takeCommit_wheels (a : Nat) (c : Chip) : (c.takeCommit a).wheels = c.wheels := (rfl)
@[simp] theorem Chip.takeCommit_pred (a : Nat) (c : Chip) : (c.takeCommit a).pred = c.pred := (rfl)
@[simp] theorem Chip.takeCommit_free (a : Nat) (c : Chip) : (c.takeCommit a).free = c.free := (rfl)
@[simp] theorem Chip.takeCommit_sched (a : Nat) (c : Chip) : (c.takeCommit a).sched = c.sched := (rfl)
@[simp] theorem Chip.takeCommit_outs (a : Nat) (c : Chip) : (c.takeCommit a).outs = c.outs := (rfl)
@[simp] theorem Chip.takeCommit_timers (a : Nat) (c : Chip) : (c.takeCommit a).timers = c.timers := (rfl)
@[simp] theorem Chip.takeCommit_conv (a : Nat) (c : Chip) : (c.takeCommit a).conv = c.conv := (rfl)
@[simp] theorem Chip.takeCommit_power (a : Nat) (c : Chip) : (c.takeCommit a).power = c.power := (rfl)
@[simp] theorem Chip.takeCommit_cipher (a : Nat) (c : Chip) : (c.takeCommit a).cipher = c.cipher := (rfl)
@[simp] theorem Chip.takeCommit_ring (a : Nat) (c : Chip) : (c.takeCommit a).ring = c.ring := (rfl)
@[simp] theorem Chip.takeCommit_twin (a : Nat) (c : Chip) : (c.takeCommit a).twin = c.twin := (rfl)
@[simp] theorem Chip.takeCommit_can (a : Nat) (c : Chip) : (c.takeCommit a).can = c.can := (rfl)
@[simp] theorem Chip.takeCommit_tag (a : Nat) (c : Chip) : (c.takeCommit a).tag = c.tag := (rfl)
@[simp] theorem Chip.takeCommit_tap (a : Nat) (c : Chip) : (c.takeCommit a).tap = c.tap := (rfl)
@[simp] theorem Chip.takeCommit_get (a : Nat) (r : Nat) (c : Chip) : (c.takeCommit a).get r = c.get r := (rfl)
@[simp] theorem Chip.takeCommit_fld (a : Nat) (g : Fld) (c : Chip) : (c.takeCommit a).fld g = c.fld g := (rfl)
@[simp] theorem Chip.takeCommit_flag (a : Nat) (g : Fld) (c : Chip) : (c.takeCommit a).flag g = c.flag g := (rfl)
@[simp] theorem Chip.takeCommit_bit (a : Nat) (r i : Nat) (c : Chip) : (c.takeCommit a).bit r i = c.bit r i := (rfl)
@[simp] theorem Chip.takeCommit_regOk (a : Nat) (c : Chip) : (c.takeCommit a).RegOk = c.RegOk := (rfl)
@[simp] theorem Chip.takeCommit_memOk (a : Nat) (c : Chip) : (c.takeCommit a).MemOk = c.MemOk := (rfl)
@[simp] theorem Chip.takeCommit_hasFreeSlot (a : Nat) (c : Chip) : (c.takeCommit a).hasFreeSlot = c.hasFreeSlot := (rfl)

@[simp] theorem Chip.takeSup_part (a : Nat) (c : Chip) : (c.takeSup a).part = c.part := (rfl)
@[simp] theorem Chip.takeSup_regs (a : Nat) (c : Chip) : (c.takeSup a).regs = c.regs := (rfl)
@[simp] theorem Chip.takeSup_win (a : Nat) (c : Chip) : (c.takeSup a).win = c.win := (rfl)
@[simp] theorem Chip.takeSup_tb (a : Nat) (c : Chip) : (c.takeSup a).tb = c.tb := (rfl)
@[simp] theorem Chip.takeSup_pub (a : Nat) (c : Chip) : (c.takeSup a).pub = c.pub := (rfl)
@[simp] theorem Chip.takeSup_pubOld (a : Nat) (c : Chip) : (c.takeSup a).pubOld = c.pubOld := (rfl)
@[simp] theorem Chip.takeSup_irq (a : Nat) (c : Chip) : (c.takeSup a).irq = c.irq := (rfl)
@[simp] theorem Chip.takeSup_flt (a : Nat) (c : Chip) : (c.takeSup a).flt = c.flt := (rfl)
@[simp] theorem Chip.takeSup_jnl (a : Nat) (c : Chip) : (c.takeSup a).jnl = c.jnl := (rfl)
@[simp] theorem Chip.takeSup_wheels (a : Nat) (c : Chip) : (c.takeSup a).wheels = c.wheels := (rfl)
@[simp] theorem Chip.takeSup_pred (a : Nat) (c : Chip) : (c.takeSup a).pred = c.pred := (rfl)
@[simp] theorem Chip.takeSup_free (a : Nat) (c : Chip) : (c.takeSup a).free = c.free := (rfl)
@[simp] theorem Chip.takeSup_sched (a : Nat) (c : Chip) : (c.takeSup a).sched = c.sched := (rfl)
@[simp] theorem Chip.takeSup_outs (a : Nat) (c : Chip) : (c.takeSup a).outs = c.outs := (rfl)
@[simp] theorem Chip.takeSup_timers (a : Nat) (c : Chip) : (c.takeSup a).timers = c.timers := (rfl)
@[simp] theorem Chip.takeSup_conv (a : Nat) (c : Chip) : (c.takeSup a).conv = c.conv := (rfl)
@[simp] theorem Chip.takeSup_power (a : Nat) (c : Chip) : (c.takeSup a).power = c.power := (rfl)
@[simp] theorem Chip.takeSup_cipher (a : Nat) (c : Chip) : (c.takeSup a).cipher = c.cipher := (rfl)
@[simp] theorem Chip.takeSup_ring (a : Nat) (c : Chip) : (c.takeSup a).ring = c.ring := (rfl)
@[simp] theorem Chip.takeSup_twin (a : Nat) (c : Chip) : (c.takeSup a).twin = c.twin := (rfl)
@[simp] theorem Chip.takeSup_can (a : Nat) (c : Chip) : (c.takeSup a).can = c.can := (rfl)
@[simp] theorem Chip.takeSup_tag (a : Nat) (c : Chip) : (c.takeSup a).tag = c.tag := (rfl)
@[simp] theorem Chip.takeSup_tap (a : Nat) (c : Chip) : (c.takeSup a).tap = c.tap := (rfl)
@[simp] theorem Chip.takeSup_get (a : Nat) (r : Nat) (c : Chip) : (c.takeSup a).get r = c.get r := (rfl)
@[simp] theorem Chip.takeSup_fld (a : Nat) (g : Fld) (c : Chip) : (c.takeSup a).fld g = c.fld g := (rfl)
@[simp] theorem Chip.takeSup_flag (a : Nat) (g : Fld) (c : Chip) : (c.takeSup a).flag g = c.flag g := (rfl)
@[simp] theorem Chip.takeSup_bit (a : Nat) (r i : Nat) (c : Chip) : (c.takeSup a).bit r i = c.bit r i := (rfl)
@[simp] theorem Chip.takeSup_regOk (a : Nat) (c : Chip) : (c.takeSup a).RegOk = c.RegOk := (rfl)
@[simp] theorem Chip.takeSup_memOk (a : Nat) (c : Chip) : (c.takeSup a).MemOk = c.MemOk := (rfl)
@[simp] theorem Chip.takeSup_hasFreeSlot (a : Nat) (c : Chip) : (c.takeSup a).hasFreeSlot = c.hasFreeSlot := (rfl)


@[simp] theorem Chip.useFree_part (c : Chip) : (c.useFree).part = c.part := (rfl)
@[simp] theorem Chip.useFree_regs (c : Chip) : (c.useFree).regs = c.regs := (rfl)
@[simp] theorem Chip.useFree_win (c : Chip) : (c.useFree).win = c.win := (rfl)
@[simp] theorem Chip.useFree_tb (c : Chip) : (c.useFree).tb = c.tb := (rfl)
@[simp] theorem Chip.useFree_bus (c : Chip) : (c.useFree).bus = c.bus := (rfl)
@[simp] theorem Chip.useFree_pub (c : Chip) : (c.useFree).pub = c.pub := (rfl)
@[simp] theorem Chip.useFree_pubOld (c : Chip) : (c.useFree).pubOld = c.pubOld := (rfl)
@[simp] theorem Chip.useFree_irq (c : Chip) : (c.useFree).irq = c.irq := (rfl)
@[simp] theorem Chip.useFree_flt (c : Chip) : (c.useFree).flt = c.flt := (rfl)
@[simp] theorem Chip.useFree_jnl (c : Chip) : (c.useFree).jnl = c.jnl := (rfl)
@[simp] theorem Chip.useFree_wheels (c : Chip) : (c.useFree).wheels = c.wheels := (rfl)
@[simp] theorem Chip.useFree_pred (c : Chip) : (c.useFree).pred = c.pred := (rfl)
@[simp] theorem Chip.useFree_free (c : Chip) : (c.useFree).free = c.free + 1 := (rfl)
@[simp] theorem Chip.useFree_sched (c : Chip) : (c.useFree).sched = c.sched := (rfl)
@[simp] theorem Chip.useFree_outs (c : Chip) : (c.useFree).outs = c.outs := (rfl)
@[simp] theorem Chip.useFree_timers (c : Chip) : (c.useFree).timers = c.timers := (rfl)
@[simp] theorem Chip.useFree_conv (c : Chip) : (c.useFree).conv = c.conv := (rfl)
@[simp] theorem Chip.useFree_power (c : Chip) : (c.useFree).power = c.power := (rfl)
@[simp] theorem Chip.useFree_cipher (c : Chip) : (c.useFree).cipher = c.cipher := (rfl)
@[simp] theorem Chip.useFree_ring (c : Chip) : (c.useFree).ring = c.ring := (rfl)
@[simp] theorem Chip.useFree_twin (c : Chip) : (c.useFree).twin = c.twin := (rfl)
@[simp] theorem Chip.useFree_can (c : Chip) : (c.useFree).can = c.can := (rfl)
@[simp] theorem Chip.useFree_tag (c : Chip) : (c.useFree).tag = c.tag := (rfl)
@[simp] theorem Chip.useFree_tap (c : Chip) : (c.useFree).tap = c.tap := (rfl)
@[simp] theorem Chip.useFree_get (r : Nat) (c : Chip) : (c.useFree).get r = c.get r := (rfl)
@[simp] theorem Chip.useFree_fld (g : Fld) (c : Chip) : (c.useFree).fld g = c.fld g := (rfl)
@[simp] theorem Chip.useFree_flag (g : Fld) (c : Chip) : (c.useFree).flag g = c.flag g := (rfl)
@[simp] theorem Chip.useFree_bit (r i : Nat) (c : Chip) : (c.useFree).bit r i = c.bit r i := (rfl)
@[simp] theorem Chip.useFree_regOk (c : Chip) : (c.useFree).RegOk = c.RegOk := (rfl)
@[simp] theorem Chip.useFree_memOk (c : Chip) : (c.useFree).MemOk = c.MemOk := (rfl)
@[simp] theorem Chip.useFree_hasFreeSlot (c : Chip) : (c.useFree).hasFreeSlot = c.hasFreeSlot := (rfl)

@[simp] theorem Chip.raise_part (x : Nat) (c : Chip) : (c.raise x).part = c.part := (rfl)
@[simp] theorem Chip.raise_regs (x : Nat) (c : Chip) : (c.raise x).regs = c.regs := (rfl)
@[simp] theorem Chip.raise_win (x : Nat) (c : Chip) : (c.raise x).win = c.win := (rfl)
@[simp] theorem Chip.raise_tb (x : Nat) (c : Chip) : (c.raise x).tb = c.tb := (rfl)
@[simp] theorem Chip.raise_bus (x : Nat) (c : Chip) : (c.raise x).bus = c.bus := (rfl)
@[simp] theorem Chip.raise_pub (x : Nat) (c : Chip) : (c.raise x).pub = c.pub := (rfl)
@[simp] theorem Chip.raise_pubOld (x : Nat) (c : Chip) : (c.raise x).pubOld = c.pubOld := (rfl)
@[simp] theorem Chip.raise_flt (x : Nat) (c : Chip) : (c.raise x).flt = c.flt := (rfl)
@[simp] theorem Chip.raise_jnl (x : Nat) (c : Chip) : (c.raise x).jnl = c.jnl := (rfl)
@[simp] theorem Chip.raise_wheels (x : Nat) (c : Chip) : (c.raise x).wheels = c.wheels := (rfl)
@[simp] theorem Chip.raise_pred (x : Nat) (c : Chip) : (c.raise x).pred = c.pred := (rfl)
@[simp] theorem Chip.raise_free (x : Nat) (c : Chip) : (c.raise x).free = c.free := (rfl)
@[simp] theorem Chip.raise_sched (x : Nat) (c : Chip) : (c.raise x).sched = c.sched := (rfl)
@[simp] theorem Chip.raise_outs (x : Nat) (c : Chip) : (c.raise x).outs = c.outs := (rfl)
@[simp] theorem Chip.raise_timers (x : Nat) (c : Chip) : (c.raise x).timers = c.timers := (rfl)
@[simp] theorem Chip.raise_conv (x : Nat) (c : Chip) : (c.raise x).conv = c.conv := (rfl)
@[simp] theorem Chip.raise_power (x : Nat) (c : Chip) : (c.raise x).power = c.power := (rfl)
@[simp] theorem Chip.raise_cipher (x : Nat) (c : Chip) : (c.raise x).cipher = c.cipher := (rfl)
@[simp] theorem Chip.raise_ring (x : Nat) (c : Chip) : (c.raise x).ring = c.ring := (rfl)
@[simp] theorem Chip.raise_twin (x : Nat) (c : Chip) : (c.raise x).twin = c.twin := (rfl)
@[simp] theorem Chip.raise_can (x : Nat) (c : Chip) : (c.raise x).can = c.can := (rfl)
@[simp] theorem Chip.raise_tag (x : Nat) (c : Chip) : (c.raise x).tag = c.tag := (rfl)
@[simp] theorem Chip.raise_tap (x : Nat) (c : Chip) : (c.raise x).tap = c.tap := (rfl)
@[simp] theorem Chip.raise_get (x : Nat) (r : Nat) (c : Chip) : (c.raise x).get r = c.get r := (rfl)
@[simp] theorem Chip.raise_fld (x : Nat) (g : Fld) (c : Chip) : (c.raise x).fld g = c.fld g := (rfl)
@[simp] theorem Chip.raise_flag (x : Nat) (g : Fld) (c : Chip) : (c.raise x).flag g = c.flag g := (rfl)
@[simp] theorem Chip.raise_bit (x : Nat) (r i : Nat) (c : Chip) : (c.raise x).bit r i = c.bit r i := (rfl)
@[simp] theorem Chip.raise_regOk (x : Nat) (c : Chip) : (c.raise x).RegOk = c.RegOk := (rfl)
@[simp] theorem Chip.raise_memOk (x : Nat) (c : Chip) : (c.raise x).MemOk = c.MemOk := (rfl)
@[simp] theorem Chip.raise_hasFreeSlot (x : Nat) (c : Chip) : (c.raise x).hasFreeSlot = c.hasFreeSlot := (rfl)

@[simp] theorem Chip.samplePins_part (c : Chip) : (c.samplePins).part = c.part := (rfl)
@[simp] theorem Chip.samplePins_regs (c : Chip) : (c.samplePins).regs = c.regs := (rfl)
@[simp] theorem Chip.samplePins_win (c : Chip) : (c.samplePins).win = c.win := (rfl)
@[simp] theorem Chip.samplePins_tb (c : Chip) : (c.samplePins).tb = c.tb := (rfl)
@[simp] theorem Chip.samplePins_bus (c : Chip) : (c.samplePins).bus = c.bus := (rfl)
@[simp] theorem Chip.samplePins_pub (c : Chip) : (c.samplePins).pub = c.pub := (rfl)
@[simp] theorem Chip.samplePins_pubOld (c : Chip) : (c.samplePins).pubOld = c.pubOld := (rfl)
@[simp] theorem Chip.samplePins_flt (c : Chip) : (c.samplePins).flt = c.flt := (rfl)
@[simp] theorem Chip.samplePins_jnl (c : Chip) : (c.samplePins).jnl = c.jnl := (rfl)
@[simp] theorem Chip.samplePins_wheels (c : Chip) : (c.samplePins).wheels = c.wheels := (rfl)
@[simp] theorem Chip.samplePins_pred (c : Chip) : (c.samplePins).pred = c.pred := (rfl)
@[simp] theorem Chip.samplePins_free (c : Chip) : (c.samplePins).free = c.free := (rfl)
@[simp] theorem Chip.samplePins_sched (c : Chip) : (c.samplePins).sched = c.sched := (rfl)
@[simp] theorem Chip.samplePins_outs (c : Chip) : (c.samplePins).outs = c.outs := (rfl)
@[simp] theorem Chip.samplePins_timers (c : Chip) : (c.samplePins).timers = c.timers := (rfl)
@[simp] theorem Chip.samplePins_conv (c : Chip) : (c.samplePins).conv = c.conv := (rfl)
@[simp] theorem Chip.samplePins_power (c : Chip) : (c.samplePins).power = c.power := (rfl)
@[simp] theorem Chip.samplePins_cipher (c : Chip) : (c.samplePins).cipher = c.cipher := (rfl)
@[simp] theorem Chip.samplePins_ring (c : Chip) : (c.samplePins).ring = c.ring := (rfl)
@[simp] theorem Chip.samplePins_twin (c : Chip) : (c.samplePins).twin = c.twin := (rfl)
@[simp] theorem Chip.samplePins_can (c : Chip) : (c.samplePins).can = c.can := (rfl)
@[simp] theorem Chip.samplePins_tag (c : Chip) : (c.samplePins).tag = c.tag := (rfl)
@[simp] theorem Chip.samplePins_tap (c : Chip) : (c.samplePins).tap = c.tap := (rfl)
@[simp] theorem Chip.samplePins_get (r : Nat) (c : Chip) : (c.samplePins).get r = c.get r := (rfl)
@[simp] theorem Chip.samplePins_fld (g : Fld) (c : Chip) : (c.samplePins).fld g = c.fld g := (rfl)
@[simp] theorem Chip.samplePins_flag (g : Fld) (c : Chip) : (c.samplePins).flag g = c.flag g := (rfl)
@[simp] theorem Chip.samplePins_bit (r i : Nat) (c : Chip) : (c.samplePins).bit r i = c.bit r i := (rfl)
@[simp] theorem Chip.samplePins_regOk (c : Chip) : (c.samplePins).RegOk = c.RegOk := (rfl)
@[simp] theorem Chip.samplePins_memOk (c : Chip) : (c.samplePins).MemOk = c.MemOk := (rfl)
@[simp] theorem Chip.samplePins_hasFreeSlot (c : Chip) : (c.samplePins).hasFreeSlot = c.hasFreeSlot := (rfl)

@[simp] theorem Chip.journal_part (x : JCause) (c : Chip) : (c.journal x).part = c.part := (rfl)
@[simp] theorem Chip.journal_regs (x : JCause) (c : Chip) : (c.journal x).regs = c.regs := (rfl)
@[simp] theorem Chip.journal_win (x : JCause) (c : Chip) : (c.journal x).win = c.win := (rfl)
@[simp] theorem Chip.journal_tb (x : JCause) (c : Chip) : (c.journal x).tb = c.tb := (rfl)
@[simp] theorem Chip.journal_bus (x : JCause) (c : Chip) : (c.journal x).bus = c.bus := (rfl)
@[simp] theorem Chip.journal_pub (x : JCause) (c : Chip) : (c.journal x).pub = c.pub := (rfl)
@[simp] theorem Chip.journal_pubOld (x : JCause) (c : Chip) : (c.journal x).pubOld = c.pubOld := (rfl)
@[simp] theorem Chip.journal_irq (x : JCause) (c : Chip) : (c.journal x).irq = c.irq := (rfl)
@[simp] theorem Chip.journal_flt (x : JCause) (c : Chip) : (c.journal x).flt = c.flt := (rfl)
@[simp] theorem Chip.journal_jnl (x : JCause) (c : Chip) : (c.journal x).jnl = { c.jnl with waiting := c.jnl.waiting ++ [x] } := (rfl)
@[simp] theorem Chip.journal_wheels (x : JCause) (c : Chip) : (c.journal x).wheels = c.wheels := (rfl)
@[simp] theorem Chip.journal_pred (x : JCause) (c : Chip) : (c.journal x).pred = c.pred := (rfl)
@[simp] theorem Chip.journal_free (x : JCause) (c : Chip) : (c.journal x).free = c.free := (rfl)
@[simp] theorem Chip.journal_sched (x : JCause) (c : Chip) : (c.journal x).sched = c.sched := (rfl)
@[simp] theorem Chip.journal_outs (x : JCause) (c : Chip) : (c.journal x).outs = c.outs := (rfl)
@[simp] theorem Chip.journal_timers (x : JCause) (c : Chip) : (c.journal x).timers = c.timers := (rfl)
@[simp] theorem Chip.journal_conv (x : JCause) (c : Chip) : (c.journal x).conv = c.conv := (rfl)
@[simp] theorem Chip.journal_power (x : JCause) (c : Chip) : (c.journal x).power = c.power := (rfl)
@[simp] theorem Chip.journal_cipher (x : JCause) (c : Chip) : (c.journal x).cipher = c.cipher := (rfl)
@[simp] theorem Chip.journal_ring (x : JCause) (c : Chip) : (c.journal x).ring = c.ring := (rfl)
@[simp] theorem Chip.journal_twin (x : JCause) (c : Chip) : (c.journal x).twin = c.twin := (rfl)
@[simp] theorem Chip.journal_can (x : JCause) (c : Chip) : (c.journal x).can = c.can := (rfl)
@[simp] theorem Chip.journal_tag (x : JCause) (c : Chip) : (c.journal x).tag = c.tag := (rfl)
@[simp] theorem Chip.journal_tap (x : JCause) (c : Chip) : (c.journal x).tap = c.tap := (rfl)
@[simp] theorem Chip.journal_get (x : JCause) (r : Nat) (c : Chip) : (c.journal x).get r = c.get r := (rfl)
@[simp] theorem Chip.journal_fld (x : JCause) (g : Fld) (c : Chip) : (c.journal x).fld g = c.fld g := (rfl)
@[simp] theorem Chip.journal_flag (x : JCause) (g : Fld) (c : Chip) : (c.journal x).flag g = c.flag g := (rfl)
@[simp] theorem Chip.journal_bit (x : JCause) (r i : Nat) (c : Chip) : (c.journal x).bit r i = c.bit r i := (rfl)
@[simp] theorem Chip.journal_regOk (x : JCause) (c : Chip) : (c.journal x).RegOk = c.RegOk := (rfl)
@[simp] theorem Chip.journal_memOk (x : JCause) (c : Chip) : (c.journal x).MemOk = c.MemOk := (rfl)
@[simp] theorem Chip.journal_hasFreeSlot (x : JCause) (c : Chip) : (c.journal x).hasFreeSlot = c.hasFreeSlot := (rfl)

@[simp] theorem Chip.putWinByte_part (o : Nat) (b : Byte) (c : Chip) : (c.putWinByte o b).part = c.part := (rfl)
@[simp] theorem Chip.putWinByte_regs (o : Nat) (b : Byte) (c : Chip) : (c.putWinByte o b).regs = c.regs := (rfl)
@[simp] theorem Chip.putWinByte_tb (o : Nat) (b : Byte) (c : Chip) : (c.putWinByte o b).tb = c.tb := (rfl)
@[simp] theorem Chip.putWinByte_bus (o : Nat) (b : Byte) (c : Chip) : (c.putWinByte o b).bus = c.bus := (rfl)
@[simp] theorem Chip.putWinByte_pub (o : Nat) (b : Byte) (c : Chip) : (c.putWinByte o b).pub = c.pub := (rfl)
@[simp] theorem Chip.putWinByte_pubOld (o : Nat) (b : Byte) (c : Chip) : (c.putWinByte o b).pubOld = c.pubOld := (rfl)
@[simp] theorem Chip.putWinByte_irq (o : Nat) (b : Byte) (c : Chip) : (c.putWinByte o b).irq = c.irq := (rfl)
@[simp] theorem Chip.putWinByte_flt (o : Nat) (b : Byte) (c : Chip) : (c.putWinByte o b).flt = c.flt := (rfl)
@[simp] theorem Chip.putWinByte_jnl (o : Nat) (b : Byte) (c : Chip) : (c.putWinByte o b).jnl = c.jnl := (rfl)
@[simp] theorem Chip.putWinByte_wheels (o : Nat) (b : Byte) (c : Chip) : (c.putWinByte o b).wheels = c.wheels := (rfl)
@[simp] theorem Chip.putWinByte_pred (o : Nat) (b : Byte) (c : Chip) : (c.putWinByte o b).pred = c.pred := (rfl)
@[simp] theorem Chip.putWinByte_free (o : Nat) (b : Byte) (c : Chip) : (c.putWinByte o b).free = c.free := (rfl)
@[simp] theorem Chip.putWinByte_sched (o : Nat) (b : Byte) (c : Chip) : (c.putWinByte o b).sched = c.sched := (rfl)
@[simp] theorem Chip.putWinByte_outs (o : Nat) (b : Byte) (c : Chip) : (c.putWinByte o b).outs = c.outs := (rfl)
@[simp] theorem Chip.putWinByte_timers (o : Nat) (b : Byte) (c : Chip) : (c.putWinByte o b).timers = c.timers := (rfl)
@[simp] theorem Chip.putWinByte_conv (o : Nat) (b : Byte) (c : Chip) : (c.putWinByte o b).conv = c.conv := (rfl)
@[simp] theorem Chip.putWinByte_power (o : Nat) (b : Byte) (c : Chip) : (c.putWinByte o b).power = c.power := (rfl)
@[simp] theorem Chip.putWinByte_cipher (o : Nat) (b : Byte) (c : Chip) : (c.putWinByte o b).cipher = c.cipher := (rfl)
@[simp] theorem Chip.putWinByte_ring (o : Nat) (b : Byte) (c : Chip) : (c.putWinByte o b).ring = c.ring := (rfl)
@[simp] theorem Chip.putWinByte_twin (o : Nat) (b : Byte) (c : Chip) : (c.putWinByte o b).twin = c.twin := (rfl)
@[simp] theorem Chip.putWinByte_can (o : Nat) (b : Byte) (c : Chip) : (c.putWinByte o b).can = c.can := (rfl)
@[simp] theorem Chip.putWinByte_tag (o : Nat) (b : Byte) (c : Chip) : (c.putWinByte o b).tag = c.tag := (rfl)
@[simp] theorem Chip.putWinByte_tap (o : Nat) (b : Byte) (c : Chip) : (c.putWinByte o b).tap = c.tap := (rfl)
@[simp] theorem Chip.putWinByte_get (o : Nat) (b : Byte) (r : Nat) (c : Chip) : (c.putWinByte o b).get r = c.get r := (rfl)
@[simp] theorem Chip.putWinByte_fld (o : Nat) (b : Byte) (g : Fld) (c : Chip) : (c.putWinByte o b).fld g = c.fld g := (rfl)
@[simp] theorem Chip.putWinByte_flag (o : Nat) (b : Byte) (g : Fld) (c : Chip) : (c.putWinByte o b).flag g = c.flag g := (rfl)
@[simp] theorem Chip.putWinByte_bit (o : Nat) (b : Byte) (r i : Nat) (c : Chip) : (c.putWinByte o b).bit r i = c.bit r i := (rfl)
@[simp] theorem Chip.putWinByte_regOk (o : Nat) (b : Byte) (c : Chip) : (c.putWinByte o b).RegOk = c.RegOk := (rfl)

@[simp] theorem Chip.putWin16_part (o v : Nat) (c : Chip) : (c.putWin16 o v).part = c.part := (rfl)
@[simp] theorem Chip.putWin16_regs (o v : Nat) (c : Chip) : (c.putWin16 o v).regs = c.regs := (rfl)
@[simp] theorem Chip.putWin16_tb (o v : Nat) (c : Chip) : (c.putWin16 o v).tb = c.tb := (rfl)
@[simp] theorem Chip.putWin16_bus (o v : Nat) (c : Chip) : (c.putWin16 o v).bus = c.bus := (rfl)
@[simp] theorem Chip.putWin16_pub (o v : Nat) (c : Chip) : (c.putWin16 o v).pub = c.pub := (rfl)
@[simp] theorem Chip.putWin16_pubOld (o v : Nat) (c : Chip) : (c.putWin16 o v).pubOld = c.pubOld := (rfl)
@[simp] theorem Chip.putWin16_irq (o v : Nat) (c : Chip) : (c.putWin16 o v).irq = c.irq := (rfl)
@[simp] theorem Chip.putWin16_flt (o v : Nat) (c : Chip) : (c.putWin16 o v).flt = c.flt := (rfl)
@[simp] theorem Chip.putWin16_jnl (o v : Nat) (c : Chip) : (c.putWin16 o v).jnl = c.jnl := (rfl)
@[simp] theorem Chip.putWin16_wheels (o v : Nat) (c : Chip) : (c.putWin16 o v).wheels = c.wheels := (rfl)
@[simp] theorem Chip.putWin16_pred (o v : Nat) (c : Chip) : (c.putWin16 o v).pred = c.pred := (rfl)
@[simp] theorem Chip.putWin16_free (o v : Nat) (c : Chip) : (c.putWin16 o v).free = c.free := (rfl)
@[simp] theorem Chip.putWin16_sched (o v : Nat) (c : Chip) : (c.putWin16 o v).sched = c.sched := (rfl)
@[simp] theorem Chip.putWin16_outs (o v : Nat) (c : Chip) : (c.putWin16 o v).outs = c.outs := (rfl)
@[simp] theorem Chip.putWin16_timers (o v : Nat) (c : Chip) : (c.putWin16 o v).timers = c.timers := (rfl)
@[simp] theorem Chip.putWin16_conv (o v : Nat) (c : Chip) : (c.putWin16 o v).conv = c.conv := (rfl)
@[simp] theorem Chip.putWin16_power (o v : Nat) (c : Chip) : (c.putWin16 o v).power = c.power := (rfl)
@[simp] theorem Chip.putWin16_cipher (o v : Nat) (c : Chip) : (c.putWin16 o v).cipher = c.cipher := (rfl)
@[simp] theorem Chip.putWin16_ring (o v : Nat) (c : Chip) : (c.putWin16 o v).ring = c.ring := (rfl)
@[simp] theorem Chip.putWin16_twin (o v : Nat) (c : Chip) : (c.putWin16 o v).twin = c.twin := (rfl)
@[simp] theorem Chip.putWin16_can (o v : Nat) (c : Chip) : (c.putWin16 o v).can = c.can := (rfl)
@[simp] theorem Chip.putWin16_tag (o v : Nat) (c : Chip) : (c.putWin16 o v).tag = c.tag := (rfl)
@[simp] theorem Chip.putWin16_tap (o v : Nat) (c : Chip) : (c.putWin16 o v).tap = c.tap := (rfl)
@[simp] theorem Chip.putWin16_get (o v : Nat) (r : Nat) (c : Chip) : (c.putWin16 o v).get r = c.get r := (rfl)
@[simp] theorem Chip.putWin16_fld (o v : Nat) (g : Fld) (c : Chip) : (c.putWin16 o v).fld g = c.fld g := (rfl)
@[simp] theorem Chip.putWin16_flag (o v : Nat) (g : Fld) (c : Chip) : (c.putWin16 o v).flag g = c.flag g := (rfl)
@[simp] theorem Chip.putWin16_bit (o v : Nat) (r i : Nat) (c : Chip) : (c.putWin16 o v).bit r i = c.bit r i := (rfl)
@[simp] theorem Chip.putWin16_regOk (o v : Nat) (c : Chip) : (c.putWin16 o v).RegOk = c.RegOk := (rfl)

@[simp] theorem Chip.modTwin_part (f : Twin → Twin) (c : Chip) : (c.modTwin f).part = c.part := (rfl)
@[simp] theorem Chip.modTwin_regs (f : Twin → Twin) (c : Chip) : (c.modTwin f).regs = c.regs := (rfl)
@[simp] theorem Chip.modTwin_win (f : Twin → Twin) (c : Chip) : (c.modTwin f).win = c.win := (rfl)
@[simp] theorem Chip.modTwin_tb (f : Twin → Twin) (c : Chip) : (c.modTwin f).tb = c.tb := (rfl)
@[simp] theorem Chip.modTwin_bus (f : Twin → Twin) (c : Chip) : (c.modTwin f).bus = c.bus := (rfl)
@[simp] theorem Chip.modTwin_pub (f : Twin → Twin) (c : Chip) : (c.modTwin f).pub = c.pub := (rfl)
@[simp] theorem Chip.modTwin_pubOld (f : Twin → Twin) (c : Chip) : (c.modTwin f).pubOld = c.pubOld := (rfl)
@[simp] theorem Chip.modTwin_irq (f : Twin → Twin) (c : Chip) : (c.modTwin f).irq = c.irq := (rfl)
@[simp] theorem Chip.modTwin_flt (f : Twin → Twin) (c : Chip) : (c.modTwin f).flt = c.flt := (rfl)
@[simp] theorem Chip.modTwin_jnl (f : Twin → Twin) (c : Chip) : (c.modTwin f).jnl = c.jnl := (rfl)
@[simp] theorem Chip.modTwin_wheels (f : Twin → Twin) (c : Chip) : (c.modTwin f).wheels = c.wheels := (rfl)
@[simp] theorem Chip.modTwin_pred (f : Twin → Twin) (c : Chip) : (c.modTwin f).pred = c.pred := (rfl)
@[simp] theorem Chip.modTwin_free (f : Twin → Twin) (c : Chip) : (c.modTwin f).free = c.free := (rfl)
@[simp] theorem Chip.modTwin_sched (f : Twin → Twin) (c : Chip) : (c.modTwin f).sched = c.sched := (rfl)
@[simp] theorem Chip.modTwin_outs (f : Twin → Twin) (c : Chip) : (c.modTwin f).outs = c.outs := (rfl)
@[simp] theorem Chip.modTwin_timers (f : Twin → Twin) (c : Chip) : (c.modTwin f).timers = c.timers := (rfl)
@[simp] theorem Chip.modTwin_conv (f : Twin → Twin) (c : Chip) : (c.modTwin f).conv = c.conv := (rfl)
@[simp] theorem Chip.modTwin_power (f : Twin → Twin) (c : Chip) : (c.modTwin f).power = c.power := (rfl)
@[simp] theorem Chip.modTwin_cipher (f : Twin → Twin) (c : Chip) : (c.modTwin f).cipher = c.cipher := (rfl)
@[simp] theorem Chip.modTwin_ring (f : Twin → Twin) (c : Chip) : (c.modTwin f).ring = c.ring := (rfl)
@[simp] theorem Chip.modTwin_twin (f : Twin → Twin) (c : Chip) : (c.modTwin f).twin = f c.twin := (rfl)
@[simp] theorem Chip.modTwin_can (f : Twin → Twin) (c : Chip) : (c.modTwin f).can = c.can := (rfl)
@[simp] theorem Chip.modTwin_tag (f : Twin → Twin) (c : Chip) : (c.modTwin f).tag = c.tag := (rfl)
@[simp] theorem Chip.modTwin_tap (f : Twin → Twin) (c : Chip) : (c.modTwin f).tap = c.tap := (rfl)
@[simp] theorem Chip.modTwin_get (f : Twin → Twin) (r : Nat) (c : Chip) : (c.modTwin f).get r = c.get r := (rfl)
@[simp] theorem Chip.modTwin_fld (f : Twin → Twin) (g : Fld) (c : Chip) : (c.modTwin f).fld g = c.fld g := (rfl)
@[simp] theorem Chip.modTwin_flag (f : Twin → Twin) (g : Fld) (c : Chip) : (c.modTwin f).flag g = c.flag g := (rfl)
@[simp] theorem Chip.modTwin_bit (f : Twin → Twin) (r i : Nat) (c : Chip) : (c.modTwin f).bit r i = c.bit r i := (rfl)
@[simp] theorem Chip.modTwin_regOk (f : Twin → Twin) (c : Chip) : (c.modTwin f).RegOk = c.RegOk := (rfl)
@[simp] theorem Chip.modTwin_memOk (f : Twin → Twin) (c : Chip) : (c.modTwin f).MemOk = c.MemOk := (rfl)
@[simp] theorem Chip.modTwin_hasFreeSlot (f : Twin → Twin) (c : Chip) : (c.modTwin f).hasFreeSlot = c.hasFreeSlot := (rfl)

@[simp] theorem Chip.modWheel_part (n : Nat) (f : Wheel → Wheel) (c : Chip) : (c.modWheel n f).part = c.part := (rfl)
@[simp] theorem Chip.modWheel_regs (n : Nat) (f : Wheel → Wheel) (c : Chip) : (c.modWheel n f).regs = c.regs := (rfl)
@[simp] theorem Chip.modWheel_win (n : Nat) (f : Wheel → Wheel) (c : Chip) : (c.modWheel n f).win = c.win := (rfl)
@[simp] theorem Chip.modWheel_tb (n : Nat) (f : Wheel → Wheel) (c : Chip) : (c.modWheel n f).tb = c.tb := (rfl)
@[simp] theorem Chip.modWheel_bus (n : Nat) (f : Wheel → Wheel) (c : Chip) : (c.modWheel n f).bus = c.bus := (rfl)
@[simp] theorem Chip.modWheel_pub (n : Nat) (f : Wheel → Wheel) (c : Chip) : (c.modWheel n f).pub = c.pub := (rfl)
@[simp] theorem Chip.modWheel_pubOld (n : Nat) (f : Wheel → Wheel) (c : Chip) : (c.modWheel n f).pubOld = c.pubOld := (rfl)
@[simp] theorem Chip.modWheel_irq (n : Nat) (f : Wheel → Wheel) (c : Chip) : (c.modWheel n f).irq = c.irq := (rfl)
@[simp] theorem Chip.modWheel_flt (n : Nat) (f : Wheel → Wheel) (c : Chip) : (c.modWheel n f).flt = c.flt := (rfl)
@[simp] theorem Chip.modWheel_jnl (n : Nat) (f : Wheel → Wheel) (c : Chip) : (c.modWheel n f).jnl = c.jnl := (rfl)
@[simp] theorem Chip.modWheel_pred (n : Nat) (f : Wheel → Wheel) (c : Chip) : (c.modWheel n f).pred = c.pred := (rfl)
@[simp] theorem Chip.modWheel_free (n : Nat) (f : Wheel → Wheel) (c : Chip) : (c.modWheel n f).free = c.free := (rfl)
@[simp] theorem Chip.modWheel_sched (n : Nat) (f : Wheel → Wheel) (c : Chip) : (c.modWheel n f).sched = c.sched := (rfl)
@[simp] theorem Chip.modWheel_outs (n : Nat) (f : Wheel → Wheel) (c : Chip) : (c.modWheel n f).outs = c.outs := (rfl)
@[simp] theorem Chip.modWheel_timers (n : Nat) (f : Wheel → Wheel) (c : Chip) : (c.modWheel n f).timers = c.timers := (rfl)
@[simp] theorem Chip.modWheel_conv (n : Nat) (f : Wheel → Wheel) (c : Chip) : (c.modWheel n f).conv = c.conv := (rfl)
@[simp] theorem Chip.modWheel_power (n : Nat) (f : Wheel → Wheel) (c : Chip) : (c.modWheel n f).power = c.power := (rfl)
@[simp] theorem Chip.modWheel_cipher (n : Nat) (f : Wheel → Wheel) (c : Chip) : (c.modWheel n f).cipher = c.cipher := (rfl)
@[simp] theorem Chip.modWheel_ring (n : Nat) (f : Wheel → Wheel) (c : Chip) : (c.modWheel n f).ring = c.ring := (rfl)
@[simp] theorem Chip.modWheel_twin (n : Nat) (f : Wheel → Wheel) (c : Chip) : (c.modWheel n f).twin = c.twin := (rfl)
@[simp] theorem Chip.modWheel_can (n : Nat) (f : Wheel → Wheel) (c : Chip) : (c.modWheel n f).can = c.can := (rfl)
@[simp] theorem Chip.modWheel_tag (n : Nat) (f : Wheel → Wheel) (c : Chip) : (c.modWheel n f).tag = c.tag := (rfl)
@[simp] theorem Chip.modWheel_tap (n : Nat) (f : Wheel → Wheel) (c : Chip) : (c.modWheel n f).tap = c.tap := (rfl)
@[simp] theorem Chip.modWheel_get (n : Nat) (f : Wheel → Wheel) (r : Nat) (c : Chip) : (c.modWheel n f).get r = c.get r := (rfl)
@[simp] theorem Chip.modWheel_fld (n : Nat) (f : Wheel → Wheel) (g : Fld) (c : Chip) : (c.modWheel n f).fld g = c.fld g := (rfl)
@[simp] theorem Chip.modWheel_flag (n : Nat) (f : Wheel → Wheel) (g : Fld) (c : Chip) : (c.modWheel n f).flag g = c.flag g := (rfl)
@[simp] theorem Chip.modWheel_bit (n : Nat) (f : Wheel → Wheel) (r i : Nat) (c : Chip) : (c.modWheel n f).bit r i = c.bit r i := (rfl)
@[simp] theorem Chip.modWheel_regOk (n : Nat) (f : Wheel → Wheel) (c : Chip) : (c.modWheel n f).RegOk = c.RegOk := (rfl)
@[simp] theorem Chip.modWheel_memOk (n : Nat) (f : Wheel → Wheel) (c : Chip) : (c.modWheel n f).MemOk = c.MemOk := (rfl)
@[simp] theorem Chip.modWheel_hasFreeSlot (n : Nat) (f : Wheel → Wheel) (c : Chip) : (c.modWheel n f).hasFreeSlot = c.hasFreeSlot := (rfl)

@[simp] theorem Chip.modPred_part (f : Pred → Pred) (c : Chip) : (c.modPred f).part = c.part := (rfl)
@[simp] theorem Chip.modPred_regs (f : Pred → Pred) (c : Chip) : (c.modPred f).regs = c.regs := (rfl)
@[simp] theorem Chip.modPred_win (f : Pred → Pred) (c : Chip) : (c.modPred f).win = c.win := (rfl)
@[simp] theorem Chip.modPred_tb (f : Pred → Pred) (c : Chip) : (c.modPred f).tb = c.tb := (rfl)
@[simp] theorem Chip.modPred_bus (f : Pred → Pred) (c : Chip) : (c.modPred f).bus = c.bus := (rfl)
@[simp] theorem Chip.modPred_pub (f : Pred → Pred) (c : Chip) : (c.modPred f).pub = c.pub := (rfl)
@[simp] theorem Chip.modPred_pubOld (f : Pred → Pred) (c : Chip) : (c.modPred f).pubOld = c.pubOld := (rfl)
@[simp] theorem Chip.modPred_irq (f : Pred → Pred) (c : Chip) : (c.modPred f).irq = c.irq := (rfl)
@[simp] theorem Chip.modPred_flt (f : Pred → Pred) (c : Chip) : (c.modPred f).flt = c.flt := (rfl)
@[simp] theorem Chip.modPred_jnl (f : Pred → Pred) (c : Chip) : (c.modPred f).jnl = c.jnl := (rfl)
@[simp] theorem Chip.modPred_wheels (f : Pred → Pred) (c : Chip) : (c.modPred f).wheels = c.wheels := (rfl)
@[simp] theorem Chip.modPred_pred (f : Pred → Pred) (c : Chip) : (c.modPred f).pred = f c.pred := (rfl)
@[simp] theorem Chip.modPred_free (f : Pred → Pred) (c : Chip) : (c.modPred f).free = c.free := (rfl)
@[simp] theorem Chip.modPred_sched (f : Pred → Pred) (c : Chip) : (c.modPred f).sched = c.sched := (rfl)
@[simp] theorem Chip.modPred_outs (f : Pred → Pred) (c : Chip) : (c.modPred f).outs = c.outs := (rfl)
@[simp] theorem Chip.modPred_timers (f : Pred → Pred) (c : Chip) : (c.modPred f).timers = c.timers := (rfl)
@[simp] theorem Chip.modPred_conv (f : Pred → Pred) (c : Chip) : (c.modPred f).conv = c.conv := (rfl)
@[simp] theorem Chip.modPred_power (f : Pred → Pred) (c : Chip) : (c.modPred f).power = c.power := (rfl)
@[simp] theorem Chip.modPred_cipher (f : Pred → Pred) (c : Chip) : (c.modPred f).cipher = c.cipher := (rfl)
@[simp] theorem Chip.modPred_ring (f : Pred → Pred) (c : Chip) : (c.modPred f).ring = c.ring := (rfl)
@[simp] theorem Chip.modPred_twin (f : Pred → Pred) (c : Chip) : (c.modPred f).twin = c.twin := (rfl)
@[simp] theorem Chip.modPred_can (f : Pred → Pred) (c : Chip) : (c.modPred f).can = c.can := (rfl)
@[simp] theorem Chip.modPred_tag (f : Pred → Pred) (c : Chip) : (c.modPred f).tag = c.tag := (rfl)
@[simp] theorem Chip.modPred_tap (f : Pred → Pred) (c : Chip) : (c.modPred f).tap = c.tap := (rfl)
@[simp] theorem Chip.modPred_get (f : Pred → Pred) (r : Nat) (c : Chip) : (c.modPred f).get r = c.get r := (rfl)
@[simp] theorem Chip.modPred_fld (f : Pred → Pred) (g : Fld) (c : Chip) : (c.modPred f).fld g = c.fld g := (rfl)
@[simp] theorem Chip.modPred_flag (f : Pred → Pred) (g : Fld) (c : Chip) : (c.modPred f).flag g = c.flag g := (rfl)
@[simp] theorem Chip.modPred_bit (f : Pred → Pred) (r i : Nat) (c : Chip) : (c.modPred f).bit r i = c.bit r i := (rfl)
@[simp] theorem Chip.modPred_regOk (f : Pred → Pred) (c : Chip) : (c.modPred f).RegOk = c.RegOk := (rfl)
@[simp] theorem Chip.modPred_memOk (f : Pred → Pred) (c : Chip) : (c.modPred f).MemOk = c.MemOk := (rfl)
@[simp] theorem Chip.modPred_hasFreeSlot (f : Pred → Pred) (c : Chip) : (c.modPred f).hasFreeSlot = c.hasFreeSlot := (rfl)

@[simp] theorem Chip.modSched_part (f : Sched → Sched) (c : Chip) : (c.modSched f).part = c.part := (rfl)
@[simp] theorem Chip.modSched_regs (f : Sched → Sched) (c : Chip) : (c.modSched f).regs = c.regs := (rfl)
@[simp] theorem Chip.modSched_win (f : Sched → Sched) (c : Chip) : (c.modSched f).win = c.win := (rfl)
@[simp] theorem Chip.modSched_tb (f : Sched → Sched) (c : Chip) : (c.modSched f).tb = c.tb := (rfl)
@[simp] theorem Chip.modSched_bus (f : Sched → Sched) (c : Chip) : (c.modSched f).bus = c.bus := (rfl)
@[simp] theorem Chip.modSched_pub (f : Sched → Sched) (c : Chip) : (c.modSched f).pub = c.pub := (rfl)
@[simp] theorem Chip.modSched_pubOld (f : Sched → Sched) (c : Chip) : (c.modSched f).pubOld = c.pubOld := (rfl)
@[simp] theorem Chip.modSched_irq (f : Sched → Sched) (c : Chip) : (c.modSched f).irq = c.irq := (rfl)
@[simp] theorem Chip.modSched_flt (f : Sched → Sched) (c : Chip) : (c.modSched f).flt = c.flt := (rfl)
@[simp] theorem Chip.modSched_jnl (f : Sched → Sched) (c : Chip) : (c.modSched f).jnl = c.jnl := (rfl)
@[simp] theorem Chip.modSched_wheels (f : Sched → Sched) (c : Chip) : (c.modSched f).wheels = c.wheels := (rfl)
@[simp] theorem Chip.modSched_pred (f : Sched → Sched) (c : Chip) : (c.modSched f).pred = c.pred := (rfl)
@[simp] theorem Chip.modSched_free (f : Sched → Sched) (c : Chip) : (c.modSched f).free = c.free := (rfl)
@[simp] theorem Chip.modSched_sched (f : Sched → Sched) (c : Chip) : (c.modSched f).sched = f c.sched := (rfl)
@[simp] theorem Chip.modSched_outs (f : Sched → Sched) (c : Chip) : (c.modSched f).outs = c.outs := (rfl)
@[simp] theorem Chip.modSched_timers (f : Sched → Sched) (c : Chip) : (c.modSched f).timers = c.timers := (rfl)
@[simp] theorem Chip.modSched_conv (f : Sched → Sched) (c : Chip) : (c.modSched f).conv = c.conv := (rfl)
@[simp] theorem Chip.modSched_power (f : Sched → Sched) (c : Chip) : (c.modSched f).power = c.power := (rfl)
@[simp] theorem Chip.modSched_cipher (f : Sched → Sched) (c : Chip) : (c.modSched f).cipher = c.cipher := (rfl)
@[simp] theorem Chip.modSched_ring (f : Sched → Sched) (c : Chip) : (c.modSched f).ring = c.ring := (rfl)
@[simp] theorem Chip.modSched_twin (f : Sched → Sched) (c : Chip) : (c.modSched f).twin = c.twin := (rfl)
@[simp] theorem Chip.modSched_can (f : Sched → Sched) (c : Chip) : (c.modSched f).can = c.can := (rfl)
@[simp] theorem Chip.modSched_tag (f : Sched → Sched) (c : Chip) : (c.modSched f).tag = c.tag := (rfl)
@[simp] theorem Chip.modSched_tap (f : Sched → Sched) (c : Chip) : (c.modSched f).tap = c.tap := (rfl)
@[simp] theorem Chip.modSched_get (f : Sched → Sched) (r : Nat) (c : Chip) : (c.modSched f).get r = c.get r := (rfl)
@[simp] theorem Chip.modSched_fld (f : Sched → Sched) (g : Fld) (c : Chip) : (c.modSched f).fld g = c.fld g := (rfl)
@[simp] theorem Chip.modSched_flag (f : Sched → Sched) (g : Fld) (c : Chip) : (c.modSched f).flag g = c.flag g := (rfl)
@[simp] theorem Chip.modSched_bit (f : Sched → Sched) (r i : Nat) (c : Chip) : (c.modSched f).bit r i = c.bit r i := (rfl)
@[simp] theorem Chip.modSched_regOk (f : Sched → Sched) (c : Chip) : (c.modSched f).RegOk = c.RegOk := (rfl)
@[simp] theorem Chip.modSched_memOk (f : Sched → Sched) (c : Chip) : (c.modSched f).MemOk = c.MemOk := (rfl)
@[simp] theorem Chip.modSched_hasFreeSlot (f : Sched → Sched) (c : Chip) : (c.modSched f).hasFreeSlot = c.hasFreeSlot := (rfl)

@[simp] theorem Chip.modEntry_part (i : Nat) (f : Entry → Entry) (c : Chip) : (c.modEntry i f).part = c.part := (rfl)
@[simp] theorem Chip.modEntry_regs (i : Nat) (f : Entry → Entry) (c : Chip) : (c.modEntry i f).regs = c.regs := (rfl)
@[simp] theorem Chip.modEntry_win (i : Nat) (f : Entry → Entry) (c : Chip) : (c.modEntry i f).win = c.win := (rfl)
@[simp] theorem Chip.modEntry_tb (i : Nat) (f : Entry → Entry) (c : Chip) : (c.modEntry i f).tb = c.tb := (rfl)
@[simp] theorem Chip.modEntry_bus (i : Nat) (f : Entry → Entry) (c : Chip) : (c.modEntry i f).bus = c.bus := (rfl)
@[simp] theorem Chip.modEntry_pub (i : Nat) (f : Entry → Entry) (c : Chip) : (c.modEntry i f).pub = c.pub := (rfl)
@[simp] theorem Chip.modEntry_pubOld (i : Nat) (f : Entry → Entry) (c : Chip) : (c.modEntry i f).pubOld = c.pubOld := (rfl)
@[simp] theorem Chip.modEntry_irq (i : Nat) (f : Entry → Entry) (c : Chip) : (c.modEntry i f).irq = c.irq := (rfl)
@[simp] theorem Chip.modEntry_flt (i : Nat) (f : Entry → Entry) (c : Chip) : (c.modEntry i f).flt = c.flt := (rfl)
@[simp] theorem Chip.modEntry_jnl (i : Nat) (f : Entry → Entry) (c : Chip) : (c.modEntry i f).jnl = c.jnl := (rfl)
@[simp] theorem Chip.modEntry_wheels (i : Nat) (f : Entry → Entry) (c : Chip) : (c.modEntry i f).wheels = c.wheels := (rfl)
@[simp] theorem Chip.modEntry_pred (i : Nat) (f : Entry → Entry) (c : Chip) : (c.modEntry i f).pred = c.pred := (rfl)
@[simp] theorem Chip.modEntry_free (i : Nat) (f : Entry → Entry) (c : Chip) : (c.modEntry i f).free = c.free := (rfl)
@[simp] theorem Chip.modEntry_outs (i : Nat) (f : Entry → Entry) (c : Chip) : (c.modEntry i f).outs = c.outs := (rfl)
@[simp] theorem Chip.modEntry_timers (i : Nat) (f : Entry → Entry) (c : Chip) : (c.modEntry i f).timers = c.timers := (rfl)
@[simp] theorem Chip.modEntry_conv (i : Nat) (f : Entry → Entry) (c : Chip) : (c.modEntry i f).conv = c.conv := (rfl)
@[simp] theorem Chip.modEntry_power (i : Nat) (f : Entry → Entry) (c : Chip) : (c.modEntry i f).power = c.power := (rfl)
@[simp] theorem Chip.modEntry_cipher (i : Nat) (f : Entry → Entry) (c : Chip) : (c.modEntry i f).cipher = c.cipher := (rfl)
@[simp] theorem Chip.modEntry_ring (i : Nat) (f : Entry → Entry) (c : Chip) : (c.modEntry i f).ring = c.ring := (rfl)
@[simp] theorem Chip.modEntry_twin (i : Nat) (f : Entry → Entry) (c : Chip) : (c.modEntry i f).twin = c.twin := (rfl)
@[simp] theorem Chip.modEntry_can (i : Nat) (f : Entry → Entry) (c : Chip) : (c.modEntry i f).can = c.can := (rfl)
@[simp] theorem Chip.modEntry_tag (i : Nat) (f : Entry → Entry) (c : Chip) : (c.modEntry i f).tag = c.tag := (rfl)
@[simp] theorem Chip.modEntry_tap (i : Nat) (f : Entry → Entry) (c : Chip) : (c.modEntry i f).tap = c.tap := (rfl)
@[simp] theorem Chip.modEntry_get (i : Nat) (f : Entry → Entry) (r : Nat) (c : Chip) : (c.modEntry i f).get r = c.get r := (rfl)
@[simp] theorem Chip.modEntry_fld (i : Nat) (f : Entry → Entry) (g : Fld) (c : Chip) : (c.modEntry i f).fld g = c.fld g := (rfl)
@[simp] theorem Chip.modEntry_flag (i : Nat) (f : Entry → Entry) (g : Fld) (c : Chip) : (c.modEntry i f).flag g = c.flag g := (rfl)
@[simp] theorem Chip.modEntry_bit (i : Nat) (f : Entry → Entry) (r j : Nat) (c : Chip) : (c.modEntry i f).bit r j = c.bit r j := (rfl)
@[simp] theorem Chip.modEntry_regOk (i : Nat) (f : Entry → Entry) (c : Chip) : (c.modEntry i f).RegOk = c.RegOk := (rfl)
@[simp] theorem Chip.modEntry_memOk (i : Nat) (f : Entry → Entry) (c : Chip) : (c.modEntry i f).MemOk = c.MemOk := (rfl)
@[simp] theorem Chip.modEntry_hasFreeSlot (i : Nat) (f : Entry → Entry) (c : Chip) : (c.modEntry i f).hasFreeSlot = c.hasFreeSlot := (rfl)

@[simp] theorem Chip.modOuts_part (f : Outs → Outs) (c : Chip) : (c.modOuts f).part = c.part := (rfl)
@[simp] theorem Chip.modOuts_regs (f : Outs → Outs) (c : Chip) : (c.modOuts f).regs = c.regs := (rfl)
@[simp] theorem Chip.modOuts_win (f : Outs → Outs) (c : Chip) : (c.modOuts f).win = c.win := (rfl)
@[simp] theorem Chip.modOuts_tb (f : Outs → Outs) (c : Chip) : (c.modOuts f).tb = c.tb := (rfl)
@[simp] theorem Chip.modOuts_bus (f : Outs → Outs) (c : Chip) : (c.modOuts f).bus = c.bus := (rfl)
@[simp] theorem Chip.modOuts_pub (f : Outs → Outs) (c : Chip) : (c.modOuts f).pub = c.pub := (rfl)
@[simp] theorem Chip.modOuts_pubOld (f : Outs → Outs) (c : Chip) : (c.modOuts f).pubOld = c.pubOld := (rfl)
@[simp] theorem Chip.modOuts_irq (f : Outs → Outs) (c : Chip) : (c.modOuts f).irq = c.irq := (rfl)
@[simp] theorem Chip.modOuts_flt (f : Outs → Outs) (c : Chip) : (c.modOuts f).flt = c.flt := (rfl)
@[simp] theorem Chip.modOuts_jnl (f : Outs → Outs) (c : Chip) : (c.modOuts f).jnl = c.jnl := (rfl)
@[simp] theorem Chip.modOuts_wheels (f : Outs → Outs) (c : Chip) : (c.modOuts f).wheels = c.wheels := (rfl)
@[simp] theorem Chip.modOuts_pred (f : Outs → Outs) (c : Chip) : (c.modOuts f).pred = c.pred := (rfl)
@[simp] theorem Chip.modOuts_free (f : Outs → Outs) (c : Chip) : (c.modOuts f).free = c.free := (rfl)
@[simp] theorem Chip.modOuts_sched (f : Outs → Outs) (c : Chip) : (c.modOuts f).sched = c.sched := (rfl)
@[simp] theorem Chip.modOuts_outs (f : Outs → Outs) (c : Chip) : (c.modOuts f).outs = f c.outs := (rfl)
@[simp] theorem Chip.modOuts_timers (f : Outs → Outs) (c : Chip) : (c.modOuts f).timers = c.timers := (rfl)
@[simp] theorem Chip.modOuts_conv (f : Outs → Outs) (c : Chip) : (c.modOuts f).conv = c.conv := (rfl)
@[simp] theorem Chip.modOuts_power (f : Outs → Outs) (c : Chip) : (c.modOuts f).power = c.power := (rfl)
@[simp] theorem Chip.modOuts_cipher (f : Outs → Outs) (c : Chip) : (c.modOuts f).cipher = c.cipher := (rfl)
@[simp] theorem Chip.modOuts_ring (f : Outs → Outs) (c : Chip) : (c.modOuts f).ring = c.ring := (rfl)
@[simp] theorem Chip.modOuts_twin (f : Outs → Outs) (c : Chip) : (c.modOuts f).twin = c.twin := (rfl)
@[simp] theorem Chip.modOuts_can (f : Outs → Outs) (c : Chip) : (c.modOuts f).can = c.can := (rfl)
@[simp] theorem Chip.modOuts_tag (f : Outs → Outs) (c : Chip) : (c.modOuts f).tag = c.tag := (rfl)
@[simp] theorem Chip.modOuts_tap (f : Outs → Outs) (c : Chip) : (c.modOuts f).tap = c.tap := (rfl)
@[simp] theorem Chip.modOuts_get (f : Outs → Outs) (r : Nat) (c : Chip) : (c.modOuts f).get r = c.get r := (rfl)
@[simp] theorem Chip.modOuts_fld (f : Outs → Outs) (g : Fld) (c : Chip) : (c.modOuts f).fld g = c.fld g := (rfl)
@[simp] theorem Chip.modOuts_flag (f : Outs → Outs) (g : Fld) (c : Chip) : (c.modOuts f).flag g = c.flag g := (rfl)
@[simp] theorem Chip.modOuts_bit (f : Outs → Outs) (r i : Nat) (c : Chip) : (c.modOuts f).bit r i = c.bit r i := (rfl)
@[simp] theorem Chip.modOuts_regOk (f : Outs → Outs) (c : Chip) : (c.modOuts f).RegOk = c.RegOk := (rfl)
@[simp] theorem Chip.modOuts_memOk (f : Outs → Outs) (c : Chip) : (c.modOuts f).MemOk = c.MemOk := (rfl)
@[simp] theorem Chip.modOuts_hasFreeSlot (f : Outs → Outs) (c : Chip) : (c.modOuts f).hasFreeSlot = c.hasFreeSlot := (rfl)

@[simp] theorem Chip.atStep_part (n : Nat) (c : Chip) : (c.atStep n).part = c.part := (rfl)
@[simp] theorem Chip.atStep_regs (n : Nat) (c : Chip) : (c.atStep n).regs = c.regs := (rfl)
@[simp] theorem Chip.atStep_win (n : Nat) (c : Chip) : (c.atStep n).win = c.win := (rfl)
@[simp] theorem Chip.atStep_tb (n : Nat) (c : Chip) : (c.atStep n).tb = { c.tb with now := n } := (rfl)
@[simp] theorem Chip.atStep_bus (n : Nat) (c : Chip) : (c.atStep n).bus = c.bus := (rfl)
@[simp] theorem Chip.atStep_pub (n : Nat) (c : Chip) : (c.atStep n).pub = c.pub := (rfl)
@[simp] theorem Chip.atStep_pubOld (n : Nat) (c : Chip) : (c.atStep n).pubOld = c.pubOld := (rfl)
@[simp] theorem Chip.atStep_irq (n : Nat) (c : Chip) : (c.atStep n).irq = c.irq := (rfl)
@[simp] theorem Chip.atStep_flt (n : Nat) (c : Chip) : (c.atStep n).flt = c.flt := (rfl)
@[simp] theorem Chip.atStep_jnl (n : Nat) (c : Chip) : (c.atStep n).jnl = c.jnl := (rfl)
@[simp] theorem Chip.atStep_wheels (n : Nat) (c : Chip) : (c.atStep n).wheels = c.wheels := (rfl)
@[simp] theorem Chip.atStep_pred (n : Nat) (c : Chip) : (c.atStep n).pred = c.pred := (rfl)
@[simp] theorem Chip.atStep_free (n : Nat) (c : Chip) : (c.atStep n).free = c.free := (rfl)
@[simp] theorem Chip.atStep_sched (n : Nat) (c : Chip) : (c.atStep n).sched = c.sched := (rfl)
@[simp] theorem Chip.atStep_outs (n : Nat) (c : Chip) : (c.atStep n).outs = c.outs := (rfl)
@[simp] theorem Chip.atStep_timers (n : Nat) (c : Chip) : (c.atStep n).timers = c.timers := (rfl)
@[simp] theorem Chip.atStep_conv (n : Nat) (c : Chip) : (c.atStep n).conv = c.conv := (rfl)
@[simp] theorem Chip.atStep_power (n : Nat) (c : Chip) : (c.atStep n).power = c.power := (rfl)
@[simp] theorem Chip.atStep_cipher (n : Nat) (c : Chip) : (c.atStep n).cipher = c.cipher := (rfl)
@[simp] theorem Chip.atStep_ring (n : Nat) (c : Chip) : (c.atStep n).ring = c.ring := (rfl)
@[simp] theorem Chip.atStep_twin (n : Nat) (c : Chip) : (c.atStep n).twin = c.twin := (rfl)
@[simp] theorem Chip.atStep_can (n : Nat) (c : Chip) : (c.atStep n).can = c.can := (rfl)
@[simp] theorem Chip.atStep_tag (n : Nat) (c : Chip) : (c.atStep n).tag = c.tag := (rfl)
@[simp] theorem Chip.atStep_tap (n : Nat) (c : Chip) : (c.atStep n).tap = c.tap := (rfl)
@[simp] theorem Chip.atStep_get (n : Nat) (r : Nat) (c : Chip) : (c.atStep n).get r = c.get r := (rfl)
@[simp] theorem Chip.atStep_fld (n : Nat) (g : Fld) (c : Chip) : (c.atStep n).fld g = c.fld g := (rfl)
@[simp] theorem Chip.atStep_flag (n : Nat) (g : Fld) (c : Chip) : (c.atStep n).flag g = c.flag g := (rfl)
@[simp] theorem Chip.atStep_bit (n : Nat) (r i : Nat) (c : Chip) : (c.atStep n).bit r i = c.bit r i := (rfl)
@[simp] theorem Chip.atStep_regOk (n : Nat) (c : Chip) : (c.atStep n).RegOk = c.RegOk := (rfl)
@[simp] theorem Chip.atStep_memOk (n : Nat) (c : Chip) : (c.atStep n).MemOk = c.MemOk := (rfl)
@[simp] theorem Chip.atStep_hasFreeSlot (n : Nat) (c : Chip) : (c.atStep n).hasFreeSlot = c.hasFreeSlot := (rfl)

@[simp] theorem Chip.modInj_part (k : Nat) (f : Inj → Inj) (c : Chip) : (c.modInj k f).part = c.part := (rfl)
@[simp] theorem Chip.modInj_regs (k : Nat) (f : Inj → Inj) (c : Chip) : (c.modInj k f).regs = c.regs := (rfl)
@[simp] theorem Chip.modInj_win (k : Nat) (f : Inj → Inj) (c : Chip) : (c.modInj k f).win = c.win := (rfl)
@[simp] theorem Chip.modInj_tb (k : Nat) (f : Inj → Inj) (c : Chip) : (c.modInj k f).tb = c.tb := (rfl)
@[simp] theorem Chip.modInj_bus (k : Nat) (f : Inj → Inj) (c : Chip) : (c.modInj k f).bus = c.bus := (rfl)
@[simp] theorem Chip.modInj_pub (k : Nat) (f : Inj → Inj) (c : Chip) : (c.modInj k f).pub = c.pub := (rfl)
@[simp] theorem Chip.modInj_pubOld (k : Nat) (f : Inj → Inj) (c : Chip) : (c.modInj k f).pubOld = c.pubOld := (rfl)
@[simp] theorem Chip.modInj_irq (k : Nat) (f : Inj → Inj) (c : Chip) : (c.modInj k f).irq = c.irq := (rfl)
@[simp] theorem Chip.modInj_flt (k : Nat) (f : Inj → Inj) (c : Chip) : (c.modInj k f).flt = c.flt := (rfl)
@[simp] theorem Chip.modInj_jnl (k : Nat) (f : Inj → Inj) (c : Chip) : (c.modInj k f).jnl = c.jnl := (rfl)
@[simp] theorem Chip.modInj_wheels (k : Nat) (f : Inj → Inj) (c : Chip) : (c.modInj k f).wheels = c.wheels := (rfl)
@[simp] theorem Chip.modInj_pred (k : Nat) (f : Inj → Inj) (c : Chip) : (c.modInj k f).pred = c.pred := (rfl)
@[simp] theorem Chip.modInj_free (k : Nat) (f : Inj → Inj) (c : Chip) : (c.modInj k f).free = c.free := (rfl)
@[simp] theorem Chip.modInj_sched (k : Nat) (f : Inj → Inj) (c : Chip) : (c.modInj k f).sched = c.sched := (rfl)
@[simp] theorem Chip.modInj_timers (k : Nat) (f : Inj → Inj) (c : Chip) : (c.modInj k f).timers = c.timers := (rfl)
@[simp] theorem Chip.modInj_conv (k : Nat) (f : Inj → Inj) (c : Chip) : (c.modInj k f).conv = c.conv := (rfl)
@[simp] theorem Chip.modInj_power (k : Nat) (f : Inj → Inj) (c : Chip) : (c.modInj k f).power = c.power := (rfl)
@[simp] theorem Chip.modInj_cipher (k : Nat) (f : Inj → Inj) (c : Chip) : (c.modInj k f).cipher = c.cipher := (rfl)
@[simp] theorem Chip.modInj_ring (k : Nat) (f : Inj → Inj) (c : Chip) : (c.modInj k f).ring = c.ring := (rfl)
@[simp] theorem Chip.modInj_twin (k : Nat) (f : Inj → Inj) (c : Chip) : (c.modInj k f).twin = c.twin := (rfl)
@[simp] theorem Chip.modInj_can (k : Nat) (f : Inj → Inj) (c : Chip) : (c.modInj k f).can = c.can := (rfl)
@[simp] theorem Chip.modInj_tag (k : Nat) (f : Inj → Inj) (c : Chip) : (c.modInj k f).tag = c.tag := (rfl)
@[simp] theorem Chip.modInj_tap (k : Nat) (f : Inj → Inj) (c : Chip) : (c.modInj k f).tap = c.tap := (rfl)
@[simp] theorem Chip.modInj_get (k : Nat) (f : Inj → Inj) (r : Nat) (c : Chip) : (c.modInj k f).get r = c.get r := (rfl)
@[simp] theorem Chip.modInj_fld (k : Nat) (f : Inj → Inj) (g : Fld) (c : Chip) : (c.modInj k f).fld g = c.fld g := (rfl)
@[simp] theorem Chip.modInj_flag (k : Nat) (f : Inj → Inj) (g : Fld) (c : Chip) : (c.modInj k f).flag g = c.flag g := (rfl)
@[simp] theorem Chip.modInj_bit (k : Nat) (f : Inj → Inj) (r i : Nat) (c : Chip) : (c.modInj k f).bit r i = c.bit r i := (rfl)
@[simp] theorem Chip.modInj_regOk (k : Nat) (f : Inj → Inj) (c : Chip) : (c.modInj k f).RegOk = c.RegOk := (rfl)
@[simp] theorem Chip.modInj_memOk (k : Nat) (f : Inj → Inj) (c : Chip) : (c.modInj k f).MemOk = c.MemOk := (rfl)
@[simp] theorem Chip.modInj_hasFreeSlot (k : Nat) (f : Inj → Inj) (c : Chip) : (c.modInj k f).hasFreeSlot = c.hasFreeSlot := (rfl)

@[simp] theorem Chip.modValve_part (v : Nat) (f : Valve → Valve) (c : Chip) : (c.modValve v f).part = c.part := (rfl)
@[simp] theorem Chip.modValve_regs (v : Nat) (f : Valve → Valve) (c : Chip) : (c.modValve v f).regs = c.regs := (rfl)
@[simp] theorem Chip.modValve_win (v : Nat) (f : Valve → Valve) (c : Chip) : (c.modValve v f).win = c.win := (rfl)
@[simp] theorem Chip.modValve_tb (v : Nat) (f : Valve → Valve) (c : Chip) : (c.modValve v f).tb = c.tb := (rfl)
@[simp] theorem Chip.modValve_bus (v : Nat) (f : Valve → Valve) (c : Chip) : (c.modValve v f).bus = c.bus := (rfl)
@[simp] theorem Chip.modValve_pub (v : Nat) (f : Valve → Valve) (c : Chip) : (c.modValve v f).pub = c.pub := (rfl)
@[simp] theorem Chip.modValve_pubOld (v : Nat) (f : Valve → Valve) (c : Chip) : (c.modValve v f).pubOld = c.pubOld := (rfl)
@[simp] theorem Chip.modValve_irq (v : Nat) (f : Valve → Valve) (c : Chip) : (c.modValve v f).irq = c.irq := (rfl)
@[simp] theorem Chip.modValve_flt (v : Nat) (f : Valve → Valve) (c : Chip) : (c.modValve v f).flt = c.flt := (rfl)
@[simp] theorem Chip.modValve_jnl (v : Nat) (f : Valve → Valve) (c : Chip) : (c.modValve v f).jnl = c.jnl := (rfl)
@[simp] theorem Chip.modValve_wheels (v : Nat) (f : Valve → Valve) (c : Chip) : (c.modValve v f).wheels = c.wheels := (rfl)
@[simp] theorem Chip.modValve_pred (v : Nat) (f : Valve → Valve) (c : Chip) : (c.modValve v f).pred = c.pred := (rfl)
@[simp] theorem Chip.modValve_free (v : Nat) (f : Valve → Valve) (c : Chip) : (c.modValve v f).free = c.free := (rfl)
@[simp] theorem Chip.modValve_sched (v : Nat) (f : Valve → Valve) (c : Chip) : (c.modValve v f).sched = c.sched := (rfl)
@[simp] theorem Chip.modValve_timers (v : Nat) (f : Valve → Valve) (c : Chip) : (c.modValve v f).timers = c.timers := (rfl)
@[simp] theorem Chip.modValve_conv (v : Nat) (f : Valve → Valve) (c : Chip) : (c.modValve v f).conv = c.conv := (rfl)
@[simp] theorem Chip.modValve_power (v : Nat) (f : Valve → Valve) (c : Chip) : (c.modValve v f).power = c.power := (rfl)
@[simp] theorem Chip.modValve_cipher (v : Nat) (f : Valve → Valve) (c : Chip) : (c.modValve v f).cipher = c.cipher := (rfl)
@[simp] theorem Chip.modValve_ring (v : Nat) (f : Valve → Valve) (c : Chip) : (c.modValve v f).ring = c.ring := (rfl)
@[simp] theorem Chip.modValve_twin (v : Nat) (f : Valve → Valve) (c : Chip) : (c.modValve v f).twin = c.twin := (rfl)
@[simp] theorem Chip.modValve_can (v : Nat) (f : Valve → Valve) (c : Chip) : (c.modValve v f).can = c.can := (rfl)
@[simp] theorem Chip.modValve_tag (v : Nat) (f : Valve → Valve) (c : Chip) : (c.modValve v f).tag = c.tag := (rfl)
@[simp] theorem Chip.modValve_tap (v : Nat) (f : Valve → Valve) (c : Chip) : (c.modValve v f).tap = c.tap := (rfl)
@[simp] theorem Chip.modValve_get (v : Nat) (f : Valve → Valve) (r : Nat) (c : Chip) : (c.modValve v f).get r = c.get r := (rfl)
@[simp] theorem Chip.modValve_fld (v : Nat) (f : Valve → Valve) (g : Fld) (c : Chip) : (c.modValve v f).fld g = c.fld g := (rfl)
@[simp] theorem Chip.modValve_flag (v : Nat) (f : Valve → Valve) (g : Fld) (c : Chip) : (c.modValve v f).flag g = c.flag g := (rfl)
@[simp] theorem Chip.modValve_bit (v : Nat) (f : Valve → Valve) (r i : Nat) (c : Chip) : (c.modValve v f).bit r i = c.bit r i := (rfl)
@[simp] theorem Chip.modValve_regOk (v : Nat) (f : Valve → Valve) (c : Chip) : (c.modValve v f).RegOk = c.RegOk := (rfl)
@[simp] theorem Chip.modValve_memOk (v : Nat) (f : Valve → Valve) (c : Chip) : (c.modValve v f).MemOk = c.MemOk := (rfl)
@[simp] theorem Chip.modValve_hasFreeSlot (v : Nat) (f : Valve → Valve) (c : Chip) : (c.modValve v f).hasFreeSlot = c.hasFreeSlot := (rfl)

@[simp] theorem Chip.modTio_part (k : Nat) (f : Tio → Tio) (c : Chip) : (c.modTio k f).part = c.part := (rfl)
@[simp] theorem Chip.modTio_regs (k : Nat) (f : Tio → Tio) (c : Chip) : (c.modTio k f).regs = c.regs := (rfl)
@[simp] theorem Chip.modTio_win (k : Nat) (f : Tio → Tio) (c : Chip) : (c.modTio k f).win = c.win := (rfl)
@[simp] theorem Chip.modTio_tb (k : Nat) (f : Tio → Tio) (c : Chip) : (c.modTio k f).tb = c.tb := (rfl)
@[simp] theorem Chip.modTio_bus (k : Nat) (f : Tio → Tio) (c : Chip) : (c.modTio k f).bus = c.bus := (rfl)
@[simp] theorem Chip.modTio_pub (k : Nat) (f : Tio → Tio) (c : Chip) : (c.modTio k f).pub = c.pub := (rfl)
@[simp] theorem Chip.modTio_pubOld (k : Nat) (f : Tio → Tio) (c : Chip) : (c.modTio k f).pubOld = c.pubOld := (rfl)
@[simp] theorem Chip.modTio_irq (k : Nat) (f : Tio → Tio) (c : Chip) : (c.modTio k f).irq = c.irq := (rfl)
@[simp] theorem Chip.modTio_flt (k : Nat) (f : Tio → Tio) (c : Chip) : (c.modTio k f).flt = c.flt := (rfl)
@[simp] theorem Chip.modTio_jnl (k : Nat) (f : Tio → Tio) (c : Chip) : (c.modTio k f).jnl = c.jnl := (rfl)
@[simp] theorem Chip.modTio_wheels (k : Nat) (f : Tio → Tio) (c : Chip) : (c.modTio k f).wheels = c.wheels := (rfl)
@[simp] theorem Chip.modTio_pred (k : Nat) (f : Tio → Tio) (c : Chip) : (c.modTio k f).pred = c.pred := (rfl)
@[simp] theorem Chip.modTio_free (k : Nat) (f : Tio → Tio) (c : Chip) : (c.modTio k f).free = c.free := (rfl)
@[simp] theorem Chip.modTio_sched (k : Nat) (f : Tio → Tio) (c : Chip) : (c.modTio k f).sched = c.sched := (rfl)
@[simp] theorem Chip.modTio_timers (k : Nat) (f : Tio → Tio) (c : Chip) : (c.modTio k f).timers = c.timers := (rfl)
@[simp] theorem Chip.modTio_conv (k : Nat) (f : Tio → Tio) (c : Chip) : (c.modTio k f).conv = c.conv := (rfl)
@[simp] theorem Chip.modTio_power (k : Nat) (f : Tio → Tio) (c : Chip) : (c.modTio k f).power = c.power := (rfl)
@[simp] theorem Chip.modTio_cipher (k : Nat) (f : Tio → Tio) (c : Chip) : (c.modTio k f).cipher = c.cipher := (rfl)
@[simp] theorem Chip.modTio_ring (k : Nat) (f : Tio → Tio) (c : Chip) : (c.modTio k f).ring = c.ring := (rfl)
@[simp] theorem Chip.modTio_twin (k : Nat) (f : Tio → Tio) (c : Chip) : (c.modTio k f).twin = c.twin := (rfl)
@[simp] theorem Chip.modTio_can (k : Nat) (f : Tio → Tio) (c : Chip) : (c.modTio k f).can = c.can := (rfl)
@[simp] theorem Chip.modTio_tag (k : Nat) (f : Tio → Tio) (c : Chip) : (c.modTio k f).tag = c.tag := (rfl)
@[simp] theorem Chip.modTio_tap (k : Nat) (f : Tio → Tio) (c : Chip) : (c.modTio k f).tap = c.tap := (rfl)
@[simp] theorem Chip.modTio_get (k : Nat) (f : Tio → Tio) (r : Nat) (c : Chip) : (c.modTio k f).get r = c.get r := (rfl)
@[simp] theorem Chip.modTio_fld (k : Nat) (f : Tio → Tio) (g : Fld) (c : Chip) : (c.modTio k f).fld g = c.fld g := (rfl)
@[simp] theorem Chip.modTio_flag (k : Nat) (f : Tio → Tio) (g : Fld) (c : Chip) : (c.modTio k f).flag g = c.flag g := (rfl)
@[simp] theorem Chip.modTio_bit (k : Nat) (f : Tio → Tio) (r i : Nat) (c : Chip) : (c.modTio k f).bit r i = c.bit r i := (rfl)
@[simp] theorem Chip.modTio_regOk (k : Nat) (f : Tio → Tio) (c : Chip) : (c.modTio k f).RegOk = c.RegOk := (rfl)
@[simp] theorem Chip.modTio_memOk (k : Nat) (f : Tio → Tio) (c : Chip) : (c.modTio k f).MemOk = c.MemOk := (rfl)
@[simp] theorem Chip.modTio_hasFreeSlot (k : Nat) (f : Tio → Tio) (c : Chip) : (c.modTio k f).hasFreeSlot = c.hasFreeSlot := (rfl)

@[simp] theorem Chip.modPower_part (f : Power → Power) (c : Chip) : (c.modPower f).part = c.part := (rfl)
@[simp] theorem Chip.modPower_regs (f : Power → Power) (c : Chip) : (c.modPower f).regs = c.regs := (rfl)
@[simp] theorem Chip.modPower_win (f : Power → Power) (c : Chip) : (c.modPower f).win = c.win := (rfl)
@[simp] theorem Chip.modPower_tb (f : Power → Power) (c : Chip) : (c.modPower f).tb = c.tb := (rfl)
@[simp] theorem Chip.modPower_bus (f : Power → Power) (c : Chip) : (c.modPower f).bus = c.bus := (rfl)
@[simp] theorem Chip.modPower_pub (f : Power → Power) (c : Chip) : (c.modPower f).pub = c.pub := (rfl)
@[simp] theorem Chip.modPower_pubOld (f : Power → Power) (c : Chip) : (c.modPower f).pubOld = c.pubOld := (rfl)
@[simp] theorem Chip.modPower_irq (f : Power → Power) (c : Chip) : (c.modPower f).irq = c.irq := (rfl)
@[simp] theorem Chip.modPower_flt (f : Power → Power) (c : Chip) : (c.modPower f).flt = c.flt := (rfl)
@[simp] theorem Chip.modPower_jnl (f : Power → Power) (c : Chip) : (c.modPower f).jnl = c.jnl := (rfl)
@[simp] theorem Chip.modPower_wheels (f : Power → Power) (c : Chip) : (c.modPower f).wheels = c.wheels := (rfl)
@[simp] theorem Chip.modPower_pred (f : Power → Power) (c : Chip) : (c.modPower f).pred = c.pred := (rfl)
@[simp] theorem Chip.modPower_free (f : Power → Power) (c : Chip) : (c.modPower f).free = c.free := (rfl)
@[simp] theorem Chip.modPower_sched (f : Power → Power) (c : Chip) : (c.modPower f).sched = c.sched := (rfl)
@[simp] theorem Chip.modPower_outs (f : Power → Power) (c : Chip) : (c.modPower f).outs = c.outs := (rfl)
@[simp] theorem Chip.modPower_timers (f : Power → Power) (c : Chip) : (c.modPower f).timers = c.timers := (rfl)
@[simp] theorem Chip.modPower_conv (f : Power → Power) (c : Chip) : (c.modPower f).conv = c.conv := (rfl)
@[simp] theorem Chip.modPower_power (f : Power → Power) (c : Chip) : (c.modPower f).power = f c.power := (rfl)
@[simp] theorem Chip.modPower_cipher (f : Power → Power) (c : Chip) : (c.modPower f).cipher = c.cipher := (rfl)
@[simp] theorem Chip.modPower_ring (f : Power → Power) (c : Chip) : (c.modPower f).ring = c.ring := (rfl)
@[simp] theorem Chip.modPower_twin (f : Power → Power) (c : Chip) : (c.modPower f).twin = c.twin := (rfl)
@[simp] theorem Chip.modPower_can (f : Power → Power) (c : Chip) : (c.modPower f).can = c.can := (rfl)
@[simp] theorem Chip.modPower_tag (f : Power → Power) (c : Chip) : (c.modPower f).tag = c.tag := (rfl)
@[simp] theorem Chip.modPower_tap (f : Power → Power) (c : Chip) : (c.modPower f).tap = c.tap := (rfl)
@[simp] theorem Chip.modPower_get (f : Power → Power) (r : Nat) (c : Chip) : (c.modPower f).get r = c.get r := (rfl)
@[simp] theorem Chip.modPower_fld (f : Power → Power) (g : Fld) (c : Chip) : (c.modPower f).fld g = c.fld g := (rfl)
@[simp] theorem Chip.modPower_flag (f : Power → Power) (g : Fld) (c : Chip) : (c.modPower f).flag g = c.flag g := (rfl)
@[simp] theorem Chip.modPower_bit (f : Power → Power) (r i : Nat) (c : Chip) : (c.modPower f).bit r i = c.bit r i := (rfl)
@[simp] theorem Chip.modPower_regOk (f : Power → Power) (c : Chip) : (c.modPower f).RegOk = c.RegOk := (rfl)
@[simp] theorem Chip.modPower_memOk (f : Power → Power) (c : Chip) : (c.modPower f).MemOk = c.MemOk := (rfl)
@[simp] theorem Chip.modPower_hasFreeSlot (f : Power → Power) (c : Chip) : (c.modPower f).hasFreeSlot = c.hasFreeSlot := (rfl)

@[simp] theorem Chip.modTimers_part (f : Timers → Timers) (c : Chip) : (c.modTimers f).part = c.part := (rfl)
@[simp] theorem Chip.modTimers_regs (f : Timers → Timers) (c : Chip) : (c.modTimers f).regs = c.regs := (rfl)
@[simp] theorem Chip.modTimers_win (f : Timers → Timers) (c : Chip) : (c.modTimers f).win = c.win := (rfl)
@[simp] theorem Chip.modTimers_tb (f : Timers → Timers) (c : Chip) : (c.modTimers f).tb = c.tb := (rfl)
@[simp] theorem Chip.modTimers_bus (f : Timers → Timers) (c : Chip) : (c.modTimers f).bus = c.bus := (rfl)
@[simp] theorem Chip.modTimers_pub (f : Timers → Timers) (c : Chip) : (c.modTimers f).pub = c.pub := (rfl)
@[simp] theorem Chip.modTimers_pubOld (f : Timers → Timers) (c : Chip) : (c.modTimers f).pubOld = c.pubOld := (rfl)
@[simp] theorem Chip.modTimers_irq (f : Timers → Timers) (c : Chip) : (c.modTimers f).irq = c.irq := (rfl)
@[simp] theorem Chip.modTimers_flt (f : Timers → Timers) (c : Chip) : (c.modTimers f).flt = c.flt := (rfl)
@[simp] theorem Chip.modTimers_jnl (f : Timers → Timers) (c : Chip) : (c.modTimers f).jnl = c.jnl := (rfl)
@[simp] theorem Chip.modTimers_wheels (f : Timers → Timers) (c : Chip) : (c.modTimers f).wheels = c.wheels := (rfl)
@[simp] theorem Chip.modTimers_pred (f : Timers → Timers) (c : Chip) : (c.modTimers f).pred = c.pred := (rfl)
@[simp] theorem Chip.modTimers_free (f : Timers → Timers) (c : Chip) : (c.modTimers f).free = c.free := (rfl)
@[simp] theorem Chip.modTimers_sched (f : Timers → Timers) (c : Chip) : (c.modTimers f).sched = c.sched := (rfl)
@[simp] theorem Chip.modTimers_outs (f : Timers → Timers) (c : Chip) : (c.modTimers f).outs = c.outs := (rfl)
@[simp] theorem Chip.modTimers_timers (f : Timers → Timers) (c : Chip) : (c.modTimers f).timers = f c.timers := (rfl)
@[simp] theorem Chip.modTimers_conv (f : Timers → Timers) (c : Chip) : (c.modTimers f).conv = c.conv := (rfl)
@[simp] theorem Chip.modTimers_power (f : Timers → Timers) (c : Chip) : (c.modTimers f).power = c.power := (rfl)
@[simp] theorem Chip.modTimers_cipher (f : Timers → Timers) (c : Chip) : (c.modTimers f).cipher = c.cipher := (rfl)
@[simp] theorem Chip.modTimers_ring (f : Timers → Timers) (c : Chip) : (c.modTimers f).ring = c.ring := (rfl)
@[simp] theorem Chip.modTimers_twin (f : Timers → Timers) (c : Chip) : (c.modTimers f).twin = c.twin := (rfl)
@[simp] theorem Chip.modTimers_can (f : Timers → Timers) (c : Chip) : (c.modTimers f).can = c.can := (rfl)
@[simp] theorem Chip.modTimers_tag (f : Timers → Timers) (c : Chip) : (c.modTimers f).tag = c.tag := (rfl)
@[simp] theorem Chip.modTimers_tap (f : Timers → Timers) (c : Chip) : (c.modTimers f).tap = c.tap := (rfl)
@[simp] theorem Chip.modTimers_get (f : Timers → Timers) (r : Nat) (c : Chip) : (c.modTimers f).get r = c.get r := (rfl)
@[simp] theorem Chip.modTimers_fld (f : Timers → Timers) (g : Fld) (c : Chip) : (c.modTimers f).fld g = c.fld g := (rfl)
@[simp] theorem Chip.modTimers_flag (f : Timers → Timers) (g : Fld) (c : Chip) : (c.modTimers f).flag g = c.flag g := (rfl)
@[simp] theorem Chip.modTimers_bit (f : Timers → Timers) (r i : Nat) (c : Chip) : (c.modTimers f).bit r i = c.bit r i := (rfl)
@[simp] theorem Chip.modTimers_regOk (f : Timers → Timers) (c : Chip) : (c.modTimers f).RegOk = c.RegOk := (rfl)
@[simp] theorem Chip.modTimers_memOk (f : Timers → Timers) (c : Chip) : (c.modTimers f).MemOk = c.MemOk := (rfl)
@[simp] theorem Chip.modTimers_hasFreeSlot (f : Timers → Timers) (c : Chip) : (c.modTimers f).hasFreeSlot = c.hasFreeSlot := (rfl)

@[simp] theorem Chip.modCh_part (u j : Nat) (f : TimerCh → TimerCh) (c : Chip) : (c.modCh u j f).part = c.part := (rfl)
@[simp] theorem Chip.modCh_regs (u j : Nat) (f : TimerCh → TimerCh) (c : Chip) : (c.modCh u j f).regs = c.regs := (rfl)
@[simp] theorem Chip.modCh_win (u j : Nat) (f : TimerCh → TimerCh) (c : Chip) : (c.modCh u j f).win = c.win := (rfl)
@[simp] theorem Chip.modCh_tb (u j : Nat) (f : TimerCh → TimerCh) (c : Chip) : (c.modCh u j f).tb = c.tb := (rfl)
@[simp] theorem Chip.modCh_bus (u j : Nat) (f : TimerCh → TimerCh) (c : Chip) : (c.modCh u j f).bus = c.bus := (rfl)
@[simp] theorem Chip.modCh_pub (u j : Nat) (f : TimerCh → TimerCh) (c : Chip) : (c.modCh u j f).pub = c.pub := (rfl)
@[simp] theorem Chip.modCh_pubOld (u j : Nat) (f : TimerCh → TimerCh) (c : Chip) : (c.modCh u j f).pubOld = c.pubOld := (rfl)
@[simp] theorem Chip.modCh_irq (u j : Nat) (f : TimerCh → TimerCh) (c : Chip) : (c.modCh u j f).irq = c.irq := (rfl)
@[simp] theorem Chip.modCh_flt (u j : Nat) (f : TimerCh → TimerCh) (c : Chip) : (c.modCh u j f).flt = c.flt := (rfl)
@[simp] theorem Chip.modCh_jnl (u j : Nat) (f : TimerCh → TimerCh) (c : Chip) : (c.modCh u j f).jnl = c.jnl := (rfl)
@[simp] theorem Chip.modCh_wheels (u j : Nat) (f : TimerCh → TimerCh) (c : Chip) : (c.modCh u j f).wheels = c.wheels := (rfl)
@[simp] theorem Chip.modCh_pred (u j : Nat) (f : TimerCh → TimerCh) (c : Chip) : (c.modCh u j f).pred = c.pred := (rfl)
@[simp] theorem Chip.modCh_free (u j : Nat) (f : TimerCh → TimerCh) (c : Chip) : (c.modCh u j f).free = c.free := (rfl)
@[simp] theorem Chip.modCh_sched (u j : Nat) (f : TimerCh → TimerCh) (c : Chip) : (c.modCh u j f).sched = c.sched := (rfl)
@[simp] theorem Chip.modCh_outs (u j : Nat) (f : TimerCh → TimerCh) (c : Chip) : (c.modCh u j f).outs = c.outs := (rfl)
@[simp] theorem Chip.modCh_conv (u j : Nat) (f : TimerCh → TimerCh) (c : Chip) : (c.modCh u j f).conv = c.conv := (rfl)
@[simp] theorem Chip.modCh_power (u j : Nat) (f : TimerCh → TimerCh) (c : Chip) : (c.modCh u j f).power = c.power := (rfl)
@[simp] theorem Chip.modCh_cipher (u j : Nat) (f : TimerCh → TimerCh) (c : Chip) : (c.modCh u j f).cipher = c.cipher := (rfl)
@[simp] theorem Chip.modCh_ring (u j : Nat) (f : TimerCh → TimerCh) (c : Chip) : (c.modCh u j f).ring = c.ring := (rfl)
@[simp] theorem Chip.modCh_twin (u j : Nat) (f : TimerCh → TimerCh) (c : Chip) : (c.modCh u j f).twin = c.twin := (rfl)
@[simp] theorem Chip.modCh_can (u j : Nat) (f : TimerCh → TimerCh) (c : Chip) : (c.modCh u j f).can = c.can := (rfl)
@[simp] theorem Chip.modCh_tag (u j : Nat) (f : TimerCh → TimerCh) (c : Chip) : (c.modCh u j f).tag = c.tag := (rfl)
@[simp] theorem Chip.modCh_tap (u j : Nat) (f : TimerCh → TimerCh) (c : Chip) : (c.modCh u j f).tap = c.tap := (rfl)
@[simp] theorem Chip.modCh_get (u j : Nat) (f : TimerCh → TimerCh) (r : Nat) (c : Chip) : (c.modCh u j f).get r = c.get r := (rfl)
@[simp] theorem Chip.modCh_fld (u j : Nat) (f : TimerCh → TimerCh) (g : Fld) (c : Chip) : (c.modCh u j f).fld g = c.fld g := (rfl)
@[simp] theorem Chip.modCh_flag (u j : Nat) (f : TimerCh → TimerCh) (g : Fld) (c : Chip) : (c.modCh u j f).flag g = c.flag g := (rfl)
@[simp] theorem Chip.modCh_bit (u j : Nat) (f : TimerCh → TimerCh) (r i : Nat) (c : Chip) : (c.modCh u j f).bit r i = c.bit r i := (rfl)
@[simp] theorem Chip.modCh_regOk (u j : Nat) (f : TimerCh → TimerCh) (c : Chip) : (c.modCh u j f).RegOk = c.RegOk := (rfl)
@[simp] theorem Chip.modCh_memOk (u j : Nat) (f : TimerCh → TimerCh) (c : Chip) : (c.modCh u j f).MemOk = c.MemOk := (rfl)
@[simp] theorem Chip.modCh_hasFreeSlot (u j : Nat) (f : TimerCh → TimerCh) (c : Chip) : (c.modCh u j f).hasFreeSlot = c.hasFreeSlot := (rfl)

@[simp] theorem Chip.modConv_part (f : Conv → Conv) (c : Chip) : (c.modConv f).part = c.part := (rfl)
@[simp] theorem Chip.modConv_regs (f : Conv → Conv) (c : Chip) : (c.modConv f).regs = c.regs := (rfl)
@[simp] theorem Chip.modConv_win (f : Conv → Conv) (c : Chip) : (c.modConv f).win = c.win := (rfl)
@[simp] theorem Chip.modConv_tb (f : Conv → Conv) (c : Chip) : (c.modConv f).tb = c.tb := (rfl)
@[simp] theorem Chip.modConv_bus (f : Conv → Conv) (c : Chip) : (c.modConv f).bus = c.bus := (rfl)
@[simp] theorem Chip.modConv_pub (f : Conv → Conv) (c : Chip) : (c.modConv f).pub = c.pub := (rfl)
@[simp] theorem Chip.modConv_pubOld (f : Conv → Conv) (c : Chip) : (c.modConv f).pubOld = c.pubOld := (rfl)
@[simp] theorem Chip.modConv_irq (f : Conv → Conv) (c : Chip) : (c.modConv f).irq = c.irq := (rfl)
@[simp] theorem Chip.modConv_flt (f : Conv → Conv) (c : Chip) : (c.modConv f).flt = c.flt := (rfl)
@[simp] theorem Chip.modConv_jnl (f : Conv → Conv) (c : Chip) : (c.modConv f).jnl = c.jnl := (rfl)
@[simp] theorem Chip.modConv_wheels (f : Conv → Conv) (c : Chip) : (c.modConv f).wheels = c.wheels := (rfl)
@[simp] theorem Chip.modConv_pred (f : Conv → Conv) (c : Chip) : (c.modConv f).pred = c.pred := (rfl)
@[simp] theorem Chip.modConv_free (f : Conv → Conv) (c : Chip) : (c.modConv f).free = c.free := (rfl)
@[simp] theorem Chip.modConv_sched (f : Conv → Conv) (c : Chip) : (c.modConv f).sched = c.sched := (rfl)
@[simp] theorem Chip.modConv_outs (f : Conv → Conv) (c : Chip) : (c.modConv f).outs = c.outs := (rfl)
@[simp] theorem Chip.modConv_timers (f : Conv → Conv) (c : Chip) : (c.modConv f).timers = c.timers := (rfl)
@[simp] theorem Chip.modConv_conv (f : Conv → Conv) (c : Chip) : (c.modConv f).conv = f c.conv := (rfl)
@[simp] theorem Chip.modConv_power (f : Conv → Conv) (c : Chip) : (c.modConv f).power = c.power := (rfl)
@[simp] theorem Chip.modConv_cipher (f : Conv → Conv) (c : Chip) : (c.modConv f).cipher = c.cipher := (rfl)
@[simp] theorem Chip.modConv_ring (f : Conv → Conv) (c : Chip) : (c.modConv f).ring = c.ring := (rfl)
@[simp] theorem Chip.modConv_twin (f : Conv → Conv) (c : Chip) : (c.modConv f).twin = c.twin := (rfl)
@[simp] theorem Chip.modConv_can (f : Conv → Conv) (c : Chip) : (c.modConv f).can = c.can := (rfl)
@[simp] theorem Chip.modConv_tag (f : Conv → Conv) (c : Chip) : (c.modConv f).tag = c.tag := (rfl)
@[simp] theorem Chip.modConv_tap (f : Conv → Conv) (c : Chip) : (c.modConv f).tap = c.tap := (rfl)
@[simp] theorem Chip.modConv_get (f : Conv → Conv) (r : Nat) (c : Chip) : (c.modConv f).get r = c.get r := (rfl)
@[simp] theorem Chip.modConv_fld (f : Conv → Conv) (g : Fld) (c : Chip) : (c.modConv f).fld g = c.fld g := (rfl)
@[simp] theorem Chip.modConv_flag (f : Conv → Conv) (g : Fld) (c : Chip) : (c.modConv f).flag g = c.flag g := (rfl)
@[simp] theorem Chip.modConv_bit (f : Conv → Conv) (r i : Nat) (c : Chip) : (c.modConv f).bit r i = c.bit r i := (rfl)
@[simp] theorem Chip.modConv_regOk (f : Conv → Conv) (c : Chip) : (c.modConv f).RegOk = c.RegOk := (rfl)
@[simp] theorem Chip.modConv_memOk (f : Conv → Conv) (c : Chip) : (c.modConv f).MemOk = c.MemOk := (rfl)
@[simp] theorem Chip.modConv_hasFreeSlot (f : Conv → Conv) (c : Chip) : (c.modConv f).hasFreeSlot = c.hasFreeSlot := (rfl)

@[simp] theorem Chip.modCore_part (k : Nat) (f : ConvCore → ConvCore) (c : Chip) : (c.modCore k f).part = c.part := (rfl)
@[simp] theorem Chip.modCore_regs (k : Nat) (f : ConvCore → ConvCore) (c : Chip) : (c.modCore k f).regs = c.regs := (rfl)
@[simp] theorem Chip.modCore_win (k : Nat) (f : ConvCore → ConvCore) (c : Chip) : (c.modCore k f).win = c.win := (rfl)
@[simp] theorem Chip.modCore_tb (k : Nat) (f : ConvCore → ConvCore) (c : Chip) : (c.modCore k f).tb = c.tb := (rfl)
@[simp] theorem Chip.modCore_bus (k : Nat) (f : ConvCore → ConvCore) (c : Chip) : (c.modCore k f).bus = c.bus := (rfl)
@[simp] theorem Chip.modCore_pub (k : Nat) (f : ConvCore → ConvCore) (c : Chip) : (c.modCore k f).pub = c.pub := (rfl)
@[simp] theorem Chip.modCore_pubOld (k : Nat) (f : ConvCore → ConvCore) (c : Chip) : (c.modCore k f).pubOld = c.pubOld := (rfl)
@[simp] theorem Chip.modCore_irq (k : Nat) (f : ConvCore → ConvCore) (c : Chip) : (c.modCore k f).irq = c.irq := (rfl)
@[simp] theorem Chip.modCore_flt (k : Nat) (f : ConvCore → ConvCore) (c : Chip) : (c.modCore k f).flt = c.flt := (rfl)
@[simp] theorem Chip.modCore_jnl (k : Nat) (f : ConvCore → ConvCore) (c : Chip) : (c.modCore k f).jnl = c.jnl := (rfl)
@[simp] theorem Chip.modCore_wheels (k : Nat) (f : ConvCore → ConvCore) (c : Chip) : (c.modCore k f).wheels = c.wheels := (rfl)
@[simp] theorem Chip.modCore_pred (k : Nat) (f : ConvCore → ConvCore) (c : Chip) : (c.modCore k f).pred = c.pred := (rfl)
@[simp] theorem Chip.modCore_free (k : Nat) (f : ConvCore → ConvCore) (c : Chip) : (c.modCore k f).free = c.free := (rfl)
@[simp] theorem Chip.modCore_sched (k : Nat) (f : ConvCore → ConvCore) (c : Chip) : (c.modCore k f).sched = c.sched := (rfl)
@[simp] theorem Chip.modCore_outs (k : Nat) (f : ConvCore → ConvCore) (c : Chip) : (c.modCore k f).outs = c.outs := (rfl)
@[simp] theorem Chip.modCore_timers (k : Nat) (f : ConvCore → ConvCore) (c : Chip) : (c.modCore k f).timers = c.timers := (rfl)
@[simp] theorem Chip.modCore_power (k : Nat) (f : ConvCore → ConvCore) (c : Chip) : (c.modCore k f).power = c.power := (rfl)
@[simp] theorem Chip.modCore_cipher (k : Nat) (f : ConvCore → ConvCore) (c : Chip) : (c.modCore k f).cipher = c.cipher := (rfl)
@[simp] theorem Chip.modCore_ring (k : Nat) (f : ConvCore → ConvCore) (c : Chip) : (c.modCore k f).ring = c.ring := (rfl)
@[simp] theorem Chip.modCore_twin (k : Nat) (f : ConvCore → ConvCore) (c : Chip) : (c.modCore k f).twin = c.twin := (rfl)
@[simp] theorem Chip.modCore_can (k : Nat) (f : ConvCore → ConvCore) (c : Chip) : (c.modCore k f).can = c.can := (rfl)
@[simp] theorem Chip.modCore_tag (k : Nat) (f : ConvCore → ConvCore) (c : Chip) : (c.modCore k f).tag = c.tag := (rfl)
@[simp] theorem Chip.modCore_tap (k : Nat) (f : ConvCore → ConvCore) (c : Chip) : (c.modCore k f).tap = c.tap := (rfl)
@[simp] theorem Chip.modCore_get (k : Nat) (f : ConvCore → ConvCore) (r : Nat) (c : Chip) : (c.modCore k f).get r = c.get r := (rfl)
@[simp] theorem Chip.modCore_fld (k : Nat) (f : ConvCore → ConvCore) (g : Fld) (c : Chip) : (c.modCore k f).fld g = c.fld g := (rfl)
@[simp] theorem Chip.modCore_flag (k : Nat) (f : ConvCore → ConvCore) (g : Fld) (c : Chip) : (c.modCore k f).flag g = c.flag g := (rfl)
@[simp] theorem Chip.modCore_bit (k : Nat) (f : ConvCore → ConvCore) (r i : Nat) (c : Chip) : (c.modCore k f).bit r i = c.bit r i := (rfl)
@[simp] theorem Chip.modCore_regOk (k : Nat) (f : ConvCore → ConvCore) (c : Chip) : (c.modCore k f).RegOk = c.RegOk := (rfl)
@[simp] theorem Chip.modCore_memOk (k : Nat) (f : ConvCore → ConvCore) (c : Chip) : (c.modCore k f).MemOk = c.MemOk := (rfl)
@[simp] theorem Chip.modCore_hasFreeSlot (k : Nat) (f : ConvCore → ConvCore) (c : Chip) : (c.modCore k f).hasFreeSlot = c.hasFreeSlot := (rfl)

@[simp] theorem Chip.modFlt_part (f : Faults → Faults) (c : Chip) : (c.modFlt f).part = c.part := (rfl)
@[simp] theorem Chip.modFlt_regs (f : Faults → Faults) (c : Chip) : (c.modFlt f).regs = c.regs := (rfl)
@[simp] theorem Chip.modFlt_win (f : Faults → Faults) (c : Chip) : (c.modFlt f).win = c.win := (rfl)
@[simp] theorem Chip.modFlt_tb (f : Faults → Faults) (c : Chip) : (c.modFlt f).tb = c.tb := (rfl)
@[simp] theorem Chip.modFlt_bus (f : Faults → Faults) (c : Chip) : (c.modFlt f).bus = c.bus := (rfl)
@[simp] theorem Chip.modFlt_pub (f : Faults → Faults) (c : Chip) : (c.modFlt f).pub = c.pub := (rfl)
@[simp] theorem Chip.modFlt_pubOld (f : Faults → Faults) (c : Chip) : (c.modFlt f).pubOld = c.pubOld := (rfl)
@[simp] theorem Chip.modFlt_irq (f : Faults → Faults) (c : Chip) : (c.modFlt f).irq = c.irq := (rfl)
@[simp] theorem Chip.modFlt_flt (f : Faults → Faults) (c : Chip) : (c.modFlt f).flt = f c.flt := (rfl)
@[simp] theorem Chip.modFlt_jnl (f : Faults → Faults) (c : Chip) : (c.modFlt f).jnl = c.jnl := (rfl)
@[simp] theorem Chip.modFlt_wheels (f : Faults → Faults) (c : Chip) : (c.modFlt f).wheels = c.wheels := (rfl)
@[simp] theorem Chip.modFlt_pred (f : Faults → Faults) (c : Chip) : (c.modFlt f).pred = c.pred := (rfl)
@[simp] theorem Chip.modFlt_free (f : Faults → Faults) (c : Chip) : (c.modFlt f).free = c.free := (rfl)
@[simp] theorem Chip.modFlt_sched (f : Faults → Faults) (c : Chip) : (c.modFlt f).sched = c.sched := (rfl)
@[simp] theorem Chip.modFlt_outs (f : Faults → Faults) (c : Chip) : (c.modFlt f).outs = c.outs := (rfl)
@[simp] theorem Chip.modFlt_timers (f : Faults → Faults) (c : Chip) : (c.modFlt f).timers = c.timers := (rfl)
@[simp] theorem Chip.modFlt_conv (f : Faults → Faults) (c : Chip) : (c.modFlt f).conv = c.conv := (rfl)
@[simp] theorem Chip.modFlt_power (f : Faults → Faults) (c : Chip) : (c.modFlt f).power = c.power := (rfl)
@[simp] theorem Chip.modFlt_cipher (f : Faults → Faults) (c : Chip) : (c.modFlt f).cipher = c.cipher := (rfl)
@[simp] theorem Chip.modFlt_ring (f : Faults → Faults) (c : Chip) : (c.modFlt f).ring = c.ring := (rfl)
@[simp] theorem Chip.modFlt_twin (f : Faults → Faults) (c : Chip) : (c.modFlt f).twin = c.twin := (rfl)
@[simp] theorem Chip.modFlt_can (f : Faults → Faults) (c : Chip) : (c.modFlt f).can = c.can := (rfl)
@[simp] theorem Chip.modFlt_tag (f : Faults → Faults) (c : Chip) : (c.modFlt f).tag = c.tag := (rfl)
@[simp] theorem Chip.modFlt_tap (f : Faults → Faults) (c : Chip) : (c.modFlt f).tap = c.tap := (rfl)
@[simp] theorem Chip.modFlt_get (f : Faults → Faults) (r : Nat) (c : Chip) : (c.modFlt f).get r = c.get r := (rfl)
@[simp] theorem Chip.modFlt_fld (f : Faults → Faults) (g : Fld) (c : Chip) : (c.modFlt f).fld g = c.fld g := (rfl)
@[simp] theorem Chip.modFlt_flag (f : Faults → Faults) (g : Fld) (c : Chip) : (c.modFlt f).flag g = c.flag g := (rfl)
@[simp] theorem Chip.modFlt_bit (f : Faults → Faults) (r i : Nat) (c : Chip) : (c.modFlt f).bit r i = c.bit r i := (rfl)
@[simp] theorem Chip.modFlt_regOk (f : Faults → Faults) (c : Chip) : (c.modFlt f).RegOk = c.RegOk := (rfl)
@[simp] theorem Chip.modFlt_memOk (f : Faults → Faults) (c : Chip) : (c.modFlt f).MemOk = c.MemOk := (rfl)
@[simp] theorem Chip.modFlt_hasFreeSlot (f : Faults → Faults) (c : Chip) : (c.modFlt f).hasFreeSlot = c.hasFreeSlot := (rfl)

@[simp] theorem Chip.modJnl_part (f : Journal → Journal) (c : Chip) : (c.modJnl f).part = c.part := (rfl)
@[simp] theorem Chip.modJnl_regs (f : Journal → Journal) (c : Chip) : (c.modJnl f).regs = c.regs := (rfl)
@[simp] theorem Chip.modJnl_win (f : Journal → Journal) (c : Chip) : (c.modJnl f).win = c.win := (rfl)
@[simp] theorem Chip.modJnl_tb (f : Journal → Journal) (c : Chip) : (c.modJnl f).tb = c.tb := (rfl)
@[simp] theorem Chip.modJnl_bus (f : Journal → Journal) (c : Chip) : (c.modJnl f).bus = c.bus := (rfl)
@[simp] theorem Chip.modJnl_pub (f : Journal → Journal) (c : Chip) : (c.modJnl f).pub = c.pub := (rfl)
@[simp] theorem Chip.modJnl_pubOld (f : Journal → Journal) (c : Chip) : (c.modJnl f).pubOld = c.pubOld := (rfl)
@[simp] theorem Chip.modJnl_irq (f : Journal → Journal) (c : Chip) : (c.modJnl f).irq = c.irq := (rfl)
@[simp] theorem Chip.modJnl_flt (f : Journal → Journal) (c : Chip) : (c.modJnl f).flt = c.flt := (rfl)
@[simp] theorem Chip.modJnl_jnl (f : Journal → Journal) (c : Chip) : (c.modJnl f).jnl = f c.jnl := (rfl)
@[simp] theorem Chip.modJnl_wheels (f : Journal → Journal) (c : Chip) : (c.modJnl f).wheels = c.wheels := (rfl)
@[simp] theorem Chip.modJnl_pred (f : Journal → Journal) (c : Chip) : (c.modJnl f).pred = c.pred := (rfl)
@[simp] theorem Chip.modJnl_free (f : Journal → Journal) (c : Chip) : (c.modJnl f).free = c.free := (rfl)
@[simp] theorem Chip.modJnl_sched (f : Journal → Journal) (c : Chip) : (c.modJnl f).sched = c.sched := (rfl)
@[simp] theorem Chip.modJnl_outs (f : Journal → Journal) (c : Chip) : (c.modJnl f).outs = c.outs := (rfl)
@[simp] theorem Chip.modJnl_timers (f : Journal → Journal) (c : Chip) : (c.modJnl f).timers = c.timers := (rfl)
@[simp] theorem Chip.modJnl_conv (f : Journal → Journal) (c : Chip) : (c.modJnl f).conv = c.conv := (rfl)
@[simp] theorem Chip.modJnl_power (f : Journal → Journal) (c : Chip) : (c.modJnl f).power = c.power := (rfl)
@[simp] theorem Chip.modJnl_cipher (f : Journal → Journal) (c : Chip) : (c.modJnl f).cipher = c.cipher := (rfl)
@[simp] theorem Chip.modJnl_ring (f : Journal → Journal) (c : Chip) : (c.modJnl f).ring = c.ring := (rfl)
@[simp] theorem Chip.modJnl_twin (f : Journal → Journal) (c : Chip) : (c.modJnl f).twin = c.twin := (rfl)
@[simp] theorem Chip.modJnl_can (f : Journal → Journal) (c : Chip) : (c.modJnl f).can = c.can := (rfl)
@[simp] theorem Chip.modJnl_tag (f : Journal → Journal) (c : Chip) : (c.modJnl f).tag = c.tag := (rfl)
@[simp] theorem Chip.modJnl_tap (f : Journal → Journal) (c : Chip) : (c.modJnl f).tap = c.tap := (rfl)
@[simp] theorem Chip.modJnl_get (f : Journal → Journal) (r : Nat) (c : Chip) : (c.modJnl f).get r = c.get r := (rfl)
@[simp] theorem Chip.modJnl_fld (f : Journal → Journal) (g : Fld) (c : Chip) : (c.modJnl f).fld g = c.fld g := (rfl)
@[simp] theorem Chip.modJnl_flag (f : Journal → Journal) (g : Fld) (c : Chip) : (c.modJnl f).flag g = c.flag g := (rfl)
@[simp] theorem Chip.modJnl_bit (f : Journal → Journal) (r i : Nat) (c : Chip) : (c.modJnl f).bit r i = c.bit r i := (rfl)
@[simp] theorem Chip.modJnl_regOk (f : Journal → Journal) (c : Chip) : (c.modJnl f).RegOk = c.RegOk := (rfl)
@[simp] theorem Chip.modJnl_memOk (f : Journal → Journal) (c : Chip) : (c.modJnl f).MemOk = c.MemOk := (rfl)
@[simp] theorem Chip.modJnl_hasFreeSlot (f : Journal → Journal) (c : Chip) : (c.modJnl f).hasFreeSlot = c.hasFreeSlot := (rfl)

@[simp] theorem Chip.modIrq_part (f : Irq → Irq) (c : Chip) : (c.modIrq f).part = c.part := (rfl)
@[simp] theorem Chip.modIrq_regs (f : Irq → Irq) (c : Chip) : (c.modIrq f).regs = c.regs := (rfl)
@[simp] theorem Chip.modIrq_win (f : Irq → Irq) (c : Chip) : (c.modIrq f).win = c.win := (rfl)
@[simp] theorem Chip.modIrq_tb (f : Irq → Irq) (c : Chip) : (c.modIrq f).tb = c.tb := (rfl)
@[simp] theorem Chip.modIrq_bus (f : Irq → Irq) (c : Chip) : (c.modIrq f).bus = c.bus := (rfl)
@[simp] theorem Chip.modIrq_pub (f : Irq → Irq) (c : Chip) : (c.modIrq f).pub = c.pub := (rfl)
@[simp] theorem Chip.modIrq_pubOld (f : Irq → Irq) (c : Chip) : (c.modIrq f).pubOld = c.pubOld := (rfl)
@[simp] theorem Chip.modIrq_irq (f : Irq → Irq) (c : Chip) : (c.modIrq f).irq = f c.irq := (rfl)
@[simp] theorem Chip.modIrq_flt (f : Irq → Irq) (c : Chip) : (c.modIrq f).flt = c.flt := (rfl)
@[simp] theorem Chip.modIrq_jnl (f : Irq → Irq) (c : Chip) : (c.modIrq f).jnl = c.jnl := (rfl)
@[simp] theorem Chip.modIrq_wheels (f : Irq → Irq) (c : Chip) : (c.modIrq f).wheels = c.wheels := (rfl)
@[simp] theorem Chip.modIrq_pred (f : Irq → Irq) (c : Chip) : (c.modIrq f).pred = c.pred := (rfl)
@[simp] theorem Chip.modIrq_free (f : Irq → Irq) (c : Chip) : (c.modIrq f).free = c.free := (rfl)
@[simp] theorem Chip.modIrq_sched (f : Irq → Irq) (c : Chip) : (c.modIrq f).sched = c.sched := (rfl)
@[simp] theorem Chip.modIrq_outs (f : Irq → Irq) (c : Chip) : (c.modIrq f).outs = c.outs := (rfl)
@[simp] theorem Chip.modIrq_timers (f : Irq → Irq) (c : Chip) : (c.modIrq f).timers = c.timers := (rfl)
@[simp] theorem Chip.modIrq_conv (f : Irq → Irq) (c : Chip) : (c.modIrq f).conv = c.conv := (rfl)
@[simp] theorem Chip.modIrq_power (f : Irq → Irq) (c : Chip) : (c.modIrq f).power = c.power := (rfl)
@[simp] theorem Chip.modIrq_cipher (f : Irq → Irq) (c : Chip) : (c.modIrq f).cipher = c.cipher := (rfl)
@[simp] theorem Chip.modIrq_ring (f : Irq → Irq) (c : Chip) : (c.modIrq f).ring = c.ring := (rfl)
@[simp] theorem Chip.modIrq_twin (f : Irq → Irq) (c : Chip) : (c.modIrq f).twin = c.twin := (rfl)
@[simp] theorem Chip.modIrq_can (f : Irq → Irq) (c : Chip) : (c.modIrq f).can = c.can := (rfl)
@[simp] theorem Chip.modIrq_tag (f : Irq → Irq) (c : Chip) : (c.modIrq f).tag = c.tag := (rfl)
@[simp] theorem Chip.modIrq_tap (f : Irq → Irq) (c : Chip) : (c.modIrq f).tap = c.tap := (rfl)
@[simp] theorem Chip.modIrq_get (f : Irq → Irq) (r : Nat) (c : Chip) : (c.modIrq f).get r = c.get r := (rfl)
@[simp] theorem Chip.modIrq_fld (f : Irq → Irq) (g : Fld) (c : Chip) : (c.modIrq f).fld g = c.fld g := (rfl)
@[simp] theorem Chip.modIrq_flag (f : Irq → Irq) (g : Fld) (c : Chip) : (c.modIrq f).flag g = c.flag g := (rfl)
@[simp] theorem Chip.modIrq_bit (f : Irq → Irq) (r i : Nat) (c : Chip) : (c.modIrq f).bit r i = c.bit r i := (rfl)
@[simp] theorem Chip.modIrq_regOk (f : Irq → Irq) (c : Chip) : (c.modIrq f).RegOk = c.RegOk := (rfl)
@[simp] theorem Chip.modIrq_memOk (f : Irq → Irq) (c : Chip) : (c.modIrq f).MemOk = c.MemOk := (rfl)
@[simp] theorem Chip.modIrq_hasFreeSlot (f : Irq → Irq) (c : Chip) : (c.modIrq f).hasFreeSlot = c.hasFreeSlot := (rfl)

@[simp] theorem Chip.modCipher_part (f : Cipher → Cipher) (c : Chip) : (c.modCipher f).part = c.part := (rfl)
@[simp] theorem Chip.modCipher_regs (f : Cipher → Cipher) (c : Chip) : (c.modCipher f).regs = c.regs := (rfl)
@[simp] theorem Chip.modCipher_win (f : Cipher → Cipher) (c : Chip) : (c.modCipher f).win = c.win := (rfl)
@[simp] theorem Chip.modCipher_tb (f : Cipher → Cipher) (c : Chip) : (c.modCipher f).tb = c.tb := (rfl)
@[simp] theorem Chip.modCipher_bus (f : Cipher → Cipher) (c : Chip) : (c.modCipher f).bus = c.bus := (rfl)
@[simp] theorem Chip.modCipher_pub (f : Cipher → Cipher) (c : Chip) : (c.modCipher f).pub = c.pub := (rfl)
@[simp] theorem Chip.modCipher_pubOld (f : Cipher → Cipher) (c : Chip) : (c.modCipher f).pubOld = c.pubOld := (rfl)
@[simp] theorem Chip.modCipher_irq (f : Cipher → Cipher) (c : Chip) : (c.modCipher f).irq = c.irq := (rfl)
@[simp] theorem Chip.modCipher_flt (f : Cipher → Cipher) (c : Chip) : (c.modCipher f).flt = c.flt := (rfl)
@[simp] theorem Chip.modCipher_jnl (f : Cipher → Cipher) (c : Chip) : (c.modCipher f).jnl = c.jnl := (rfl)
@[simp] theorem Chip.modCipher_wheels (f : Cipher → Cipher) (c : Chip) : (c.modCipher f).wheels = c.wheels := (rfl)
@[simp] theorem Chip.modCipher_pred (f : Cipher → Cipher) (c : Chip) : (c.modCipher f).pred = c.pred := (rfl)
@[simp] theorem Chip.modCipher_free (f : Cipher → Cipher) (c : Chip) : (c.modCipher f).free = c.free := (rfl)
@[simp] theorem Chip.modCipher_sched (f : Cipher → Cipher) (c : Chip) : (c.modCipher f).sched = c.sched := (rfl)
@[simp] theorem Chip.modCipher_outs (f : Cipher → Cipher) (c : Chip) : (c.modCipher f).outs = c.outs := (rfl)
@[simp] theorem Chip.modCipher_timers (f : Cipher → Cipher) (c : Chip) : (c.modCipher f).timers = c.timers := (rfl)
@[simp] theorem Chip.modCipher_conv (f : Cipher → Cipher) (c : Chip) : (c.modCipher f).conv = c.conv := (rfl)
@[simp] theorem Chip.modCipher_power (f : Cipher → Cipher) (c : Chip) : (c.modCipher f).power = c.power := (rfl)
@[simp] theorem Chip.modCipher_cipher (f : Cipher → Cipher) (c : Chip) : (c.modCipher f).cipher = f c.cipher := (rfl)
@[simp] theorem Chip.modCipher_ring (f : Cipher → Cipher) (c : Chip) : (c.modCipher f).ring = c.ring := (rfl)
@[simp] theorem Chip.modCipher_twin (f : Cipher → Cipher) (c : Chip) : (c.modCipher f).twin = c.twin := (rfl)
@[simp] theorem Chip.modCipher_can (f : Cipher → Cipher) (c : Chip) : (c.modCipher f).can = c.can := (rfl)
@[simp] theorem Chip.modCipher_tag (f : Cipher → Cipher) (c : Chip) : (c.modCipher f).tag = c.tag := (rfl)
@[simp] theorem Chip.modCipher_tap (f : Cipher → Cipher) (c : Chip) : (c.modCipher f).tap = c.tap := (rfl)
@[simp] theorem Chip.modCipher_get (f : Cipher → Cipher) (r : Nat) (c : Chip) : (c.modCipher f).get r = c.get r := (rfl)
@[simp] theorem Chip.modCipher_fld (f : Cipher → Cipher) (g : Fld) (c : Chip) : (c.modCipher f).fld g = c.fld g := (rfl)
@[simp] theorem Chip.modCipher_flag (f : Cipher → Cipher) (g : Fld) (c : Chip) : (c.modCipher f).flag g = c.flag g := (rfl)
@[simp] theorem Chip.modCipher_bit (f : Cipher → Cipher) (r i : Nat) (c : Chip) : (c.modCipher f).bit r i = c.bit r i := (rfl)
@[simp] theorem Chip.modCipher_regOk (f : Cipher → Cipher) (c : Chip) : (c.modCipher f).RegOk = c.RegOk := (rfl)
@[simp] theorem Chip.modCipher_memOk (f : Cipher → Cipher) (c : Chip) : (c.modCipher f).MemOk = c.MemOk := (rfl)
@[simp] theorem Chip.modCipher_hasFreeSlot (f : Cipher → Cipher) (c : Chip) : (c.modCipher f).hasFreeSlot = c.hasFreeSlot := (rfl)

@[simp] theorem Chip.modRing_part (f : Ring → Ring) (c : Chip) : (c.modRing f).part = c.part := (rfl)
@[simp] theorem Chip.modRing_regs (f : Ring → Ring) (c : Chip) : (c.modRing f).regs = c.regs := (rfl)
@[simp] theorem Chip.modRing_win (f : Ring → Ring) (c : Chip) : (c.modRing f).win = c.win := (rfl)
@[simp] theorem Chip.modRing_tb (f : Ring → Ring) (c : Chip) : (c.modRing f).tb = c.tb := (rfl)
@[simp] theorem Chip.modRing_bus (f : Ring → Ring) (c : Chip) : (c.modRing f).bus = c.bus := (rfl)
@[simp] theorem Chip.modRing_pub (f : Ring → Ring) (c : Chip) : (c.modRing f).pub = c.pub := (rfl)
@[simp] theorem Chip.modRing_pubOld (f : Ring → Ring) (c : Chip) : (c.modRing f).pubOld = c.pubOld := (rfl)
@[simp] theorem Chip.modRing_irq (f : Ring → Ring) (c : Chip) : (c.modRing f).irq = c.irq := (rfl)
@[simp] theorem Chip.modRing_flt (f : Ring → Ring) (c : Chip) : (c.modRing f).flt = c.flt := (rfl)
@[simp] theorem Chip.modRing_jnl (f : Ring → Ring) (c : Chip) : (c.modRing f).jnl = c.jnl := (rfl)
@[simp] theorem Chip.modRing_wheels (f : Ring → Ring) (c : Chip) : (c.modRing f).wheels = c.wheels := (rfl)
@[simp] theorem Chip.modRing_pred (f : Ring → Ring) (c : Chip) : (c.modRing f).pred = c.pred := (rfl)
@[simp] theorem Chip.modRing_free (f : Ring → Ring) (c : Chip) : (c.modRing f).free = c.free := (rfl)
@[simp] theorem Chip.modRing_sched (f : Ring → Ring) (c : Chip) : (c.modRing f).sched = c.sched := (rfl)
@[simp] theorem Chip.modRing_outs (f : Ring → Ring) (c : Chip) : (c.modRing f).outs = c.outs := (rfl)
@[simp] theorem Chip.modRing_timers (f : Ring → Ring) (c : Chip) : (c.modRing f).timers = c.timers := (rfl)
@[simp] theorem Chip.modRing_conv (f : Ring → Ring) (c : Chip) : (c.modRing f).conv = c.conv := (rfl)
@[simp] theorem Chip.modRing_power (f : Ring → Ring) (c : Chip) : (c.modRing f).power = c.power := (rfl)
@[simp] theorem Chip.modRing_cipher (f : Ring → Ring) (c : Chip) : (c.modRing f).cipher = c.cipher := (rfl)
@[simp] theorem Chip.modRing_ring (f : Ring → Ring) (c : Chip) : (c.modRing f).ring = f c.ring := (rfl)
@[simp] theorem Chip.modRing_twin (f : Ring → Ring) (c : Chip) : (c.modRing f).twin = c.twin := (rfl)
@[simp] theorem Chip.modRing_can (f : Ring → Ring) (c : Chip) : (c.modRing f).can = c.can := (rfl)
@[simp] theorem Chip.modRing_tag (f : Ring → Ring) (c : Chip) : (c.modRing f).tag = c.tag := (rfl)
@[simp] theorem Chip.modRing_tap (f : Ring → Ring) (c : Chip) : (c.modRing f).tap = c.tap := (rfl)
@[simp] theorem Chip.modRing_get (f : Ring → Ring) (r : Nat) (c : Chip) : (c.modRing f).get r = c.get r := (rfl)
@[simp] theorem Chip.modRing_fld (f : Ring → Ring) (g : Fld) (c : Chip) : (c.modRing f).fld g = c.fld g := (rfl)
@[simp] theorem Chip.modRing_flag (f : Ring → Ring) (g : Fld) (c : Chip) : (c.modRing f).flag g = c.flag g := (rfl)
@[simp] theorem Chip.modRing_bit (f : Ring → Ring) (r i : Nat) (c : Chip) : (c.modRing f).bit r i = c.bit r i := (rfl)
@[simp] theorem Chip.modRing_regOk (f : Ring → Ring) (c : Chip) : (c.modRing f).RegOk = c.RegOk := (rfl)
@[simp] theorem Chip.modRing_memOk (f : Ring → Ring) (c : Chip) : (c.modRing f).MemOk = c.MemOk := (rfl)
@[simp] theorem Chip.modRing_hasFreeSlot (f : Ring → Ring) (c : Chip) : (c.modRing f).hasFreeSlot = c.hasFreeSlot := (rfl)

@[simp] theorem Chip.modCan_part (f : Can → Can) (c : Chip) : (c.modCan f).part = c.part := (rfl)
@[simp] theorem Chip.modCan_regs (f : Can → Can) (c : Chip) : (c.modCan f).regs = c.regs := (rfl)
@[simp] theorem Chip.modCan_win (f : Can → Can) (c : Chip) : (c.modCan f).win = c.win := (rfl)
@[simp] theorem Chip.modCan_tb (f : Can → Can) (c : Chip) : (c.modCan f).tb = c.tb := (rfl)
@[simp] theorem Chip.modCan_bus (f : Can → Can) (c : Chip) : (c.modCan f).bus = c.bus := (rfl)
@[simp] theorem Chip.modCan_pub (f : Can → Can) (c : Chip) : (c.modCan f).pub = c.pub := (rfl)
@[simp] theorem Chip.modCan_pubOld (f : Can → Can) (c : Chip) : (c.modCan f).pubOld = c.pubOld := (rfl)
@[simp] theorem Chip.modCan_irq (f : Can → Can) (c : Chip) : (c.modCan f).irq = c.irq := (rfl)
@[simp] theorem Chip.modCan_flt (f : Can → Can) (c : Chip) : (c.modCan f).flt = c.flt := (rfl)
@[simp] theorem Chip.modCan_jnl (f : Can → Can) (c : Chip) : (c.modCan f).jnl = c.jnl := (rfl)
@[simp] theorem Chip.modCan_wheels (f : Can → Can) (c : Chip) : (c.modCan f).wheels = c.wheels := (rfl)
@[simp] theorem Chip.modCan_pred (f : Can → Can) (c : Chip) : (c.modCan f).pred = c.pred := (rfl)
@[simp] theorem Chip.modCan_free (f : Can → Can) (c : Chip) : (c.modCan f).free = c.free := (rfl)
@[simp] theorem Chip.modCan_sched (f : Can → Can) (c : Chip) : (c.modCan f).sched = c.sched := (rfl)
@[simp] theorem Chip.modCan_outs (f : Can → Can) (c : Chip) : (c.modCan f).outs = c.outs := (rfl)
@[simp] theorem Chip.modCan_timers (f : Can → Can) (c : Chip) : (c.modCan f).timers = c.timers := (rfl)
@[simp] theorem Chip.modCan_conv (f : Can → Can) (c : Chip) : (c.modCan f).conv = c.conv := (rfl)
@[simp] theorem Chip.modCan_power (f : Can → Can) (c : Chip) : (c.modCan f).power = c.power := (rfl)
@[simp] theorem Chip.modCan_cipher (f : Can → Can) (c : Chip) : (c.modCan f).cipher = c.cipher := (rfl)
@[simp] theorem Chip.modCan_ring (f : Can → Can) (c : Chip) : (c.modCan f).ring = c.ring := (rfl)
@[simp] theorem Chip.modCan_twin (f : Can → Can) (c : Chip) : (c.modCan f).twin = c.twin := (rfl)
@[simp] theorem Chip.modCan_can (f : Can → Can) (c : Chip) : (c.modCan f).can = f c.can := (rfl)
@[simp] theorem Chip.modCan_tag (f : Can → Can) (c : Chip) : (c.modCan f).tag = c.tag := (rfl)
@[simp] theorem Chip.modCan_tap (f : Can → Can) (c : Chip) : (c.modCan f).tap = c.tap := (rfl)
@[simp] theorem Chip.modCan_get (f : Can → Can) (r : Nat) (c : Chip) : (c.modCan f).get r = c.get r := (rfl)
@[simp] theorem Chip.modCan_fld (f : Can → Can) (g : Fld) (c : Chip) : (c.modCan f).fld g = c.fld g := (rfl)
@[simp] theorem Chip.modCan_flag (f : Can → Can) (g : Fld) (c : Chip) : (c.modCan f).flag g = c.flag g := (rfl)
@[simp] theorem Chip.modCan_bit (f : Can → Can) (r i : Nat) (c : Chip) : (c.modCan f).bit r i = c.bit r i := (rfl)
@[simp] theorem Chip.modCan_regOk (f : Can → Can) (c : Chip) : (c.modCan f).RegOk = c.RegOk := (rfl)
@[simp] theorem Chip.modCan_memOk (f : Can → Can) (c : Chip) : (c.modCan f).MemOk = c.MemOk := (rfl)
@[simp] theorem Chip.modCan_hasFreeSlot (f : Can → Can) (c : Chip) : (c.modCan f).hasFreeSlot = c.hasFreeSlot := (rfl)

@[simp] theorem Chip.modTag_part (f : Tag → Tag) (c : Chip) : (c.modTag f).part = c.part := (rfl)
@[simp] theorem Chip.modTag_regs (f : Tag → Tag) (c : Chip) : (c.modTag f).regs = c.regs := (rfl)
@[simp] theorem Chip.modTag_win (f : Tag → Tag) (c : Chip) : (c.modTag f).win = c.win := (rfl)
@[simp] theorem Chip.modTag_tb (f : Tag → Tag) (c : Chip) : (c.modTag f).tb = c.tb := (rfl)
@[simp] theorem Chip.modTag_bus (f : Tag → Tag) (c : Chip) : (c.modTag f).bus = c.bus := (rfl)
@[simp] theorem Chip.modTag_pub (f : Tag → Tag) (c : Chip) : (c.modTag f).pub = c.pub := (rfl)
@[simp] theorem Chip.modTag_pubOld (f : Tag → Tag) (c : Chip) : (c.modTag f).pubOld = c.pubOld := (rfl)
@[simp] theorem Chip.modTag_irq (f : Tag → Tag) (c : Chip) : (c.modTag f).irq = c.irq := (rfl)
@[simp] theorem Chip.modTag_flt (f : Tag → Tag) (c : Chip) : (c.modTag f).flt = c.flt := (rfl)
@[simp] theorem Chip.modTag_jnl (f : Tag → Tag) (c : Chip) : (c.modTag f).jnl = c.jnl := (rfl)
@[simp] theorem Chip.modTag_wheels (f : Tag → Tag) (c : Chip) : (c.modTag f).wheels = c.wheels := (rfl)
@[simp] theorem Chip.modTag_pred (f : Tag → Tag) (c : Chip) : (c.modTag f).pred = c.pred := (rfl)
@[simp] theorem Chip.modTag_free (f : Tag → Tag) (c : Chip) : (c.modTag f).free = c.free := (rfl)
@[simp] theorem Chip.modTag_sched (f : Tag → Tag) (c : Chip) : (c.modTag f).sched = c.sched := (rfl)
@[simp] theorem Chip.modTag_outs (f : Tag → Tag) (c : Chip) : (c.modTag f).outs = c.outs := (rfl)
@[simp] theorem Chip.modTag_timers (f : Tag → Tag) (c : Chip) : (c.modTag f).timers = c.timers := (rfl)
@[simp] theorem Chip.modTag_conv (f : Tag → Tag) (c : Chip) : (c.modTag f).conv = c.conv := (rfl)
@[simp] theorem Chip.modTag_power (f : Tag → Tag) (c : Chip) : (c.modTag f).power = c.power := (rfl)
@[simp] theorem Chip.modTag_cipher (f : Tag → Tag) (c : Chip) : (c.modTag f).cipher = c.cipher := (rfl)
@[simp] theorem Chip.modTag_ring (f : Tag → Tag) (c : Chip) : (c.modTag f).ring = c.ring := (rfl)
@[simp] theorem Chip.modTag_twin (f : Tag → Tag) (c : Chip) : (c.modTag f).twin = c.twin := (rfl)
@[simp] theorem Chip.modTag_can (f : Tag → Tag) (c : Chip) : (c.modTag f).can = c.can := (rfl)
@[simp] theorem Chip.modTag_tag (f : Tag → Tag) (c : Chip) : (c.modTag f).tag = f c.tag := (rfl)
@[simp] theorem Chip.modTag_tap (f : Tag → Tag) (c : Chip) : (c.modTag f).tap = c.tap := (rfl)
@[simp] theorem Chip.modTag_get (f : Tag → Tag) (r : Nat) (c : Chip) : (c.modTag f).get r = c.get r := (rfl)
@[simp] theorem Chip.modTag_fld (f : Tag → Tag) (g : Fld) (c : Chip) : (c.modTag f).fld g = c.fld g := (rfl)
@[simp] theorem Chip.modTag_flag (f : Tag → Tag) (g : Fld) (c : Chip) : (c.modTag f).flag g = c.flag g := (rfl)
@[simp] theorem Chip.modTag_bit (f : Tag → Tag) (r i : Nat) (c : Chip) : (c.modTag f).bit r i = c.bit r i := (rfl)
@[simp] theorem Chip.modTag_regOk (f : Tag → Tag) (c : Chip) : (c.modTag f).RegOk = c.RegOk := (rfl)
@[simp] theorem Chip.modTag_memOk (f : Tag → Tag) (c : Chip) : (c.modTag f).MemOk = c.MemOk := (rfl)
@[simp] theorem Chip.modTag_hasFreeSlot (f : Tag → Tag) (c : Chip) : (c.modTag f).hasFreeSlot = c.hasFreeSlot := (rfl)

@[simp] theorem Chip.modTap_part (f : Tap → Tap) (c : Chip) : (c.modTap f).part = c.part := (rfl)
@[simp] theorem Chip.modTap_regs (f : Tap → Tap) (c : Chip) : (c.modTap f).regs = c.regs := (rfl)
@[simp] theorem Chip.modTap_win (f : Tap → Tap) (c : Chip) : (c.modTap f).win = c.win := (rfl)
@[simp] theorem Chip.modTap_tb (f : Tap → Tap) (c : Chip) : (c.modTap f).tb = c.tb := (rfl)
@[simp] theorem Chip.modTap_bus (f : Tap → Tap) (c : Chip) : (c.modTap f).bus = c.bus := (rfl)
@[simp] theorem Chip.modTap_pub (f : Tap → Tap) (c : Chip) : (c.modTap f).pub = c.pub := (rfl)
@[simp] theorem Chip.modTap_pubOld (f : Tap → Tap) (c : Chip) : (c.modTap f).pubOld = c.pubOld := (rfl)
@[simp] theorem Chip.modTap_irq (f : Tap → Tap) (c : Chip) : (c.modTap f).irq = c.irq := (rfl)
@[simp] theorem Chip.modTap_flt (f : Tap → Tap) (c : Chip) : (c.modTap f).flt = c.flt := (rfl)
@[simp] theorem Chip.modTap_jnl (f : Tap → Tap) (c : Chip) : (c.modTap f).jnl = c.jnl := (rfl)
@[simp] theorem Chip.modTap_wheels (f : Tap → Tap) (c : Chip) : (c.modTap f).wheels = c.wheels := (rfl)
@[simp] theorem Chip.modTap_pred (f : Tap → Tap) (c : Chip) : (c.modTap f).pred = c.pred := (rfl)
@[simp] theorem Chip.modTap_free (f : Tap → Tap) (c : Chip) : (c.modTap f).free = c.free := (rfl)
@[simp] theorem Chip.modTap_sched (f : Tap → Tap) (c : Chip) : (c.modTap f).sched = c.sched := (rfl)
@[simp] theorem Chip.modTap_outs (f : Tap → Tap) (c : Chip) : (c.modTap f).outs = c.outs := (rfl)
@[simp] theorem Chip.modTap_timers (f : Tap → Tap) (c : Chip) : (c.modTap f).timers = c.timers := (rfl)
@[simp] theorem Chip.modTap_conv (f : Tap → Tap) (c : Chip) : (c.modTap f).conv = c.conv := (rfl)
@[simp] theorem Chip.modTap_power (f : Tap → Tap) (c : Chip) : (c.modTap f).power = c.power := (rfl)
@[simp] theorem Chip.modTap_cipher (f : Tap → Tap) (c : Chip) : (c.modTap f).cipher = c.cipher := (rfl)
@[simp] theorem Chip.modTap_ring (f : Tap → Tap) (c : Chip) : (c.modTap f).ring = c.ring := (rfl)
@[simp] theorem Chip.modTap_twin (f : Tap → Tap) (c : Chip) : (c.modTap f).twin = c.twin := (rfl)
@[simp] theorem Chip.modTap_can (f : Tap → Tap) (c : Chip) : (c.modTap f).can = c.can := (rfl)
@[simp] theorem Chip.modTap_tag (f : Tap → Tap) (c : Chip) : (c.modTap f).tag = c.tag := (rfl)
@[simp] theorem Chip.modTap_tap (f : Tap → Tap) (c : Chip) : (c.modTap f).tap = f c.tap := (rfl)
@[simp] theorem Chip.modTap_get (f : Tap → Tap) (r : Nat) (c : Chip) : (c.modTap f).get r = c.get r := (rfl)
@[simp] theorem Chip.modTap_fld (f : Tap → Tap) (g : Fld) (c : Chip) : (c.modTap f).fld g = c.fld g := (rfl)
@[simp] theorem Chip.modTap_flag (f : Tap → Tap) (g : Fld) (c : Chip) : (c.modTap f).flag g = c.flag g := (rfl)
@[simp] theorem Chip.modTap_bit (f : Tap → Tap) (r i : Nat) (c : Chip) : (c.modTap f).bit r i = c.bit r i := (rfl)
@[simp] theorem Chip.modTap_regOk (f : Tap → Tap) (c : Chip) : (c.modTap f).RegOk = c.RegOk := (rfl)
@[simp] theorem Chip.modTap_memOk (f : Tap → Tap) (c : Chip) : (c.modTap f).MemOk = c.MemOk := (rfl)
@[simp] theorem Chip.modTap_hasFreeSlot (f : Tap → Tap) (c : Chip) : (c.modTap f).hasFreeSlot = c.hasFreeSlot := (rfl)

@[simp] theorem Chip.modWin_part (f : Window → Window) (c : Chip) : (c.modWin f).part = c.part := (rfl)
@[simp] theorem Chip.modWin_regs (f : Window → Window) (c : Chip) : (c.modWin f).regs = c.regs := (rfl)
@[simp] theorem Chip.modWin_win (f : Window → Window) (c : Chip) : (c.modWin f).win = f c.win := (rfl)
@[simp] theorem Chip.modWin_tb (f : Window → Window) (c : Chip) : (c.modWin f).tb = c.tb := (rfl)
@[simp] theorem Chip.modWin_bus (f : Window → Window) (c : Chip) : (c.modWin f).bus = c.bus := (rfl)
@[simp] theorem Chip.modWin_pub (f : Window → Window) (c : Chip) : (c.modWin f).pub = c.pub := (rfl)
@[simp] theorem Chip.modWin_pubOld (f : Window → Window) (c : Chip) : (c.modWin f).pubOld = c.pubOld := (rfl)
@[simp] theorem Chip.modWin_irq (f : Window → Window) (c : Chip) : (c.modWin f).irq = c.irq := (rfl)
@[simp] theorem Chip.modWin_flt (f : Window → Window) (c : Chip) : (c.modWin f).flt = c.flt := (rfl)
@[simp] theorem Chip.modWin_jnl (f : Window → Window) (c : Chip) : (c.modWin f).jnl = c.jnl := (rfl)
@[simp] theorem Chip.modWin_wheels (f : Window → Window) (c : Chip) : (c.modWin f).wheels = c.wheels := (rfl)
@[simp] theorem Chip.modWin_pred (f : Window → Window) (c : Chip) : (c.modWin f).pred = c.pred := (rfl)
@[simp] theorem Chip.modWin_free (f : Window → Window) (c : Chip) : (c.modWin f).free = c.free := (rfl)
@[simp] theorem Chip.modWin_sched (f : Window → Window) (c : Chip) : (c.modWin f).sched = c.sched := (rfl)
@[simp] theorem Chip.modWin_outs (f : Window → Window) (c : Chip) : (c.modWin f).outs = c.outs := (rfl)
@[simp] theorem Chip.modWin_timers (f : Window → Window) (c : Chip) : (c.modWin f).timers = c.timers := (rfl)
@[simp] theorem Chip.modWin_conv (f : Window → Window) (c : Chip) : (c.modWin f).conv = c.conv := (rfl)
@[simp] theorem Chip.modWin_power (f : Window → Window) (c : Chip) : (c.modWin f).power = c.power := (rfl)
@[simp] theorem Chip.modWin_cipher (f : Window → Window) (c : Chip) : (c.modWin f).cipher = c.cipher := (rfl)
@[simp] theorem Chip.modWin_ring (f : Window → Window) (c : Chip) : (c.modWin f).ring = c.ring := (rfl)
@[simp] theorem Chip.modWin_twin (f : Window → Window) (c : Chip) : (c.modWin f).twin = c.twin := (rfl)
@[simp] theorem Chip.modWin_can (f : Window → Window) (c : Chip) : (c.modWin f).can = c.can := (rfl)
@[simp] theorem Chip.modWin_tag (f : Window → Window) (c : Chip) : (c.modWin f).tag = c.tag := (rfl)
@[simp] theorem Chip.modWin_tap (f : Window → Window) (c : Chip) : (c.modWin f).tap = c.tap := (rfl)
@[simp] theorem Chip.modWin_get (f : Window → Window) (r : Nat) (c : Chip) : (c.modWin f).get r = c.get r := (rfl)
@[simp] theorem Chip.modWin_fld (f : Window → Window) (g : Fld) (c : Chip) : (c.modWin f).fld g = c.fld g := (rfl)
@[simp] theorem Chip.modWin_flag (f : Window → Window) (g : Fld) (c : Chip) : (c.modWin f).flag g = c.flag g := (rfl)
@[simp] theorem Chip.modWin_bit (f : Window → Window) (r i : Nat) (c : Chip) : (c.modWin f).bit r i = c.bit r i := (rfl)
@[simp] theorem Chip.modWin_regOk (f : Window → Window) (c : Chip) : (c.modWin f).RegOk = c.RegOk := (rfl)

@[simp] theorem Chip.set_part_get (x : Part) (r : Nat) (c : Chip) : ({ c with part := x } : Chip).get r = c.get r := (rfl)
@[simp] theorem Chip.set_part_fld (x : Part) (g : Fld) (c : Chip) : ({ c with part := x } : Chip).fld g = c.fld g := (rfl)
@[simp] theorem Chip.set_part_flag (x : Part) (g : Fld) (c : Chip) : ({ c with part := x } : Chip).flag g = c.flag g := (rfl)
@[simp] theorem Chip.set_part_bit (x : Part) (r i : Nat) (c : Chip) : ({ c with part := x } : Chip).bit r i = c.bit r i := (rfl)
@[simp] theorem Chip.set_part_regOk (x : Part) (c : Chip) : ({ c with part := x } : Chip).RegOk = c.RegOk := (rfl)
@[simp] theorem Chip.set_part_memOk (x : Part) (c : Chip) : ({ c with part := x } : Chip).MemOk = c.MemOk := (rfl)
@[simp] theorem Chip.set_part_hasFreeSlot (x : Part) (c : Chip) : ({ c with part := x } : Chip).hasFreeSlot = c.hasFreeSlot := (rfl)

@[simp] theorem Chip.set_win_get (x : Window) (r : Nat) (c : Chip) : ({ c with win := x } : Chip).get r = c.get r := (rfl)
@[simp] theorem Chip.set_win_fld (x : Window) (g : Fld) (c : Chip) : ({ c with win := x } : Chip).fld g = c.fld g := (rfl)
@[simp] theorem Chip.set_win_flag (x : Window) (g : Fld) (c : Chip) : ({ c with win := x } : Chip).flag g = c.flag g := (rfl)
@[simp] theorem Chip.set_win_bit (x : Window) (r i : Nat) (c : Chip) : ({ c with win := x } : Chip).bit r i = c.bit r i := (rfl)
@[simp] theorem Chip.set_win_regOk (x : Window) (c : Chip) : ({ c with win := x } : Chip).RegOk = c.RegOk := (rfl)

@[simp] theorem Chip.set_tb_get (x : TimeBase) (r : Nat) (c : Chip) : ({ c with tb := x } : Chip).get r = c.get r := (rfl)
@[simp] theorem Chip.set_tb_fld (x : TimeBase) (g : Fld) (c : Chip) : ({ c with tb := x } : Chip).fld g = c.fld g := (rfl)
@[simp] theorem Chip.set_tb_flag (x : TimeBase) (g : Fld) (c : Chip) : ({ c with tb := x } : Chip).flag g = c.flag g := (rfl)
@[simp] theorem Chip.set_tb_bit (x : TimeBase) (r i : Nat) (c : Chip) : ({ c with tb := x } : Chip).bit r i = c.bit r i := (rfl)
@[simp] theorem Chip.set_tb_regOk (x : TimeBase) (c : Chip) : ({ c with tb := x } : Chip).RegOk = c.RegOk := (rfl)
@[simp] theorem Chip.set_tb_memOk (x : TimeBase) (c : Chip) : ({ c with tb := x } : Chip).MemOk = c.MemOk := (rfl)
@[simp] theorem Chip.set_tb_hasFreeSlot (x : TimeBase) (c : Chip) : ({ c with tb := x } : Chip).hasFreeSlot = c.hasFreeSlot := (rfl)

@[simp] theorem Chip.set_bus_get (x : Bus) (r : Nat) (c : Chip) : ({ c with bus := x } : Chip).get r = c.get r := (rfl)
@[simp] theorem Chip.set_bus_fld (x : Bus) (g : Fld) (c : Chip) : ({ c with bus := x } : Chip).fld g = c.fld g := (rfl)
@[simp] theorem Chip.set_bus_flag (x : Bus) (g : Fld) (c : Chip) : ({ c with bus := x } : Chip).flag g = c.flag g := (rfl)
@[simp] theorem Chip.set_bus_bit (x : Bus) (r i : Nat) (c : Chip) : ({ c with bus := x } : Chip).bit r i = c.bit r i := (rfl)
@[simp] theorem Chip.set_bus_regOk (x : Bus) (c : Chip) : ({ c with bus := x } : Chip).RegOk = c.RegOk := (rfl)
@[simp] theorem Chip.set_bus_memOk (x : Bus) (c : Chip) : ({ c with bus := x } : Chip).MemOk = c.MemOk := (rfl)
@[simp] theorem Chip.set_bus_hasFreeSlot (x : Bus) (c : Chip) : ({ c with bus := x } : Chip).hasFreeSlot = c.hasFreeSlot := (rfl)

@[simp] theorem Chip.set_pub_get (x : AngleSet) (r : Nat) (c : Chip) : ({ c with pub := x } : Chip).get r = c.get r := (rfl)
@[simp] theorem Chip.set_pub_fld (x : AngleSet) (g : Fld) (c : Chip) : ({ c with pub := x } : Chip).fld g = c.fld g := (rfl)
@[simp] theorem Chip.set_pub_flag (x : AngleSet) (g : Fld) (c : Chip) : ({ c with pub := x } : Chip).flag g = c.flag g := (rfl)
@[simp] theorem Chip.set_pub_bit (x : AngleSet) (r i : Nat) (c : Chip) : ({ c with pub := x } : Chip).bit r i = c.bit r i := (rfl)
@[simp] theorem Chip.set_pub_regOk (x : AngleSet) (c : Chip) : ({ c with pub := x } : Chip).RegOk = c.RegOk := (rfl)
@[simp] theorem Chip.set_pub_memOk (x : AngleSet) (c : Chip) : ({ c with pub := x } : Chip).MemOk = c.MemOk := (rfl)
@[simp] theorem Chip.set_pub_hasFreeSlot (x : AngleSet) (c : Chip) : ({ c with pub := x } : Chip).hasFreeSlot = c.hasFreeSlot := (rfl)

@[simp] theorem Chip.set_irq_get (x : Irq) (r : Nat) (c : Chip) : ({ c with irq := x } : Chip).get r = c.get r := (rfl)
@[simp] theorem Chip.set_irq_fld (x : Irq) (g : Fld) (c : Chip) : ({ c with irq := x } : Chip).fld g = c.fld g := (rfl)
@[simp] theorem Chip.set_irq_flag (x : Irq) (g : Fld) (c : Chip) : ({ c with irq := x } : Chip).flag g = c.flag g := (rfl)
@[simp] theorem Chip.set_irq_bit (x : Irq) (r i : Nat) (c : Chip) : ({ c with irq := x } : Chip).bit r i = c.bit r i := (rfl)
@[simp] theorem Chip.set_irq_regOk (x : Irq) (c : Chip) : ({ c with irq := x } : Chip).RegOk = c.RegOk := (rfl)
@[simp] theorem Chip.set_irq_memOk (x : Irq) (c : Chip) : ({ c with irq := x } : Chip).MemOk = c.MemOk := (rfl)
@[simp] theorem Chip.set_irq_hasFreeSlot (x : Irq) (c : Chip) : ({ c with irq := x } : Chip).hasFreeSlot = c.hasFreeSlot := (rfl)

@[simp] theorem Chip.set_flt_get (x : Faults) (r : Nat) (c : Chip) : ({ c with flt := x } : Chip).get r = c.get r := (rfl)
@[simp] theorem Chip.set_flt_fld (x : Faults) (g : Fld) (c : Chip) : ({ c with flt := x } : Chip).fld g = c.fld g := (rfl)
@[simp] theorem Chip.set_flt_flag (x : Faults) (g : Fld) (c : Chip) : ({ c with flt := x } : Chip).flag g = c.flag g := (rfl)
@[simp] theorem Chip.set_flt_bit (x : Faults) (r i : Nat) (c : Chip) : ({ c with flt := x } : Chip).bit r i = c.bit r i := (rfl)
@[simp] theorem Chip.set_flt_regOk (x : Faults) (c : Chip) : ({ c with flt := x } : Chip).RegOk = c.RegOk := (rfl)
@[simp] theorem Chip.set_flt_memOk (x : Faults) (c : Chip) : ({ c with flt := x } : Chip).MemOk = c.MemOk := (rfl)
@[simp] theorem Chip.set_flt_hasFreeSlot (x : Faults) (c : Chip) : ({ c with flt := x } : Chip).hasFreeSlot = c.hasFreeSlot := (rfl)

@[simp] theorem Chip.set_jnl_get (x : Journal) (r : Nat) (c : Chip) : ({ c with jnl := x } : Chip).get r = c.get r := (rfl)
@[simp] theorem Chip.set_jnl_fld (x : Journal) (g : Fld) (c : Chip) : ({ c with jnl := x } : Chip).fld g = c.fld g := (rfl)
@[simp] theorem Chip.set_jnl_flag (x : Journal) (g : Fld) (c : Chip) : ({ c with jnl := x } : Chip).flag g = c.flag g := (rfl)
@[simp] theorem Chip.set_jnl_bit (x : Journal) (r i : Nat) (c : Chip) : ({ c with jnl := x } : Chip).bit r i = c.bit r i := (rfl)
@[simp] theorem Chip.set_jnl_regOk (x : Journal) (c : Chip) : ({ c with jnl := x } : Chip).RegOk = c.RegOk := (rfl)
@[simp] theorem Chip.set_jnl_memOk (x : Journal) (c : Chip) : ({ c with jnl := x } : Chip).MemOk = c.MemOk := (rfl)
@[simp] theorem Chip.set_jnl_hasFreeSlot (x : Journal) (c : Chip) : ({ c with jnl := x } : Chip).hasFreeSlot = c.hasFreeSlot := (rfl)

@[simp] theorem Chip.set_wheels_get (x : Vector Wheel 4) (r : Nat) (c : Chip) : ({ c with wheels := x } : Chip).get r = c.get r := (rfl)
@[simp] theorem Chip.set_wheels_fld (x : Vector Wheel 4) (g : Fld) (c : Chip) : ({ c with wheels := x } : Chip).fld g = c.fld g := (rfl)
@[simp] theorem Chip.set_wheels_flag (x : Vector Wheel 4) (g : Fld) (c : Chip) : ({ c with wheels := x } : Chip).flag g = c.flag g := (rfl)
@[simp] theorem Chip.set_wheels_bit (x : Vector Wheel 4) (r i : Nat) (c : Chip) : ({ c with wheels := x } : Chip).bit r i = c.bit r i := (rfl)
@[simp] theorem Chip.set_wheels_regOk (x : Vector Wheel 4) (c : Chip) : ({ c with wheels := x } : Chip).RegOk = c.RegOk := (rfl)
@[simp] theorem Chip.set_wheels_memOk (x : Vector Wheel 4) (c : Chip) : ({ c with wheels := x } : Chip).MemOk = c.MemOk := (rfl)
@[simp] theorem Chip.set_wheels_hasFreeSlot (x : Vector Wheel 4) (c : Chip) : ({ c with wheels := x } : Chip).hasFreeSlot = c.hasFreeSlot := (rfl)

@[simp] theorem Chip.set_pred_get (x : Pred) (r : Nat) (c : Chip) : ({ c with pred := x } : Chip).get r = c.get r := (rfl)
@[simp] theorem Chip.set_pred_fld (x : Pred) (g : Fld) (c : Chip) : ({ c with pred := x } : Chip).fld g = c.fld g := (rfl)
@[simp] theorem Chip.set_pred_flag (x : Pred) (g : Fld) (c : Chip) : ({ c with pred := x } : Chip).flag g = c.flag g := (rfl)
@[simp] theorem Chip.set_pred_bit (x : Pred) (r i : Nat) (c : Chip) : ({ c with pred := x } : Chip).bit r i = c.bit r i := (rfl)
@[simp] theorem Chip.set_pred_regOk (x : Pred) (c : Chip) : ({ c with pred := x } : Chip).RegOk = c.RegOk := (rfl)
@[simp] theorem Chip.set_pred_memOk (x : Pred) (c : Chip) : ({ c with pred := x } : Chip).MemOk = c.MemOk := (rfl)
@[simp] theorem Chip.set_pred_hasFreeSlot (x : Pred) (c : Chip) : ({ c with pred := x } : Chip).hasFreeSlot = c.hasFreeSlot := (rfl)

@[simp] theorem Chip.set_free_get (x : Nat) (r : Nat) (c : Chip) : ({ c with free := x } : Chip).get r = c.get r := (rfl)
@[simp] theorem Chip.set_free_fld (x : Nat) (g : Fld) (c : Chip) : ({ c with free := x } : Chip).fld g = c.fld g := (rfl)
@[simp] theorem Chip.set_free_flag (x : Nat) (g : Fld) (c : Chip) : ({ c with free := x } : Chip).flag g = c.flag g := (rfl)
@[simp] theorem Chip.set_free_bit (x : Nat) (r i : Nat) (c : Chip) : ({ c with free := x } : Chip).bit r i = c.bit r i := (rfl)
@[simp] theorem Chip.set_free_regOk (x : Nat) (c : Chip) : ({ c with free := x } : Chip).RegOk = c.RegOk := (rfl)
@[simp] theorem Chip.set_free_memOk (x : Nat) (c : Chip) : ({ c with free := x } : Chip).MemOk = c.MemOk := (rfl)
@[simp] theorem Chip.set_free_hasFreeSlot (x : Nat) (c : Chip) : ({ c with free := x } : Chip).hasFreeSlot = c.hasFreeSlot := (rfl)

@[simp] theorem Chip.set_sched_get (x : Sched) (r : Nat) (c : Chip) : ({ c with sched := x } : Chip).get r = c.get r := (rfl)
@[simp] theorem Chip.set_sched_fld (x : Sched) (g : Fld) (c : Chip) : ({ c with sched := x } : Chip).fld g = c.fld g := (rfl)
@[simp] theorem Chip.set_sched_flag (x : Sched) (g : Fld) (c : Chip) : ({ c with sched := x } : Chip).flag g = c.flag g := (rfl)
@[simp] theorem Chip.set_sched_bit (x : Sched) (r i : Nat) (c : Chip) : ({ c with sched := x } : Chip).bit r i = c.bit r i := (rfl)
@[simp] theorem Chip.set_sched_regOk (x : Sched) (c : Chip) : ({ c with sched := x } : Chip).RegOk = c.RegOk := (rfl)
@[simp] theorem Chip.set_sched_memOk (x : Sched) (c : Chip) : ({ c with sched := x } : Chip).MemOk = c.MemOk := (rfl)
@[simp] theorem Chip.set_sched_hasFreeSlot (x : Sched) (c : Chip) : ({ c with sched := x } : Chip).hasFreeSlot = c.hasFreeSlot := (rfl)

@[simp] theorem Chip.set_outs_get (x : Outs) (r : Nat) (c : Chip) : ({ c with outs := x } : Chip).get r = c.get r := (rfl)
@[simp] theorem Chip.set_outs_fld (x : Outs) (g : Fld) (c : Chip) : ({ c with outs := x } : Chip).fld g = c.fld g := (rfl)
@[simp] theorem Chip.set_outs_flag (x : Outs) (g : Fld) (c : Chip) : ({ c with outs := x } : Chip).flag g = c.flag g := (rfl)
@[simp] theorem Chip.set_outs_bit (x : Outs) (r i : Nat) (c : Chip) : ({ c with outs := x } : Chip).bit r i = c.bit r i := (rfl)
@[simp] theorem Chip.set_outs_regOk (x : Outs) (c : Chip) : ({ c with outs := x } : Chip).RegOk = c.RegOk := (rfl)
@[simp] theorem Chip.set_outs_memOk (x : Outs) (c : Chip) : ({ c with outs := x } : Chip).MemOk = c.MemOk := (rfl)
@[simp] theorem Chip.set_outs_hasFreeSlot (x : Outs) (c : Chip) : ({ c with outs := x } : Chip).hasFreeSlot = c.hasFreeSlot := (rfl)

@[simp] theorem Chip.set_timers_get (x : Timers) (r : Nat) (c : Chip) : ({ c with timers := x } : Chip).get r = c.get r := (rfl)
@[simp] theorem Chip.set_timers_fld (x : Timers) (g : Fld) (c : Chip) : ({ c with timers := x } : Chip).fld g = c.fld g := (rfl)
@[simp] theorem Chip.set_timers_flag (x : Timers) (g : Fld) (c : Chip) : ({ c with timers := x } : Chip).flag g = c.flag g := (rfl)
@[simp] theorem Chip.set_timers_bit (x : Timers) (r i : Nat) (c : Chip) : ({ c with timers := x } : Chip).bit r i = c.bit r i := (rfl)
@[simp] theorem Chip.set_timers_regOk (x : Timers) (c : Chip) : ({ c with timers := x } : Chip).RegOk = c.RegOk := (rfl)
@[simp] theorem Chip.set_timers_memOk (x : Timers) (c : Chip) : ({ c with timers := x } : Chip).MemOk = c.MemOk := (rfl)
@[simp] theorem Chip.set_timers_hasFreeSlot (x : Timers) (c : Chip) : ({ c with timers := x } : Chip).hasFreeSlot = c.hasFreeSlot := (rfl)

@[simp] theorem Chip.set_conv_get (x : Conv) (r : Nat) (c : Chip) : ({ c with conv := x } : Chip).get r = c.get r := (rfl)
@[simp] theorem Chip.set_conv_fld (x : Conv) (g : Fld) (c : Chip) : ({ c with conv := x } : Chip).fld g = c.fld g := (rfl)
@[simp] theorem Chip.set_conv_flag (x : Conv) (g : Fld) (c : Chip) : ({ c with conv := x } : Chip).flag g = c.flag g := (rfl)
@[simp] theorem Chip.set_conv_bit (x : Conv) (r i : Nat) (c : Chip) : ({ c with conv := x } : Chip).bit r i = c.bit r i := (rfl)
@[simp] theorem Chip.set_conv_regOk (x : Conv) (c : Chip) : ({ c with conv := x } : Chip).RegOk = c.RegOk := (rfl)
@[simp] theorem Chip.set_conv_memOk (x : Conv) (c : Chip) : ({ c with conv := x } : Chip).MemOk = c.MemOk := (rfl)
@[simp] theorem Chip.set_conv_hasFreeSlot (x : Conv) (c : Chip) : ({ c with conv := x } : Chip).hasFreeSlot = c.hasFreeSlot := (rfl)

@[simp] theorem Chip.set_power_get (x : Power) (r : Nat) (c : Chip) : ({ c with power := x } : Chip).get r = c.get r := (rfl)
@[simp] theorem Chip.set_power_fld (x : Power) (g : Fld) (c : Chip) : ({ c with power := x } : Chip).fld g = c.fld g := (rfl)
@[simp] theorem Chip.set_power_flag (x : Power) (g : Fld) (c : Chip) : ({ c with power := x } : Chip).flag g = c.flag g := (rfl)
@[simp] theorem Chip.set_power_bit (x : Power) (r i : Nat) (c : Chip) : ({ c with power := x } : Chip).bit r i = c.bit r i := (rfl)
@[simp] theorem Chip.set_power_regOk (x : Power) (c : Chip) : ({ c with power := x } : Chip).RegOk = c.RegOk := (rfl)
@[simp] theorem Chip.set_power_memOk (x : Power) (c : Chip) : ({ c with power := x } : Chip).MemOk = c.MemOk := (rfl)
@[simp] theorem Chip.set_power_hasFreeSlot (x : Power) (c : Chip) : ({ c with power := x } : Chip).hasFreeSlot = c.hasFreeSlot := (rfl)

@[simp] theorem Chip.set_cipher_get (x : Cipher) (r : Nat) (c : Chip) : ({ c with cipher := x } : Chip).get r = c.get r := (rfl)
@[simp] theorem Chip.set_cipher_fld (x : Cipher) (g : Fld) (c : Chip) : ({ c with cipher := x } : Chip).fld g = c.fld g := (rfl)
@[simp] theorem Chip.set_cipher_flag (x : Cipher) (g : Fld) (c : Chip) : ({ c with cipher := x } : Chip).flag g = c.flag g := (rfl)
@[simp] theorem Chip.set_cipher_bit (x : Cipher) (r i : Nat) (c : Chip) : ({ c with cipher := x } : Chip).bit r i = c.bit r i := (rfl)
@[simp] theorem Chip.set_cipher_regOk (x : Cipher) (c : Chip) : ({ c with cipher := x } : Chip).RegOk = c.RegOk := (rfl)
@[simp] theorem Chip.set_cipher_memOk (x : Cipher) (c : Chip) : ({ c with cipher := x } : Chip).MemOk = c.MemOk := (rfl)
@[simp] theorem Chip.set_cipher_hasFreeSlot (x : Cipher) (c : Chip) : ({ c with cipher := x } : Chip).hasFreeSlot = c.hasFreeSlot := (rfl)

@[simp] theorem Chip.set_ring_get (x : Ring) (r : Nat) (c : Chip) : ({ c with ring := x } : Chip).get r = c.get r := (rfl)
@[simp] theorem Chip.set_ring_fld (x : Ring) (g : Fld) (c : Chip) : ({ c with ring := x } : Chip).fld g = c.fld g := (rfl)
@[simp] theorem Chip.set_ring_flag (x : Ring) (g : Fld) (c : Chip) : ({ c with ring := x } : Chip).flag g = c.flag g := (rfl)
@[simp] theorem Chip.set_ring_bit (x : Ring) (r i : Nat) (c : Chip) : ({ c with ring := x } : Chip).bit r i = c.bit r i := (rfl)
@[simp] theorem Chip.set_ring_regOk (x : Ring) (c : Chip) : ({ c with ring := x } : Chip).RegOk = c.RegOk := (rfl)
@[simp] theorem Chip.set_ring_memOk (x : Ring) (c : Chip) : ({ c with ring := x } : Chip).MemOk = c.MemOk := (rfl)
@[simp] theorem Chip.set_ring_hasFreeSlot (x : Ring) (c : Chip) : ({ c with ring := x } : Chip).hasFreeSlot = c.hasFreeSlot := (rfl)

@[simp] theorem Chip.set_twin_get (x : Twin) (r : Nat) (c : Chip) : ({ c with twin := x } : Chip).get r = c.get r := (rfl)
@[simp] theorem Chip.set_twin_fld (x : Twin) (g : Fld) (c : Chip) : ({ c with twin := x } : Chip).fld g = c.fld g := (rfl)
@[simp] theorem Chip.set_twin_flag (x : Twin) (g : Fld) (c : Chip) : ({ c with twin := x } : Chip).flag g = c.flag g := (rfl)
@[simp] theorem Chip.set_twin_bit (x : Twin) (r i : Nat) (c : Chip) : ({ c with twin := x } : Chip).bit r i = c.bit r i := (rfl)
@[simp] theorem Chip.set_twin_regOk (x : Twin) (c : Chip) : ({ c with twin := x } : Chip).RegOk = c.RegOk := (rfl)
@[simp] theorem Chip.set_twin_memOk (x : Twin) (c : Chip) : ({ c with twin := x } : Chip).MemOk = c.MemOk := (rfl)
@[simp] theorem Chip.set_twin_hasFreeSlot (x : Twin) (c : Chip) : ({ c with twin := x } : Chip).hasFreeSlot = c.hasFreeSlot := (rfl)

@[simp] theorem Chip.set_can_get (x : Can) (r : Nat) (c : Chip) : ({ c with can := x } : Chip).get r = c.get r := (rfl)
@[simp] theorem Chip.set_can_fld (x : Can) (g : Fld) (c : Chip) : ({ c with can := x } : Chip).fld g = c.fld g := (rfl)
@[simp] theorem Chip.set_can_flag (x : Can) (g : Fld) (c : Chip) : ({ c with can := x } : Chip).flag g = c.flag g := (rfl)
@[simp] theorem Chip.set_can_bit (x : Can) (r i : Nat) (c : Chip) : ({ c with can := x } : Chip).bit r i = c.bit r i := (rfl)
@[simp] theorem Chip.set_can_regOk (x : Can) (c : Chip) : ({ c with can := x } : Chip).RegOk = c.RegOk := (rfl)
@[simp] theorem Chip.set_can_memOk (x : Can) (c : Chip) : ({ c with can := x } : Chip).MemOk = c.MemOk := (rfl)
@[simp] theorem Chip.set_can_hasFreeSlot (x : Can) (c : Chip) : ({ c with can := x } : Chip).hasFreeSlot = c.hasFreeSlot := (rfl)

@[simp] theorem Chip.set_tag_get (x : Tag) (r : Nat) (c : Chip) : ({ c with tag := x } : Chip).get r = c.get r := (rfl)
@[simp] theorem Chip.set_tag_fld (x : Tag) (g : Fld) (c : Chip) : ({ c with tag := x } : Chip).fld g = c.fld g := (rfl)
@[simp] theorem Chip.set_tag_flag (x : Tag) (g : Fld) (c : Chip) : ({ c with tag := x } : Chip).flag g = c.flag g := (rfl)
@[simp] theorem Chip.set_tag_bit (x : Tag) (r i : Nat) (c : Chip) : ({ c with tag := x } : Chip).bit r i = c.bit r i := (rfl)
@[simp] theorem Chip.set_tag_regOk (x : Tag) (c : Chip) : ({ c with tag := x } : Chip).RegOk = c.RegOk := (rfl)
@[simp] theorem Chip.set_tag_memOk (x : Tag) (c : Chip) : ({ c with tag := x } : Chip).MemOk = c.MemOk := (rfl)
@[simp] theorem Chip.set_tag_hasFreeSlot (x : Tag) (c : Chip) : ({ c with tag := x } : Chip).hasFreeSlot = c.hasFreeSlot := (rfl)

@[simp] theorem Chip.set_tap_get (x : Tap) (r : Nat) (c : Chip) : ({ c with tap := x } : Chip).get r = c.get r := (rfl)
@[simp] theorem Chip.set_tap_fld (x : Tap) (g : Fld) (c : Chip) : ({ c with tap := x } : Chip).fld g = c.fld g := (rfl)
@[simp] theorem Chip.set_tap_flag (x : Tap) (g : Fld) (c : Chip) : ({ c with tap := x } : Chip).flag g = c.flag g := (rfl)
@[simp] theorem Chip.set_tap_bit (x : Tap) (r i : Nat) (c : Chip) : ({ c with tap := x } : Chip).bit r i = c.bit r i := (rfl)
@[simp] theorem Chip.set_tap_regOk (x : Tap) (c : Chip) : ({ c with tap := x } : Chip).RegOk = c.RegOk := (rfl)
@[simp] theorem Chip.set_tap_memOk (x : Tap) (c : Chip) : ({ c with tap := x } : Chip).MemOk = c.MemOk := (rfl)
@[simp] theorem Chip.set_tap_hasFreeSlot (x : Tap) (c : Chip) : ({ c with tap := x } : Chip).hasFreeSlot = c.hasFreeSlot := (rfl)

end Sys2Proof.Machine
end

