-- ==== Sys2Proof/Laws/Window.lean ====
section
/-!
SUPPORT. The shared window: a byte and a word read back after a store, and the fault queue's records (R445 to R455).
-/

namespace Sys2Proof.Machine.Chip

theorem memOk_putWinByte {o : Nat} {b : Byte} {c : Chip} (h : c.MemOk) : (c.putWinByte o b).MemOk := Sparse.wf_set o b h

theorem memOk_putWin16 {o v : Nat} {c : Chip} (h : c.MemOk) : (c.putWin16 o v).MemOk := memOk_putWinByte (memOk_putWinByte h)

theorem winByte_putWinByte_self {o : Nat} {b : Byte} {c : Chip} (h : c.MemOk) : (c.putWinByte o b).winByte o = b :=
  Sparse.get_set_self h

theorem winByte_putWinByte_ne {o p : Nat} {b : Byte} {c : Chip} (h : p ≠ o) : (c.putWinByte o b).winByte p = c.winByte p :=
  Sparse.get_set_ne h

theorem winByte_putWin16_ne {o p v : Nat} {c : Chip} (h : p < o ∨ o + 2 ≤ p) : (c.putWin16 o v).winByte p = c.winByte p := by
  unfold putWin16
  rw [winByte_putWinByte_ne (by omega), winByte_putWinByte_ne (by omega)]

/-- A word read back after a store. -/
theorem win16_putWin16_self {o v : Nat} {c : Chip} (h : c.MemOk) : (c.putWin16 o v).win16 o = v % 65536 := by
  unfold win16 putWin16
  rw [winByte_putWinByte_self (memOk_putWinByte h), winByte_putWinByte_ne (by omega), winByte_putWinByte_self h]
  simp only [BitVec.toNat_ofNat]
  omega

theorem win16_putWin16_ne {o p v : Nat} {c : Chip} (h : p + 2 ≤ o ∨ o + 2 ≤ p) : (c.putWin16 o v).win16 p = c.win16 p := by
  unfold win16
  rw [winByte_putWin16_ne (by omega), winByte_putWin16_ne (by omega)]

theorem memOk_foldl {ws : List (Nat × Nat)} {off : Nat} {c : Chip} (h : c.MemOk) :
    (ws.foldl (fun d x => d.putWin16 (off + 2 * x.1) x.2) c).MemOk := by
  induction ws generalizing c with
  | nil => exact h
  | cons x ws ih => exact ih (memOk_putWin16 h)

theorem win16_foldl_ne {ws : List (Nat × Nat)} {off w : Nat} {c : Chip} (h : ∀ x ∈ ws, x.1 ≠ w) :
    (ws.foldl (fun d x => d.putWin16 (off + 2 * x.1) x.2) c).win16 (off + 2 * w) = c.win16 (off + 2 * w) := by
  induction ws generalizing c with
  | nil => rfl
  | cons x ws ih =>
    have hx := h x List.mem_cons_self
    rw [List.foldl_cons, ih fun y hy => h y (List.mem_cons_of_mem _ hy), win16_putWin16_ne (by omega)]

theorem ownWord_putWin16_self {o v : Nat} {c : Chip} (h : c.MemOk) : (c.putWin16 (2 * o) v).ownWord o = v % 65536 := by
  have : Sparse.find? (c.putWin16 (2 * o) v).win.ecc o = none := by
    show Sparse.find? (Sparse.drop _ ((2 * o + 1) / 2)) o = none
    rw [show (2 * o + 1) / 2 = o by omega]; exact Sparse.find?_drop_self
  unfold ownWord
  rw [this]; exact win16_putWin16_self h

theorem ownWord_putWin16_ne {o p v : Nat} {c : Chip} (h : p ≠ o) : (c.putWin16 (2 * o) v).ownWord p = c.ownWord p := by
  have : Sparse.find? (c.putWin16 (2 * o) v).win.ecc p = Sparse.find? c.win.ecc p := by
    show Sparse.find? (Sparse.drop (Sparse.drop c.win.ecc (2 * o / 2)) ((2 * o + 1) / 2)) p = _
    rw [Sparse.find?_drop_ne (by omega), Sparse.find?_drop_ne (by omega)]
  unfold ownWord
  rw [this, win16_putWin16_ne (by omega)]

theorem ownWord_foldl_ne {ws : List (Nat × Nat)} {o w : Nat} {c : Chip} (h : ∀ x ∈ ws, x.1 ≠ w) :
    (ws.foldl (fun d x => d.putWin16 (2 * o + 2 * x.1) x.2) c).ownWord (o + w) = c.ownWord (o + w) := by
  induction ws generalizing c with
  | nil => rfl
  | cons x ws ih =>
    have hx := h x List.mem_cons_self
    rw [List.foldl_cons, ih fun y hy => h y (List.mem_cons_of_mem _ hy), show 2 * o + 2 * x.1 = 2 * (o + x.1) by omega,
      ownWord_putWin16_ne (by omega)]

/-- A word of a record under R128: the value last listed for it. -/
theorem ownWord_putRecord {ws : List (Nat × Nat)} {o w : Nat} {c : Chip} (hw : w ≠ 0) (h : ∀ x ∈ ws, x.1 ≠ w) :
    (c.putRecord (2 * o) ws).ownWord (o + w) = c.ownWord (o + w) := by
  unfold putRecord
  rw [ownWord_putWin16_ne (by omega), ownWord_foldl_ne h]

theorem ownWord_putRecord_listed {l r : List (Nat × Nat)} {o w v : Nat} {c : Chip} (hc : c.MemOk) (hw : w ≠ 0)
    (h : ∀ x ∈ r, x.1 ≠ w) : (c.putRecord (2 * o) (l ++ (w, v) :: r)).ownWord (o + w) = v % 65536 := by
  unfold putRecord
  rw [ownWord_putWin16_ne (by omega), List.foldl_append, List.foldl_cons, ownWord_foldl_ne h,
    show 2 * o + 2 * w = 2 * (o + w) by omega, ownWord_putWin16_self (memOk_foldl hc)]

/-! ## Fault records -/

@[simp] theorem slotWord_raise (x k w : Nat) (c : Chip) : (c.raise x).slotWord k w = c.slotWord k w := rfl

@[simp] theorem slotWord_journal (x : JCause) (k w : Nat) (c : Chip) : (c.journal x).slotWord k w = c.slotWord k w := rfl

theorem journalRaised_win (code unit cls detail : Nat) (c : Chip) : (c.journalRaised code unit cls detail).win = c.win := by
  unfold journalRaised; split <;> rfl

theorem slotWord_of_win {c d : Chip} (h : d.win = c.win) (k w : Nat) : d.slotWord k w = c.slotWord k w := by
  unfold slotWord ownWord win16 winByte; rw [h]

theorem onRecord_of_win {c d : Chip} {code unit : Nat} (h : d.win = c.win) (hr : c.onRecord code unit) :
    d.onRecord code unit := by
  obtain ⟨k, hk, h1, h2⟩ := hr
  exact ⟨k, hk, by rw [slotWord_of_win h, h1], by rw [slotWord_of_win h, h2]⟩

theorem slotOff_even (k : Nat) : 2 * (slotOff k / 2) = slotOff k := by unfold slotOff; omega

theorem slotWord_putRecord {k w : Nat} {ws : List (Nat × Nat)} {c : Chip} (hw : w ≠ 0) (h : ∀ x ∈ ws, x.1 ≠ w) :
    (c.putRecord (slotOff k) ws).slotWord k w = c.slotWord k w := by
  have := ownWord_putRecord (o := slotOff k / 2) (c := c) hw h
  rwa [slotOff_even] at this

/-- The first two words of a record's list are the code and the unit. -/
theorem recordWords_cons (c : Chip) (code unit cls detail : Nat) (st : Bool) :
    ∃ r, c.recordWords code unit cls detail st = (1, code) :: (2, unit % 65536) :: r ∧ ∀ x ∈ r, x.1 ≠ 1 ∧ x.1 ≠ 2 :=
  ⟨_, rfl, by simp⟩

theorem makeRecord_win (k code unit cls detail : Nat) (st : Bool) (c : Chip) :
    (c.makeRecord k code unit cls detail st).win = (c.putRecord (slotOff k) (c.recordWords code unit cls detail st)).win := by
  unfold makeRecord
  rw [raise_win, journalRaised_win]

/-- A new record names its fault. -/
theorem makeRecord_onRecord {k code unit cls detail : Nat} {st : Bool} {c : Chip} (hc : c.MemOk) (hk : k ∈ slots)
    (hcode : code < 65536) : (c.makeRecord k code unit cls detail st).onRecord code unit := by
  obtain ⟨r, hr, hn⟩ := recordWords_cons c code unit cls detail st
  refine onRecord_of_win (makeRecord_win ..) ⟨k, hk, ?_, ?_⟩
  · unfold slotWord
    rw [hr]
    have := ownWord_putRecord_listed (l := []) (r := (2, unit % 65536) :: r) (o := slotOff k / 2) (w := 1) (v := code) hc
      (by decide) (by intro x hx; rcases List.mem_cons.mp hx with h | h; · subst h; simp
                      · exact (hn x h).1)
    rw [List.nil_append, slotOff_even] at this
    rw [this, Nat.mod_eq_of_lt hcode]
  · unfold slotWord
    rw [hr]
    have := ownWord_putRecord_listed (l := [(1, code)]) (r := r) (o := slotOff k / 2) (w := 2) (v := unit % 65536) hc
      (by decide) (fun x hx => (hn x hx).2)
    rw [List.singleton_append, slotOff_even] at this
    rw [this, Nat.mod_mod]

theorem find_free {c : Chip} (h : c.hasFreeSlot) : ∃ k, slots.find? (fun k => !c.slotUsed k) = some k ∧ k ∈ slots := by
  obtain ⟨k, hk, hu⟩ := h
  cases hf : slots.find? fun k => !c.slotUsed k with
  | none =>
    have := List.find?_eq_none.mp hf k hk
    simp [hu] at this
  | some j => exact ⟨j, rfl, List.mem_of_find?_eq_some hf⟩

/-- A fault with a free slot in the queue is on record afterwards (R447). -/
theorem faultOf_onRecord {code unit cls detail : Nat} {st : Bool} {c : Chip} (hc : c.MemOk) (hf : c.hasFreeSlot)
    (hcode : code < 65536) : (c.faultOf code unit cls detail st).onRecord code unit := by
  unfold faultOf
  split
  · rename_i k hk
    have hm := List.mem_of_find?_eq_some hk
    have hp := List.find?_some hk
    simp only [Bool.and_eq_true, beq_iff_eq] at hp
    have hw : ∀ w, w = 1 ∨ w = 2 → (c.repeatRecord k detail st (detailUpdates code)).slotWord k w = c.slotWord k w := by
      intro w hw
      unfold repeatRecord
      refine slotWord_putRecord (by omega) ?_
      intro x hx
      have : x.1 = 3 ∨ x.1 = 4 ∨ x.1 = 13 ∨ x.1 = 14 ∨ x.1 = 15 := by
        rcases List.mem_append.mp hx with hx | hx
        · simp only [List.mem_cons, List.not_mem_nil, or_false] at hx
          rcases hx with rfl | rfl | rfl | rfl <;> simp
        · split at hx
          · simp only [List.mem_cons, List.not_mem_nil, or_false] at hx
            subst hx; simp
          · cases hx
      omega
    exact ⟨k, hm, (hw 1 (.inl rfl)).trans hp.1, (hw 2 (.inr rfl)).trans hp.2⟩
  · obtain ⟨k, hk, hm⟩ := find_free hf
    rw [hk]
    exact makeRecord_onRecord hc hm hcode

theorem fault_onRecord {code unit detail : Nat} {c : Chip} (hc : c.MemOk) (hf : c.hasFreeSlot) (hcode : code < 65536) :
    (c.fault code unit detail).onRecord code unit := faultOf_onRecord hc hf hcode

theorem faultStanding_onRecord {code unit detail : Nat} {c : Chip} (hc : c.MemOk) (hf : c.hasFreeSlot) (hcode : code < 65536) :
    (c.faultStanding code unit detail).onRecord code unit := faultOf_onRecord hc hf hcode

theorem memOk_of_win {c d : Chip} (h : d.win = c.win) (hc : c.MemOk) : d.MemOk := by unfold MemOk; rw [h]; exact hc

theorem hasFreeSlot_of_win {c d : Chip} (h : d.win = c.win) (hc : c.hasFreeSlot) : d.hasFreeSlot := by
  obtain ⟨k, hk, hu⟩ := hc
  exact ⟨k, hk, by unfold slotUsed at *; rw [slotWord_of_win h]; exact hu⟩

/-! ## The registers of a fault -/

theorem makeRecord_regs (k code unit cls detail : Nat) (st : Bool) (c : Chip) :
    (c.makeRecord k code unit cls detail st).regs = c.regs := (makeRecord_kept k code unit cls detail st c).2.1 .regs rfl

theorem repeatRecord_regs (k detail : Nat) (st upd : Bool) (c : Chip) : (c.repeatRecord k detail st upd).regs = c.regs :=
  (repeatRecord_kept k detail st upd c).2.1 .regs rfl

theorem get_of_regs {c d : Chip} (h : d.regs = c.regs) (r : Nat) : d.get r = c.get r := by unfold get; rw [h]

/-- A fault writes no register but FAULT_COUNTS (R455). -/
theorem get_faultOf (code unit cls detail : Nat) (st : Bool) {r : Nat} (c : Chip) (h : r ≠ R.faultCounts) :
    (c.faultOf code unit cls detail st).get r = c.get r := by
  unfold faultOf; split
  · exact get_of_regs (repeatRecord_regs ..) r
  · split
    · exact get_of_regs (makeRecord_regs ..) r
    · unfold recordFull; split
      · exact (get_of_regs (makeRecord_regs ..) r).trans
          ((set_flt_get _ _ _).trans (get_incFld_ne h))
      · exact (set_flt_get _ _ _).trans (get_incFld_ne h)

theorem get_fault (code unit detail : Nat) {r : Nat} (c : Chip) (h : r ≠ R.faultCounts) :
    (c.fault code unit detail).get r = c.get r := get_faultOf _ _ _ _ _ _ h

theorem get_faultStanding (code unit detail : Nat) {r : Nat} (c : Chip) (h : r ≠ R.faultCounts) :
    (c.faultStanding code unit detail).get r = c.get r := get_faultOf _ _ _ _ _ _ h

theorem fld_fault (code unit detail : Nat) {g : Fld} (c : Chip) (h : g.reg ≠ R.faultCounts) :
    (c.fault code unit detail).fld g = c.fld g := by unfold fld; rw [get_fault _ _ _ _ h]

theorem flag_fault (code unit detail : Nat) {g : Fld} (c : Chip) (h : g.reg ≠ R.faultCounts) :
    (c.fault code unit detail).flag g = c.flag g := by unfold flag; rw [fld_fault _ _ _ _ h]

theorem fld_faultStanding (code unit detail : Nat) {g : Fld} (c : Chip) (h : g.reg ≠ R.faultCounts) :
    (c.faultStanding code unit detail).fld g = c.fld g := by unfold fld; rw [get_faultStanding _ _ _ _ h]

theorem flag_faultStanding (code unit detail : Nat) {g : Fld} (c : Chip) (h : g.reg ≠ R.faultCounts) :
    (c.faultStanding code unit detail).flag g = c.flag g := by unfold flag; rw [fld_faultStanding _ _ _ _ h]

theorem regOk_kept {m : Nat} {c d : Chip} (h : Kept m c d) (hc : c.Ok) : d.RegOk := (h.1 hc).1

end Sys2Proof.Machine.Chip
end

