-- ==== Sys2Proof/Laws/Reset.lean ====
section
/-!
SUPPORT. What a register reads as after a reset (R85, R496, R509), and what a reset leaves of the other components.
-/

namespace Sys2Proof.Machine.Chip

/-- What a reset of a cause makes of the value of a register. -/
def afterReset (cause a : Nat) (v : DWord) : DWord := if cause = 6 then retained a v else cleared (cause == 0) a v

theorem get_fold_set {f : Nat → DWord → DWord} {a : Nat} : ∀ {l m : List (Nat × DWord)}, RegsOk l → RegsOk m →
    Sparse.get regReset (l.foldl (fun m x => Sparse.set regReset m x.1 (f x.1 x.2)) m) a =
      match Sparse.find? l a with
      | some v => f a v
      | none => Sparse.get regReset m a
  | [], _, _, _ => rfl
  | (b, v) :: l, m, hl, hm => by
    have hl' := hl
    simp only [RegsOk, Sparse.wf, Bool.and_eq_true] at hl'
    rw [List.foldl_cons, get_fold_set hl'.2 (Sparse.wf_set _ _ hm)]
    by_cases hb : b = a
    · subst hb
      rw [Sparse.find?_above hl'.2 hl'.1.1 (Nat.le_refl _)]
      simp only [Sparse.find?, if_true]
      exact Sparse.get_set_self hm
    · simp only [Sparse.find?, if_neg hb]
      split
      · rfl
      · exact Sparse.get_set_ne (Ne.symm hb)

/-- A register after the registers' reset. -/
theorem get_resetRegs {cause a : Nat} {l : List (Nat × DWord)} (h : RegsOk l)
    (ha : afterReset cause a (regReset a) = regReset a) :
    Sparse.get regReset (resetRegs cause l) a = afterReset cause a (Sparse.get regReset l a) := by
  unfold resetRegs
  have := get_fold_set (f := afterReset cause) (a := a) h (show RegsOk [] from rfl)
  rw [show (fun (m : List (Nat × DWord)) (x : Nat × DWord) => Sparse.set regReset m x.1
    (if cause = 6 then retained x.1 x.2 else cleared (cause == 0) x.1 x.2)) =
    fun m x => Sparse.set regReset m x.1 (afterReset cause x.1 x.2) from rfl, this]
  unfold Sparse.get
  cases Sparse.find? l a with
  | none => exact ha.symm
  | some v => rfl

theorem journal_doIf_regs (b : Bool) (x : Chip → JCause) (c : Chip) : (c.doIf b fun d => d.journal (x d)).regs = c.regs := by
  unfold doIf; split <;> rfl

/-- A register after a reset, but for RESET_CAUSE and the wake source. -/
theorem get_resetWith {cause a : Nat} {c : Chip} (h : c.RegOk) (ha : afterReset cause a (regReset a) = regReset a)
    (h1 : a ≠ R.resetCause) (h2 : a ≠ R.pwrState) : (c.resetWith cause).get a = afterReset cause a (c.get a) := by
  unfold resetWith
  extract_lets keep s1 s2 s3 s4 fresh s5 c0 c1 c2
  rw [get_of_regs (journal_doIf_regs ..)]
  have e0 : c0.get a = afterReset cause a (c.get a) := get_resetRegs h ha
  have e1 : c1.get a = c0.get a := get_setBit_ne h1
  have e2 : c2.get a = c1.get a := by
    show (if cause = 0 then c1.setFld F.pwrState_WAKE_SOURCE (if c.power.isOff then c.power.wakeCode.getD 0 else 0) else c1).get a = _
    split
    · exact get_setFld_ne h2
    · rfl
  rw [e2, e1, e0]

/-- RESET_CAUSE after a reset: what the reset keeps of it, with the cause's bit (R85). -/
theorem get_resetWith_cause {cause : Nat} {c : Chip} (h : c.RegOk)
    (ha : afterReset cause R.resetCause (regReset R.resetCause) = regReset R.resetCause) :
    (c.resetWith cause).get R.resetCause =
      BitVec.ofNat 32 (putBits (afterReset cause R.resetCause (c.get R.resetCause)).toNat cause cause 1) := by
  unfold resetWith
  extract_lets keep s1 s2 s3 s4 fresh s5 c0 c1 c2
  rw [get_of_regs (journal_doIf_regs ..)]
  have e0 : c0.get R.resetCause = afterReset cause R.resetCause (c.get R.resetCause) := get_resetRegs h ha
  have ok0 : c0.RegOk := resetRegs_ok cause _
  have e1 : c1.get R.resetCause = BitVec.ofNat 32 (putBits (c0.get R.resetCause).toNat cause cause 1) := get_put_self ok0
  have e2 : c2.get R.resetCause = c1.get R.resetCause := by
    show (if cause = 0 then c1.setFld F.pwrState_WAKE_SOURCE (if c.power.isOff then c.power.wakeCode.getD 0 else 0) else c1).get R.resetCause = _
    split
    · exact get_setFld_ne (by decide)
    · rfl
  rw [e2, e1, e0]

theorem resetWith_tb (cause : Nat) (c : Chip) : (c.resetWith cause).tb = { frame := if cause == 6 then c.tb.frame else 0 } := by
  unfold resetWith
  extract_lets keep s1 s2 s3 s4 fresh s5 c0 c1 c2
  have e2 : c2.tb = c0.tb := by show (if _ then _ else _ : Chip).tb = _; split <;> rfl
  unfold doIf
  split <;> exact e2

theorem resetWith_win (cause : Nat) (c : Chip) : (c.resetWith cause).win = resetWindow cause c.win := by
  unfold resetWith
  extract_lets keep s1 s2 s3 s4 fresh s5 c0 c1 c2
  have e2 : c2.win = c0.win := by show (if _ then _ else _ : Chip).win = _; split <;> rfl
  unfold doIf
  split <;> exact e2

theorem resetWith_outs (cause : Nat) (c : Chip) : (c.resetWith cause).outs = {} := by
  unfold resetWith
  extract_lets keep s1 s2 s3 s4 fresh s5 c0 c1 c2
  have e2 : c2.outs = c0.outs := by show (if _ then _ else _ : Chip).outs = _; split <;> rfl
  unfold doIf
  split <;> exact e2

end Sys2Proof.Machine.Chip
end

