-- ==== Sys2Proof/Laws/Writes.lean ====
section
/-!
SUPPORT. Which registers an operation writes: `RegsOnly rs b c` followed through one operation after the other, from `b` on.
-/

namespace Sys2Proof.Machine

theorem RegsOnly.rfl {l : List Nat} {c : Chip} : RegsOnly l c c := fun _ _ => Eq.refl _

theorem RegsOnly.trans {l : List Nat} {b c d : Chip} (h : RegsOnly l b c) (h' : RegsOnly l c d) : RegsOnly l b d :=
  fun a ha => (h' a ha).trans (h a ha)

theorem RegsOnly.put {l : List Nat} {a : Nat} {v : DWord} {b c : Chip} (ha : a ∈ l) (h : RegsOnly l b c) :
    RegsOnly l b (c.put a v) := fun r hr => (Chip.get_put_ne fun e => hr (by rw [e]; exact ha)).trans (h r hr)

theorem RegsOnly.setFld {l : List Nat} {f : Fld} {n : Nat} {b c : Chip} (ha : f.reg ∈ l) (h : RegsOnly l b c) :
    RegsOnly l b (c.setFld f n) := .put ha h

theorem RegsOnly.setFlag {l : List Nat} {f : Fld} {x : Bool} {b c : Chip} (ha : f.reg ∈ l) (h : RegsOnly l b c) :
    RegsOnly l b (c.setFlag f x) := .put ha h

theorem RegsOnly.incFld {l : List Nat} {f : Fld} {b c : Chip} (ha : f.reg ∈ l) (h : RegsOnly l b c) :
    RegsOnly l b (c.incFld f) := .put ha h

theorem RegsOnly.addFld {l : List Nat} {f : Fld} {n : Nat} {b c : Chip} (ha : f.reg ∈ l) (h : RegsOnly l b c) :
    RegsOnly l b (c.addFld f n) := .put ha h

theorem RegsOnly.addReg {l : List Nat} {a n : Nat} {b c : Chip} (ha : a ∈ l) (h : RegsOnly l b c) :
    RegsOnly l b (c.addReg a n) := .put ha h

theorem RegsOnly.setBit {l : List Nat} {a i : Nat} {x : Bool} {b c : Chip} (ha : a ∈ l) (h : RegsOnly l b c) :
    RegsOnly l b (c.setBit a i x) := .put ha h

theorem RegsOnly.fault {l : List Nat} {code unit detail : Nat} {b c : Chip} (ha : R.faultCounts ∈ l) (h : RegsOnly l b c) :
    RegsOnly l b (c.fault code unit detail) :=
  fun r hr => (Chip.get_fault _ _ _ _ fun e => hr (by rw [e]; exact ha)).trans (h r hr)

theorem RegsOnly.faultStanding {l : List Nat} {code unit detail : Nat} {b c : Chip} (ha : R.faultCounts ∈ l)
    (h : RegsOnly l b c) : RegsOnly l b (c.faultStanding code unit detail) :=
  fun r hr => (Chip.get_faultStanding _ _ _ _ fun e => hr (by rw [e]; exact ha)).trans (h r hr)

theorem RegsOnly.same {l : List Nat} {b c d : Chip} (e : d.regs = c.regs) (h : RegsOnly l b c) : RegsOnly l b d :=
  fun r hr => (Chip.get_of_regs e r).trans (h r hr)

theorem RegsOnly.ite {l : List Nat} {p : Prop} [Decidable p] {b c d : Chip} (h : RegsOnly l b c) (h' : RegsOnly l b d) :
    RegsOnly l b (if p then c else d) := by split <;> assumption

theorem RegsOnly.doIf {l : List Nat} {p : Bool} {f : Chip → Chip} {b c : Chip} (hf : ∀ d, RegsOnly l d (f d))
    (h : RegsOnly l b c) : RegsOnly l b (c.doIf p f) := by
  unfold Chip.doIf; split
  · exact h.trans (hf c)
  · exact h

theorem RegsOnly.foldl {α : Type} {l : List Nat} {x : List α} {f : Chip → α → Chip} {b c : Chip}
    (hf : ∀ d y, RegsOnly l d (f d y)) (h : RegsOnly l b c) : RegsOnly l b (x.foldl f c) := by
  induction x generalizing c with
  | nil => exact h
  | cons y x ih => exact ih (h.trans (hf c y))

theorem RegsOnly.storeMasked {l : List Nat} {a : Nat} {v : DWord} {b c : Chip} (ha : a ∈ l) (h : RegsOnly l b c) :
    RegsOnly l b (c.storeMasked a v) := by
  unfold Chip.storeMasked; split
  · exact .put ha h
  · exact h

theorem RegsOnly.raise {l : List Nat} {x : Nat} {b c : Chip} (h : RegsOnly l b c) : RegsOnly l b (c.raise x) :=
  .same (Eq.refl _) h

theorem RegsOnly.journal {l : List Nat} {x : JCause} {b c : Chip} (h : RegsOnly l b c) : RegsOnly l b (c.journal x) :=
  .same (Eq.refl _) h

theorem RegsOnly.useFree {l : List Nat} {b c : Chip} (h : RegsOnly l b c) : RegsOnly l b c.useFree := .same (Eq.refl _) h

theorem RegsOnly.answer {l : List Nat} {v : Word} {b c : Chip} (h : RegsOnly l b c) : RegsOnly l b (c.answer v) :=
  .same (Eq.refl _) h

end Sys2Proof.Machine
end

