-- ==== Sys2Proof/Laws/Runs.lean ====
section
/-!
SUPPORT. How a command's effect on the block is reached: the host bus while it serves accesses, the unlock window, a mailbox
command, a diagnostic request.
-/

namespace Sys2Proof.Machine

/-- A command completes with what its effect on the block leaves. -/
theorem runs_of {i : Instr} {s : State} {f : Chip → Chip} {P : Chip → Prop} (he : exec i s = s.run f) (h : P (f s.chip)) :
    Runs i s P := ⟨_, he, rfl, h⟩

theorem runs_chip {i : Instr} {s : State} {x : Chip} {P : Chip → Prop} (he : exec i s = .next { s with chip := x }) (h : P x) :
    Runs i s P := ⟨_, he, rfl, h⟩

theorem Runs.mono {i : Instr} {s : State} {P Q : Chip → Prop} (h : Runs i s P) (hq : ∀ d, P d → Q d) : Runs i s Q := by
  obtain ⟨t, ht, hp, hd⟩ := h
  exact ⟨t, ht, hp, hq _ hd⟩

/-- A command completes with its frame. -/
theorem Runs.frame {i : Instr} {s : State} {m : Nat} {l : List Comp} {P : Chip → Prop} (h : Runs i s P)
    (hk : RunsKept m s (exec i s)) (hm : (Comp.all.all fun k => l.contains k || !m.testBit k.bit) = true) :
    Runs i s fun d => P d ∧ ChangesOnly l s.chip d := by
  obtain ⟨t, ht, hp, hd⟩ := h
  obtain ⟨u, hu, -, hk⟩ := hk
  rw [ht] at hu; cases hu
  exact ⟨t, ht, hp, hd, .of_kept hk hm⟩

/-- A command completes with its frame, given what it leaves and what that wrote. -/
theorem RunsIn.of {i : Instr} {s : State} {m : Nat} {l : List Comp} {rs : List Nat} {P : Chip → Prop} {x : Chip}
    (he : exec i s = .next { s with chip := x }) (hk : RunsKept m s (exec i s))
    (hm : (Comp.all.all fun k => l.contains k || !m.testBit k.bit) = true) (hr : RegsOnly rs s.chip x) (h : P x) :
    RunsIn i s l rs P :=
  ((runs_chip (P := fun d => P d ∧ RegsOnly rs s.chip d) he ⟨h, hr⟩).frame hk hm).mono fun _ h => ⟨h.1.1, h.1.2, h.2⟩

/-- The same, with the block the command leaves worked out first. -/
theorem RunsIn.at {i : Instr} {s : State} {m : Nat} {l : List Comp} {rs : List Nat} {P : Chip → Prop} {x y : Chip}
    (he : exec i s = .next { s with chip := y }) (hk : RunsKept m s (exec i s))
    (hm : (Comp.all.all fun k => l.contains k || !m.testBit k.bit) = true) (e : y = x) (hr : RegsOnly rs s.chip x)
    (h : P x) : RunsIn i s l rs P := by
  subst e
  exact .of he hk hm hr h

/-- A command completes with what it leaves, whose frame is read off it. -/
theorem RunsIn.is {i : Instr} {s : State} {l : List Comp} {rs : List Nat} {P : Chip → Prop} {x y : Chip}
    (he : exec i s = .next { s with chip := y }) (e : y = x) (hc : ChangesOnly l s.chip x) (hr : RegsOnly rs s.chip x)
    (h : P x) : RunsIn i s l rs P := by
  subst e
  exact runs_chip he ⟨h, hr, hc⟩

/-- The same, with the registers by name. -/
theorem RunsBy.at {i : Instr} {s : State} {m n : Nat} {l : List Comp} {rs : List RegName} {P : Chip → Prop} {y : Chip}
    (he : exec i s = .next { s with chip := y }) (hk : RunsKept m s (exec i s))
    (hm : (Comp.all.all fun k => l.contains k || !m.testBit k.bit) = true) (h31 : m.testBit 31 = false)
    (hl : rs.foldl (fun m r => m ||| 2 ^ (32 + r.ctorIdx)) 0 = n) (hr : m >>> 32 &&& n >>> 32 = m >>> 32) (h : P y) :
    RunsBy i s l rs P := by
  obtain ⟨u, hu, -, hk⟩ := hk
  rw [he] at hu; cases hu
  exact runs_chip he ⟨h, .of_kept hk h31 hl hr, .of_kept hk hm⟩

theorem NoEffect.at {i : Instr} {s : State} {y : Chip} (he : exec i s = .next { s with chip := y }) (e : y = s.chip) : NoEffect i s :=
  runs_chip he e

namespace Chip

theorem hostWrite_open {c : Chip} {f : Chip → Chip} (h : c.busOpen = true) : c.hostWrite f = f c := by
  unfold hostWrite; rw [if_pos h]

theorem hostWrite_closed {c : Chip} {f : Chip → Chip} (h : c.busOpen = false) : c.hostWrite f = c := by
  unfold hostWrite; rw [if_neg (by simp [h])]

theorem hostRead_open {c : Chip} {f : Chip → Nat × Chip} (h : c.busOpen = true) :
    c.hostRead f = (f c).2.answer (BitVec.ofNat 16 (f c).1) := by unfold hostRead; rw [if_pos h]

theorem hostRead_closed {c : Chip} {f : Chip → Nat × Chip} (h : c.busOpen = false) : c.hostRead f = c.answer 0 := by
  unfold hostRead; rw [if_neg (by simp [h])]

theorem useUnlock_open {c : Chip} (h : 0 < c.bus.openTicks) :
    c.useUnlock = (true, { c with bus := { c.bus with openTicks := 0 } }) := by unfold useUnlock; rw [if_pos h]

theorem useUnlock_closed {c : Chip} (h : c.bus.openTicks = 0) : c.useUnlock = (false, c.incFld F.devUnlock_REJECT_COUNT) := by
  unfold useUnlock; rw [if_neg (by omega)]

theorem doIf_true {f : Chip → Chip} (c : Chip) : c.doIf true f = f c := rfl

theorem doIf_false {f : Chip → Chip} (c : Chip) : c.doIf false f = c := rfl

theorem busOpen_setFlag {f : Fld} {b : Bool} {c : Chip} (h : c.RegOk) (hf : f.ok = true)
    (hd : f.apart F.pwrState_STATE = true) : (c.setFlag f b).busOpen = c.busOpen := by
  unfold busOpen; rw [fld_setFlag_ne h hf hd]; rfl

end Chip

end Sys2Proof.Machine
end

