-- ==== Sys2Proof/WellFormed.lean ====
section
/-!
DEFINITION. Well-formed commands: the ranges that the spec gives their operands beyond what the operand types say.
-/

namespace Sys2Proof

/-- What is wrong with a command's operands. -/
inductive IllFormed where
  /-- A frame of 199 to 201 CCLK cycles has at most 26 BCLK edges, 8 cycles to an edge (R38, R51). -/
  | bclkCount
  /-- A wrong key of DEV_UNLOCK is none of its two keys (R80). -/
  | rightKey
  /-- The bus addresses aligned 16-bit words (R63). -/
  | oddAddress
  /-- A wake event has one of the codes 1 to 7 (R503). -/
  | noWakeCode
  /-- The interrupt sources are 1 to 62 (R428). -/
  | noSource
  /-- The quotas that a ring master grants come to at most 30 (R550). -/
  | quotaPool
  /-- A standard CAN identifier has 11 bits (R637). -/
  | standardId
  /-- A CAN FD frame is no remote frame, and only a CAN FD frame has a bit-rate switch (R637). -/
  | canFormat
  /-- The data bytes of a CAN frame are as many as its data length code says (R645). -/
  | dataLength
  /-- A scan of the boundary register loads as many cells as it samples (R749). -/
  | scanLength
  deriving DecidableEq, Repr

/-- The data bytes that a data length code stands for; 9 to 15 stand for 12 to 64 in a CAN FD frame and for 8 in a classic one. -/
def dlcLength (fdf : Bool) (dlc : Nat) : Nat :=
  if dlc ≤ 8 then dlc
  else if !fdf then 8
  else match dlc with
    | 9 => 12
    | 10 => 16
    | 11 => 20
    | 12 => 24
    | 13 => 32
    | 14 => 48
    | _ => 64

/-- What is wrong with a CAN frame. -/
def CanFrame.check (f : CanFrame) : Option IllFormed :=
  if !f.ide && decide (2 ^ 11 ≤ f.id.toNat) then some .standardId
  else if (f.rtr && f.fdf) || (f.brs && !f.fdf) then some .canFormat
  else if f.data.length ≠ (if f.rtr then 0 else dlcLength f.fdf f.dlc.val) then some .dataLength
  else none

/-- What is wrong with a scan of the boundary register. -/
def DrScan.check : Option DrScan → Option IllFormed
  | some x => if x.sampled.length = x.loaded.length then none else some .scanLength
  | none => none

/-- What is wrong with an access. -/
def HostAccess.check : HostAccess → Option IllFormed
  | .readRegister a => if a.getLsbD 0 then some .oddAddress else none
  | .readWindow _ => none
  | .write a _ => if a.getLsbD 0 then some .oddAddress else none

/-- What is wrong with a command, if anything. -/
def Instr.check : Instr → Option IllFormed
  | .frameTick t => if t.bclk ≤ 26 then none else some .bclkCount
  | .unlockWrongKey data => if data = 0xC35A#16 ∨ data = 0x3CA5#16 then some .rightKey else none
  | .registerWrite a _ _ _ _ => if a.getLsbD 0 then some .oddAddress else none
  | .hostAccessAbort access => access.check
  | .sourceEventFlush x => if x.val = 0 ∨ x.val = 63 then some .noSource else none
  | .wake code => if code.val = 0 then some .noWakeCode else none
  | .ringCycleStart _ grants => if (grants.map fun g => g.quota.val).sum ≤ 30 then none else some .quotaPool
  | .canFrameReceive f => f.check
  | .extest scan => DrScan.check scan
  | .samplePreload scan => DrScan.check scan
  | .powerOnReset _ | .brownout | .pinReset | .softReset | .lockstepReset | .clockLossReset | .thermalReset | .retainWake
  | .resetRelease | .bootComplete _ | .clockFallback | .clockRestored | .debugHalt | .debugResume | .frameOverrunPersist
  | .commitTakeEffect | .blockReturnTakeEffect | .outputEdgeExecute | .timeModeEndDue _ | .windowWrite _ _ _ _
  | .windowRead _ | .scrubberRead _ | .angleLRead _ | .frameCountLRead | .portDataLWrite _ | .portCommit _ _
  | .remoteWritePost _ _ | .portRead | .unlockFirstKey | .unlockSecondKey | .unlockWindowExpire | .blockTake _
  | .blockReturn _ _ | .ownViolCountRead | .irqAnomalyCountRead | .timeSnapshot _ | .ltrWrite _ | .invalBlock _ _
  | .schedControlWrite _ _ | .ringAddrWrite _ | .testPortDisable | .journalInfo | .journalRead | .journalNote | .powerOff
  | .ringSetTime | .calApply | .calApplyTick | .calRaiseFloor | .keyPurge _ | .serviceGet | .servicePut | .serviceForward
  | .tagUpdate | .mailboxComplete | .irqClaim _ | .irqComplete _ _ | .irqSetPend _ | .irqPendClr _ _ | .supSourceClaim
  | .faultAck _ | .safeNFall | .safeNRise | .forceF3 | .armRequest _ | .disarmRequest _ | .watchdogEnable _ | .wdtKick _
  | .watchdogExpired | .journalWrite _ _ | .journalAllowanceRegain | .hours | .wheelEdge _ _ _ _ _ _ | .edgeTakeIn _
  | .vrThresholdDecay _ | .wheelNoSignal _ | .stallTimeout | .drLimitReached | .snapshotTimeout | .bankGrant _ _
  | .bankWaitTimeout _ _ | .boostThresholdReached _ _ | .boostTimeLimit _ _ _ | .transitionEnd _ _ _ | .holdChop _ _ _
  | .injHoldLost _ _ | .injOvercurrent _ | .injIdleCurrent _ _ | .bankTripClear _ _ | .injEnableCommit _
  | .valvePullEnd _ _ | .valveStartDelayEnd _ _ | .valveOpen _ | .valveShort _ _ | .shortLatchClear _ | .timerMatch _
  | .timerOverflow _ | .timerPinCapture _ _ _ _ | .chValueCommit _ _ _ | .chCtrlCommit _ _ _ | .tuCfgCommit _ _ _
  | .timerSnap _ | .tioSelCommit _ _ | .convWindowOpen _ | .convWindowClose _ _ _ | .timeWindowComplete _ _ _
  | .pendingWindowStart _ _ | .pendingWindowExpire _ _ | .windowTruncate _ _ _ | .convSyncApply _ | .decimatorOutput _ _ _ _
  | .convStart _ | .convSync _ | .ringTailCommit _ _ | .monitorBurst | .vbatBandChange _ | .holdupUpdate _ _
  | .boostChargeControl _ | .boostStartTimeout _ | .boostOvercurrent _ | .boostOcPauseEnd | .railOutOfReg _ | .powerStateChange
  | .deferredEntry | .wakeDwellEnd _ | .keyInChange _ | .keyoffDelayExpire _ | .beaconReceive _ _ _ _ | .cycleReturn _ _ _
  | .snapshotReceive _ _ _ | .statusEntryReceive _ _ _ | .writeMessage _ _ | .nackMessage _ | .confirmMessage _
  | .joinMessage _ | .joinAckMessage _ | .leaveMessage _ | .hostMessage _ | .cellReturned _ | .outboundEntrySend
  | .outboundDelivered _ | .ringRxTailCommit _ | .remoteWriteExpire _ | .remoteWriteJudge _ | .ringMasterLost
  | .masterElection _ | .ringBroken | .ringJoinFailed | .joinRetry | .ringFound _ | .insertEnable | .ringLeave
  | .twinFrameReceive _ _ _ | .twinLinkLost | .mirrorBlock | .mirrorCommit | .mirrorDirect | .mirrorApply
  | .mirrorGroupTakeIn | .capturePacket | .captureApply | .hello | .twinEnable _ _ | .twinIsolate _ _ | .twinRejoin _ _
  | .foundingClaim _ _ | .plannedHandover _ _ | .handoverExecute | .twinTakeover | .twinOwnerCollision | .cipherStart _
  | .gcmEncrypt _ | .gcmDecrypt _ | .ctr _ | .cmacGenerate _ | .cmacVerify _ | .derive _ | .unwrap _ | .cipherErase _ _
  | .keyAlarm _ _ | .alarmLatchClear _ | .mbTxRequest _ _ | .mbTxAbort _ _ _ | .canTxComplete _ | .mbFullClear _ _
  | .canCfgCommit _ | .canBusOff | .canBusoffRecovery | .singleFrame | .firstFrame | .consecutiveFrame | .flowControl
  | .isotpTimeout _ | .diagnosticSessionControl | .ecuReset | .clearDiagnosticInformation _ | .reportNumberOfDtcByStatusMask
  | .reportDtcByStatusMask | .reportDtcSnapshotRecord | .reportDtcExtendedDataRecord | .readDataByIdentifier
  | .writeDataByIdentifier | .requestSeed | .sendKey _ | .securityDelayEnd | .communicationControl | .routineJournalRead
  | .tagRefresh | .routineKeyPurge _ | .testerPresent | .controlDtcSetting _ | .unsupportedService | .forwardedRequest
  | .forwardTimeout _ | .responsePending | .sessionTimeout | .tagPumpReady | .tagDrivePhaseEnd | .tagJournalDone _ _ _
  | .tagFailed | .tagRecoveryStart | .tagSkipped | .tagDueRecompute | .tapReset | .idcode | .bypass | .mbxDoorbell
  | .supervisorCommitTakeIn _ _ _ | .railInRegulation _ | .canBusError _ _ _ | .stminElapsed _ | .valveOpenClear _
  | .valvePwmTransition _ _ => none

/-- The command is well-formed. -/
def Instr.wellFormed (i : Instr) : Bool := i.check.isNone

end Sys2Proof
end

