-- ==== Sys2Proof/Tests/Slice0.lean ====
section
/-!
SUPPORT. The author's own tests. An ill-formed command for every check of WellFormed is refused by its name; a few single steps give values that
the spec's tables and examples state; and for every statement with hypotheses, states that meet them: a `witness_` theorem lists, for
the statement of its name, one block for each clause, with the clause's hypotheses, at a boundary value where the hypothesis is a range.
-/

namespace Sys2Proof.Tests

open Sys2Proof.Machine

-- Checked one after the other: theorems checked at the same time hold their memory at the same time.
set_option Elab.async false

/-! ## Well-formedness -/

/-- A CAN frame with standard format and no data. -/
def bareFrame : CanFrame := { id := 0x7FF, ide := false, rtr := false, fdf := false, brs := false, esi := false, dlc := 0, data := [] }

theorem test_bclkCount : Instr.check (.frameTick { bclk := 27 }) = some .bclkCount ∧
    Instr.wellFormed (.frameTick { bclk := 26 }) = true := by decide
theorem test_rightKey : Instr.check (.unlockWrongKey 0x3CA5) = some .rightKey := by decide
theorem test_oddAddress : Instr.check (.registerWrite 0x59 0 true true false) = some .oddAddress ∧
    Instr.check (.hostAccessAbort (.readRegister 0x2B)) = some .oddAddress := by decide
theorem test_noWakeCode : Instr.check (.wake 0) = some .noWakeCode := by decide
theorem test_noSource : Instr.check (.sourceEventFlush 0) = some .noSource ∧ Instr.check (.sourceEventFlush 63) = some .noSource ∧
    Instr.wellFormed (.sourceEventFlush 62) = true := by decide
theorem test_quotaPool : Instr.check (.ringCycleStart 0 [⟨1, 30, none, none⟩, ⟨2, 1, none, none⟩]) = some .quotaPool := by decide
theorem test_standardId : Instr.check (.canFrameReceive { bareFrame with id := 0x800 }) = some .standardId := by decide
theorem test_canFormat : Instr.check (.canFrameReceive { bareFrame with brs := true }) = some .canFormat := by decide
theorem test_dataLength : Instr.check (.canFrameReceive { bareFrame with dlc := 1 }) = some .dataLength ∧
    Instr.wellFormed (.canFrameReceive { bareFrame with dlc := 9, fdf := true, data := List.replicate 12 0 }) = true := by decide
theorem test_scanLength : Instr.check (.extest (some { sampled := [true], loaded := [] })) = some .scanLength := by decide

/-! ## Helpers -/

/-- The state with a block and an empty queue. -/
def st (c : Chip) : State := { chip := c, pending := [] }

/-- The block after a command. -/
def after (i : Instr) (c : Chip) : Chip :=
  match exec i (st c) with
  | .next t => t.chip
  | _ => c

/-- The block with fields at values. -/
def fl (l : List (Fld × Nat)) (c : Chip) : Chip := l.foldl (fun d x => d.setFld x.1 x.2) c

/-- A block whose frame runs and that is READY, in RUN, right after reset otherwise. -/
def live : Chip := { fl [(F.devStatus_READY, 1), (F.devStatus_SUP_RUN, 1)] State.reset.chip with
  tb := { State.reset.chip.tb with running := true } }

/-- The same with the unlock window open. -/
def unlocked : Chip := { live with bus := { live.bus with openTicks := 100 } }

/-- The block with an error of a window word. -/
def withEcc (l : List (Nat × EccErr)) : Chip := { live with win := { live.win with ecc := l } }

/-- A key of a role, for every use. -/
def key (role : Nat) : Key := { bytes := (List.range 16).map (BitVec.ofNat 8), role := role, usage := 63, origin := 1 }

/-- The block with keys in slots. -/
def keyed (l : List (Nat × Key)) (c : Chip) : Chip :=
  { c with cipher := { c.cipher with slots := l.foldl (fun v x => modAt v x.1 fun _ => some x.2) c.cipher.slots } }

/-- The invariant, as it is checked on a block. -/
def sound (c : Chip) : Bool :=
  Sparse.wf regReset c.regs && Memory.wf c.win.mem && c.win.taken.all Chip.transferable &&
    c.win.returning.all (fun r => Chip.transferable r.1 && !c.win.taken.contains r.1)

theorem inv_of {c : Chip} (h : sound c = true) : (st c).Inv := by
  simp only [sound, Bool.and_eq_true, List.all_eq_true] at h
  obtain ⟨⟨⟨h1, h2⟩, h3⟩, h4⟩ := h
  refine ⟨h1, h2, h3, fun r hr => (h4 r hr).1, fun r hr hc => ?_⟩
  have h5 := (h4 r hr).2
  simp only [Bool.not_eq_true', List.contains_eq_mem, decide_eq_false_iff_not] at h5
  exact h5 hc

/-- A slot of the fault queue is free. -/
def roomy (c : Chip) : Bool := Chip.slots.any fun k => !c.slotUsed k

theorem hasFreeSlot_of {c : Chip} (h : roomy c = true) : c.hasFreeSlot := by
  simpa [roomy, Chip.hasFreeSlot] using h

/-- A block with hypotheses of it. -/
abbrev Case := Chip × (Chip → List Bool)

/-- Every block of the list is sound and meets its hypotheses. -/
def All (l : List Case) : Prop := ∀ x ∈ l, (st x.1).Inv ∧ ∀ b ∈ x.2 x.1, b = true

/-- The same, as it is checked. -/
def met (l : List Case) : Bool := l.all fun x => sound x.1 && (x.2 x.1).all id

theorem all_of {l : List Case} (h : met l = true) : All l := by
  intro x hx
  have h1 := List.all_eq_true.1 h x hx
  simp only [Bool.and_eq_true, List.all_eq_true, id_eq] at h1
  exact ⟨inv_of h1.1, h1.2⟩

/-! ## Single steps with values that the spec states -/

/-- R79, R80: the two keys open the window for 100 ticks. -/
theorem test_unlock : (after .unlockSecondKey (after .unlockFirstKey live)).bus.openTicks = 100 ∧
    (after .unlockSecondKey live).bus.openTicks = 0 := by decide
/-- R112, R118: a word of a block that the host took reads back, and without the block it stays. -/
theorem test_window :
    (after (.windowRead 0x1400) (after (.windowWrite 0x1400 0xBEEF true true) (after (.blockTake 40) live))).bus.read = 0xBEEF ∧
      (after (.windowRead 0x1400) (after (.windowWrite 0x1400 0xBEEF true true) live)).bus.read = 0 := by decide
/-- R81: SCRATCH_A stands at 0x058. -/
theorem test_scratch : (after (.registerWrite 0x58 0x1234 true true false) live).get R.scratchA = 0x1234 := by decide
/-- R81, R256: reset values of the maps. -/
theorem test_resetValues : State.reset.chip.get 0x20 = 0x0003 ∧ State.reset.chip.get 0x42 = 0x005A ∧
    State.reset.chip.get 0x50 = 0x0320 ∧ State.reset.chip.get 0x54 = 0xFFFF := by decide +kernel
/-- R672: the reset value of CAN_CFG. -/
theorem test_resetCanCfg : State.reset.chip.get 0x070000 = 0x102F := by decide +kernel
/-- R748: the identification of both parts. -/
theorem test_idcode : State.reset.chip.idcode = 0x186209CB#32 ∧
    ({ State.reset.chip with part := .lb8612 } : Chip).idcode = 0x186129CB#32 := by decide
/-- R754: the check values over the nine ASCII bytes of 1 to 9. -/
theorem test_crc : crc16 [0x31, 0x32, 0x33, 0x34, 0x35, 0x36, 0x37, 0x38, 0x39] = 0x29B1 ∧
    crc8 [0x31, 0x32, 0x33, 0x34, 0x35, 0x36, 0x37, 0x38, 0x39] = 0xF4 := by decide +kernel
/-- R675: the voltages of the segments and of the valid mark in the phases of an update. -/
theorem test_segments : ((fl [(F.tagStatus_PHASE, 2)] live).segmentVolts 27) = -15 ∧
    ((fl [(F.tagStatus_PHASE, 5)] live).segmentVolts 27) = 15 ∧ (live.segmentVolts 0) = 0 := by decide
/-- R604: the example of FIPS 197, C.1. -/
theorem test_aes : Aes.encrypt ((List.range 16).map (BitVec.ofNat 8)) ((List.range 16).map fun i => BitVec.ofNat 8 (17 * i)) =
    [0x69, 0xC4, 0xE0, 0xD8, 0x6A, 0x7B, 0x04, 0x30, 0xD8, 0xCD, 0xB7, 0x80, 0x70, 0xB4, 0xC5, 0x5A] := by decide +kernel
/-- A step takes the front command and leaves the rest of the queue. -/
theorem test_step : step { chip := live, pending := [.unlockFirstKey, .portRead] } =
    .next { chip := after .unlockFirstKey live, pending := [.portRead] } := by rfl

/-! ## Witnesses: the machine and its resets -/

theorem witness_AnEmptyQueueIdles : State.reset.pending = [] := rfl

theorem witness_InvKept : (st live).Inv ∧
    step { chip := live, pending := [.unlockFirstKey] } = .next (st (after .unlockFirstKey live)) :=
  ⟨inv_of (by decide), rfl⟩

/-- In RETAIN, with an accepted wake event. -/
def retained : Chip := { fl [(F.pwrState_STATE, 3)] live with power := { live.power with wakeCode := some 1 } }

theorem witness_ResetsSetTheirCause : All [
    (State.reset.chip, fun c => [!c.power.isOff]),
    (unlocked, fun c => [c.busOpen, decide (0 < c.bus.openTicks)]),
    (retained, fun c => [c.fld F.pwrState_STATE == 3, c.power.wakeCode.isSome]),
    ({ live with power := { isOff := true } }, fun c => [c.power.isOff]),
    (live, fun c => [c.busOpen, c.bus.openTicks == 0, c.fld F.pwrState_STATE != 3]),
    (fl [(F.pwrState_STATE, 3)] live, fun c => [c.fld F.pwrState_STATE == 3, c.power.wakeCode.isNone])] :=
  all_of (by decide +kernel)

theorem witness_ResetsClearTheBlock : All [
    (live, fun c => [!c.power.isOff]),
    (unlocked, fun c => [c.busOpen, decide (0 < c.bus.openTicks)]),
    (retained, fun c => [c.fld F.pwrState_STATE == 3, c.power.wakeCode.isSome])] :=
  all_of (by decide +kernel)

theorem witness_ClockMonitorAndDebugPort : All [
    (live, fun c => [c.flag F.devStatus_XTAL_OK, roomy c]),
    (fl [(F.devStatus_XTAL_OK, 0)] live, fun c => [!c.flag F.devStatus_XTAL_OK, c.frameRuns, c.tb.qualLeft == 0, roomy c]),
    (fl [(F.pwrState_STATE, 2)] live, fun c => [!c.flag F.devControl_TEST_PORT_DIS, c.tb.running, decide (c.fld F.pwrState_STATE < 3),
      !c.can.resetAfter]),
    (fl [(F.devControl_TEST_PORT_DIS, 1)] live, fun c => [c.flag F.devControl_TEST_PORT_DIS]),
    (fl [(F.devStatus_READY, 0)] live, fun c => [!c.flag F.devControl_TEST_PORT_DIS, c.tb.running, !c.power.isOff,
      decide (c.fld F.pwrState_STATE < 3), !c.tag.ended, !c.ready, (c.keyAt 15).isNone]),
    (keyed [(15, key 1)] live, fun c => [!c.flag F.devControl_TEST_PORT_DIS, c.tb.running, !c.tag.ended, c.ready, (c.keyAt 15).isSome,
      !c.can.resetAfter]),
    ({ fl [(F.devStatus_XTAL_OK, 0)] live with tb := { live.tb with qualLeft := 1 } }, fun c => [c.frameRuns, c.tb.qualLeft != 0]),
    ({ live with can := { live.can with resetAfter := true } }, fun c => [!c.flag F.devControl_TEST_PORT_DIS, c.tb.running,
      decide (c.fld F.pwrState_STATE < 3), c.can.resetAfter, c.can.out.isEmpty, c.can.tx.isNone])] :=
  all_of (by decide +kernel)

/-! ## Witnesses: the host bus and the window -/

theorem witness_UnlockKeys : All [
    ({ live with bus := { live.bus with keyArmed := true } }, fun c => [c.busOpen, c.bus.keyArmed]),
    (live, fun c => [c.busOpen, !c.bus.keyArmed]),
    (State.reset.chip, fun c => [!c.busOpen]),
    ({ live with bus := { live.bus with openTicks := 1 } }, fun c => [c.frameRuns, decide (c.bus.openTicks ≤ 1)]),
    ({ live with bus := { live.bus with openTicks := 2 } }, fun c => [decide (1 < c.bus.openTicks)]),
    (State.reset.chip, fun c => [!c.frameRuns])] :=
  all_of (by decide +kernel)

/-- The block with block 10 the host's. -/
def holding : Chip := { live with win := { live.win with taken := [10] } }

theorem witness_WindowWrites : All [
    (live, fun c => [c.busOpen, c.hostOwned (63488 / 128), (Sparse.find? c.win.ecc 63488).isNone]),
    (holding, fun c => [c.busOpen, c.hostOwned (1280 / 128), (Sparse.find? c.win.ecc 1280).isNone]),
    (live, fun c => [c.busOpen, !c.hostOwned (63487 / 128)]),
    ({ withEcc [(1280, .single 21), (1407, .double 0 21)] with win := { (withEcc [(1280, .single 21), (1407, .double 0 21)]).win with taken := [10] } },
      fun c => [c.busOpen, roomy c, c.hostOwned (1280 / 128), Sparse.find? c.win.ecc 1280 == some (.single 21), c.hostOwned (1407 / 128),
        Sparse.find? c.win.ecc 1407 == some (.double 0 21)])] :=
  all_of (by decide +kernel)

theorem witness_WindowReads : All [
    (live, fun c => [c.busOpen, (Sparse.find? c.win.ecc 0).isNone, (Sparse.find? c.win.ecc 1).isNone]),
    ({ live with win := { live.win with latchTag := some 1 } }, fun c => [c.busOpen, c.win.latchTag == some 1]),
    (live, fun c => [c.busOpen, c.win.latchTag != some 65535, (Sparse.find? c.win.ecc 65535).isNone]),
    (withEcc [(1280, .single 21), (63489, .single 0), (65535, .double 0 21), (63486, .double 1 2)], fun c => [c.busOpen, roomy c,
      decide (0x500 ≤ 1280), c.win.latchTag.isNone, Sparse.find? c.win.ecc 1280 == some (.single 21),
      (Sparse.find? c.win.ecc 1281).isNone, Sparse.find? c.win.ecc 63489 == some (.single 0),
      Sparse.find? c.win.ecc 65535 == some (.double 0 21), Sparse.find? c.win.ecc 63486 == some (.double 1 2),
      (Sparse.find? c.win.ecc 63487).isNone])] :=
  all_of (by decide +kernel)

theorem witness_ScrubberReads : All [
    (live, fun c => [c.frameRuns, roomy c, (Sparse.find? c.win.ecc 0).isNone]),
    (withEcc [(63488, .single 0)], fun c => [c.frameRuns, roomy c, (Sparse.find? c.win.ecc 63488).isSome]),
    (withEcc [(63487, .single 21)], fun c => [c.frameRuns, roomy c, Sparse.find? c.win.ecc 63487 == some (.single 21)]),
    (withEcc [(255, .single 15)], fun c => [c.frameRuns, roomy c, Sparse.find? c.win.ecc 255 == some (.single 15)]),
    (withEcc [(256, .double 0 21)], fun c => [c.frameRuns, roomy c, Sparse.find? c.win.ecc 256 == some (.double 0 21)])] :=
  all_of (by decide +kernel)

theorem witness_OwnershipRequests : All [
    (live, fun c => [c.busOpen, Chip.transferable 10, !c.hostOwned 10, !c.takeRefused 10, !c.isReturning 10]),
    (holding, fun c => [c.busOpen, Chip.transferable 10, c.hostOwned 10]),
    (live, fun c => [c.busOpen, !Chip.transferable 495, c.hostOwned 496, !Chip.transferable 9]),
    (fl [(F.mbxStatus_BUSY, 1)] live, fun c => [c.busOpen, Chip.transferable 0, !c.hostOwned 0, c.takeRefused 0]),
    ({ live with win := { live.win with returning := [(455, 1)] } }, fun c =>
      [c.busOpen, Chip.transferable 455, !c.hostOwned 455, c.isReturning 455])] :=
  all_of (by decide +kernel)

theorem witness_ReturnsEndAtTheirTick : All [
    ({ live with win := { live.win with returning := [(10, 1), (11, 2), (0, 0)] } }, fun c => [c.frameRuns])] :=
  all_of (by decide +kernel)

theorem witness_LatchingAndClearingReads : All [(live, fun c => [c.busOpen])] := all_of (by decide +kernel)
theorem witness_AClosedBusServesNothing : All [(State.reset.chip, fun c => [!c.busOpen]),
    (fl [(F.pwrState_STATE, 3)] live, fun c => [!c.busOpen]),
    ({ live with power := { isOff := true } }, fun c => [!c.busOpen, c.power.isOff])] := all_of (by decide +kernel)

/-- The block with an extended address in PORT_ADDR. -/
def aimed (a : Nat) (c : Chip) : Chip := (c.put R.portAddrL (BitVec.ofNat 32 (a % 65536))).put R.portAddrH (BitVec.ofNat 32 (a / 65536))

/-- The port is aimed at a register of this node that can be written, and which a value writes without a refusal. -/
def writable (region : Nat) (v : DWord) (c : Chip) : Bool :=
  let a := c.portAddr % 2 ^ 23
  !(bitOf c.portAddr 31) && !(Chip.lateRegion a && !c.ready) && !c.absent a && regionOf a == region && !c.ruleRefuses a v.toNat &&
    match Chip.extRow? a with
    | some r => r.rw ||| r.w1c ||| r.wo != 0 && v &&& (r.ro ||| r.rc) == 0
    | none => false

theorem witness_PortCommits : All [
    (aimed (2 ^ 31 + R.monCfg) live, fun c => [c.busOpen, bitOf c.portAddr 31, bitsOf c.portAddr 30 23 == c.node]),
    (aimed R.cipherAlarm (fl [(F.devStatus_READY, 0)] live), fun c => [c.busOpen, Chip.lateRegion (c.portAddr % 2 ^ 23), !c.ready]),
    (aimed 4 live, fun c => [c.busOpen, !(bitOf c.portAddr 31), (Chip.extRow? (c.portAddr % 2 ^ 23)).isNone]),
    (aimed R.schedCycle live, fun c => [c.busOpen, match Chip.extRow? (c.portAddr % 2 ^ 23) with
      | some r => r.rw ||| r.w1c ||| r.wo == 0
      | none => false]),
    (aimed (R.chValue 3 3) (fl [(F.chCtrl_MODE 3 3, 2)] live), fun c => [c.busOpen, c.ruleRefuses (c.portAddr % 2 ^ 23) 0]),
    (aimed R.monCfg live, fun c => [c.busOpen, writable 2 0 c]),
    (aimed (R.chInterval 0 0) live, fun c => [c.busOpen, writable 1 0xFFFFFFFF c]),
    (aimed R.cipherErase live, fun c => [c.busOpen, writable 6 0 c]),
    (aimed R.irqThresh live, fun c => [c.busOpen, writable 5 0xFF c]),
    ({ aimed (R.injCh 12) live with part := .lb8612 }, fun c => [c.busOpen, !(bitOf c.portAddr 31), c.absent (c.portAddr % 2 ^ 23),
      !Chip.lateRegion (c.portAddr % 2 ^ 23)]),
    (aimed R.boostCtrl live, fun c => [c.busOpen, writable 9 0 c]),
    (aimed R.boostStatus live, fun c => [c.busOpen, !c.ruleRefuses (c.portAddr % 2 ^ 23) 0xFFFFFFFF, match Chip.extRow? (c.portAddr % 2 ^ 23) with
      | some r => r.rw ||| r.w1c ||| r.wo != 0 && r.ro ||| r.rc != 0
      | none => false])] :=
  all_of (by decide +kernel)

/-- The block inserted in the ring, with a message queue. -/
def inserted (n : Nat) : Chip := { fl [(F.ringStatus_LINK, 3), (F.ringJoinStatus_QUOTA, 4)] live with
  ring := { live.ring with tx := List.replicate n { bytes := [], entry := none } } }

theorem witness_RemoteWrites : All [
    (aimed (2 ^ 31 + 2 ^ 23 + R.monCfg) live, fun c =>
      [c.busOpen, bitOf c.portAddr 31, bitsOf c.portAddr 30 23 != c.node, c.link != 3]),
    (aimed (2 ^ 31 + 255 * 2 ^ 23 + R.monCfg) (inserted 31), fun c =>
      [c.busOpen, bitOf c.portAddr 31, bitsOf c.portAddr 30 23 != c.node, c.link == 3, decide (c.ring.tx.length < 32)]),
    (aimed (2 ^ 31 + 2 ^ 23 + R.monCfg) (inserted 32), fun c =>
      [c.busOpen, bitOf c.portAddr 31, bitsOf c.portAddr 30 23 != c.node, c.link == 3, decide (32 ≤ c.ring.tx.length)])] :=
  all_of (by decide +kernel)

theorem witness_PortReads : All [
    (aimed (2 ^ 31 + R.monCfg) live, fun c => [c.busOpen, bitOf c.portAddr 31]),
    (aimed R.cipherAlarm (fl [(F.devStatus_READY, 0)] live), fun c => [c.busOpen, Chip.lateRegion (c.portAddr % 2 ^ 23), !c.ready]),
    (aimed 4 live, fun c => [c.busOpen, (Chip.extRow? (c.portAddr % 2 ^ 23)).isNone]),
    (aimed R.convCounts live, fun c =>
      [c.busOpen, !(bitOf c.portAddr 31), !Chip.lateRegion (c.portAddr % 2 ^ 23), (Chip.extRow? (c.portAddr % 2 ^ 23)).isSome]),
    (aimed R.cacheStatus live, fun c => [c.busOpen, !(bitOf c.portAddr 31), !Chip.lateRegion (c.portAddr % 2 ^ 23),
      c.portAddr % 2 ^ 23 == R.cacheStatus])] :=
  all_of (by decide +kernel)

theorem witness_WritesThatWaitForATick : All [
    (unlocked, fun c => [c.busOpen, decide (0 < c.bus.openTicks)]), (live, fun c => [c.busOpen, c.bus.openTicks == 0])] :=
  all_of (by decide +kernel)

theorem witness_RegisterWrites : All [(live, fun c => [c.busOpen])] := all_of (by decide +kernel)

theorem witness_ProtectedAndToleranceWrites : All [
    (fl [(F.pwrState_STATE, 1)] live, fun c => [decide (c.fld F.pwrState_STATE < 2), !c.power.isOff, c.tb.running,
      !c.power.offEntry]),
    (unlocked, fun c => [c.busOpen, !c.flag F.devControl_TEST_PORT_DIS, decide (0 < c.bus.openTicks), !c.flag F.ringAddr_CONFIGURED]),
    (live, fun c => [c.busOpen, !c.flag F.devControl_TEST_PORT_DIS, c.bus.openTicks == 0, !c.flag F.ringAddr_CONFIGURED]),
    (fl [(F.devControl_TEST_PORT_DIS, 1)] live, fun c => [c.busOpen, c.flag F.devControl_TEST_PORT_DIS]),
    (fl [(F.ringAddr_CONFIGURED, 1), (F.ringAddr_NODE, 255)] live, fun c =>
      [c.busOpen, c.flag F.ringAddr_CONFIGURED, c.fld F.ringAddr_NODE == 255]),
    ({ (fl [(F.pwrCfg_OFF_EN, 1), (F.pwrStatus_FLOOR_DWELL, 0)] live).put R.ltr 35000 with power := { keyOff := true, offEntry := true } }, fun c => [
      decide (c.fld F.pwrState_STATE < 2), !c.power.isOff, c.tb.running, c.power.offEntry, c.chosenState == 4])] :=
  all_of (by decide +kernel)

/-! ## Witnesses: faults, interrupts, journal, mailbox -/

theorem witness_SafeStops : All [
    (live, fun c => [roomy c, c.flt.safeN, c.busOpen]),
    (after .safeNFall live, fun c => [roomy c, !c.flt.safeN,
      (Chip.slots.filter fun k => c.slotWord k 1 == 0x0105 && c.slotWord k 2 == 0) == [0]]),
    ({ live with tb := { live.tb with overrunRun := 7 } }, fun c => [roomy c, c.frameRuns, decide (c.tb.overrunRun < 8)]),
    ({ live with power := { isOff := true } }, fun c => [roomy c, c.power.isOff])] :=
  all_of (by decide +kernel)

theorem witness_Watchdog : All [
    (fl [(F.safeControl_WDT_EN, 1), (F.pwrState_STATE, 1)] live, fun c =>
      [c.flag F.safeControl_WDT_EN, decide (c.fld F.pwrState_STATE < 2), !c.power.woke, roomy c, c.busOpen, c.flt.wdtExpect == 0x5AA5]),
    (unlocked, fun c => [c.busOpen, !c.flag F.safeControl_WDT_EN, decide (0 < c.bus.openTicks)]),
    (live, fun c => [c.busOpen, !c.flag F.safeControl_WDT_EN, c.bus.openTicks == 0]),
    ({ fl [(F.safeControl_WDT_EN, 1)] live with flt := { live.flt with wdtLeft := live.tb.length } }, fun c => [c.flag F.safeControl_WDT_EN,
      decide (c.fld F.pwrState_STATE < 2), !c.power.woke, decide (c.flt.wdtLeft ≤ c.tb.length), roomy c]),
    ({ fl [(F.safeControl_WDT_EN, 1)] live with flt := { live.flt with wdtLeft := live.tb.length + 1 } }, fun c => [
      c.flag F.safeControl_WDT_EN, decide (c.fld F.pwrState_STATE < 2), !c.power.woke, decide (c.tb.length < c.flt.wdtLeft)]),
    (fl [(F.safeControl_WDT_EN, 1), (F.pwrState_STATE, 2)] live, fun c => [decide (2 ≤ c.fld F.pwrState_STATE)]),
    ({ fl [(F.safeControl_WDT_EN, 1)] live with power := { woke := true } }, fun c => [c.power.woke])] :=
  all_of (by decide +kernel)

/-- Sources of one priority are pending for a target. -/
def pending (target : Nat) (l : List Nat) : Chip :=
  let c := fl (l.flatMap fun k => [(F.irqSrc_PRIO k, 1), (F.irqSrc_MASK k, 0), (F.irqSrc_TARGET k, target)]) live
  { c with irq := { c.irq with pend := BitVec.ofNat 64 ((l.map fun k => 2 ^ k).sum) } }

theorem witness_InterruptClaims : All [
    (pending 0 [1, 62], fun c => [c.busOpen, c.eligible 0 1, c.eligible 0 62, c.bestSource 0 == some 1,
      Chip.sources.all fun j => !c.eligible 0 j || decide (c.fld (F.irqSrc_PRIO j) ≤ c.fld (F.irqSrc_PRIO 1))]),
    (pending 1 [62], fun c => [c.busOpen, c.eligible 1 62, c.bestSource 1 == some 62]),
    ({ live with irq := { live.irq with seenA := true, actA := 4 } }, fun c => [c.busOpen, Chip.sources.all fun j => !c.eligible 0 j,
      c.irq.seenA || c.pinA, Chip.srcBit c.irq.actA 2, !Chip.srcBit c.irq.actA 62]),
    (live, fun c => [c.busOpen, Chip.sources.all fun j => !c.eligible 1 j, !(c.irq.seenB || c.pinB), decide (c.part = .lb8620)])] :=
  all_of (by decide +kernel)

theorem witness_SupervisorClaims : All [
    (pending 2 [62], fun c => [c.supRuns, c.bestSource 2 == some 62, !c.irq.supEvents.any fun e => e.1 == 62]),
    ({ pending 2 [1] with irq := { (pending 2 [1]).irq with supEvents := [(1, 0)] } }, fun c =>
      [c.supRuns, c.bestSource 2 == some 1, c.irq.supEvents.any fun e => e.1 == 1]),
    (live, fun c => [c.supRuns, c.bestSource 2 == none, c.irq.supEvents.all fun e => e.1 != 1]),
    ({ live with irq := { live.irq with supEvents := [(1, 0), (62, 65536)] } }, fun c =>
      [c.supRuns, c.irq.supEvents == [] ++ (1, 0) :: [(62, 65536)], c.irq.supEvents == [(1, 0)] ++ (62, 65536) :: []])] :=
  all_of (by decide +kernel)

theorem witness_FaultAcknowledgement : All [
    (live, fun c => [c.busOpen, !c.slotUsed 0]),
    (live.fault 0x0110 0 0, fun c => [c.busOpen, c.slotUsed 0, c.slotWord 0 0 % 256 == 2, !c.slotStanding 0, c.flt.lostClass.isNone]),
    (live.faultStanding 0x0105 0 0, fun c => [c.busOpen, c.slotUsed 0, c.slotStanding 0])] :=
  all_of (by decide +kernel)

/-- A journal entry with a NUMBER. -/
def entryAt (n : BitVec 32) : JEntry := { number := n, kind := 1, cls := 1, code := 0x0110, unit := 0, rep := 0, detail := 0, skipped := 0
                                          opTime := 0, boot := 0, frame := 0, valid := true }

/-- The block with a journal. -/
def journaled (j : Journal) : Chip := { live with jnl := j }

theorem witness_JournalEntries : All [
    (live, fun c => [c.supRuns, c.ready, c.jnl.waiting.isEmpty]),
    (journaled { waiting := [{ kind := 8 }], allowance := 0 }, fun c => [c.supRuns, c.ready, c.jnl.allowance == 0]),
    ({ journaled { waiting := [{ kind := 6, code := 1 }], allowance := 0 } with irq := { live.irq with supEvents := [(62, 1)] } }, fun c => [
      c.supRuns, c.ready, c.jnl.allowance == 0, c.irq.supEvents.all fun e => e.1 != 1]),
    ({ journaled { waiting := [{ kind := 6, code := 1 }], allowance := 0 } with irq := { live.irq with supEvents := [(62, 1), (1, 0)] } }, fun c => [
      c.supRuns, c.ready, c.jnl.allowance == 0, c.irq.supEvents == [(62, 1)] ++ (1, 0) :: []]),
    ({ journaled { waiting := [{ kind := 6, code := 1 }], allowance := 0 } with irq := { live.irq with supEvents := [(1, 65536)] } }, fun c => [
      c.supRuns, c.ready, c.jnl.allowance == 0, c.irq.supEvents == [] ++ (1, 65536) :: []]),
    (journaled { waiting := [{ kind := 3 }], allowance := 0 }, fun c => [c.supRuns, c.ready, roomy c, c.jnl.entries.isEmpty]),
    (journaled { waiting := [{ kind := 1 }], next := 2048, entries := [entryAt 127, entryAt 128] }, fun c =>
      [c.supRuns, c.ready, c.jnl.entries.any fun e => decide (e.number.toNat / 128 % 16 = c.jnl.next.toNat / 128 % 16) &&
        decide (e.number.toNat / 128 < c.jnl.next.toNat / 128), c.jnl.erases.toList.all fun n => n + 1 != 100000]),
    (fl [(F.devStatus_SUP_RUN, 0)] live, fun c => [!c.supRuns, !c.power.isOff]),
    (fl [(F.devStatus_READY, 0)] live, fun c => [!c.ready]),
    ({ live with power := { isOff := true } }, fun c => [c.power.isOff]),
    (journaled { hour := 720000000000 }, fun c => [decide (720000000000 ≤ c.jnl.hour)]),
    (journaled { hour := 719999999999 }, fun c => [decide (c.jnl.hour < 720000000000)]),
    (journaled { waiting := [{ kind := 1 }], next := 2048, entries := [entryAt 127, entryAt 128] }, fun c =>
      [c.supRuns, c.ready, roomy c, c.jnl.entries.any fun e => decide (e.number.toNat / 128 % 16 = c.jnl.next.toNat / 128 % 16) &&
        decide (e.number.toNat / 128 < c.jnl.next.toNat / 128)])] :=
  all_of (by decide +kernel)

/-- A mailbox command waits in block 0: its words from word 0 on. -/
def mail (ws : List Nat) (c : Chip) : Chip := (fl [(F.mbxStatus_BUSY, 1)] c).putWords 0 ws

theorem witness_JournalCommands : All [
    (mail [0x0C01, 1] (journaled { entries := [entryAt 0, entryAt 7] }), fun c =>
      [c.commandWaits, c.win.ecc.isEmpty, c.win16 0 == 0x0C01, c.jnl.entries.head? == some (entryAt 0),
        c.jnl.entries.getLast? == some (entryAt 7), c.jnl.erases.toList.all fun n => n == 0]),
    (mail [0x0C02, 1, 0, 0, 8] (journaled { entries := [entryAt 0] }), fun c =>
      [c.commandWaits, c.win.ecc.isEmpty, c.win16 0 == 0x0C02, decide (7 < c.win16 8)]),
    (mail [0x0C02, 1, 7, 0, 7] (journaled { entries := [entryAt 0, entryAt 7] }), fun c =>
      [c.commandWaits, c.win.ecc.isEmpty, c.win16 0 == 0x0C02, c.win16 8 == 7, c.win16 4 == 7, c.jnl.entries.all fun e => e.valid]),
    (mail [0x0C02, 1, 8, 0, 1] (journaled { entries := [entryAt 0, entryAt 7] }), fun c =>
      [c.commandWaits, c.win.ecc.isEmpty, c.win16 0 == 0x0C02, c.win16 8 == 1, decide (7 < c.win16 4)]),
    (mail [0x0C03, 1, 5, 6] live, fun c => [c.commandWaits, c.win.ecc.isEmpty, c.win16 0 == 0x0C03]),
    (mail [0x0C01, 1] live, fun c => [c.commandWaits, c.win.ecc.isEmpty, c.win16 0 == 0x0C01, c.jnl.entries.isEmpty,
      c.jnl.erases.toList.all fun n => n == 0]),
    (mail [0x0C02, 1, 0, 0, 7] live, fun c => [c.commandWaits, c.win.ecc.isEmpty, c.win16 0 == 0x0C02, c.win16 8 == 7, c.jnl.entries.isEmpty]),
    (mail [0x0C02, 1, 7, 0, 1] (journaled { entries := [{ entryAt 7 with valid := false }] }), fun c => [c.commandWaits, c.win.ecc.isEmpty,
      roomy c, c.win16 0 == 0x0C02, c.win16 8 == 1, c.win16 4 == 7,
      (c.jnl.entries.filter fun e => decide (7 ≤ e.number.toNat) && decide (e.number.toNat < 7 + 1)) == [{ entryAt 7 with valid := false }]])] :=
  all_of (by decide +kernel)

theorem witness_MailboxProtocol : All [
    (fl [(F.devStatus_READY, 0)] live, fun c => [c.busOpen, !c.ready]),
    ({ live with win := { live.win with taken := [0] } }, fun c => [c.busOpen, c.ready, c.hostOwned 0]),
    (fl [(F.mbxStatus_BUSY, 1)] live, fun c => [c.busOpen, c.ready, !c.hostOwned 0, c.flag F.mbxStatus_BUSY]),
    (live, fun c => [c.busOpen, c.ready, !c.hostOwned 0, !c.flag F.mbxStatus_BUSY]),
    ({ mail [0x0C03, 9] live with bus := { live.bus with reply := some { result := 0, data := [1] } } }, fun c =>
      [c.bus.reply.isSome, c.flag F.mbxStatus_BUSY, c.supRuns]),
    (mail [0, 9] live, fun c => [c.commandWaits, c.win.ecc.isEmpty, c.win16 0 == 0]),
    (fl [(F.devStatus_SUP_RUN, 0)] live, fun c => [!c.supRuns, !c.flag F.mbxStatus_BUSY]),
    (let c := mail [0x0C03, 9] live
     { c with bus := { c.bus with reply := some { result := 0, data := [] } }, win := { c.win with ecc := [(0, .single 15), (1, .double 0 1)] } },
      fun c => [c.bus.reply.isSome, c.flag F.mbxStatus_BUSY, c.supRuns, Sparse.find? c.win.ecc 0 == some (.single 15),
        Sparse.find? c.win.ecc 1 != some (.single 0)])] :=
  all_of (by decide +kernel)

/-- A diagnostic request. -/
def ask (l : List Byte) : DiagReq := { data := l, functional := false, fdf := true, brs := true }

/-- The block with a diagnostic request in service. -/
def asked (l : List Byte) (c : Chip) : Chip := { c with can := { c.can with req := some (ask l) } }

/-- The block with a forwarded request. -/
def forwarded : Chip := { live with can := { live.can with req := some { ask [0x2F, 1, 2] with handle := some 1 }, put := [1, 2] } }

/-- The block whose display could be updated. -/
def powered : Chip := fl [(F.holdupStatus_TAG_RESERVE, 65535)] live

theorem witness_MailboxCommands : All [
    (mail [0x0601] (fl [(F.pwrState_ROTATING, 1)] live), fun c => [c.commandWaits, c.win16 0 == 0x0601, c.flag F.pwrState_ROTATING]),
    (mail [0x0601] live, fun c => [c.commandWaits, c.win16 0 == 0x0601, !c.flag F.pwrState_ROTATING]),
    (mail [0x0701] live, fun c => [c.commandWaits, c.win16 0 == 0x0701, !c.isMaster]),
    (mail [0x0701] (fl [(F.ringStatus_MASTER, 1)] live), fun c => [c.commandWaits, c.win16 0 == 0x0701, c.isMaster]),
    (mail [0x0902, 0, 65] live, fun c => [c.commandWaits, c.win16 0 == 0x0902, decide (64 < c.win16 4)]),
    (mail [0x0902, 0, 64] { live with cipher := { live.cipher with calFloor := 64 } }, fun c =>
      [c.commandWaits, c.win16 0 == 0x0902, c.win16 4 == 64, decide (c.win16 4 ≤ c.cipher.calFloor)]),
    (mail [0x0902, 0, 64] (fl [(F.supplyStatus_CRANK_DIP, 1)] live), fun c =>
      [c.commandWaits, c.win16 0 == 0x0902, c.win16 4 == 64, decide (c.cipher.calFloor < c.win16 4), c.flag F.supplyStatus_CRANK_DIP]),
    (mail [0x0902, 0, 64] live, fun c => [c.commandWaits, c.win16 0 == 0x0902, decide (c.cipher.calFloor < c.win16 4),
      !(c.flag F.supplyStatus_VBAT_REDUCED || c.flag F.supplyStatus_CRANK_DIP)]),
    (mail [0x0A01] live, fun c => [c.commandWaits, c.win16 0 == 0x0A01, c.pendingForward.isNone]),
    (mail [0x0A01, 0, 3] forwarded, fun c => [c.commandWaits, c.win16 0 == 0x0A01, c.pendingForward.isSome, c.win16 4 == 3]),
    (mail [0x0A01, 0, 2] forwarded, fun c => [c.commandWaits, c.win16 0 == 0x0A01, c.pendingForward.isSome, c.win16 4 == 2]),
    (mail [0x0A02] live, fun c => [c.commandWaits, c.win16 0 == 0x0A02, c.pendingForward.isNone]),
    (mail [0x0A02, 0, 2] forwarded, fun c => [c.commandWaits, c.win16 0 == 0x0A02, c.pendingForward.isSome, c.win16 4 == 2]),
    (mail [0x0A02, 0, 1, 0, 241] forwarded, fun c => [c.commandWaits, c.win16 0 == 0x0A02, c.win16 4 == 1, decide (240 < c.win16 8)]),
    (mail [0x0A02, 0, 1, 2, 240, 0] forwarded, fun c => [c.commandWaits, c.win16 0 == 0x0A02, c.win16 4 == 1, c.win16 8 == 240,
      decide (c.win16 6 ≤ c.can.put.length), decide (c.win16 6 + c.win16 8 ≤ 4095), c.win16 10 % 2 == 0]),
    (mail [0x0A03, 0, 0, 99] live, fun c => [c.commandWaits, c.win16 0 == 0x0A03, decide (c.win16 6 < 100)]),
    (mail [0x0A03, 0, 3, 60000] live, fun c => [c.commandWaits, c.win16 0 == 0x0A03, c.win16 6 == 60000]),
    (mail [0x0B01, 0, 0] live, fun c => [c.commandWaits, c.win16 0 == 0x0B01, (c.tagRefusal 2).isSome]),
    (mail [0x0B01, 0, 1] powered, fun c => [c.commandWaits, c.win16 0 == 0x0B01, (c.tagRefusal 2).isNone]),
    (mail [0x0A02, 0, 1, 4000, 96] { forwarded with can := { forwarded.can with put := List.replicate 4000 0 } }, fun c => [c.commandWaits,
      c.win16 0 == 0x0A02, c.win16 4 == 1, decide (c.win16 8 ≤ 240), decide (c.win16 6 ≤ c.can.put.length), c.win16 6 + c.win16 8 == 4096]),
    (mail [0x0A02, 0, 1, 0, 1, 1] forwarded, fun c => [c.commandWaits, c.win16 0 == 0x0A02, c.win16 4 == 1, c.win16 6 + c.win16 8 == 1,
      c.win16 10 % 2 == 1])] :=
  all_of (by decide +kernel)

/-! ## Witnesses: frames, edges, wheels -/

theorem witness_FrameTicks : All [
    (fl [(F.pwrState_STATE, 1)] live, fun c => [c.frameRuns, c.tb.running, c.ready]),
    (State.reset.chip, fun c => [!c.tb.running, !c.power.isOff, c.fld F.pwrState_STATE != 3]),
    (fl [(F.pwrState_STATE, 3)] State.reset.chip, fun c => [!c.tb.running, !c.power.isOff, c.fld F.pwrState_STATE == 3]),
    (fl [(F.devStatus_READY, 0)] live, fun c => [c.tb.running, !c.ready, c.supRuns]),
    (fl [(F.pwrState_STATE, 2)] live, fun c => [!c.frameRuns, c.tb.running]),
    (fl [(F.devStatus_READY, 0)] { live with power := { patch := some true } }, fun c => [c.tb.running, !c.ready, c.supRuns, c.power.patch == some true]),
    (fl [(F.devStatus_READY, 0), (F.devStatus_SUP_RUN, 0)] live, fun c => [c.tb.running, !c.ready, !c.supRuns])] :=
  all_of (by decide +kernel)

/-- The block with committed writes on their way. -/
def committed (l : List Commit) : Chip := { live with bus := { live.bus with commits := l } }

theorem witness_CommitsTakeEffect : All [
    (State.reset.chip, fun c => [!c.frameRuns, c.bus.supCommits.isEmpty]),
    (committed [⟨R.injEnable, 1, 2⟩], fun c => [c.frameRuns, c.bus.commits.all fun x => decide (1 < x.wait)]),
    (committed [⟨R.profI 7, 5, 1⟩], fun c => [c.frameRuns, c.bus.commits == [⟨R.profI 7, 5, 1⟩]]),
    (committed [⟨R.profI 0, 5, 1⟩, ⟨R.profI 0, 6, 0⟩], fun c => [c.frameRuns, c.bus.commits.all fun x => decide (x.wait ≤ 1)]),
    ({ live with bus := { live.bus with supCommits := [(R.pwrCfg, 1), (R.pwrCfg, 2)] } }, fun c => [c.supRuns]),
    ({ fl [(F.devStatus_SUP_RUN, 0)] live with bus := { live.bus with supCommits := [(R.pwrCfg, 1)] } }, fun c => [!c.supRuns]),
    ({ fl [(F.devStatus_SUP_RUN, 0)] live with bus := { live.bus with supCommits := [(R.pwrCfg, 1), (R.cipherAlarm, 1)] } }, fun c => [
      !c.supRuns, c.bus.supCommits == [(R.pwrCfg, 1), (R.cipherAlarm, 1)], !(1#32).msb])] :=
  all_of (by decide +kernel)

/-- A placed edge on TIO_7. -/
def edge7 (kind : EdgeKind) (hidden : Bool) (step : Nat) : Edge :=
  { step := step, chan := 0x47, action := 1, param := 0, kind := kind, idx := 5, word := 6, hidden := hidden, last := false }

/-- The block with placed edges. -/
def placed (l : List Edge) : Chip := { live with sched := { live.sched with edges := l } }

/-- A descriptor of a PULSE on TIO_0 that ends by time. -/
def pulse : Desc := { chan := 0x40, start := 0, action := 1, timeMode := true, fire := false, cls := 0, dur := 100, gate := 0, mask := 0
                      param := 0, seq := 0, back := false }

/-- The armed block with a started entry that ends at a step. -/
def ending (n : Nat) : Chip := { fl [(F.outStatus_ARMED, 1), (F.tioSel_FUNC 0, 2)] live with
  sched := { live.sched with entries := [{ idx := 2047, d := pulse, cycle := 0, word := 3, started := true, endAt := some n }] } }

theorem witness_PlacedEdges : All [
    (live, fun c => [c.frameRuns, c.sched.edges.isEmpty]),
    (placed [edge7 .start false 300, edge7 .start true 5], fun c => [c.frameRuns,
      c.sched.edges == [edge7 .start false 300] ++ edge7 .start true 5 :: [], !(edge7 .start true 5).last]),
    (placed [edge7 .start false 0], fun c => [c.frameRuns, (edge7 .start false 0).chan == 0x40 + 7]),
    (placed [edge7 .finish false 399], fun c => [c.frameRuns, (edge7 .finish false 399).chan == 0x40 + 7]),
    (ending 802, fun c => [c.frameRuns, decide (c.tb.ticks + 2 * c.tb.length + 402 ≤ 802)]),
    (ending 801, fun c => [c.frameRuns, decide (c.tb.ticks + 2 * c.tb.length ≤ 801), decide (801 < c.tb.ticks + 2 * c.tb.length + 402),
      !c.withheldNow 0x40, c.sched.used == 0, c.sched.next.isEmpty,
      c.sched.entries.all fun e => !e.carried && !e.endDone && !e.hidden]),
    (let c := ending 399
     { c with sched := { c.sched with entries := c.sched.entries.map fun e => { e with word := 2 * 2 ^ 28 + 7, wait := 1 } } },
      fun c => [c.frameRuns, decide (399 < c.tb.ticks + 2 * c.tb.length), !c.withheldNow 0x40, !c.flag F.schedStatus_A_LATE, c.sched.used == 0,
        c.sched.next.isEmpty,
        c.sched.entries.all fun e => e.word / 2 ^ 28 == 2 && !e.carried && !e.hidden && e.started && !e.endDone && e.endAt == some 399]),
    (let c := ending 801
     { c with sched := { c.sched with entries := c.sched.entries.map fun e => { e with carried := true } } }, fun c => [c.frameRuns,
      c.sched.entries.all (·.carried)]),
    (let c := ending 801
     { c with sched := { c.sched with used := 32 } }, fun c => [c.frameRuns, decide (801 < c.tb.ticks + 2 * c.tb.length + 402), c.sched.used == 32,
      c.sched.entries.all fun e => !e.carried]),
    (let c := ending 399
     { c with sched := { c.sched with next := List.replicate 48 (edge7 .start false 0), used := 31 } }, fun c => [c.frameRuns,
      c.sched.next.length == 48, c.sched.entries.all fun e => !e.carried])] :=
  all_of (by decide +kernel)

/-- The block with a wheel input in a state. -/
def wheeled (n : Nat) (w : Wheel) (c : Chip) : Chip := c.modWheel n fun _ => w

/-- A tooth table of two teeth. -/
def teeth : ToothTable := { span := 368640, refOffset := 0, tol := 4, depth := 2, teeth := [⟨0, true, false⟩, ⟨184320, true, false⟩] }

/-- A wheel input in a state at a local time. -/
def quarter (ticks n : Nat) (w : Wheel) : Chip := { wheeled n w live with tb := { live.tb with ticks := ticks } }

/-- Input 0 is configured with two teeth, last seen at time 0, and the angle has moved on since; CAM is the reference. -/
def noisy (quiet : Int) : Chip :=
  { wheeled 0 { table := some teeth, lastStep := some 0, quiet := quiet } (fl [(F.wheelCfg_MODE 0, 1)] live) with
    pred := { live.pred with active := some .cam } }

theorem witness_WheelEdges : All [
    (live, fun c => [c.frameRuns, !c.selects 0 true, c.wheels[0].queue.isEmpty]),
    (fl [(F.wheelCfg_MODE 0, 1)] live, fun c => [c.frameRuns, c.wheelMode 0 == 1, !c.wheels[0].armed, decide (6 ≤ c.wheels[0].threshold), c.selects 0 false,
      !c.isGlitch 0 0, !c.follows]),
    (wheeled 3 { lastStep := some 0 } (fl [(F.wheelCfg_MODE 3, 2), (F.wheelCfg_EDGE_SEL 3, 2)] live), fun c => [c.frameRuns,
      c.selects 3 true, c.wheelMode 3 != 1, c.wheels[3].lastStep == some 0,
      decide (9999 < max 625 (c.fld (F.wheelFilt_MIN_ABS 3)) * 16), !c.isGlitch 3 16000]),
    (wheeled 1 { queue := [⟨400, 0, 1000, true, 9, 6, 400, false⟩] } (fl [(F.wheelCfg_LOG 1, 0)] live), fun c =>
      [c.frameRuns, c.wheels[1].queue.length == 1, c.wheels[1].table.isNone, c.fld (F.wheelCfg_LOG 1) == 0]),
    (wheeled 0 { spent := true } (fl [(F.wheelCfg_MODE 0, 1), (F.wheelVr_DISARM 0, 3)] live), fun c => [c.frameRuns, c.selects 0 false,
      c.wheelMode 0 == 1, c.wheels[0].spent, c.fld (F.wheelVr_DISARM 0) == 3]),
    (fl [(F.wheelCfg_MODE 3, 2), (F.wheelFilt_HALL_FILT 3, 5)] live, fun c => [c.frameRuns, c.selects 3 true, c.wheelMode 3 == 2,
      c.fld (F.wheelFilt_HALL_FILT 3) == 5, !c.isGlitch 3 0, !c.follows, c.pred.active != some .ring]),
    (fl [(F.wheelCfg_MODE 0, 1)] live, fun c => [c.frameRuns, c.selects 0 false, c.wheelMode 0 == 1, !c.wheels[0].spent,
      c.wheels[0].threshold == 6]),
    (fl [(F.wheelCfg_LOG 2, 0)] (quarter 410 2 { queue := [⟨400, 0, 1000, true, 9, 6, 400, true⟩] }), fun c => [c.frameRuns, c.fld (F.wheelCfg_LOG 2) == 0, c.win.rows.isEmpty, !c.pred.turned,
      c.wheels[2].queue == [⟨400, 0, 1000, true, 9, 6, 400, true⟩], c.edgeLimit c.tickBefore == 400]),
    (fl [(F.wheelCfg_LOG 3, 0)] (quarter 410 3 { queue := [⟨400, 0, 1000, true, 9, 6, 400, false⟩] }), fun c => [c.frameRuns, c.fld (F.wheelCfg_LOG 3) == 0, c.win.rows.isEmpty, !c.pred.turned,
      c.wheels[3].queue == [⟨400, 0, 1000, true, 9, 6, 400, false⟩], c.wheels[3].table.isNone, c.edgeLimit c.tickBefore == 400]),
    (quarter 409 3 { queue := [⟨384, 0, 1000, true, 9, 6, 400, false⟩] }, fun c => [c.frameRuns, decide (c.edgeLimit c.tickBefore < 400)]),
    (wheeled 0 { armed := true } (fl [(F.wheelCfg_MODE 0, 1)] live), fun c => [c.frameRuns, c.selects 0 false, c.wheelMode 0 == 1,
      c.wheels[0].armed, decide (0 ≤ c.wheels[0].threshold), !c.isGlitch 0 0, !c.follows]),
    (wheeled 0 { armed := true, lastStep := some 0 } (fl [(F.wheelCfg_MODE 0, 1)] live), fun c => [c.frameRuns, c.selects 0 false,
      c.wheelMode 0 == 1, c.wheels[0].armed, decide (9999 < max 625 (c.fld (F.wheelFilt_MIN_ABS 0)) * 16)])] :=
  all_of (by decide +kernel)

theorem witness_SignalLoss : All [
    ({ wheeled 0 { table := some teeth } live with pred := { live.pred with active := some .cam } }, fun c =>
      [c.frameRuns, c.wheels[0].table.isSome, c.pred.active.isSome, c.pred.active != c.inputRef 0, !c.flag (F.wheelStatus_NO_SIGNAL 0), roomy c]),
    (fl [(F.wheelStatus_NO_SIGNAL 3, 1)] live, fun c => [c.flag (F.wheelStatus_NO_SIGNAL 3)]),
    ({ fl [(F.pwrState_ROTATING, 1)] live with pred := { live.pred with active := some .dead } }, fun c =>
      [c.flag F.pwrState_ROTATING, c.pred.active == some .dead, !c.pred.stall, roomy c]),
    ({ fl [(F.pwrState_ROTATING, 1)] live with pred := { live.pred with active := some .dead, stall := true } }, fun c =>
      [c.flag F.pwrState_ROTATING, c.pred.active == some .dead, c.pred.stall, !c.pred.turned]),
    (live, fun c => [!c.flag F.pwrState_ROTATING, c.pred.active != some .dead]),
    (wheeled 3 { lastStep := some 0, lastInterval := 100 } live, fun c => [c.frameRuns, c.wheels[3].lastStep == some 0, c.wheels[3].lastInterval == 100,
      0 + 4 * 100 == c.tb.ticks + 2 * c.tb.length]),
    (wheeled 3 { lastStep := some 1, lastInterval := 100 } live, fun c => [c.wheels[3].lastStep == some 1, c.wheels[3].lastInterval == 100,
      decide (c.tb.ticks + 2 * c.tb.length < 1 + 4 * 100)]),
    (noisy (2 * 184320 * 2 ^ 32 + 1), fun c => [c.frameRuns, c.configured 0, c.pred.active.isSome, c.pred.active != c.inputRef 0, c.quietTooLong 0,
      !c.flag (F.wheelStatus_NO_SIGNAL 0), roomy c, c.wheels[0].table == some teeth, !teeth.teeth.isEmpty]),
    (noisy (2 * 184320 * 2 ^ 32), fun c => [!c.quietTooLong 0]),
    (fl [(F.wheelCfg_MODE 0, 0)] (noisy 0), fun c => [!c.configured 0]),
    (let c := noisy 0
     let limit := max 1 (c.fld F.predCfg_STALL_TIME) * 400000
     { fl [(F.pwrState_ROTATING, 1)] c with tb := { c.tb with ticks := limit - 400 } }, fun c => [c.frameRuns, c.flag F.pwrState_ROTATING,
      c.configured 0, (List.finRange 4).all fun n => !c.configured n || c.wheels[n].lastStep == some 0, !c.pred.stall, roomy c,
      0 + max 1 (c.fld F.predCfg_STALL_TIME) * 400000 == c.tb.ticks + 2 * c.tb.length]),
    (fl [(F.pwrState_ROTATING, 1)] (noisy 0), fun c => [c.frameRuns, c.flag F.pwrState_ROTATING, c.configured 0, c.wheels[0].lastStep == some 0,
      (List.finRange 4).all fun n => !c.configured n || c.wheels[n].lastStep == some 0,
      decide (c.tb.ticks + 2 * c.tb.length < 0 + max 1 (c.fld F.predCfg_STALL_TIME) * 400000)]),
    ({ live with pred := { live.pred with active := some .dead, drTravel := (live.pred.cfg.drLimit : Int) * 2 ^ 32 } }, fun c => [c.frameRuns,
      c.pred.active == some .dead, decide ((c.pred.cfg.drLimit : Int) * 2 ^ 32 ≤ c.pred.drTravel), !c.pred.stall, roomy c]),
    ({ live with pred := { live.pred with active := some .dead, drTravel := (live.pred.cfg.drLimit : Int) * 2 ^ 32 - 1 } }, fun c => [c.frameRuns,
      decide (c.pred.drTravel < (c.pred.cfg.drLimit : Int) * 2 ^ 32)]),
    (State.reset.chip, fun c => [!c.frameRuns]),
    ({ live with pred := { live.pred with active := some .dead, drTravel := (live.pred.cfg.drLimit : Int) * 2 ^ 32, stall := true } }, fun c => [
      c.frameRuns, c.pred.active == some .dead, decide ((c.pred.cfg.drLimit : Int) * 2 ^ 32 ≤ c.pred.drTravel), c.pred.stall, !c.pred.turned]),
    (let c := noisy 0
     let limit := max 1 (c.fld F.predCfg_STALL_TIME) * 400000
     { fl [(F.pwrState_ROTATING, 1)] c with tb := { c.tb with ticks := limit - 400 }, pred := { c.pred with stall := true } }, fun c => [
      c.frameRuns, c.flag F.pwrState_ROTATING, c.configured 0, (List.finRange 4).all fun n => !c.configured n || c.wheels[n].lastStep == some 0,
      c.pred.stall, !c.pred.turned, 0 + max 1 (c.fld F.predCfg_STALL_TIME) * 400000 == c.tb.ticks + 2 * c.tb.length])] :=
  all_of (by decide +kernel)

/-! ## Witnesses: outputs, timers, converter -/

/-- The block with channels of bank 5 in their states, profile 0 usable, at a local time. -/
def firing (now : Nat) (l : List (Nat × Inj)) : Chip :=
  let c := fl [(F.profCtrl_VALID 0, 1), (F.profCtrl_VBOOST_MIN 0, 96), (F.profI_I_PEAK 0, 200), (F.profI_I_HOLD_HI 0, 100),
    (F.profI_I_HOLD_LO 0, 80), (F.profI_I_OPEN 0, 40), (F.profT_T_BOOST_MAX 0, 50), (F.profT_T_PEAK_MIN 0, 10), (F.profT_T_TRANS 0, 20),
    (F.profT_CHOP_MIN 0, 10), (F.bankCfg_I_OC 5, 240), (F.bankCfg_MAX_DELAY 5, 5), (F.bankCfg_T_REST 5, 2),
    (F.boostStatus_VBOOST_MEAS, 650)] live
  { c with tb := { c.tb with ticks := now }, outs := { c.outs with inj := l.foldl (fun v x => modAt v x.1 fun _ => x.2) c.outs.inj } }

theorem witness_InjectionPhases : All [
    (firing 1000 [(20, { phase := .wait, startAt := 900, endAt := some 200 }), (23, { phase := .wait, startAt := 950 })], fun c =>
      [c.outs.inj[20].phase == .wait, decide (c.outs.inj[20].startAt < c.outs.inj[23].startAt), !c.flag (F.bankStatus_TRIPPED 5),
        decide (200 + c.fld (F.bankCfg_T_REST 5) * 400 ≤ c.tb.ticks), c.profileUsable 5 0, c.boostEnough 0]),
    (firing 2000 [(20, { phase := .wait })], fun c => [c.outs.inj[20].phase == .wait,
      c.outs.inj[20].startAt + c.fld (F.bankCfg_MAX_DELAY 5) * 400 == c.tb.ticks, !c.shadows, roomy c]),
    (firing 400 [(23, { phase := .boost })], fun c => [c.outs.inj[23].phase == .boost,
      c.fld (F.profT_T_PEAK_MIN 0) * 40 == c.tb.ticks, c.fld (F.profT_T_TRANS 0) != 0]),
    (fl [(F.profT_T_TRANS 0, 0)] (firing 400 [(23, { phase := .boost })]), fun c => [c.outs.inj[23].phase == .boost,
      decide (c.fld (F.profT_T_PEAK_MIN 0) * 40 ≤ c.tb.ticks), c.fld (F.profT_T_TRANS 0) == 0]),
    (firing 399 [(23, { phase := .boost })], fun c => [c.outs.inj[23].phase == .boost,
      decide (c.tb.ticks < c.fld (F.profT_T_PEAK_MIN 0) * 40), !c.shadows, roomy c]),
    (firing 20000 [(23, { phase := .boost })], fun c => [c.outs.inj[23].phase == .boost, c.boostMax 23 == c.tb.ticks, !c.shadows, roomy c,
      decide (39 < min 255 (c.fld (F.profI_I_OPEN 0) + c.holdSum F.profI_I_HOLD_LO 23)), decide (40 < c.boostThreshold 23),
      decide (c.fld (F.profI_I_OPEN 0) + c.holdSum F.profI_I_HOLD_LO 23 ≤ 40), c.fld (F.profT_T_TRANS 0) != 0]),
    (firing 800 [(23, { phase := .transition })], fun c => [c.outs.inj[23].phase == .transition,
      c.fld (F.profT_T_TRANS 0) * 40 == c.tb.ticks]),
    (firing 400 [(23, { phase := .hold })], fun c => [c.outs.inj[23].phase == .hold, c.outs.chop[5] != true,
      c.outs.chopAt[5] + max 1 (c.fld (F.profT_CHOP_MIN 0)) * 40 == c.tb.ticks]),
    (fl [(F.boostStatus_VBOOST_MEAS, 479), (F.profCtrl_LOW_BOOST 0, 1)] (firing 1000 [(23, { phase := .wait })]), fun c => [
      c.outs.inj[23].phase == .wait, c.profileUsable 5 0, !c.boostEnough 0, c.fld (F.profCtrl_LOW_BOOST 0) == 1, !c.flag (F.bankStatus_TRIPPED 5)]),
    (fl [(F.boostStatus_VBOOST_MEAS, 479), (F.profCtrl_LOW_BOOST 0, 2)] (firing 1000 [(23, { phase := .wait })]), fun c => [
      c.outs.inj[23].phase == .wait, c.profileUsable 5 0, !c.boostEnough 0, c.fld (F.profCtrl_LOW_BOOST 0) == 2]),
    (fl [(F.boostStatus_VBOOST_MEAS, 479), (F.profCtrl_LOW_BOOST 0, 3)] (firing 1000 [(23, { phase := .wait })]), fun c => [
      c.outs.inj[23].phase == .wait, c.profileUsable 5 0, !c.boostEnough 0, c.fld (F.profCtrl_LOW_BOOST 0) == 3, !c.shadows, roomy c]),
    (fl [(F.profCtrl_VALID 0, 0)] (firing 1000 [(23, { phase := .wait })]), fun c => [
      c.outs.inj[23].phase == .wait, !c.profileUsable 5 0, !c.shadows, roomy c]),
    (fl [(F.profCtrl_TRANS_DECAY 0, 0)] (firing 0 [(23, { phase := .transition })]), fun c => [c.outs.inj[23].phase == .transition,
      decide (c.tb.ticks < 0 + c.fld (F.profT_T_TRANS 0) * 40), !c.flag (F.profCtrl_TRANS_DECAY 0)]),
    (firing 20000 [(23, { phase := .boost })], fun c => [c.outs.inj[23].phase == .boost, decide (0 + c.boostMax 23 ≤ c.tb.ticks),
      decide (min 255 (c.fld (F.profI_I_OPEN 0) + c.holdSum F.profI_I_HOLD_LO 23) ≤ 255), decide (c.boostThreshold 23 ≤ 255)])] :=
  all_of (by decide +kernel)

theorem witness_BankTrips : All [
    (let c := firing 0 [(20, { phase := .hold }), (22, { phase := .hold })]
     { c with outs := { c.outs with chop := modAt c.outs.chop 5 fun _ => true } }, fun c => [c.outs.chop[5], c.outs.inj[20].phase == .hold,
      decide (159 < min 255 (c.fld (F.profI_I_HOLD_LO 0) + c.fld (F.profI_I_HOLD_LO 0)))]),
    (firing 0 [(20, { phase := .boost })], fun c => [c.cclkRuns, decide (c.part = .lb8620), !c.shadows, roomy c, (List.finRange 24).all fun k => c.outs.inj[k].phase != .wait]),
    (live, fun c => [!c.shadows, roomy c, (List.finRange 24).all fun k => c.outs.inj[k].phase == .idle]),
    (fl [(F.bankStatus_TRIPPED 5, 1)] live, fun c => [c.flag (F.bankStatus_TRIPPED 5), c.bus.commits.isEmpty]),
    (live.put R.injEnable 1, fun c => [decide (c.part = .lb8620), c.bit R.injEnable 0, !c.bit R.injEnable 23]),
    (let c := firing 7600 [(20, { phase := .hold }), (22, { phase := .hold })]
     { c with outs := { c.outs with chop := modAt c.outs.chop 5 fun _ => true } }, fun c => [c.outs.chop[5],
      c.outs.chopAt[5] + 8000 == c.tb.ticks + 2 * c.tb.length]),
    (let c := firing 7599 [(20, { phase := .hold }), (22, { phase := .hold })]
     { c with outs := { c.outs with chop := modAt c.outs.chop 5 fun _ => true } }, fun c => [
      decide (c.tb.ticks + 2 * c.tb.length < c.outs.chopAt[5] + 8000)]),
    (firing 7600 [], fun c => [c.cclkRuns, decide (c.part = .lb8620), !c.shadows, c.outs.idleAt[5] == some 0, 0 + 8000 == c.tb.ticks + 2 * c.tb.length]),
    ({ live with outs := { live.outs with idleAt := modAt live.outs.idleAt 5 fun _ => none } }, fun c => [c.outs.idleAt[5].isNone]),
    ({ live with part := .lb8612 }, fun c => [decide (c.part = .lb8612), !decide (3 < 3), c.frameRuns]),
    (fl [(F.twinControl_TWIN_EN, 1), (F.twinStatus_STATE, 1)] live, fun c => [c.shadows]),
    (fl [(F.bankStatus_TRIPPED 5, 1)] live, fun c => [c.frameRuns, decide (c.part = .lb8620), c.flag (F.bankStatus_TRIPPED 5), !c.shadows]),
    (State.reset.chip, fun c => [!c.frameRuns]),
    (fl [(F.pwrState_STATE, 3)] live, fun c => [!c.cclkRuns])] :=
  all_of (by decide +kernel)

/-- The block with valve 15 in a state, at local time 12000, with a hold PWM in set 7 and its diagnostics on. -/
def valved (x : Valve) : Chip :=
  let c := fl [(F.vreg_T_PULL 7, 3), (F.vreg_HOLD_DUTY 7, 128), (F.valveCfg_DIAG_EN 15, 1), (F.valveCfg_OFF_MIN 15, 300)] live
  { c with tb := { c.tb with ticks := 12000 }, outs := { c.outs with valves := modAt c.outs.valves 15 fun _ => x } }

theorem witness_ValveOutputs : All [
    (valved { active := true, level := true, vset := 7 }, fun c => [c.outs.valves[15].active, !c.outs.valves[15].pwm,
      c.fld (F.vreg_T_PULL 7) * 4000 == c.tb.ticks, c.holdsPwm 7]),
    (valved { active := true, level := true, pwm := true, vset := 7 }, fun c => [c.outs.valves[15].pwm, c.outs.valves[15].level]),
    (valved { active := true, pwm := true, vset := 7 }, fun c => [c.outs.valves[15].pwm, !c.outs.valves[15].level]),
    (valved { offAt := some 0, delayed := some (7, none) }, fun c => [c.outs.valves[15].delayed.isSome, c.outs.valves[15].offAt == some 0,
      c.fld (F.valveCfg_OFF_MIN 15) * 40 == c.tb.ticks]),
    (valved {}, fun c => [c.cclkRuns, !c.shadows, c.flag (F.valveCfg_DIAG_EN 15), !c.outs.valves[15].active, !(bitOf (c.fld F.valveStatus_OPEN) 15),
      roomy c, c.bus.commits.isEmpty]),
    (valved { active := true, level := true, onAt := 9999 }, fun c => [!c.shadows, c.flag (F.valveCfg_DIAG_EN 15),
      c.outs.valves[15].level, decide (c.outs.valves[15].onAt + 2000 < c.tb.ticks), roomy c]),
    (valved { active := true, level := true, pwm := true, vset := 7, periodAt := 12000 }, fun c => [c.outs.valves[15].pwm,
      decide (c.tb.ticks < 12000 + 400000000 / [1000, 2000, 5000, 10000].getD (c.fld (F.vreg_F_SEL 7)) 20000),
      decide (c.tb.ticks - 12000 < c.pwmOn 7)]),
    (fl [(F.vreg_F_SEL 7, 7)] (valved { active := true, level := true, pwm := true, vset := 7, periodAt := 1999 }), fun c => [
      c.outs.valves[15].pwm, c.outs.valves[15].level, decide (c.tb.ticks < 1999 + 400000000 / 20000), decide (c.pwmOn 7 ≤ c.tb.ticks - 1999)]),
    (fl [(F.vreg_F_SEL 7, 7)] { valved { active := true, pwm := true, vset := 7 } with tb := { live.tb with ticks := 20000 } }, fun c => [
      c.outs.valves[15].pwm, c.outs.valves[15].periodAt + 400000000 / 20000 == c.tb.ticks]),
    (valved { active := true, level := true, vset := 7, onAt := 1 }, fun c => [decide (c.tb.ticks < 1 + c.fld (F.vreg_T_PULL 7) * 4000)]),
    (valved { delayed := some (7, none), offAt := some 1 }, fun c => [decide (c.tb.ticks < 1 + c.fld (F.valveCfg_OFF_MIN 15) * 40)]),
    (valved { active := true, level := true, onAt := 10000 }, fun c => [decide (c.tb.ticks ≤ 10000 + 2000)]),
    ({ valved { offAt := some 0 } with tb := { live.tb with ticks := 19600 } }, fun c => [c.cclkRuns, !c.shadows, c.flag (F.valveCfg_DIAG_EN 15),
      !c.outs.valves[15].active, 0 + 20000 == c.tb.ticks + 2 * c.tb.length, !(bitOf (c.fld F.valveStatus_OPEN) 15), roomy c]),
    (live, fun c => [!c.flag (F.valveCfg_DIAG_EN 15), !c.outs.valves[15].pwm]), (State.reset.chip, fun c => [!c.frameRuns]),
    ({ live with power := { isOff := true } }, fun c => [!c.cclkRuns])] :=
  all_of (by decide +kernel)

theorem witness_PinSelection : All [
    ({ fl [(F.tioSel_FUNC 7, 3)] live with outs := { live.outs with tio := modAt live.outs.tio 7 fun x => { x with lk := true } } },
      fun c => [c.bus.commits.isEmpty, c.tioHeld 7, roomy c, c.fld (F.tioSel_FUNC 7) != 0]),
    (fl [(F.tioSel_FUNC 0, 1), (F.tioSel_CHANNEL 0, 15)] live, fun c => [c.bus.commits.isEmpty, !c.tioHeld 7, c.channelNamed 7 15, roomy c]),
    (live, fun c => [c.bus.commits.isEmpty, !c.tioHeld 0, !c.channelNamed 0 0]),
    (State.reset.chip, fun c => [!c.frameRuns])] :=
  all_of (by decide +kernel)

/-- The block whose timers have begun, with fields at values. -/
def timed (l : List (Fld × Nat)) : Chip := { fl l live with timers := { live.timers with begun := true } }

/-- What both statements about timers ask for. -/
def quietTimers (c : Chip) : Bool :=
  c.bus.timerCommits.isEmpty && decide (c.fld F.pwrState_STATE < 2) && c.timers.begun &&
    ((List.finRange 4).all fun x => c.fld (F.tuCfg_CHAIN x) == 0) && (List.finRange 16).all fun x => !c.timers.ch[x].fresh

theorem witness_TimerEdges : All [
    ((timed []).put (R.tuCount 3) 0xFFFFFFFF, fun c => [quietTimers c, c.get (R.tuCount 3) == 0xFFFFFFFF, c.fld (F.tuCfg_PRESCALE 3) == 0]),
    ((timed [(F.chCtrl_MODE 3 3, 1), (F.chStatus_WAITING 3 3, 1)]).put (R.chValue 3 3) 1, fun c => [quietTimers c,
      c.fld (F.chCtrl_MODE 3 3) == 1, c.flag (F.chStatus_WAITING 3 3), c.get (R.chValue 3 3) == c.get (R.tuCount 3) + 1]),
    (timed [(F.chCtrl_MODE 3 3, 2), (F.tioSel_FUNC 7, 1), (F.tioSel_CHANNEL 7, 15)], fun c => [quietTimers c, c.bit R.tioLevel 7 != true,
      c.fld (F.tioSel_FUNC 7) == 1, c.fld (F.tioSel_CHANNEL 7) == 4 * 3 + 3, c.fld (F.chCtrl_MODE 3 3) == 2,
      !c.flag (F.chCtrl_CAP_SRC 3 3), c.fld (F.chCtrl_CAP_EDGE 3 3) == 0]),
    (State.reset.chip, fun c => [!c.tb.running]), ({ live with power := { isOff := true } }, fun c => [c.power.isOff]),
    (fl [(F.tioSel_FILT 7, 15)] live, fun c => [!c.bit R.tioLevel 7, decide (16 < 2 + c.fld (F.tioSel_FILT 7)), 17 == 2 + c.fld (F.tioSel_FILT 7)])] :=
  all_of (by decide +kernel)

theorem witness_TimerCommits : All [
    (timed [(F.chCtrl_MODE 3 3, 1)], fun c => [quietTimers c, c.fld (F.chCtrl_MODE 3 3) == 1]),
    (timed [], fun c => [quietTimers c, c.fld (F.chCtrl_MODE 0 0) == 0, c.fld (F.chCtrl_MODE 0 0) != 1]),
    (timed [(F.chCtrl_MODE 3 3, 2)], fun c => [quietTimers c, c.fld (F.chCtrl_MODE 3 3) == 2]),
    (State.reset.chip, fun c => [!c.tb.running]), ({ live with power := { isOff := true } }, fun c => [c.power.isOff]),
    ({ live with bus := { live.bus with timerCommits := [(R.chValue 3 3, 7), (R.timerSnap, 0)] } }, fun c => [
      c.bus.timerCommits.contains (R.chValue (15 / 4) (15 % 4), 7), c.bus.timerCommits.contains (R.timerSnap, 0)]),
    (live, fun c => [c.tb.running, !c.power.isOff])] :=
  all_of (by decide +kernel)

/-- A window of a request. -/
def win (r : Nat) (angle : Bool) : ConvWin := { req := r, angle := angle, len := 100 }

/-- The block with a converter, at a tick of the frame, request 15 on core 1 with a wait of 2 and core 1 as it is configured. -/
def converting (l : List (Fld × Nat)) (v : Conv) : Chip := { fl ([(F.reqCfg_CORE 15, 1), (F.reqCfg_MAX_LAT 15, 2)] ++ l) live with
  conv := v }

/-- A core with an open window. -/
def coreWin (w : ConvWin) : Vector ConvCore 2 := #v[{}, { win := some w }]

theorem witness_ConversionWindows : All [
    (converting [] { inbox := [(9, .open (win 15 true))] }, fun c => [c.reqCore 15 == 1, !c.isContinuous 1, !c.reqBusy 15,
      c.conv.second.isNone, c.conv.cores[1].win.isNone]),
    (converting [(F.reqCfg_CORE 0, 1)] { inbox := [(99, .open (win 15 true))], cores := coreWin (win 0 false) }, fun c =>
      [c.reqCore 15 == 1, !c.isContinuous 1, !c.reqBusy 15, c.conv.second.isNone, decide (99 < 0 + (win 0 false).len),
        c.ringFill 0 != 512, decide (c.conv.tags[0] < 16)]),
    (converting [] { inbox := [(9, .open (win 15 false))] }, fun c => [c.reqCore 15 == 1, !c.isContinuous 1, !c.reqBusy 15,
      c.conv.cores[1].win.isNone, c.conv.waiting.isEmpty]),
    (converting [] { inbox := [(9, .open (win 15 false))], cores := coreWin (win 0 true) }, fun c => [c.reqCore 15 == 1,
      !c.isContinuous 1, !c.reqBusy 15, c.fld (F.reqCfg_MAX_LAT 15) != 0]),
    (converting [] { waiting := [(1, 0, win 15 false), (0, 3, win 0 false)], base := 20 }, fun c => [c.frameRuns, c.conv.cores[1].win.isNone,
      c.conv.inbox.isEmpty, c.conv.cores[1].freed == 0, 0 + 10 * c.fld (F.reqCfg_MAX_LAT 15) == c.conv.base + min 10 (39 / 40)]),
    (converting [] { waiting := [(1, 11, win 15 false)] }, fun c => [c.frameRuns, decide (c.conv.base + min 10 ((402 + 39) / 40) < 11)]),
    (converting [] { waiting := [(1, 0, win 15 false)], cores := #v[{}, { freed := 11 }] }, fun c => [c.frameRuns,
      decide (c.conv.base + min 10 ((402 + 39) / 40) < c.conv.cores[1].freed)]),
    (converting [] { waiting := [(1, 0, win 15 false)], base := 20 }, fun c => [c.frameRuns,
      decide (0 + 10 * c.fld (F.reqCfg_MAX_LAT 15) < c.conv.base + min 10 ((1 + 39) / 40))]),
    (converting [] { waiting := [(1, 0, win 15 false)], cores := coreWin (win 0 true) }, fun c => [c.frameRuns, c.conv.cores[1].win.isSome]),
    (converting [(F.coreCfg_MODE 1, 1)] { inbox := [(9, .sync 1)] }, fun c => [c.isContinuous 1, c.conv.cores[1].win.isNone]),
    (converting [] { inbox := [(9, .sync 1)] }, fun c => [!c.isContinuous 1, c.conv.cores[1].win.isNone, c.conv.second.isNone]),
    (converting [] { inbox := [(9, .sync 1)], cores := coreWin (win 15 true) }, fun c => [!c.isContinuous 1, c.ringFill 15 != 512,
      decide (c.conv.tags[15] < 16)]),
    (live, fun c => [c.bus.commits.isEmpty, c.conv.inbox.isEmpty]),
    ({ live with tb := { live.tb with frame := 99 } }, fun c => [c.tb.frame.toNat % 100 != 0]),
    ({ live with tb := { live.tb with frame := 100 } }, fun c => [c.tb.frame.toNat % 100 == 0, (c.get R.monCfg).toNat % 2 == 1,
      c.supRuns, !c.isContinuous 1, !c.reqBusy 16, c.conv.cores[1].win.isNone, c.conv.waiting.isEmpty, c.conv.inbox.isEmpty,
      c.conv.burst != some c.conv.base]),
    (State.reset.chip, fun c => [!c.frameRuns]), (fl [(F.devStatus_SUP_RUN, 0)] live, fun c => [!c.supRuns]),
    (converting [(F.coreCfg_MODE 1, 1)] { inbox := [(9, .open (win 15 true))] }, fun c => [c.frameRuns, c.reqCore 15 == 1, c.isContinuous 1,
      c.conv.second.isNone, c.ringFill 15 != 512, decide (c.conv.tags[15] < 16), roomy c, c.conv.cores[1].win.isNone]),
    (converting [] { inbox := [(9, .open (win 15 true))], cores := coreWin (win 0 true) }, fun c => [c.frameRuns, c.reqCore 15 == 1, !c.isContinuous 1,
      !c.reqBusy 15, c.conv.second.isNone, c.ringFill 15 != 512, decide (c.conv.tags[15] < 16), roomy c]),
    (converting [(F.reqCfg_MAX_LAT 15, 0)] { inbox := [(99, .open (win 15 false))], cores := coreWin (win 0 false) }, fun c => [c.frameRuns,
      c.reqCore 15 == 1, !c.isContinuous 1, !c.reqBusy 15, c.fld (F.reqCfg_MAX_LAT 15) == 0, decide (99 < 0 + (win 0 false).len),
      c.ringFill 15 != 512, decide (c.conv.tags[15] < 16), roomy c]),
    ({ live with conv := { live.conv with burst := some live.conv.base } }, fun c => [c.conv.burst == some c.conv.base])] :=
  all_of (by decide +kernel)

theorem witness_ConversionResults : All [
    (converting [] { inbox := [(9, .close 15 0)], cores := coreWin (win 15 true) }, fun c => [decide (c.conv.tags[15] < 16),
      c.ringFill 15 != 512, c.conv.cores[0].win.isNone, c.bus.commits.isEmpty]),
    (converting [] { cores := coreWin (win 15 false), base := 90, tags := Vector.replicate 16 15 }, fun c => [decide (c.conv.tags[15] < 16),
      c.ringFill 15 != 512, 0 + (win 15 false).len == c.conv.base + 10]),
    (converting [] { cores := coreWin (win 15 true), base := 2 ^ 28 - 10 }, fun c => [c.ringFill 15 != 512, 2 ^ 28 == c.conv.base + 10]),
    (converting [(F.coreCfg_MODE 1, 1), (F.coreCfg_CONT_REQ 1, 15), (F.coreCfg_OSR_LOG 1, 6)] { base := 54 }, fun c =>
      [c.isContinuous 1, c.fld (F.coreCfg_CONT_REQ 1) == 15, c.reqCore 15 == 1, c.ringFill 15 != 512,
        2 ^ max 6 (min 10 (c.fld (F.coreCfg_OSR_LOG 1))) == c.conv.base + 10]),
    (converting [] { waiting := [(1, 0, win 15 false)], base := 20 }, fun c => [c.conv.second.isNone, roomy c, c.ringFill 15 != 512,
      10 * c.fld (F.reqCfg_MAX_LAT 15) == c.conv.base]),
    ((converting [] { cores := coreWin (win 15 false), base := 90 }).put (R.resHead 15) 512, fun c => [c.ringFill 15 == 512, roomy c]),
    (State.reset.chip, fun c => [!c.frameRuns]),
    (converting [] { cores := coreWin { win 15 false with trunc := true }, base := 90 }, fun c => [c.frameRuns, decide (c.conv.tags[15] < 16),
      c.ringFill 15 != 512, 0 + (win 15 false).len == c.conv.base + 10]),
    (converting [] { cores := #v[{}, { win := some (win 15 false), suspect := true }], base := 90 }, fun c => [c.frameRuns,
      decide (c.conv.tags[15] < 16), c.ringFill 15 != 512, c.conv.cores[1].suspect, !c.isContinuous 1, 0 + (win 15 false).len == c.conv.base + 10]),
    (converting [] { cores := coreWin (win 0 true), waiting := [(1, 0, win 15 false)], base := 20 }, fun c => [c.frameRuns, c.conv.second.isNone, roomy c,
      c.ringFill 15 != 512, c.conv.cores[1].win.isSome, c.conv.inbox.isEmpty, 0 + 10 * c.fld (F.reqCfg_MAX_LAT 15) == c.conv.base])] :=
  all_of (by decide +kernel)

/-! ## Witnesses: supplies and power -/

/-- The block with a supply, its boost controller enabled. -/
def supplied (p : Power) : Chip := { fl [(F.boostCtrl_EN, 1)] live with power := p }

theorem witness_Supplies : All [
    (supplied {}, fun c => [roomy c, decide (c.fld F.pwrState_STATE < 2), !c.power.isOff, c.flag F.boostCtrl_EN, !c.boostStopped,
      !c.weakGates, !c.shadows, !c.power.reached]),
    (supplied { reached := true, vpreOk := true, vcoreOk := true, vioOk := true }, fun c => [roomy c, c.power.reached, c.power.vcoreOk,
      c.power.vioOk, c.power.vpreOk, !c.power.dip, !c.power.reduced, !c.power.ov, decide (4750 ≤ c.power.vbat),
      decide (c.power.vbat < 57750), !c.power.low]),
    ({ live with power := { isOff := true } }, fun c => [c.power.isOff]),
    (fl [(F.pwrState_STATE, 2)] (supplied {}), fun c => [!c.frameRuns, c.boostStopped]),
    (supplied {}, fun c => [c.frameRuns, c.flag F.boostCtrl_EN, !c.boostStopped, !c.power.reached, roomy c, decide (0 < max 1 (c.fld F.boostTiming_START_MAX))]),
    (fl [(F.boostCtrl_EN, 0)] live, fun c => [c.frameRuns, !c.flag F.boostCtrl_EN]),
    (supplied { charging := true }, fun c => [c.power.charging, !c.boostStopped, !c.power.paused, decide (2 * c.activeLimit ≤ 1023), roomy c]),
    (fl [(F.boostCtrl_ILIM, 1)] (supplied { charging := true }), fun c => [decide (1 < 2 * c.activeLimit)]),
    (fl [(F.devStatus_SUP_RUN, 0)] live, fun c => [!c.supRuns]),
    (supplied { vbat := 4600, vpreOk := true, vcoreOk := true, vioOk := true, dip := true, low := true, ov := false }, fun c => [roomy c, c.power.vpreOk,
      c.power.vcoreOk, c.power.vioOk, c.power.low, c.power.dip])] :=
  all_of (by decide +kernel)

/-- The block with a latency tolerance, with fields at values. -/
def tolerant (l : Nat) (fs : List (Fld × Nat)) (p : Power) : Chip :=
  { (fl (fs ++ [(F.pwrStatus_FLOOR_DWELL, 0)]) live).put R.ltr (BitVec.ofNat 32 l) with power := p }

/-- Nothing defers an entry. -/
def ripe (c : Chip) : Bool := !c.power.isOff && c.tb.running && !c.power.offEntry && !c.deferred && !c.masterWaits

/-- The state that R497 chooses, as the statement writes it. -/
def chosen (c : Chip) : Nat :=
  let ringWide := c.flag F.pwrState_RING_LTR_ACTIVE
  let ltr := if ringWide then c.power.ringLtr.toNat else (c.get R.ltr).toNat
  let deepest := if 35000 ≤ ltr then 4 else if 3000 ≤ ltr then 3 else if 150 ≤ ltr then 2 else if 4 ≤ ltr then 1 else 0
  let allowed := if deepest == 4 && !(c.flag F.pwrCfg_OFF_EN && c.power.keyOff) then 3 else deepest
  let floored := c.flag F.pwrState_ROTATING || c.flag F.pwrStatus_FLOOR_DWELL ||
    ((c.fld F.ringStatus_LINK == 3 || c.flag F.twinStatus_LINK_UP) && !ringWide) || (c.isMaster && !c.ring.rotating.isEmpty)
  if floored then min allowed 1 else allowed

theorem witness_PowerStates : All [
    (tolerant 3 [] {}, fun c => [ripe c, chosen c == 0]),
    (tolerant 149 [] {}, fun c => [ripe c, chosen c == 1]),
    (tolerant 150 [] {}, fun c => [ripe c, chosen c == 2]),
    (tolerant 65535 [(F.pwrState_STATE, 1)] {}, fun c => [ripe c, chosen c == 3]),
    (tolerant 35000 [(F.pwrCfg_OFF_EN, 1), (F.pwrState_STATE, 3)] { keyOff := true }, fun c => [ripe c, chosen c == 4]),
    (fl [(F.mbxStatus_BUSY, 1)] live, fun c => [c.deferred, !c.power.offEntry]),
    ({ live with power := { offEntry := true, forced := true } }, fun c => [!c.power.isOff, c.tb.running, c.power.forced, !c.onRing, c.fld F.tagStatus_PHASE == 0,
      !c.flag F.mbxStatus_BUSY, c.jnl.waiting.isEmpty]),
    (live, fun c => [!c.power.isOff, decide (c.fld F.pwrState_STATE ≤ 1), !c.wakeEnabled 0, !c.power.woke, !c.power.offEntry, !c.flag F.pwrStatus_KEY]),
    ({ fl [(F.pwrState_STATE, 2)] live with timers := { live.timers with wakeDue := true } }, fun c => [!c.power.isOff, c.wakeEnabled 4]),
    (fl [(F.pwrState_STATE, 3)] live, fun c => [!c.power.isOff, c.wakeEnabled 5, c.power.wakeCode.isNone]),
    ({ live with power := { isOff := true } }, fun c => [c.power.isOff, c.power.wakeCode.isNone]),
    (fl [(F.pwrStatus_KEY, 1)] live, fun c => [c.flag F.pwrStatus_KEY]),
    (tolerant 3 [(F.pwrState_STATE, 2)] {}, fun c => [ripe c, c.fld F.pwrState_STATE == 2, chosen c == 0]),
    (tolerant 150 [(F.pwrState_STATE, 2)] {}, fun c => [!c.power.offEntry, c.fld F.pwrState_STATE == 2, chosen c == 2]),
    (tolerant 150 [(F.mbxStatus_BUSY, 1)] {}, fun c => [!c.power.isOff, c.tb.running, !c.power.offEntry, c.deferred, chosen c == 2]),
    (tolerant 65535 [(F.ringStatus_LINK, 2)] {}, fun c => [ripe c, c.onRing, chosen c == 3]),
    (tolerant 150 [(F.pwrState_STATE, 1)] {}, fun c => [ripe c, !c.onRing, chosen c == 2]),
    (State.reset.chip, fun c => [!c.power.offEntry, !c.tb.running]),
    ({ fl [(F.pwrState_STATE, 3)] live with power := { wakeCode := some 7 } }, fun c => [!c.power.isOff, c.wakeEnabled 5, c.power.wakeCode == some 7]),
    (live, fun c => [!c.power.isOff, decide (c.fld F.pwrState_STATE ≤ 1), !c.power.offEntry, c.fld F.pwrCfg_DWELL == c.fld F.pwrCfg_DWELL]),
    (fl [(F.pwrCfg_DWELL, 1), (F.pwrCfg_KEYOFF_DELAY, 1)] live, fun c => [decide (0 < c.fld F.pwrCfg_DWELL), c.fld F.pwrCfg_DWELL == 1,
      !c.flag F.pwrStatus_KEY, c.fld F.pwrCfg_KEYOFF_DELAY == 1]),
    ({ live with power := { offEntry := true } }, fun c => [!c.power.isOff, decide (c.fld F.pwrState_STATE ≤ 1), !c.power.woke, c.power.offEntry, !c.power.forced]),
    (fl [(F.pwrState_STATE, 2), (F.pwrCfg_WAKE_KEY, 1)] live, fun c => [!c.power.isOff, !c.power.offEntry, c.fld F.pwrState_STATE == 2,
      !c.flag F.pwrStatus_KEY, c.flag F.pwrCfg_WAKE_KEY]),
    ({ fl [(F.pwrState_WAKE_SOURCE, 6)] live with power := { woke := true } }, fun c => [!c.power.isOff, decide (c.fld F.pwrState_STATE ≤ 1),
      c.power.woke, c.wakeEnabled 5, decide (5 < c.fld F.pwrState_WAKE_SOURCE), decide (c.fld F.pwrState_WAKE_SOURCE ≤ 6)]),
    ({ live with power := { offEntry := true, forced := true } }, fun c => [!c.power.isOff, decide (c.fld F.pwrState_STATE ≤ 1), !c.power.woke,
      c.power.offEntry, c.power.forced, chosen c != 4]),
    (tolerant 35000 [(F.pwrCfg_OFF_EN, 1)] { keyOff := true, offEntry := true, forced := true }, fun c => [!c.power.isOff, c.tb.running,
      decide (c.fld F.pwrState_STATE ≤ 1), !c.power.woke, c.power.offEntry, c.power.forced, chosen c == 4]),
    (fl [(F.devStatus_READY, 0)] (tolerant 150 [] {}), fun c => [!c.ready, ripe c, chosen c == 2])] :=
  all_of (by decide +kernel)

/-! ## Witnesses: the Dielm ring -/

/-- A cell from its bytes 1 to 13, with the CHECK that R546 gives it. -/
def cell (l : List Byte) : RingCell :=
  { bytes := Vector.ofFn fun i => if i.val < 13 then l.getD i.val 0 else crc8 (fitBytes 13 l), bad := 0 }

/-- A block on the ring: node 9, LINK, with more fields and a ring. -/
def onRing (link : Nat) (l : List (Fld × Nat)) (r : Ring) : Chip :=
  { fl ([(F.ringAddr_NODE, 9), (F.ringAddr_CONFIGURED, 1), (F.ringStatus_LINK, link), (F.ringJoinStatus_QUOTA, 4)] ++ l) live with
    ring := r }

/-- A WRITE cell for node 9 from node 3 with tag 7, PSEQ 1, to an extended address. -/
def writeCell (a : Nat) (v : List Byte) : RingCell := cell ([0x10, 9, 3, 7, 1] ++ leBytes 3 a ++ v)

/-- The address of a WRITE cell. -/
def cellAddr (x : RingCell) : Nat := (Chip.cn x 6 + 256 * Chip.cn x 7 + 65536 * Chip.cn x 8) % 2 ^ 23

/-- A posted write to node 3. -/
def posted : RWrite := { target := 3, tag := 7, pseq := 1, addr := 4, data := 5, sent := true }

/-- The block whose one posted write waits for its judgement. -/
def judging (w : RWrite) (t : List RTarget) : Chip := onRing 3 [] { writes := [w], targets := t }

theorem witness_RingWrites : All [
    (onRing 3 [(⟨R.ringRemoteCfg, 2, 2⟩, 1)] {}, fun c => [c.claims? 1 (writeCell R.monCfg []), regionOf (cellAddr (writeCell R.monCfg [])) == 2,
      bitOf (c.get R.ringRemoteCfg).toNat 2]),
    (onRing 3 [(⟨R.ringRemoteCfg, 31, 0⟩, 0), (F.devStatus_READY, 0)] {}, fun c => [c.claims? 1 (writeCell R.cipherErase []),
      Chip.lateRegion (cellAddr (writeCell R.cipherErase [])), !c.ready, c.get R.ringRemoteCfg == 0]),
    (onRing 3 [(⟨R.ringRemoteCfg, 31, 0⟩, 0)] {}, fun c => [c.claims? 1 (writeCell 4 []), (Chip.extRow? (cellAddr (writeCell 4 []))).isNone,
      c.claims? 1 (writeCell R.schedCycle []), (Chip.extRow? R.schedCycle).any fun r => r.rw ||| r.w1c ||| r.wo == 0,
      c.claims? 1 (writeCell R.monCfg []), (Chip.extRow? R.monCfg).any (fun r => r.rw != 0), !c.ruleRefuses R.monCfg 0]),
    (onRing 3 [(⟨R.ringRemoteCfg, 31, 0⟩, 0), (F.chCtrl_MODE 0 0, 2)] {}, fun c => [c.claims? 1 (writeCell (R.chValue 0 0) []),
      c.ruleRefuses (R.chValue 0 0) 0]),
    (live, fun c => [Chip.cellOk (writeCell 4 []), !c.claims? 1 (writeCell 4 []), !c.claims? 2 (writeCell 4 []), c.link != 3]),
    (onRing 3 [] {}, fun c => let x : RingCell := { writeCell 4 [] with bad := 0x1000 }
      [!Chip.cellOk x, c.link == 3, c.quota != 0, Chip.cn x 2 == c.node, Chip.cellType x == 1, !Chip.cellSecure x,
        bitsOf x.bad.toNat 5 3 == 0]),
    (onRing 3 [] {}, fun c => [c.claims? 2 (cell [0x20, 9, 3, 7, 1, 2]), c.ring.writes.isEmpty]),
    (judging posted [], fun c => [c.claims? 2 (cell [0x20, 9, 3, 7, 1, 2]), c.ring.writes.all fun w =>
      w.target == 3 && w.tag == 7 && w.sent && w.pseq == 1 && !w.judged]),
    (judging { posted with judged := true, nack := some 6 } [], fun c => [c.claims? 2 (cell [0x20, 9, 3, 7, 1, 2]), c.ring.writes.all fun w =>
      w.judged && w.nack == some 6]),
    (onRing 3 [] {}, fun c => let x := cell [0x30, 9, 3, 3, 1, 0, 0, 9, 5, 6, 9, 7, 8]
      [c.link == 3, Chip.cellOk x, Chip.cellType x == 3, !Chip.cellSecure x, c.claims? 3 x, decide (2 < min 3 (Chip.cn x 4)), Chip.cn x 11 == c.node]),
    (onRing 3 [] {}, fun c => let x := cell [0x30, 8, 3, 2, 1, 0, 0, 9, 5, 6]
      [c.link == 3, Chip.cellOk x, Chip.cellType x == 3, !Chip.cellSecure x, !c.claims? 3 x, decide (1 < min 3 (Chip.cn x 4)), Chip.cn x 8 == c.node]),
    (judging { posted with sent := false } [], fun c => [(c.ring.writes.find? fun y => y.tag == 7 && !y.sent).isSome]),
    (judging { posted with nack := some 2 } [], fun c => [c.ring.writes.all fun w => !w.judged && !w.counted && w.nack == some 2]),
    (judging { posted with returned := true } [], fun c => [c.ring.writes.all fun w => w.nack.isNone && w.returned]),
    (judging posted [], fun c => [(c.target? 3).report.isNone, c.ring.writes.all fun w => w.nack.isNone && !w.returned && !w.judged && !w.counted]),
    (judging { posted with old := true } [{ node := 3, report := some (1, 1), prev := 0 }], fun c => [(c.target? 3).report == some (1, 1),
      c.ring.writes.all fun w => w.old && w.nack.isNone && !w.returned]),
    (judging posted [{ node := 3, report := some (128, 1), prev := 0 }], fun c => [(c.target? 3).report == some (128, 1),
      decide ((128 + 256 - 1) % 256 < 128), decide (1 ≤ (1 + 256 - (c.target? 3).prev % 256) % 256)]),
    (judging posted [{ node := 3, report := some (1, 0), prev := 0 }], fun c => [(c.target? 3).report == some (1, 0),
      (0 + 256 - (c.target? 3).prev % 256) % 256 == 0]),
    ({ onRing 3 [(⟨R.ringRemoteCfg, 31, 0⟩, 0)] {} with part := .lb8612 }, fun c => [c.claims? 1 (writeCell (R.injCh 12) []), c.absent (cellAddr (writeCell (R.injCh 12) [])),
      c.get R.ringRemoteCfg == 0, !Chip.lateRegion (cellAddr (writeCell (R.injCh 12) []))]),
    (onRing 3 [] {}, fun _ => let x : RingCell := { writeCell 4 [] with bad := 0x0008 }
      [!Chip.cellOk x, bitsOf x.bad.toNat 5 3 != 0]),
    (judging posted [], fun c => [c.ring.writes.all fun w => w.tag != 7 || w.sent]),
    (judging { posted with judged := true } [], fun c => [c.ring.writes.all fun w => w.tag != 7 || w.judged])] :=
  all_of (by decide +kernel)

/-- What the beacon of the running cycle said. -/
def heardInfo : BeaconInfo := { tick := 0, epoch := 1, time := 5000, cycle := 2, posValid := 1, owners := [3, 0, 0, 0] }

/-- Bytes 1 to 9 of a secured HOST cell from node 3. -/
def secureHead : List Byte := [0x78, 9, 3, 1, 2, 0xAA, 0xBB, 0, 0]

/-- A secured HOST cell with the MAC of R631 under the message key. -/
def secureCell : RingCell := cell (secureHead ++ Chip.hostMac (key 3).bytes heardInfo secureHead)

/-- A plain HOST cell. -/
def hostCell : RingCell := cell [0x70, 9, 3, 1, 2, 1, 2]

/-- A valid outbound entry with FLAGS and a length in entry 127. -/
def outbound (flags len : Nat) (c : Chip) : Chip := c.putBytes (Chip.outOff 127) [1, 0, 3, 1, BitVec.ofNat 8 len, BitVec.ofNat 8 flags, 5]

theorem witness_RingHostMessages : All [
    (live, fun c => [!c.claims? 7 hostCell, c.nextOut.isNone, !c.ring.hosts.any (·.1 == 127), decide (c.link < 2)]),
    ((onRing 3 [] {}).put R.ringRxHead 128, fun c => [c.claims? 7 hostCell,
      ((c.get R.ringRxHead).toNat + 256 - (c.get R.ringRxTail).toNat % 256) % 256 == 128]),
    ((onRing 3 [] {}).put R.ringRxHead 127, fun c => [c.claims? 7 hostCell, !Chip.cellSecure hostCell]),
    (keyed [(2, key 3)] (onRing 3 [] { cur := some heardInfo }), fun c => [c.claims? 7 secureCell, Chip.cellSecure secureCell,
      c.authBeacon secureCell == some heardInfo]),
    (onRing 3 [] {}, fun c => [c.claims? 7 secureCell, Chip.cellSecure secureCell, (c.roleKey 3).isNone, roomy c]),
    (outbound 0 8 live, fun c => [c.nextOut == some 127, c.win.ecc.isEmpty, c.link != 3]),
    (outbound 0 8 (onRing 3 [(F.ringJoinStatus_QUOTA, 0)] {}), fun c => [c.nextOut == some 127, c.link == 3, c.quota == 0]),
    (outbound 1 4 (onRing 3 [] {}), fun c => [c.nextOut == some 127, c.link == 3, c.quota != 0,
      bitOf (c.winByte (Chip.outOff 127 + 5)).toNat 0, (c.roleKey 3).isNone, roomy c]),
    (outbound 0 8 (onRing 3 [] { tx := List.replicate 24 { bytes := [], entry := none } }), fun c => [c.nextOut == some 127, c.link == 3,
      c.quota != 0, !(bitOf (c.winByte (Chip.outOff 127 + 5)).toNat 0), c.ring.tx.length == 24]),
    (outbound 0 8 (onRing 3 [] { hosts := [(127, (cell [0x70, 3, 9, 1]).bytes.toList)] }), fun c => let x := cell [0x70, 3, 9, 1]
      [c.deviceHeld (448 + 127 / 16), c.ring.hosts.any (·.1 == 127), decide (2 ≤ c.link), Chip.cn x 3 == c.node, Chip.cellType x == 7,
        c.ring.hosts.find? (fun y => y.2 == x.bytes.toList) == some (127, (cell [0x70, 3, 9, 1]).bytes.toList)]),
    (judging posted [], fun c => [decide (2 ≤ c.link), Chip.cn (cell [0x10, 3, 9, 7, 1]) 3 == c.node, Chip.cellType (cell [0x10, 3, 9, 7, 1]) == 1,
      c.ring.writes.all fun w => w.target == 3 && w.tag == 7 && w.pseq == 1 && w.sent && !w.judged]),
    (keyed [(2, key 3)] (outbound 1 4 (onRing 3 [] {})), fun c => [c.nextOut == some 127, c.win.ecc.isEmpty, c.link == 3, c.quota != 0,
      bitOf (c.winByte (Chip.outOff 127 + 5)).toNat 0, (c.roleKey 3).isSome, (c.winByte (Chip.outOff 127 + 4)).toNat == 4, decide (c.ring.tx.length ≤ 24)]),
    (keyed [(2, key 3)] (outbound 1 5 (onRing 3 [] {})), fun c => [c.nextOut == some 127, c.link == 3, c.quota != 0, (c.roleKey 3).isSome,
      (c.winByte (Chip.outOff 127 + 4)).toNat == 5, roomy c]),
    (outbound 0 8 (onRing 3 [] { tx := List.replicate 25 { bytes := [], entry := none } }), fun c => [c.nextOut == some 127, c.link == 3,
      c.quota != 0, !(bitOf (c.winByte (Chip.outOff 127 + 5)).toNat 0), decide (24 < c.ring.tx.length)]),
    (let c := outbound 0 8 (onRing 3 [] {})
     { c with win := { c.win with ecc := [(Chip.outOff 127 / 2, .double 3 4)] } }, fun c => [c.nextOut == some 127, c.link == 3,
      !(c.engineCheck (Chip.outOff 127) 8).1]),
    ({ onRing 3 [] { hosts := [(127, [])] } with win := { live.win with taken := [455] } }, fun c => [!c.deviceHeld (448 + 127 / 16),
      c.ring.hosts.any (·.1 == 127)]),
    (onRing 3 [] {}, fun c => [decide (2 ≤ c.link), Chip.cn (cell [0x20, 3, 9]) 3 == c.node, Chip.cellType (cell [0x20, 3, 9]) == 2,
      Chip.cellType (cell [0x70, 3, 9]) == 7, c.ring.hosts.isEmpty])] :=
  all_of (by decide +kernel)

/-- A status entry that is PRESENT, ROTATING and LOCKED, with a report for node 9. -/
def entry9 : Vector Byte 4 := #v[0xE0, 9, 1, 1]

theorem witness_RingMembership : All [
    (onRing 3 [(F.ringStatus_MASTER, 1)] {}, fun c => let x := cell [0x40, 9, 200, 31, 0x17]
      [c.isMaster, c.claims? 4 x, c.ring.members.isEmpty, c.ring.handover.isNone, roomy c, c.busOpen, c.bestHeir.isNone]),
    (onRing 3 [(F.ringStatus_MASTER, 1)] { members := [⟨200, 30, none, none, 1, 0⟩] }, fun c => let x := cell [0x40, 9, 200, 1]
      [c.isMaster, c.claims? 4 x, c.ring.members.any fun m => m.node == 200,
        c.ring.regain.isNone, c.ring.members.any fun m => decide (1 ≤ m.absent), roomy c, c.link == 3, decide (200 ≠ c.node)]),
    (onRing 3 [(F.ringStatus_MASTER, 1)] {}, fun c => let x := cell [0x60, 9, 200]
      [c.isMaster, c.claims? 6 x]),
    (onRing 2 [] { joining := some 3 }, fun c => let x := cell [0x50, 9, 3, 2, 31, 0x81]
      [c.link == 2, Chip.cn x 2 == c.node, Chip.cellOk x, Chip.cellType x == 5, !Chip.cellSecure x, roomy c, Chip.cn x 4 == 2,
        !c.isMaster, c.ring.joining.isSome]),
    (onRing 3 [] {}, fun c => [c.link == 3, bitOf (entry9[0]).toNat 7, (entry9[1]).toNat == c.node, !c.isMaster, !c.ring.lost, roomy c,
      !c.masterCapable]),
    (onRing 3 [(F.ringStatus_MASTER, 1), (F.ringAddr_MASTER_CAPABLE, 1)] { members := [⟨1, 2, none, some 2, 0, 1⟩] }, fun c =>
      [c.link == 3, c.isMaster, bitOf (entry9[0]).toNat 5, decide (2 < c.ownKey), c.ring.handover.isNone, c.busOpen,
        (c.bestHeir.map fun m => m.node) == some 1, c.ring.closing.isNone]),
    (onRing 3 [(F.ringAddr_MASTER_CAPABLE, 1)] { lost := true }, fun c => [c.link == 3, c.masterCapable, c.ring.lost, !c.isMaster,
      c.busOpen, c.ring.closing.isNone]),
    (onRing 1 [(F.ringAddr_MASTER_CAPABLE, 1)] {}, fun c => [c.link == 1, c.masterCapable, !c.ring.heard]),
    (onRing 0 [] {}, fun c => [c.busOpen, c.link == 0, c.flag F.ringAddr_CONFIGURED, !c.ring.blocked,
      decide (c.fld F.pwrState_STATE < 2)]),
    (onRing 3 [(F.ringAddr_MASTER_CAPABLE, 1)] { lost := true }, fun c => [c.link == 3, c.masterCapable, c.ring.lost, !c.isMaster,
      c.keyWaited (4 + 2 * c.ownKey), !c.keyWaited (4 + 2 * c.ownKey - 1)]),
    (onRing 1 [(F.ringAddr_MASTER_CAPABLE, 1)] {}, fun c => [c.link == 1, c.masterCapable, !c.ring.heard, c.keyWaited (4 + 2 * c.ownKey),
      !c.keyWaited (4 + 2 * c.ownKey - 1)]),
    (onRing 2 [] { joining := some 8 }, fun c => [c.link == 2, c.ring.joining == some 8, roomy c]),
    (onRing 2 [] { joining := some 7 }, fun c => [c.link == 2, c.ring.joining == some 7]),
    (onRing 1 [(F.ringJoinStatus_RETRY_IN, 1)] {}, fun c => [c.link == 1, c.fld F.ringJoinStatus_RETRY_IN == 1]),
    (onRing 1 [(F.ringJoinStatus_RETRY_IN, 2)] {}, fun c => [decide (1 < c.fld F.ringJoinStatus_RETRY_IN)]),
    (onRing 3 [(F.ringStatus_MASTER, 1)] {}, fun c => [c.busOpen, decide (2 ≤ c.link), c.ring.closing.isNone, c.isMaster, c.bestHeir.isNone]),
    (live, fun c => [c.link != 2, c.link != 3, c.link != 1, !c.isMaster]),
    ({ live with power := { isOff := true } }, fun c => [c.link != 3, c.power.isOff])] :=
  all_of (by decide +kernel)

/-- A beacon with the CRC of R523. -/
def beacon (l : List Byte) : Vector Byte 31 :=
  Vector.ofFn fun i => if i.val < 29 then l.getD i.val 0 else (leBytes 2 (crc16 (fitBytes 29 l)).toNat).getD (i.val - 29) 0

/-- A beacon of master 1 in epoch 2 at a reference time, in cycle 5. -/
def sol (time : Nat) : Vector Byte 31 := beacon ([1, 0, 0, 2, 0] ++ leBytes 8 time ++ leBytes 4 5)

/-- A locked follower, with fields and a time base. -/
def following (l : List (Fld × Nat)) (epoch time : Nat) (r : Ring) : Chip :=
  let c := onRing 3 ([(F.ringStatus_LOCKED, 1), (F.ringStatus_MASTER_ADDR, 1)] ++ l) { r with hopSet := true }
  { c with tb := { c.tb with epoch := BitVec.ofNat 16 epoch, time := BitVec.ofNat 64 time } }

/-- A valid snapshot of node 3 in slot 0. -/
def shot : Vector Byte 24 := Vector.ofFn fun i => if i.val = 1 then 0x90 else if i.val = 2 then 3 else 0

/-- A model of the RING reference at rest. -/
def ringModel : Model := { ref := .ring, ang := 0, t := 0, w := 0, wPrev := 0, dPrev := 1, alpha := 0, sA := 0, rev := false, left := 0, entry := 0
                           clamp := none, sigma := 0, whole := false }

theorem witness_RingCycles : All [
    (onRing 3 [] {}, fun c => [!c.isMaster, !c.ring.takeOver, !c.power.isOff, decide (c.fld F.pwrState_STATE < 3), !c.ring.splice,
      !Chip.beaconCrcOk (List.replicate 31 1)]),
    (onRing 3 [(F.ringStatus_MASTER, 1)] {}, fun c => [c.cycleDue, c.isMaster, !c.ring.takeOver, c.ring.handover.isNone, !c.ring.splice, c.ring.setTime.isNone,
      Chip.beaconCrcOk (beacon [9]).toList, Chip.bb (beacon [9]).toList 1 1 == c.node]),
    (onRing 3 [(F.ringStatus_MASTER, 1)] { due := 1 }, fun c => [!c.cycleDue, c.isMaster, !Chip.beaconCrcOk (List.replicate 31 1)]),
    (onRing 3 [] { takeOver := true }, fun c => [!c.isMaster, c.ring.takeOver, !c.masterCapable]),
    (fl [(F.pwrState_STATE, 3)] live, fun c => [decide (3 ≤ c.fld F.pwrState_STATE)]),
    (onRing 0 [] {}, fun c => [c.link == 0, !c.power.isOff, decide (c.fld F.pwrState_STATE < 3), !c.isMaster, !c.ring.splice]),
    (following [] 2 5000 { masterAt := some 7 }, fun c => [c.link == 3, !c.isMaster, !c.ring.splice, Chip.beaconCrcOk (sol 5000).toList,
      c.ring.masterAt == some 7, Chip.bb (sol 5000).toList 1 1 == 1, c.ring.heir.isNone]),
    (following [] 2 5000 { masterAt := some 7, heir := some 1 }, fun c => [c.link == 3, c.ring.heir == some (Chip.bb (sol 5000).toList 1 1),
      c.ring.hopSet, !c.ring.afterMeasure, c.locked]),
    (let c := following [] 2 5000 { masterAt := some 1 }
     { c with ring := { c.ring with hopSet := false } }, fun c => [!c.ring.hopSet, c.locked, c.link == 3, !c.ring.afterMeasure]),
    (onRing 2 [] {}, fun c => [!c.power.isOff, decide (c.fld F.pwrState_STATE < 3), c.link != 3, !c.isMaster, !c.ring.splice, Chip.beaconCrcOk (sol 5000).toList]),
    (following [] 2 5000 { masterAt := some 1 }, fun c => [Chip.beaconCrcOk (sol 5000).toList, c.link == 3, c.ring.hopSet, !c.ring.afterMeasure, !c.ring.splice,
      c.locked, decide (400 < (c.phaseError 401).2.natAbs), roomy c]),
    (following [(F.ringStatus_LOCKED, 0)] 2 5000 { lockRun := 7 }, fun c => [!c.locked, decide ((c.phaseError 80).2.natAbs ≤ 80),
      decide (7 ≤ c.ring.lockRun), decide (80 < (c.phaseError 81).2.natAbs)]),
    (following [] 1 5000 {}, fun c => [c.locked, decide ((c.phaseError 400).2.natAbs ≤ 400), c.tb.epoch.toNat != 2]),
    (following [] 2 5000 {}, fun c => [c.locked, decide ((c.phaseError 0).2.natAbs ≤ 400), (c.phaseError 0).1 == 0, c.tb.epoch.toNat == 2,
      decide (c.tb.time.toNat ≤ Chip.bb (sol 5000).toList 6 8), decide (Chip.bb (sol 4999).toList 6 8 < c.tb.time.toNat)]),
    ({ following [] 2 5000 { cur := some heardInfo } with pred := { live.pred with active := some .ring, model := some ringModel } }, fun c =>
      [c.link == 3, c.locked, c.shotMatches heardInfo shot.toList, bitOf (leValue (shot.toList.take 2)) 15,
        !(bitOf (leValue (shot.toList.take 2)) 14), c.ranked .ring, !c.ring.mute, c.ring.last.isNone]),
    (following [] 2 5000 { cur := some { heardInfo with posValid := 0 } }, fun c => [!c.shotMatches { heardInfo with posValid := 0 } shot.toList]),
    (following [] 2 5000 { cur := some heardInfo }, fun c => [c.link == 3, c.locked, c.ring.cur.isSome]),
    (onRing 2 [] {}, fun c => [c.link != 3]),
    (following [] 2 5000 { cur := some heardInfo, mute := true }, fun c => [c.ring.mute])] :=
  all_of (by decide +kernel)

/-! ## Witnesses: twin pairs -/

/-- A twin frame with the CRC of R574. -/
def twinFrame (l : List Byte) : Vector Byte 23 :=
  Vector.ofFn fun i => if i.val < 21 then l.getD i.val 0 else (leBytes 2 (crc16 (fitBytes 21 l)).toNat).getD (i.val - 21) 0

/-- An enabled twin member in a state of R571, with more fields. -/
def member (state : Nat) (l : List (Fld × Nat)) (t : Twin) : Chip :=
  { fl ([(F.twinControl_TWIN_EN, 1), (F.twinStatus_STATE, state), (F.twinStatus_LINK_UP, 1)] ++ l) live with twin := { t with sel := true } }

/-- The member with a packet in its stream. -/
def mirrored (state : Nat) (l : List Byte) : Chip := member state [] { stream := l.map fun b => (b, 7) }

/-- A byte string's CRC register after more bytes, as a number that each step reduces at once. -/
def crcRun : List Byte → Nat → Nat
  | [], r => r
  | b :: l, 0 => crcRun l (stepN crc16Bit 8 (0#16 ^^^ BitVec.ofNat 16 (b.toNat * 256))).toNat
  | b :: l, n + 1 => crcRun l (stepN crc16Bit 8 (BitVec.ofNat 16 (n + 1) ^^^ BitVec.ofNat 16 (b.toNat * 256))).toNat

theorem crcRun_eq (l : List Byte) (r : Word) :
    l.foldl (fun r b => stepN crc16Bit 8 (r ^^^ BitVec.ofNat 16 (b.toNat * 256))) r = BitVec.ofNat 16 (crcRun l r.toNat) := by
  induction l generalizing r with
  | nil => simp [crcRun]
  | cons b l ih =>
    rw [List.foldl_cons, ih]
    have h : r = BitVec.ofNat 16 r.toNat := by simp
    cases hn : r.toNat with
    | zero => rw [hn] at h; simp only [crcRun, h]
    | succ n => rw [hn] at h; simp only [crcRun, h]

theorem crc16_run (l : List Byte) : crc16 l = BitVec.ofNat 16 (crcRun l 0xFFFF) := crcRun_eq l 0xFFFF#16

/-- A BLOCK packet for block 159, with the CRC of R586 or another. -/
def blockPacket (good : Bool) : List Byte := [1, 159, 0] ++ List.replicate 256 5 ++ [if good then 0x6F else 0x70, 0xE1]

theorem blockPacket_crc : (crc16 (((blockPacket true).drop 3).take 256)).toNat = leValue (((blockPacket true).drop 259).take 2) ∧
    (crc16 (((blockPacket false).drop 3).take 256)).toNat ≠ leValue (((blockPacket false).drop 259).take 2) := by
  rw [crc16_run, crc16_run]
  decide +kernel

theorem witness_TwinLink : All [
    (live, fun c => [!c.twinEn, !c.linkUp, c.headPacket.isNone]),
    (member 1 [] {}, fun c => [c.twinEn, c.frameRuns, (crc16 ((twinFrame []).toList.take 21)).toNat == leValue (((twinFrame []).toList.drop 21).take 2),
      (Chip.readItems 8 (((twinFrame []).toList.drop 13).take 8)).isSome,
      (Chip.readItems 8 (((twinFrame (List.replicate 13 0 ++ [0x01])).toList.drop 13).take 8)).isNone, c.linkUp, roomy c, c.shadows]),
    (mirrored 1 (blockPacket true), fun c => [(c.headPacket.map fun p => p.1) == some (blockPacket true), c.shadows]),
    (mirrored 2 (blockPacket false), fun c => [(c.headPacket.map fun p => p.1) == some (blockPacket false)]),
    (mirrored 2 [2, 0, 0, 3, 0, 0, 0, 0, 9], fun c => [(c.headPacket.map fun p => p.1.headD 0) == some 2]),
    (mirrored 3 [3, 0x58, 1, 2], fun c => [(c.headPacket.map fun p => p.1.headD 0) == some 3, !c.shadows]),
    (mirrored 1 [4, 63], fun c => [(c.headPacket.map fun p => p.1.headD 0) == some 4]),
    (mirrored 1 [5, 3, 0, 9], fun c => [(c.headPacket.map fun p => p.1.headD 0) == some 5]),
    (mirrored 3 [6, 0x12, 0x86, 0, 1, 0, 0, 0, 0, 0, 0], fun c => [(c.headPacket.map fun p => p.1.headD 0) == some 6, c.isOwner]),
    (mirrored 1 [6, 0x12, 0x86, 0, 1, 0, 0, 0, 0, 0, 0], fun c => [(c.headPacket.map fun p => p.1.headD 0) == some 6, !c.isOwner,
      decide (0x8612 ≠ c.partId), roomy c]),
    ({ member 1 [] {} with tb := State.reset.chip.tb }, fun c => [c.twinEn, !c.frameRuns]),
    (mirrored 1 [4, 63], fun c => [(c.headPacket.map fun p => p.1.headD 0) == some 4]),
    (mirrored 1 [6, 0x20, 0x86, 1, 1, 0, 0, 0, 0, 0, 0], fun c => [(c.headPacket.map fun p => p.1.headD 0) == some 6, c.partId == 0x8620,
      c.fld F.twinCfg_SEAT == 0, !c.follows])] :=
  all_of (by decide +kernel)

/-- A CAPTURE with one model and the CRC of R591. -/
def capture : List Byte := [0x26, 1] ++ fitBytes 290 [0, 0, 0, 0, 1] ++ [0x9C, 0x73]

theorem capture_ok : Chip.captureOk capture = true := by
  unfold Chip.captureOk
  simp only [crc16_run]
  decide +kernel

theorem witness_TwinOwnership : All [
    (live, fun c => [c.twin.due.isNone, c.twin.capture.isNone, c.twin.hand.isNone, c.twinState != 2, !c.isOwner]),
    (member 1 [] { due := some (63, 1), group := [.block 159 (List.replicate 256 9), .direct 0 1] }, fun c => [c.frameRuns, c.twin.due.isSome]),
    (member 1 [] { due := some (63, 1), group := [.block 159 (List.replicate 256 9)] }, fun c => [c.frameRuns, !c.hostOwned 159]),
    ({ member 1 [] { due := some (0, 1), group := [.block 10 (List.replicate 256 9)] } with win := { live.win with taken := [10] } }, fun c =>
      [c.frameRuns, c.hostOwned 10, roomy c]),
    (member 1 [(F.twinProgress_REJOIN_PHASE, 2)] { capture := some capture }, fun c => [c.frameRuns, c.twin.capture == some capture, c.shadows,
      c.fld F.twinProgress_REJOIN_PHASE == 2, !c.anchorPassed capture]),
    (member 3 [] { capture := some capture, hand := some 0 }, fun c => [c.frameRuns, !c.shadows, c.isOwner, c.twin.hand.isSome, roomy c,
      !c.flag F.twinCfg_SEAT]),
    (member 2 [] { hand := some 0 }, fun c => [c.twinState == 2, c.twin.hand.isSome, roomy c]),
    (member 1 [] { hand := some 0 }, fun c => [decide (c.twinState < 2), c.twin.hand.isSome]),
    (member 3 [(F.twinCfg_SEAT, 1)] {}, fun c => [c.isOwner, roomy c, c.flag F.twinCfg_SEAT])] :=
  all_of (by decide +kernel)

/-! ## Witnesses: the cipher engine -/

/-- A descriptor: OP, KEY_SLOT, DST_SLOT, TAG_LEN, the offsets and lengths, bytes 16 to 31. -/
def job (op slot dst tag i n aad aadLen out tagOff : Nat) (tail : List Byte) : List Byte :=
  [op, slot, dst, tag].map (BitVec.ofNat 8) ++ [i, n, aad, aadLen, out, tagOff].flatMap (leBytes 2) ++ fitBytes 16 tail

/-- The block with the key of a role in slot 3, data from byte 64 on, and one job. -/
def running (role : Nat) (data : List Byte) (d : List Byte) : Chip :=
  let c := (keyed [(3, key role)] live).putData 64 data
  { c with cipher := { c.cipher with queue := [{ num := 0, desc := d, bad := false }] } }

/-- The one job waits in an undamaged data area. -/
def waits (c : Chip) (d : List Byte) : List Bool := [c.win.ecc.isEmpty, c.cipher.queue == [{ num := 0, desc := d, bad := false }]]

/-- The one job waits and is not refused. -/
def ready (c : Chip) (d : List Byte) : List Bool :=
  waits c d ++ [(c.refusal d).isNone, d.length == 32, (c.jobKey d).length == 16]

/-- One block of 16 bytes. -/
def oneBlock : List Byte := List.replicate 16 0x5A

/-- A label of R609 for the context code 0x10: size, role, usage 63. -/
def label (size role : Nat) : List Byte := [0x4C, 0x42, 0x4B, 0x44, 0x10, BitVec.ofNat 8 size, BitVec.ofNat 8 role, 63]

/-- GCM and CMAC jobs over one block. -/
def encJob : List Byte := job 1 3 0 16 64 16 0 0 64 96 []
def decJob : List Byte := job 2 3 0 16 64 16 0 0 128 96 []
def ctrJob : List Byte := job 3 3 0 0 64 16 0 0 64 0 []
def macJob : List Byte := job 4 3 0 16 64 16 0 0 0 96 []
def checkJob : List Byte := job 5 3 0 16 64 16 0 0 0 96 []
def deriveJob (role : Nat) : List Byte := job 6 3 14 0 64 0 0 0 0 0 (label 32 role)
def unwrapJob : List Byte := job 7 3 14 0 64 32 0 0 0 0 []

/-- A blob under the key bytes 0 to 15: a message key of 16 bytes, in the KW mode of R611. -/
def blob : List Byte := [0x50, 0xD3, 0xF4, 0xFF, 0xB5, 0x6C, 0xB5, 0x14, 0x1D, 0x36, 0x90, 0xD8, 0x32, 0x18, 0x21, 0x51, 0x42, 0xDF, 0x2E, 0x74, 0x0B, 0x9A, 0x8B, 0xD2, 0xA6, 0xB2, 0xB8, 0x53, 0x35, 0x3A, 0xE5, 0x33]

theorem witness_CipherJobs : All [
    (live, fun c => [c.win.ecc.isEmpty, c.cipher.queue.isEmpty]),
    (running 0 [] encJob, fun c => waits c encJob ++ [Chip.d8 encJob 0 != 7]),
    (live, fun c => [(c.refusal encJob) == some 5]),
    (running 3 [] encJob, fun c => waits c encJob ++ [(c.refusal encJob) == some 7]),
    (running 0 [] (deriveJob 2), fun c => waits c (deriveJob 2) ++ [(c.refusal (deriveJob 2)) == some 7]),
    (running 0 [] (deriveJob 1 ++ [1]), fun c => waits c (deriveJob 1 ++ [1]) ++ [(c.refusal (deriveJob 1 ++ [1])) == some 4]),
    (running 0 oneBlock encJob, fun c => ready c encJob),
    (let c := running 0 [] encJob
     { c with cipher := { c.cipher with queue := [{ num := 0, desc := encJob, bad := true }] } }, fun c => [c.win.ecc.isEmpty,
      c.cipher.queue == [{ num := 0, desc := encJob, bad := true }], !Chip.malformed encJob, Chip.d8 encJob 0 == 1])] :=
  all_of (by decide +kernel)

theorem witness_CipherJobs_decrypt : All [
    (running 0 (oneBlock ++ oneBlock ++ Aes.gcmTag (key 0).bytes (fitBytes 12 []) [] oneBlock) decJob, fun c => ready c decJob ++
      [Aes.gcmTag (key 0).bytes (decJob.drop 16) [] (c.dataBytes (64, 16)) == c.dataBytes (96, 16)]),
    (running 0 oneBlock decJob, fun c => ready c decJob ++
      [Aes.gcmTag (key 0).bytes (decJob.drop 16) [] (c.dataBytes (64, 16)) != c.dataBytes (96, 16)])] :=
  all_of (by decide +kernel)

theorem witness_CipherJobs_cmac : All [
    (running 0 oneBlock ctrJob, fun c => ready c ctrJob),
    (running 0 oneBlock macJob, fun c => ready c macJob),
    (running 0 oneBlock checkJob, fun c => ready c checkJob),
    (running 1 [] (deriveJob 1), fun c => ready c (deriveJob 1))] :=
  all_of (by decide +kernel)

theorem witness_CipherJobs_unwrap : All [
    (running 1 blob unwrapJob, fun c => ready c unwrapJob ++
      [((Aes.unwrap (key 1).bytes (c.dataBytes (64, 32))).bind Chip.blobKey).isSome])] :=
  all_of (by decide +kernel)

theorem witness_CipherJobs_badBlob : All [
    (running 1 [] unwrapJob, fun c => ready c unwrapJob ++ [roomy c,
      ((Aes.unwrap (key 1).bytes (c.dataBytes (64, 32))).bind Chip.blobKey).isNone])] :=
  all_of (by decide +kernel)

theorem witness_CipherJobs_start : All [
    (fl [(F.cipherAlarm_LATCH, 1)] live, fun c => [c.cipher.queue.isEmpty, c.latched]),
    ({ live with win := { live.win with taken := [384] } }, fun c => [c.cipher.queue.isEmpty, !c.latched,
      (Chip.descBlocks (c.bytes 0x18000 32)).any fun b => c.hostOwned b || c.isReturning b]),
    (live.putBytes 0x180E0 encJob, fun c => [c.cipher.queue.isEmpty, !c.latched,
      !((Chip.descBlocks (c.bytes (0x18000 + 32 * 7) 32)).any fun b => c.hostOwned b || c.isReturning b),
      Chip.d8 (c.bytes (0x18000 + 32 * 7) 32) 0 == 1]),
    (live.putBytes 0x180E0 [8], fun c => [c.cipher.queue.isEmpty, !c.latched,
      !((Chip.descBlocks (c.bytes (0x18000 + 32 * 7) 32)).any fun b => c.hostOwned b || c.isReturning b),
      Chip.d8 (c.bytes (0x18000 + 32 * 7) 32) 0 == 8]),
    (live, fun c => [c.cipher.queue.isEmpty, !c.latched, Chip.d8 (c.bytes (0x18000 + 32 * 0) 32) 0 == 0])] :=
  all_of (by decide +kernel)

/-- A package header (R625): ENC, FLOOR, PART, the counts of records and of their bytes. -/
def packHead (enc floor part count n : Nat) : List Byte :=
  fitBytes 64 ([0x4C, 0x42, 0x43, 0x50] ++ [1, enc, floor, part].flatMap (leBytes 2) ++ leBytes 8 0 ++ leBytes 4 0x77 ++ [count, n].flatMap (leBytes 2))

/-- A header with its records and its tag under the role-2 key. -/
def package (enc floor part count : Nat) (recs : List Byte) : List Byte :=
  let h := packHead enc floor part count recs.length
  let body := if enc = 1 then Aes.gcmCtr (key 2).bytes (fitBytes 12 []) recs else recs
  h ++ body ++ (if enc = 1 then Aes.gcmTag (key 2).bytes (fitBytes 12 []) h body else Aes.gcmTag (key 2).bytes (fitBytes 12 []) (h ++ body) [])

/-- A record that commits 1 to INJ_ENABLE. -/
def commitRec : List Byte := [2, 0, 0, 0] ++ leBytes 4 R.injEnable ++ leBytes 4 1

/-- A record for a block. -/
def blockRec (b : Nat) : List Byte := [1, 0, BitVec.ofNat 8 b, 0] ++ List.replicate 256 0

/-- CAL_APPLY waits with a package at data offset 0. -/
def applying (l : List Byte) (c : Chip) : Chip := (mail [0x0901, 0, 0, l.length] c).putData 0 l

/-- The block with the CAL key. -/
def calKeyed : Chip := keyed [(5, key 2)] live

/-- CAL_APPLY waits. -/
def applyWaits (c : Chip) : List Bool := [c.win.ecc.isEmpty, c.commandWaits, c.win16 0 == 0x0901, c.cipher.staged.isNone]

/-- No alarm, the usable CAL key, a package in blocks that the device holds. -/
def applyKey (c : Chip) : List Bool :=
  let len := c.win16 6
  applyWaits c ++ [!c.latched, match c.roleKey 2 with
    | some k => k.bytes.length == 16 && bitOf k.usage 1 && k.bytes == (key 2).bytes
    | none => false, c.win16 4 == 0, decide (len ≤ 16128), (Chip.regionBlocks (0, len)).all c.deviceHeld]

/-- The package has its form. -/
def packFormed (c : Chip) : Bool :=
  let h := c.dataBytes (0, 64)
  let len := c.win16 6
  decide (80 ≤ len) && h.take 4 == [0x4C, 0x42, 0x43, 0x50] && Chip.d16 h 4 == 1 && decide (Chip.d16 h 6 ≤ 1) && len == 80 + Chip.d16 h 26

/-- Its tag verifies under the CAL key. -/
def packVerified (c : Chip) : Bool :=
  let h := c.dataBytes (0, 64)
  let n := Chip.d16 h 26
  let recs := c.dataBytes (64, n)
  c.dataBytes (64 + n, 16) == if Chip.d16 h 6 = 1 then Aes.gcmTag (key 2).bytes ((h.drop 28).take 12) h recs
    else Aes.gcmTag (key 2).bytes ((h.drop 28).take 12) (h ++ recs) []

/-- The part that it names is this one or any, the UID that it names is any. -/
def packPart (c : Chip) : Bool :=
  let h := c.dataBytes (0, 64)
  (Chip.d16 h 10 == 0 || Chip.d16 h 10 == 0x8620) && decide (c.part = .lb8620)

/-- Its records, in the clear. -/
def packRecords (c : Chip) : Option (List (Nat × List Byte ⊕ Nat × DWord)) :=
  let h := c.dataBytes (0, 64)
  let recs := c.dataBytes (64, Chip.d16 h 26)
  Chip.parseRecords (Chip.d16 h 24) (if Chip.d16 h 6 = 1 then Aes.gcmCtr (key 2).bytes ((h.drop 28).take 12) recs else recs)

/-- An authentic package for this device whose floor holds. -/
def packGood (c : Chip) : List Bool :=
  let h := c.dataBytes (0, 64)
  applyKey c ++ [packFormed c, packVerified c, packPart c, leValue ((h.drop 12).take 8) == 0, decide (c.cipher.calFloor ≤ Chip.d16 h 8)]

/-- Its records' blocks, where it has up to 61 records and names no block twice. -/
def packBlocks (c : Chip) : Option (List Nat) :=
  let n := Chip.d16 (c.dataBytes (0, 64)) 24
  match packRecords c with
  | none => none
  | some rs => if 1 ≤ n ∧ n ≤ 61 ∧ ((Chip.recordBlocks rs).map (·.1)).Nodup then some ((Chip.recordBlocks rs).map (·.1)) else none

theorem witness_KeysAndPackages : All [
    (keyed [(0, key 0), (14, key 1)] live, fun c => [c.win.ecc.isEmpty, c.cipher.queue.isEmpty]),
    (fl [(F.pwrState_STATE, 3)] live, fun c => [c.win.ecc.isEmpty, decide (3 ≤ c.fld F.pwrState_STATE)]),
    (fl [(F.pwrState_STATE, 2)] live, fun c => [c.win.ecc.isEmpty, decide (c.fld F.pwrState_STATE < 3), roomy c]),
    (mail [0x0903] live, fun c => [c.win.ecc.isEmpty, c.commandWaits, c.win16 0 == 0x0903, roomy c]),
    (fl [(F.cipherAlarm_LATCH, 1)] live, fun c => [c.win.ecc.isEmpty, c.latched]),
    (live, fun c => [c.win.ecc.isEmpty, !c.latched]),
    (fl [(F.cipherAlarm_LATCH, 1), (F.devStatus_SUP_RUN, 0)] live, fun c => [c.win.ecc.isEmpty, c.latched, !c.supRuns]),
    (fl [(F.cipherAlarm_LATCH, 1)] live, fun c => [c.win.ecc.isEmpty, c.latched, c.supRuns, c.ready, (c.keyAt 15).isNone]),
    (fl [(F.cipherAlarm_LATCH, 1)] (keyed [(15, key 1)] live), fun c => [c.win.ecc.isEmpty, c.latched, (c.keyAt 15).isSome]),
    ({ live with cipher := { live.cipher with staged := some { id := 0x77, blocks := [], commits := [] } } }, fun c => [c.win.ecc.isEmpty,
      c.cipher.staged.isSome])] :=
  all_of (by decide +kernel)

theorem witness_KeysAndPackages_calApply : All [
    (mail [0x0901] (fl [(F.cipherAlarm_LATCH, 1)] live), fun c => applyWaits c ++ [c.latched, roomy c]),
    (mail [0x0901] live, fun c => applyWaits c ++ [!c.latched, (c.roleKey 2).isNone, roomy c]),
    (mail [0x0901] (keyed [(5, { key 2 with usage := 1 })] live), fun c => applyWaits c ++ [!c.latched, roomy c, match c.roleKey 2 with
      | some k => !bitOf k.usage 1
      | none => false]),
    (mail [0x0901, 0, 1, 16128] calKeyed, fun c => applyWaits c ++ [!c.latched, decide (16128 < c.win16 4 + c.win16 6), match c.roleKey 2 with
      | some k => k.bytes.length == 16 && bitOf k.usage 1
      | none => false]),
    ({ mail [0x0901, 0, 0, 80] calKeyed with win := { (mail [0x0901, 0, 0, 80] calKeyed).win with taken := [385] } }, fun c => applyWaits c ++ [!c.latched,
      decide (c.win16 4 + c.win16 6 ≤ 16128), (Chip.regionBlocks (c.win16 4, c.win16 6)).any fun b => !c.deviceHeld b, match c.roleKey 2 with
      | some k => k.bytes.length == 16 && bitOf k.usage 1
      | none => false])] :=
  all_of (by decide +kernel)

theorem witness_KeysAndPackages_verify : All [
    (applying (packHead 0 0 0 0 0) calKeyed, fun c => applyKey c ++ [roomy c, !packFormed c]),
    (applying (packHead 0 0 0 0 0 ++ oneBlock) calKeyed, fun c => applyKey c ++ [roomy c, packFormed c, !packVerified c]),
    (applying (package 0 0 0x8612 1 commitRec) calKeyed, fun c => applyKey c ++ [roomy c, packFormed c, packVerified c, !packPart c]),
    (applying (package 0 6 0 1 commitRec) { calKeyed with cipher := { calKeyed.cipher with calFloor := 7 } }, fun c => applyKey c ++
      [roomy c, packFormed c, packVerified c, packPart c, leValue (((c.dataBytes (0, 64)).drop 12).take 8) == 0,
        decide (Chip.d16 (c.dataBytes (0, 64)) 8 < c.cipher.calFloor)]),
    (applying (package 0 0 0 2 commitRec) calKeyed, fun c => packGood c ++ [roomy c, (packRecords c).isNone])] :=
  all_of (by decide +kernel)

theorem witness_KeysAndPackages_held : All [
    (applying (package 0 0 0x8620 1 (blockRec 159)) { calKeyed with win := { live.win with taken := [159] } }, fun c => packGood c ++
      [roomy c, packBlocks c == some [159], !c.deviceHeld 159])] :=
  all_of (by decide +kernel)

theorem witness_KeysAndPackages_twice : All [
    (applying (package 0 0 0 0 []) calKeyed, fun c => packGood c ++ [roomy c, (packRecords c).isSome, Chip.d16 (c.dataBytes (0, 64)) 24 == 0]),
    (applying (package 0 0 0 2 (blockRec 159 ++ blockRec 159)) calKeyed, fun c => packGood c ++ [roomy c, Chip.d16 (c.dataBytes (0, 64)) 24 == 2,
      ((packRecords c).map fun rs => (Chip.recordBlocks rs).map (·.1)) == some [159, 159]])] :=
  all_of (by decide +kernel)

theorem witness_KeysAndPackages_staged : All [
    (applying (package 1 0 0 1 commitRec) calKeyed, fun c => packGood c ++ [packBlocks c == some []]),
    (applying (package 0 0 0 2 (blockRec 159 ++ commitRec)) calKeyed, fun c => packGood c ++ [packBlocks c == some [159], c.deviceHeld 159])] :=
  all_of (by decide +kernel)

theorem witness_KeysAndPackages_applyTick : All [
    (live, fun c => [c.cipher.staged.isNone]),
    ({ live with cipher := { live.cipher with staged := some { id := 0x77, blocks := [10], commits := [(R.injEnable, 1)] } }, win :=
        { live.win with returning := [(10, 0)] } }, fun c => [c.win.ecc.isEmpty, c.frameRuns, c.win.returning == [(10, 0)],
          (c.cipher.staged.map fun x => x.blocks) == some [10]]),
    ({ live with cipher := { live.cipher with staged := some { id := 0x77, blocks := [10, 11], commits := [(R.injEnable, 1)] } }, win :=
        { live.win with returning := [(10, 0)], taken := [11] } }, fun c => [c.win.ecc.isEmpty, c.frameRuns,
          (c.cipher.staged.map fun x => (x.blocks.filter fun b => c.win.returning.contains (b, 0)).length) == some 1]),
    (State.reset.chip, fun c => [!c.frameRuns])] :=
  all_of (by decide +kernel)

/-! ## Witnesses: the service port -/

/-- A running controller, with more fields and a service port. -/
def onCan (l : List (Fld × Nat)) (q : Can) : Chip :=
  { fl ([(F.canCfg_EN, 1), (F.canCfg_FD_EN, 1), (F.canStatus_STATE, 0)] ++ l) live with can := q }

/-- A data frame of the extended format or not, FD or classic. -/
def frame (ide fdf : Bool) (id : Nat) (l : List Byte) : CanFrame :=
  { bareFrame with id := BitVec.ofNat 29 id, ide := ide, fdf := fdf, dlc := if l.length = 8 then 8 else 0, data := l }

/-- Host buffer 15 receives the identifiers that fit MB_ID 0x123 under a mask of ones. -/
def listening (full : Nat) (q : Can) : Chip :=
  (((onCan [(F.mbCfg_EN 15, 1), (F.mbCfg_DIR 15, 0), (F.mbCfg_IRQ_EN 15, 1), (F.mbStatus_FULL 15, full)] q).put (R.mbId 15) 0x123).put
    (R.mbMask 15) 0x7FF)

/-- The frame is taken, at a boundary of REC, and is not one of the supervisor's. -/
def hostFrame (c : Chip) (f : CanFrame) : List Bool :=
  [c.canRuns, !f.fdf || c.flag F.canCfg_FD_EN, decide (c.fld F.canStatus_REC ≤ 127), f.ide || f.id.toNat != c.reqId,
    f.ide || f.id.toNat != c.fld F.canDiagCfg_FUNC_ID]

/-- Host buffer 4 sends. -/
def sending (l : List (Fld × Nat)) : Chip := onCan ([(F.mbCfg_EN 4, 1), (F.mbCfg_DIR 4, 1), (F.mbCfg_TX_REQ 4, 1)] ++ l) {}

/-- The controller's counters are at or below 127. -/
def calm (c : Chip) : List Bool := [decide (c.fld F.canStatus_TEC ≤ 127), decide (c.fld F.canStatus_REC ≤ 127)]

theorem witness_CanController : All [
    (fl [(F.canCfg_EN, 0)] live, fun c => [!c.canRuns]),
    (onCan [(F.canCfg_FD_EN, 0)] {}, fun c => [(frame false true 5 []).fdf, !c.flag F.canCfg_FD_EN]),
    (onCan [(F.canStatus_REC, 127)] {}, fun c => [c.canRuns, decide (c.fld F.canStatus_REC ≤ 127), c.flag F.canCfg_FD_EN,
      (frame false false c.reqId []).id.toNat == c.reqId]),
    (onCan [] {}, fun c => [c.canRuns, c.fld F.canDiagCfg_FUNC_ID != c.reqId,
      (frame false true (c.fld F.canDiagCfg_FUNC_ID) []).id.toNat == c.fld F.canDiagCfg_FUNC_ID]),
    (listening 0 { rxOff := true }, fun c => hostFrame c (frame false false 0x123 []) ++ [c.can.rxOff]),
    (listening 0 {}, fun c => let f := frame false false 0x123 []
      hostFrame c f ++ [!c.can.rxOff, !f.rtr, c.flag (F.mbCfg_IRQ_EN 15),
        (Chip.hostBuffers.find? fun b => c.mbMatches f b && !c.flag (F.mbStatus_FULL b)) == some 15]),
    (listening 1 {}, fun c => let f := frame false false 0x123 []
      hostFrame c f ++ [!c.can.rxOff, (Chip.hostBuffers.find? fun b => c.mbMatches f b && !c.flag (F.mbStatus_FULL b)).isNone,
        Chip.hostBuffers.find? (c.mbMatches f) == some 15]),
    (listening 1 {}, fun c => let f := frame true false 0x123 []
      hostFrame c f ++ [!c.can.rxOff, (Chip.hostBuffers.find? (c.mbMatches f)).isNone]),
    (sending [], fun c => [c.mbQueued 4, !c.mbQueued 15]),
    (fl [(F.canCfg_EN, 0)] live, fun c => [!c.can.resetAfter, !c.canRuns]),
    (sending [(F.canCfg_LISTEN_ONLY, 1)], fun c => [!c.can.resetAfter, c.flag F.canCfg_LISTEN_ONLY]),
    (onCan [] {}, fun c => [!c.can.resetAfter, (c.nextBuffer 0xFFFF).isNone]),
    (sending [(F.canStatus_TEC, 127), (F.mbCfg_IRQ_EN 4, 1)], fun c => [!c.can.resetAfter, c.canRuns, !c.flag F.canCfg_LISTEN_ONLY,
      c.nextBuffer 0xFFFF == some 4, c.flag (F.mbCfg_IRQ_EN 4)] ++ calm c),
    (onCan [(F.canStatus_REC, 127)] { out := [frame false false 9 []] }, fun c => [!c.can.resetAfter, c.canRuns, !c.flag F.canCfg_LISTEN_ONLY,
      c.nextBuffer 4 == some 2] ++ calm c),
    (onCan [(F.canCfg_EN, 0)] {}, fun c => [!c.flag F.canCfg_EN, decide (c.fld F.pwrState_STATE < 2), !c.can.busOff] ++ calm c),
    (onCan [] {}, fun c => [c.flag F.canCfg_EN]),
    (onCan [] {}, fun c => [c.canRuns, roomy c]),
    (onCan [(F.canStatus_STATE, 2)] { busOff := true, recovering := true }, fun c => [c.canState == 2, c.can.recovering]),
    (onCan [(F.canStatus_STATE, 2)] { busOff := true }, fun c => [!c.can.recovering]),
    (onCan [(F.canStatus_STATE, 1)] {}, fun c => [c.canRuns, c.canState == 1]),
    (onCan [] {}, fun c => [c.canRuns, c.canState == 0, roomy c]),
    (onCan [(F.canStatus_REC, 128)] {}, fun c => [c.canRuns, decide (127 < c.fld F.canStatus_REC)]),
    (sending [(F.canStatus_STATE, 1), (F.canStatus_TEC, 129)], fun c => [!c.can.resetAfter, c.canRuns, !c.flag F.canCfg_LISTEN_ONLY,
      c.nextBuffer 0xFFFF == some 4, c.canState == 1, decide (127 < c.fld F.canStatus_TEC - 1)]),
    (onCan [(F.canCfg_EN, 0)] { busOff := true }, fun c => [!c.flag F.canCfg_EN, decide (c.fld F.pwrState_STATE < 2), c.can.busOff]),
    (onCan [(F.canCfg_EN, 0), (F.pwrState_STATE, 2)] {}, fun c => [!c.flag F.canCfg_EN, c.fld F.pwrState_STATE == 2]),
    ({ sending [(F.canCfg_EN, 1), (F.devStatus_SUP_RUN, 0)] with can := { live.can with resetAfter := true } }, fun c => [c.can.resetAfter, !c.supRuns,
      c.canRuns, !c.flag F.canCfg_LISTEN_ONLY, (c.nextBuffer 65535).isSome])] :=
  all_of (by decide +kernel)

/-- The block with frames in buffers 0 and 1. -/
def delivered (functional : Bool) (l : List Byte) (q : Can) : Chip := onCan [] { q with frames := [(functional, frame false false 9 l)] }

/-- The supervisor takes the frame, of a kind. -/
def takes (c : Chip) (kind : Nat) : List Bool :=
  [c.diagRuns, match c.nextFrame with
    | some (x, _) => Chip.frameKind x == some kind
    | none => false]

/-- The payload of eight bytes. -/
def eight (l : List Byte) : List Byte := fitBytes 8 l

/-- A classic request of 10 bytes in reception, with 6 of them. -/
def receiving (total : Nat) : DiagRx := { total := total, got := List.replicate 6 1, sn := 1, fdf := false, brs := false }

/-- A classic response with `n` bytes to come. -/
def responding (n waits : Nat) : DiagTx := { rest := List.replicate n 1, sn := 1, fdf := false, brs := false, waits := waits }

theorem witness_Transport : All [
    (fl [(F.devStatus_SUP_RUN, 0)] live, fun c => [!c.diagRuns, !c.supRuns]),
    (onCan [] {}, fun c => [c.nextFrame.isNone, c.supRuns, c.can.tx.isNone]),
    (delivered false (eight [3, 0x22, 0xF1, 0x87]) {}, fun c => takes c 0 ++ [(Chip.singleData (frame false false 9 (eight [3, 0x22, 0xF1, 0x87]))).isSome,
      c.can.req.isNone, c.can.tx.isNone]),
    (delivered false (eight [2, 0x3E, 0]) { req := some (ask [0x3E, 0]) }, fun c => takes c 0 ++ [c.can.req.isSome]),
    (delivered true (eight [2, 0x3E, 0]) { tx := some (responding 1 0) }, fun c => takes c 0 ++ [c.can.tx.isSome]),
    (delivered false (eight [0x1F, 0xFF]) {}, fun c => takes c 1 ++
      [(Chip.firstData (frame false false 9 (eight [0x1F, 0xFF]))).map (fun x => x.1) == some 4095]),
    (delivered false (eight [0x10, 0, 0, 0, 0x10, 0]) {}, fun c => takes c 1 ++
      [(Chip.firstData (frame false false 9 (eight [0x10, 0, 0, 0, 0x10, 0]))).map (fun x => x.1) == some 4096]),
    (delivered false (eight [0x21]) {}, fun c => takes c 2 ++ [c.can.rx.isNone]),
    (delivered false (eight [0x22]) { rx := some (receiving 10) }, fun c => takes c 2 ++ [c.can.rx == some (receiving 10), (0x22 % 16 != (receiving 10).sn)]),
    (delivered false (eight [0x21]) { rx := some (receiving 14) }, fun c => takes c 2 ++ [c.can.rx == some (receiving 14),
      decide ((((receiving 14).got ++ (eight [0x21]).drop 1).take 14).length < 14)]),
    (delivered false (eight [0x21]) { rx := some (receiving 13) }, fun c => takes c 2 ++ [c.can.rx == some (receiving 13), c.can.req.isNone,
      decide (13 ≤ (((receiving 13).got ++ (eight [0x21]).drop 1).take 13).length)]),
    (delivered false (eight [0x30]) {}, fun c => takes c 3 ++ [c.can.tx.isNone]),
    (delivered false (eight [0x31]) { tx := some (responding 7 16) }, fun c => takes c 3 ++ [c.can.tx == some (responding 7 16), !(responding 7 16).go]),
    (delivered false (eight [0x32]) { tx := some (responding 7 0) }, fun c => takes c 3 ++ [c.can.tx == some (responding 7 0)]),
    (delivered false (eight [0x30]) { tx := some (responding 7 0) }, fun c => takes c 3 ++ [c.can.tx == some (responding 7 0),
      !(responding 7 0).rest.isEmpty, decide ((responding 7 0).rest.length ≤ Chip.cfSize false)]),
    (onCan [] { tx := some (responding 7 0) }, fun c => [c.supRuns, c.can.tx == some (responding 7 0), !(responding 7 0).go]),
    (onCan [] { tx := some { responding 8 0 with go := true, due := true, st := 1 } }, fun c => [c.diagRuns,
      c.can.tx == some { responding 8 0 with go := true, due := true, st := 1 }]),
    (delivered false (eight [0x30]) { tx := some (responding 8 0) }, fun c => takes c 3 ++ [c.can.tx == some (responding 8 0),
      decide (Chip.cfSize false < (responding 8 0).rest.length)]),
    (onCan [] { tx := some { responding 8 0 with go := true } }, fun c => [c.diagRuns, c.can.tx.all fun t => t.go && !t.due])] :=
  all_of (by decide +kernel)

/-- A session and level with a request in service. -/
def inSession (n level : Nat) (l : List Byte) : Chip := asked l (fl [(F.canDiagStatus_SESSION, n), (F.canDiagStatus_LEVEL, level)] live)

/-- The request of these bytes is in service, and the supervisor answers it. -/
def served (c : Chip) (l : List Byte) : List Bool :=
  [c.can.req == some (ask l), c.diagRuns, (ask l).handle.isNone, !c.forwards (ask l), decide (1 ≤ c.session)]

/-- The same in a session with a level. -/
def servedIn (c : Chip) (n level : Nat) (l : List Byte) : List Bool := served c l ++ [c.session == n, c.secLevel == level]

/-- The block with the tester key. -/
def tester (c : Chip) : Chip := keyed [(2, key 4)] c

/-- The block with a seed of level 1 outstanding, failed attempts and a sendKey request. -/
def keySent (fails : Nat) (l : List Byte) : Chip :=
  let c := tester (inSession 2 0 ([0x27, 2] ++ l))
  { c with can := { c.can with seed := [(1, oneBlock)], fails := fails } }

theorem witness_DiagnosticSessions : All [
    (live, fun c => [c.can.req.isNone, c.session == 1]),
    (inSession 3 2 [], fun c => [c.session != 1, c.supRuns]),
    (inSession 1 0 [0x3E, 0], fun c => served c [0x3E, 0]),
    (asked [0x2F, 1] (fl [(F.canDiagCfg_FWD_EN, 1), (F.canDiagStatus_SESSION, 2)] live), fun c => [c.diagRuns, c.forwards (ask [0x2F, 1])]),
    (inSession 3 1 [0x10, 0x83], fun c => servedIn c 3 1 [0x10, 0x83]),
    (inSession 1 0 [0x10, 4], fun c => servedIn c 1 0 [0x10, 4]),
    (inSession 1 0 [0x10, 1, 0], fun c => servedIn c 1 0 [0x10, 1, 0]),
    (inSession 1 0 [0x11, 1], fun c => servedIn c 1 0 [0x11, 1]),
    (inSession 2 1 [0x11, 1], fun c => servedIn c 2 1 [0x11, 1]),
    (fl [(F.pwrState_ROTATING, 1)] (inSession 2 2 [0x11, 1]), fun c => servedIn c 2 2 [0x11, 1] ++ [c.flag F.pwrState_ROTATING]),
    (inSession 2 2 [0x11, 1], fun c => servedIn c 2 2 [0x11, 1] ++ [!c.flag F.pwrState_ROTATING]),
    (inSession 3 2 [0x11, 0x81], fun c => servedIn c 3 2 [0x11, 0x81] ++ [!c.flag F.pwrState_ROTATING, c.can.out.isEmpty, c.can.tx.isNone]),
    (inSession 3 0 [0x28, 0, 1], fun c => servedIn c 3 0 [0x28, 0, 1]),
    (inSession 3 1 [0x28, 3, 2], fun c => servedIn c 3 1 [0x28, 3, 2]),
    (inSession 3 1 [0x28, 3, 1], fun c => servedIn c 3 1 [0x28, 3, 1]),
    (inSession 1 0 [0x3E, 0x80], fun c => servedIn c 1 0 [0x3E, 0x80]),
    (inSession 1 0 [0x3E, 1], fun c => servedIn c 1 0 [0x3E, 1]),
    (inSession 1 0 [0x86], fun c => servedIn c 1 0 [0x86]),
    (fl [(F.canDiagStatus_DELAY, 1)] (inSession 2 0 [0x27, 1]), fun c => servedIn c 2 0 [0x27, 1] ++ [c.flag F.canDiagStatus_DELAY]),
    (inSession 2 0 [0x27, 3], fun c => servedIn c 2 0 [0x27, 3] ++ [!c.flag F.canDiagStatus_DELAY, c.testerReady.isNone]),
    (tester (inSession 2 1 [0x27, 3]), fun c => servedIn c 2 1 [0x27, 3] ++ [!c.flag F.canDiagStatus_DELAY, c.testerReady.isSome]),
    (tester (inSession 2 1 [0x27, 1]), fun c => servedIn c 2 1 [0x27, 1] ++ [!c.flag F.canDiagStatus_DELAY, c.testerReady.isSome]),
    (inSession 2 0 ([0x27, 4] ++ oneBlock), fun c => servedIn c 2 0 ([0x27, 4] ++ oneBlock) ++ [c.can.seed.isEmpty, oneBlock.length == 16]),
    (inSession 3 0 [0x31, 1, 0xFE, 0x11], fun c => servedIn c 3 0 [0x31, 1, 0xFE, 0x11]),
    (inSession 3 1 [0x31, 1, 0xFE, 0x11], fun c => servedIn c 3 1 [0x31, 1, 0xFE, 0x11] ++ [(c.tagRefusal 3).isSome]),
    (fl [(F.holdupStatus_TAG_RESERVE, 65535)] (inSession 3 1 [0x31, 1, 0xFE, 0x11]), fun c => servedIn c 3 1 [0x31, 1, 0xFE, 0x11] ++
      [(c.tagRefusal 3).isNone]),
    (inSession 3 1 [0x31, 1, 0xFE, 0x12], fun c => servedIn c 3 1 [0x31, 1, 0xFE, 0x12]),
    (inSession 3 2 [0x31, 1, 0xFE, 0x12], fun c => servedIn c 3 2 [0x31, 1, 0xFE, 0x12] ++ [roomy c]),
    (fl [(F.devStatus_SUP_RUN, 0)] (inSession 3 2 []), fun c => [c.session != 1, !c.supRuns])] :=
  all_of (by decide +kernel)

theorem witness_DiagnosticSessions_codes : All [
    (inSession 1 0 [0x10], fun c => servedIn c 1 0 [0x10]), (inSession 1 0 [0x2F, 1], fun c => servedIn c 1 0 [0x2F, 1]),
    (inSession 1 0 [0x34], fun c => servedIn c 1 0 [0x34]), (inSession 1 0 [0x19, 3], fun c => servedIn c 1 0 [0x19, 3]),
    (inSession 2 0 [0x27, 5], fun c => servedIn c 2 0 [0x27, 5]), (inSession 1 0 [0x27, 1], fun c => servedIn c 1 0 [0x27, 1]),
    (inSession 1 0 [0x27, 2], fun c => servedIn c 1 0 [0x27, 2]), (inSession 1 0 [0x31, 2], fun c => servedIn c 1 0 [0x31, 2]),
    (inSession 3 0 [0x31, 1, 0xFE, 0x13], fun c => servedIn c 3 0 [0x31, 1, 0xFE, 0x13]),
    (let c := inSession 2 0 ([0x27, 2] ++ oneBlock)
     { c with can := { c.can with seed := [(1, oneBlock)] } }, fun c => servedIn c 2 0 ([0x27, 2] ++ oneBlock) ++ [c.testerReady.isNone,
      c.can.seed.find? (fun x => x.1 == 1) == some (1, oneBlock)]),
    (inSession 3 2 [0x31, 1, 0xFE, 0x12], fun c => servedIn c 3 2 [0x31, 1, 0xFE, 0x12] ++ [roomy c, c.win.ecc.isEmpty])] :=
  all_of (by decide +kernel)

/-- The key that answers the outstanding seed. -/
def goodKey : List Byte := Chip.expectedKey (key 4) 1 oneBlock

theorem goodKey_length : goodKey.length = 16 := by decide +kernel

theorem flip_ne : ∀ a : Byte, a ^^^ 1#8 ≠ a := by decide

theorem wrong_of_flipped (l : List Byte) (h : l.length = 16) : (l.map (· ^^^ 1#8)) ≠ l := by
  match l, h with
  | a :: _, _ => exact fun h => flip_ne a (List.cons.inj h).1

theorem drop_two (a b : Byte) (l : List Byte) : (ask ([a, b] ++ l)).data.drop 2 = l := rfl

/-- sendKey: the key that matches, and one that does not at the attempts 1, 3 and 16. -/
theorem witness_DiagnosticSessions_sendKey :
    ((ask ([0x27, 2] ++ goodKey)).data.drop 2 = goodKey ∧ (ask ([0x27, 2] ++ goodKey.map (· ^^^ 1#8))).data.drop 2 ≠ goodKey) ∧
    All ([([] : List Byte), goodKey, goodKey.map (· ^^^ 1#8)].flatMap fun l => [0, 2, 15].map fun n =>
      (keySent n l, fun c => [c.can.req.isSome, c.diagRuns, c.session == 2, roomy c, c.testerReady == some (key 4),
        c.can.seed.find? (fun x => x.1 == 1) == some (1, oneBlock), c.can.fails == n, !c.flag F.canDiagCfg_FWD_EN,
        (l.length == 16) || l.isEmpty])) :=
  ⟨⟨drop_two _ _ goodKey, fun h => wrong_of_flipped goodKey goodKey_length ((drop_two _ _ _).symm.trans h)⟩, all_of (by decide +kernel)⟩

/-- The same with one RAISED entry in the journal. -/
def withEntries (n level : Nat) (l : List Byte) (es : List JEntry) : Chip :=
  { inSession n level l with jnl := { live.jnl with entries := es } }

/-- The trouble code of that entry, as a request names it. -/
def code3 : List Byte := beBytes 3 (entryAt 7).dtc

/-- A start of JOURNAL_READ. -/
def readFrom (first count : Nat) : List Byte := [0x31, 1, 0xFE, 0x10] ++ beBytes 4 first ++ [BitVec.ofNat 8 count]

theorem witness_DiagnosticData : All [
    (forwarded, fun c => [(c.pendingForward.map fun x => x.1) == some 1, c.diagRuns, roomy c]),
    (live, fun c => [c.pendingForward.isNone]),
    (inSession 3 0 [0x14, 0xFF, 0xFF, 0xFF], fun c => servedIn c 3 0 [0x14, 0xFF, 0xFF, 0xFF]),
    (inSession 3 1 [0x14, 0xFF, 0xFF, 0xFE], fun c => servedIn c 3 1 [0x14, 0xFF, 0xFF, 0xFE]),
    (inSession 3 1 [0x14, 0xFF, 0xFF, 0xFF], fun c => servedIn c 3 1 [0x14, 0xFF, 0xFF, 0xFF] ++ [c.jnl.waiting.isEmpty]),
    (inSession 2 2 [0x14, 0xFF, 0xFF, 0xFF], fun c => servedIn c 2 2 [0x14, 0xFF, 0xFF, 0xFF]),
    (inSession 3 0 [0x85, 2], fun c => servedIn c 3 0 [0x85, 2] ++ [!c.dtcOff, c.jnl.waiting.isEmpty]),
    (fl [(F.canDiagStatus_DTC_OFF, 1)] (inSession 3 0 [0x85, 1]), fun c => servedIn c 3 0 [0x85, 1] ++ [c.dtcOff, c.jnl.waiting.isEmpty]),
    (inSession 3 0 [0x85, 3], fun c => servedIn c 3 0 [0x85, 3]),
    (withEntries 1 0 [0x19, 1, 0x08] [entryAt 7], fun c => servedIn c 1 0 [0x19, 1, 0x08] ++ [!(c.codesByMask 8).isEmpty]),
    (withEntries 1 0 [0x19, 2, 0xFF] [entryAt 7], fun c => servedIn c 1 0 [0x19, 2, 0xFF] ++ [!(c.codesByMask 255).isEmpty]),
    (inSession 1 0 ([0x19, 4] ++ code3 ++ [1]), fun c => servedIn c 1 0 ([0x19, 4] ++ code3 ++ [1]) ++ [!c.dtcPresent (entryAt 7).dtc]),
    (inSession 1 0 ([0x19, 6] ++ code3 ++ [1]), fun c => servedIn c 1 0 ([0x19, 6] ++ code3 ++ [1]) ++ [!c.dtcPresent (entryAt 7).dtc]),
    (withEntries 1 0 ([0x19, 4] ++ code3 ++ [1]) [entryAt 7], fun c => servedIn c 1 0 ([0x19, 4] ++ code3 ++ [1]) ++
      [c.dtcPresent (beValue code3), (c.snapshotOne (beValue code3)).isSome]),
    (withEntries 1 0 ([0x19, 6] ++ code3 ++ [1]) [entryAt 7], fun c => servedIn c 1 0 ([0x19, 6] ++ code3 ++ [1]) ++
      [c.dtcPresent (beValue code3)]),
    (withEntries 1 0 ([0x19, 4] ++ code3 ++ [3]) [entryAt 7], fun c => servedIn c 1 0 ([0x19, 4] ++ code3 ++ [3]) ++
      [c.dtcPresent (beValue code3)]),
    (inSession 1 0 [0x22, 0xFD, 9], fun c => servedIn c 1 0 [0x22, 0xFD, 9] ++ [!Chip.didKnown 0xFD09]),
    (inSession 1 0 [0x22, 0xF1, 0x87], fun c => servedIn c 1 0 [0x22, 0xF1, 0x87]),
    (inSession 1 0 [0x22, 0xF1, 0x8C], fun c => servedIn c 1 0 [0x22, 0xF1, 0x8C]),
    (inSession 1 0 [0x22, 0xFD, 0x51], fun c => servedIn c 1 0 [0x22, 0xFD, 0x51]),
    (inSession 1 0 [0x22, 0xFD, 0x1F], fun c => servedIn c 1 0 [0x22, 0xFD, 0x1F]),
    (inSession 3 0 [0x2E, 0xFD, 0x50, 1], fun c => servedIn c 3 0 [0x2E, 0xFD, 0x50, 1]),
    (inSession 3 0 [0x2E, 0xFD, 0x51], fun c => servedIn c 3 0 [0x2E, 0xFD, 0x51]),
    (inSession 3 0 [0x2E, 0xFD, 0x51, 1], fun c => servedIn c 3 0 [0x2E, 0xFD, 0x51, 1]),
    (inSession 3 1 [0x2E, 0xFD, 0x51, 2], fun c => servedIn c 3 1 [0x2E, 0xFD, 0x51, 2]),
    (inSession 3 1 [0x2E, 0xFD, 0x51, 1], fun c => servedIn c 3 1 [0x2E, 0xFD, 0x51, 1]),
    (inSession 1 0 (readFrom 7 1), fun c => servedIn c 1 0 (readFrom 7 1) ++ [c.jnl.entries.isEmpty, (readFrom 7 1).length == 9]),
    (withEntries 1 0 (readFrom 7 65) [entryAt 7], fun c => servedIn c 1 0 (readFrom 7 65) ++ [c.jnl.entries == [entryAt 7]]),
    (withEntries 1 0 (readFrom 6 1) [entryAt 7], fun c => servedIn c 1 0 (readFrom 6 1) ++ [c.jnl.entries == [entryAt 7]]),
    (withEntries 1 0 (readFrom 7 64) [entryAt 7, entryAt 8], fun c => servedIn c 1 0 (readFrom 7 64) ++
      [c.jnl.entries == [entryAt 7, entryAt 8], c.jnl.entries.all fun e => e.valid]),
    (forwarded, fun c => [c.pendingForward.isSome, c.diagRuns, roomy c, decide (0 < c.can.fwdTime), c.can.fwdTime == 100])] :=
  all_of (by decide +kernel)

/-! ## Witnesses: the service tag and the test port -/

/-- The tag in a phase of an update. -/
def inPhase (n : Nat) (l : List (Fld × Nat)) : Chip := fl ([(F.tagStatus_PHASE, n)] ++ l) live

/-- The supervisor does not run. -/
def stopped (n : Nat) : Chip := inPhase n [(F.devStatus_SUP_RUN, 0)]

theorem witness_ServiceTagAndTestPort : All ([1, 2, 3, 4, 5, 6, 7].map (fun n => (inPhase n [],
      fun c => [c.fld F.tagStatus_PHASE == n, c.supRuns, roomy c, c.jnl.waiting.isEmpty])) ++ [
    (live, fun c => [c.fld F.tagStatus_PHASE == 0, !c.flag F.tagStatus_RECOVERY_PENDING]),
    (stopped 1, fun c => [!c.supRuns, c.fld F.tagStatus_PHASE == 1]),
    (stopped 5, fun c => [!c.supRuns, c.fld F.tagStatus_PHASE == 5]),
    (fl [(F.tagStatus_RECOVERY_PENDING, 1)] powered, fun c => [c.flag F.tagStatus_RECOVERY_PENDING, c.supRuns, c.ready,
      decide (c.fld F.pwrState_STATE < 3), !c.power.isOff, (c.tagRefusal 4).isNone]),
    (fl [(F.tagStatus_RECOVERY_PENDING, 1)] live, fun c => [c.flag F.tagStatus_RECOVERY_PENDING, c.supRuns, c.ready,
      decide (c.fld F.pwrState_STATE < 3), !c.power.isOff, (c.tagRefusal 4).isSome]),
    (fl [(F.tagCfg_SOURCE, 1)] live, fun c => [c.supRuns, c.ready, c.flag F.tagCfg_SOURCE]),
    ({ live with jnl := { live.jnl with opTime := 999 } }, fun c => [c.supRuns, c.ready, !c.flag F.tagCfg_SOURCE, c.jnl.entries.isEmpty,
      decide (c.jnl.opTime.toNat < 1000)]),
    (fl [(F.devStatus_READY, 0)] live, fun c => [!c.ready]),
    ({ inPhase 1 [] with tag := { ended := true } }, fun c => [c.tag.ended]),
    (live, fun c => [c.fld F.tagStatus_PHASE == 0]),
    (stopped 3, fun c => [!c.supRuns, c.fld F.tagStatus_PHASE == 3]),
    (stopped 7, fun c => [!c.supRuns, c.fld F.tagStatus_PHASE == 7])]) :=
  all_of (by decide +kernel)

end Sys2Proof.Tests
end

/-!
PROOFS. Every command completes, leaves the waiting commands and keeps the part.
-/

namespace Sys2Proof.Machine

theorem Kept.part_eq {m : Nat} {c d : Chip} (h : Kept m c d) (hm : m.testBit Comp.part.bit = false) : d.part = c.part :=
  h.same_of .part hm

theorem RunsKept.part_eq {m : Nat} {s : State} {o : Host.Outcome State Fault Refusal} (h : RunsKept m s o)
    (hm : m.testBit Comp.part.bit = false) : ∃ t, o = .next t ∧ t.pending = s.pending ∧ t.chip.part = s.chip.part := by
  obtain ⟨t, ht, hp, hk⟩ := h
  exact ⟨t, ht, hp, hk.part_eq hm⟩

/-- Every command completes within the frame of its mask, which leaves the part alone. -/
theorem exec_runsKept (i : Instr) (s : State) : ∃ m : Nat, m.testBit Comp.part.bit = false ∧ RunsKept m s (exec i s) := by
  cases i with
  | powerOnReset => exact ⟨_, rfl, execPowerOnReset_kept ..⟩
  | brownout => exact ⟨_, rfl, execBrownout_kept ..⟩
  | pinReset => exact ⟨_, rfl, execPinReset_kept ..⟩
  | softReset => exact ⟨_, rfl, execSoftReset_kept ..⟩
  | lockstepReset => exact ⟨_, rfl, execLockstepReset_kept ..⟩
  | clockLossReset => exact ⟨_, rfl, execClockLossReset_kept ..⟩
  | thermalReset => exact ⟨_, rfl, execThermalReset_kept ..⟩
  | retainWake => exact ⟨_, rfl, execRetainWake_kept ..⟩
  | resetRelease => exact ⟨_, rfl, execResetRelease_kept ..⟩
  | bootComplete => exact ⟨_, rfl, execBootComplete_kept ..⟩
  | clockFallback => exact ⟨_, rfl, execClockFallback_kept ..⟩
  | clockRestored => exact ⟨_, rfl, execClockRestored_kept ..⟩
  | debugHalt => exact ⟨_, rfl, execDebugHalt_kept ..⟩
  | debugResume => exact ⟨_, rfl, execDebugResume_kept ..⟩
  | frameTick => exact ⟨_, rfl, execFrameTick_kept ..⟩
  | frameOverrunPersist => exact ⟨_, rfl, execFrameOverrunPersist_kept ..⟩
  | commitTakeEffect => exact ⟨_, rfl, execCommitTakeEffect_kept ..⟩
  | blockReturnTakeEffect => exact ⟨_, rfl, execBlockReturnTakeEffect_kept ..⟩
  | outputEdgeExecute => exact ⟨_, rfl, execOutputEdgeExecute_kept ..⟩
  | timeModeEndDue => exact ⟨_, rfl, execTimeModeEndDue_kept ..⟩
  | windowWrite => exact ⟨_, rfl, execWindowWrite_kept ..⟩
  | windowRead => exact ⟨_, rfl, execWindowRead_kept ..⟩
  | scrubberRead => exact ⟨_, rfl, execScrubberRead_kept ..⟩
  | angleLRead => exact ⟨_, rfl, execAngleLRead_kept ..⟩
  | frameCountLRead => exact ⟨_, rfl, execFrameCountLRead_kept ..⟩
  | portDataLWrite => exact ⟨_, rfl, execPortDataLWrite_kept ..⟩
  | portCommit => exact ⟨_, rfl, execPortCommit_kept ..⟩
  | remoteWritePost => exact ⟨_, rfl, execRemoteWritePost_kept ..⟩
  | portRead => exact ⟨_, rfl, execPortRead_kept ..⟩
  | unlockFirstKey => exact ⟨_, rfl, execUnlockFirstKey_kept ..⟩
  | unlockSecondKey => exact ⟨_, rfl, execUnlockSecondKey_kept ..⟩
  | unlockWrongKey => exact ⟨_, rfl, execUnlockWrongKey_kept ..⟩
  | unlockWindowExpire => exact ⟨_, rfl, execUnlockWindowExpire_kept ..⟩
  | registerWrite => exact ⟨_, rfl, execRegisterWrite_kept ..⟩
  | hostAccessAbort => exact ⟨_, rfl, execHostAccessAbort_kept ..⟩
  | blockTake => exact ⟨_, rfl, execBlockTake_kept ..⟩
  | blockReturn => exact ⟨_, rfl, execBlockReturn_kept ..⟩
  | ownViolCountRead => exact ⟨_, rfl, execOwnViolCountRead_kept ..⟩
  | irqAnomalyCountRead => exact ⟨_, rfl, execIrqAnomalyCountRead_kept ..⟩
  | timeSnapshot => exact ⟨_, rfl, execTimeSnapshot_kept ..⟩
  | ltrWrite => exact ⟨_, rfl, execLtrWrite_kept ..⟩
  | invalBlock => exact ⟨_, rfl, execInvalBlock_kept ..⟩
  | schedControlWrite => exact ⟨_, rfl, execSchedControlWrite_kept ..⟩
  | ringAddrWrite => exact ⟨_, rfl, execRingAddrWrite_kept ..⟩
  | testPortDisable => exact ⟨_, rfl, execTestPortDisable_kept ..⟩
  | journalInfo => exact ⟨_, rfl, execJournalInfo_kept ..⟩
  | journalRead => exact ⟨_, rfl, execJournalRead_kept ..⟩
  | journalNote => exact ⟨_, rfl, execJournalNote_kept ..⟩
  | powerOff => exact ⟨_, rfl, execPowerOff_kept ..⟩
  | ringSetTime => exact ⟨_, rfl, execRingSetTime_kept ..⟩
  | calApply => exact ⟨_, rfl, execCalApply_kept ..⟩
  | calApplyTick => exact ⟨_, rfl, execCalApplyTick_kept ..⟩
  | calRaiseFloor => exact ⟨_, rfl, execCalRaiseFloor_kept ..⟩
  | keyPurge => exact ⟨_, rfl, execKeyPurge_kept ..⟩
  | serviceGet => exact ⟨_, rfl, execServiceGet_kept ..⟩
  | servicePut => exact ⟨_, rfl, execServicePut_kept ..⟩
  | serviceForward => exact ⟨_, rfl, execServiceForward_kept ..⟩
  | tagUpdate => exact ⟨_, rfl, execTagUpdate_kept ..⟩
  | mailboxComplete => exact ⟨_, rfl, execMailboxComplete_kept ..⟩
  | irqClaim => exact ⟨_, rfl, execIrqClaim_kept ..⟩
  | irqComplete => exact ⟨_, rfl, execIrqComplete_kept ..⟩
  | irqSetPend => exact ⟨_, rfl, execIrqSetPend_kept ..⟩
  | irqPendClr => exact ⟨_, rfl, execIrqPendClr_kept ..⟩
  | supSourceClaim => exact ⟨_, rfl, execSupSourceClaim_kept ..⟩
  | sourceEventFlush => exact ⟨_, rfl, execSourceEventFlush_kept ..⟩
  | faultAck => exact ⟨_, rfl, execFaultAck_kept ..⟩
  | safeNFall => exact ⟨_, rfl, execSafeNFall_kept ..⟩
  | safeNRise => exact ⟨_, rfl, execSafeNRise_kept ..⟩
  | forceF3 => exact ⟨_, rfl, execForceF3_kept ..⟩
  | armRequest => exact ⟨_, rfl, execArmRequest_kept ..⟩
  | disarmRequest => exact ⟨_, rfl, execDisarmRequest_kept ..⟩
  | watchdogEnable => exact ⟨_, rfl, execWatchdogEnable_kept ..⟩
  | wdtKick => exact ⟨_, rfl, execWdtKick_kept ..⟩
  | watchdogExpired => exact ⟨_, rfl, execWatchdogExpired_kept ..⟩
  | journalWrite => exact ⟨_, rfl, execJournalWrite_kept ..⟩
  | journalAllowanceRegain => exact ⟨_, rfl, execJournalAllowanceRegain_kept ..⟩
  | hours => exact ⟨_, rfl, execHours_kept ..⟩
  | wheelEdge => exact ⟨_, rfl, execWheelEdge_kept ..⟩
  | edgeTakeIn => exact ⟨_, rfl, execEdgeTakeIn_kept ..⟩
  | vrThresholdDecay => exact ⟨_, rfl, execVrThresholdDecay_kept ..⟩
  | wheelNoSignal => exact ⟨_, rfl, execWheelNoSignal_kept ..⟩
  | stallTimeout => exact ⟨_, rfl, execStallTimeout_kept ..⟩
  | drLimitReached => exact ⟨_, rfl, execDrLimitReached_kept ..⟩
  | snapshotTimeout => exact ⟨_, rfl, execSnapshotTimeout_kept ..⟩
  | bankGrant => exact ⟨_, rfl, execBankGrant_kept ..⟩
  | bankWaitTimeout => exact ⟨_, rfl, execBankWaitTimeout_kept ..⟩
  | boostThresholdReached => exact ⟨_, rfl, execBoostThresholdReached_kept ..⟩
  | boostTimeLimit => exact ⟨_, rfl, execBoostTimeLimit_kept ..⟩
  | transitionEnd => exact ⟨_, rfl, execTransitionEnd_kept ..⟩
  | holdChop => exact ⟨_, rfl, execHoldChop_kept ..⟩
  | injHoldLost => exact ⟨_, rfl, execInjHoldLost_kept ..⟩
  | injOvercurrent => exact ⟨_, rfl, execInjOvercurrent_kept ..⟩
  | injIdleCurrent => exact ⟨_, rfl, execInjIdleCurrent_kept ..⟩
  | bankTripClear => exact ⟨_, rfl, execBankTripClear_kept ..⟩
  | injEnableCommit => exact ⟨_, rfl, execInjEnableCommit_kept ..⟩
  | valvePullEnd => exact ⟨_, rfl, execValvePullEnd_kept ..⟩
  | valveStartDelayEnd => exact ⟨_, rfl, execValveStartDelayEnd_kept ..⟩
  | valveOpen => exact ⟨_, rfl, execValveOpen_kept ..⟩
  | valveShort => exact ⟨_, rfl, execValveShort_kept ..⟩
  | shortLatchClear => exact ⟨_, rfl, execShortLatchClear_kept ..⟩
  | timerMatch => exact ⟨_, rfl, execTimerMatch_kept ..⟩
  | timerOverflow => exact ⟨_, rfl, execTimerOverflow_kept ..⟩
  | timerPinCapture => exact ⟨_, rfl, execTimerPinCapture_kept ..⟩
  | chValueCommit => exact ⟨_, rfl, execChValueCommit_kept ..⟩
  | chCtrlCommit => exact ⟨_, rfl, execChCtrlCommit_kept ..⟩
  | tuCfgCommit => exact ⟨_, rfl, execTuCfgCommit_kept ..⟩
  | timerSnap => exact ⟨_, rfl, execTimerSnap_kept ..⟩
  | tioSelCommit => exact ⟨_, rfl, execTioSelCommit_kept ..⟩
  | convWindowOpen => exact ⟨_, rfl, execConvWindowOpen_kept ..⟩
  | convWindowClose => exact ⟨_, rfl, execConvWindowClose_kept ..⟩
  | timeWindowComplete => exact ⟨_, rfl, execTimeWindowComplete_kept ..⟩
  | pendingWindowStart => exact ⟨_, rfl, execPendingWindowStart_kept ..⟩
  | pendingWindowExpire => exact ⟨_, rfl, execPendingWindowExpire_kept ..⟩
  | windowTruncate => exact ⟨_, rfl, execWindowTruncate_kept ..⟩
  | convSyncApply => exact ⟨_, rfl, execConvSyncApply_kept ..⟩
  | decimatorOutput => exact ⟨_, rfl, execDecimatorOutput_kept ..⟩
  | convStart => exact ⟨_, rfl, execConvStart_kept ..⟩
  | convSync => exact ⟨_, rfl, execConvSync_kept ..⟩
  | ringTailCommit => exact ⟨_, rfl, execRingTailCommit_kept ..⟩
  | monitorBurst => exact ⟨_, rfl, execMonitorBurst_kept ..⟩
  | vbatBandChange => exact ⟨_, rfl, execVbatBandChange_kept ..⟩
  | holdupUpdate => exact ⟨_, rfl, execHoldupUpdate_kept ..⟩
  | boostChargeControl => exact ⟨_, rfl, execBoostChargeControl_kept ..⟩
  | boostStartTimeout => exact ⟨_, rfl, execBoostStartTimeout_kept ..⟩
  | boostOvercurrent => exact ⟨_, rfl, execBoostOvercurrent_kept ..⟩
  | boostOcPauseEnd => exact ⟨_, rfl, execBoostOcPauseEnd_kept ..⟩
  | railOutOfReg => exact ⟨_, rfl, execRailOutOfReg_kept ..⟩
  | powerStateChange => exact ⟨_, rfl, execPowerStateChange_kept ..⟩
  | deferredEntry => exact ⟨_, rfl, execDeferredEntry_kept ..⟩
  | wake => exact ⟨_, rfl, execWake_kept ..⟩
  | wakeDwellEnd => exact ⟨_, rfl, execWakeDwellEnd_kept ..⟩
  | keyInChange => exact ⟨_, rfl, execKeyInChange_kept ..⟩
  | keyoffDelayExpire => exact ⟨_, rfl, execKeyoffDelayExpire_kept ..⟩
  | ringCycleStart => exact ⟨_, rfl, execRingCycleStart_kept ..⟩
  | beaconReceive => exact ⟨_, rfl, execBeaconReceive_kept ..⟩
  | cycleReturn => exact ⟨_, rfl, execCycleReturn_kept ..⟩
  | snapshotReceive => exact ⟨_, rfl, execSnapshotReceive_kept ..⟩
  | statusEntryReceive => exact ⟨_, rfl, execStatusEntryReceive_kept ..⟩
  | writeMessage => exact ⟨_, rfl, execWriteMessage_kept ..⟩
  | nackMessage => exact ⟨_, rfl, execNackMessage_kept ..⟩
  | confirmMessage => exact ⟨_, rfl, execConfirmMessage_kept ..⟩
  | joinMessage => exact ⟨_, rfl, execJoinMessage_kept ..⟩
  | joinAckMessage => exact ⟨_, rfl, execJoinAckMessage_kept ..⟩
  | leaveMessage => exact ⟨_, rfl, execLeaveMessage_kept ..⟩
  | hostMessage => exact ⟨_, rfl, execHostMessage_kept ..⟩
  | cellReturned => exact ⟨_, rfl, execCellReturned_kept ..⟩
  | outboundEntrySend => exact ⟨_, rfl, execOutboundEntrySend_kept ..⟩
  | outboundDelivered => exact ⟨_, rfl, execOutboundDelivered_kept ..⟩
  | ringRxTailCommit => exact ⟨_, rfl, execRingRxTailCommit_kept ..⟩
  | remoteWriteExpire => exact ⟨_, rfl, execRemoteWriteExpire_kept ..⟩
  | remoteWriteJudge => exact ⟨_, rfl, execRemoteWriteJudge_kept ..⟩
  | ringMasterLost => exact ⟨_, rfl, execRingMasterLost_kept ..⟩
  | masterElection => exact ⟨_, rfl, execMasterElection_kept ..⟩
  | ringBroken => exact ⟨_, rfl, execRingBroken_kept ..⟩
  | ringJoinFailed => exact ⟨_, rfl, execRingJoinFailed_kept ..⟩
  | joinRetry => exact ⟨_, rfl, execJoinRetry_kept ..⟩
  | ringFound => exact ⟨_, rfl, execRingFound_kept ..⟩
  | insertEnable => exact ⟨_, rfl, execInsertEnable_kept ..⟩
  | ringLeave => exact ⟨_, rfl, execRingLeave_kept ..⟩
  | twinFrameReceive => exact ⟨_, rfl, execTwinFrameReceive_kept ..⟩
  | twinLinkLost => exact ⟨_, rfl, execTwinLinkLost_kept ..⟩
  | mirrorBlock => exact ⟨_, rfl, execMirrorBlock_kept ..⟩
  | mirrorCommit => exact ⟨_, rfl, execMirrorCommit_kept ..⟩
  | mirrorDirect => exact ⟨_, rfl, execMirrorDirect_kept ..⟩
  | mirrorApply => exact ⟨_, rfl, execMirrorApply_kept ..⟩
  | mirrorGroupTakeIn => exact ⟨_, rfl, execMirrorGroupTakeIn_kept ..⟩
  | capturePacket => exact ⟨_, rfl, execCapturePacket_kept ..⟩
  | captureApply => exact ⟨_, rfl, execCaptureApply_kept ..⟩
  | hello => exact ⟨_, rfl, execHello_kept ..⟩
  | twinEnable => exact ⟨_, rfl, execTwinEnable_kept ..⟩
  | twinIsolate => exact ⟨_, rfl, execTwinIsolate_kept ..⟩
  | twinRejoin => exact ⟨_, rfl, execTwinRejoin_kept ..⟩
  | foundingClaim => exact ⟨_, rfl, execFoundingClaim_kept ..⟩
  | plannedHandover => exact ⟨_, rfl, execPlannedHandover_kept ..⟩
  | handoverExecute => exact ⟨_, rfl, execHandoverExecute_kept ..⟩
  | twinTakeover => exact ⟨_, rfl, execTwinTakeover_kept ..⟩
  | twinOwnerCollision => exact ⟨_, rfl, execTwinOwnerCollision_kept ..⟩
  | cipherStart => exact ⟨_, rfl, execCipherStart_kept ..⟩
  | gcmEncrypt => exact ⟨_, rfl, execGcmEncrypt_kept ..⟩
  | gcmDecrypt => exact ⟨_, rfl, execGcmDecrypt_kept ..⟩
  | ctr => exact ⟨_, rfl, execCtr_kept ..⟩
  | cmacGenerate => exact ⟨_, rfl, execCmacGenerate_kept ..⟩
  | cmacVerify => exact ⟨_, rfl, execCmacVerify_kept ..⟩
  | derive => exact ⟨_, rfl, execDerive_kept ..⟩
  | unwrap => exact ⟨_, rfl, execUnwrap_kept ..⟩
  | cipherErase => exact ⟨_, rfl, execCipherErase_kept ..⟩
  | keyAlarm => exact ⟨_, rfl, execKeyAlarm_kept ..⟩
  | alarmLatchClear => exact ⟨_, rfl, execAlarmLatchClear_kept ..⟩
  | canFrameReceive => exact ⟨_, rfl, execCanFrameReceive_kept ..⟩
  | mbTxRequest => exact ⟨_, rfl, execMbTxRequest_kept ..⟩
  | mbTxAbort => exact ⟨_, rfl, execMbTxAbort_kept ..⟩
  | canTxComplete => exact ⟨_, rfl, execCanTxComplete_kept ..⟩
  | mbFullClear => exact ⟨_, rfl, execMbFullClear_kept ..⟩
  | canCfgCommit => exact ⟨_, rfl, execCanCfgCommit_kept ..⟩
  | canBusOff => exact ⟨_, rfl, execCanBusOff_kept ..⟩
  | canBusoffRecovery => exact ⟨_, rfl, execCanBusoffRecovery_kept ..⟩
  | singleFrame => exact ⟨_, rfl, execSingleFrame_kept ..⟩
  | firstFrame => exact ⟨_, rfl, execFirstFrame_kept ..⟩
  | consecutiveFrame => exact ⟨_, rfl, execConsecutiveFrame_kept ..⟩
  | flowControl => exact ⟨_, rfl, execFlowControl_kept ..⟩
  | isotpTimeout => exact ⟨_, rfl, execIsotpTimeout_kept ..⟩
  | diagnosticSessionControl => exact ⟨_, rfl, execDiagnosticSessionControl_kept ..⟩
  | ecuReset => exact ⟨_, rfl, execEcuReset_kept ..⟩
  | clearDiagnosticInformation => exact ⟨_, rfl, execClearDiagnosticInformation_kept ..⟩
  | reportNumberOfDtcByStatusMask => exact ⟨_, rfl, execReportNumberOfDtcByStatusMask_kept ..⟩
  | reportDtcByStatusMask => exact ⟨_, rfl, execReportDtcByStatusMask_kept ..⟩
  | reportDtcSnapshotRecord => exact ⟨_, rfl, execReportDtcSnapshotRecord_kept ..⟩
  | reportDtcExtendedDataRecord => exact ⟨_, rfl, execReportDtcExtendedDataRecord_kept ..⟩
  | readDataByIdentifier => exact ⟨_, rfl, execReadDataByIdentifier_kept ..⟩
  | writeDataByIdentifier => exact ⟨_, rfl, execWriteDataByIdentifier_kept ..⟩
  | requestSeed => exact ⟨_, rfl, execRequestSeed_kept ..⟩
  | sendKey => exact ⟨_, rfl, execSendKey_kept ..⟩
  | securityDelayEnd => exact ⟨_, rfl, execSecurityDelayEnd_kept ..⟩
  | communicationControl => exact ⟨_, rfl, execCommunicationControl_kept ..⟩
  | routineJournalRead => exact ⟨_, rfl, execRoutineJournalRead_kept ..⟩
  | tagRefresh => exact ⟨_, rfl, execTagRefresh_kept ..⟩
  | routineKeyPurge => exact ⟨_, rfl, execRoutineKeyPurge_kept ..⟩
  | testerPresent => exact ⟨_, rfl, execTesterPresent_kept ..⟩
  | controlDtcSetting => exact ⟨_, rfl, execControlDtcSetting_kept ..⟩
  | unsupportedService => exact ⟨_, rfl, execUnsupportedService_kept ..⟩
  | forwardedRequest => exact ⟨_, rfl, execForwardedRequest_kept ..⟩
  | forwardTimeout => exact ⟨_, rfl, execForwardTimeout_kept ..⟩
  | responsePending => exact ⟨_, rfl, execResponsePending_kept ..⟩
  | sessionTimeout => exact ⟨_, rfl, execSessionTimeout_kept ..⟩
  | tagPumpReady => exact ⟨_, rfl, execTagPumpReady_kept ..⟩
  | tagDrivePhaseEnd => exact ⟨_, rfl, execTagDrivePhaseEnd_kept ..⟩
  | tagJournalDone => exact ⟨_, rfl, execTagJournalDone_kept ..⟩
  | tagFailed => exact ⟨_, rfl, execTagFailed_kept ..⟩
  | tagRecoveryStart => exact ⟨_, rfl, execTagRecoveryStart_kept ..⟩
  | tagSkipped => exact ⟨_, rfl, execTagSkipped_kept ..⟩
  | tagDueRecompute => exact ⟨_, rfl, execTagDueRecompute_kept ..⟩
  | tapReset => exact ⟨_, rfl, execTapReset_kept ..⟩
  | extest => exact ⟨_, rfl, execExtest_kept ..⟩
  | idcode => exact ⟨_, rfl, execIdcode_kept ..⟩
  | samplePreload => exact ⟨_, rfl, execSamplePreload_kept ..⟩
  | bypass => exact ⟨_, rfl, execBypass_kept ..⟩
  | mbxDoorbell => exact ⟨_, rfl, execMbxDoorbell_kept ..⟩
  | supervisorCommitTakeIn => exact ⟨_, rfl, execSupervisorCommitTakeIn_kept ..⟩
  | railInRegulation => exact ⟨_, rfl, execRailInRegulation_kept ..⟩
  | canBusError => exact ⟨_, rfl, execCanBusError_kept ..⟩
  | stminElapsed => exact ⟨_, rfl, execStminElapsed_kept ..⟩
  | valveOpenClear => exact ⟨_, rfl, execValveOpenClear_kept ..⟩
  | valvePwmTransition => exact ⟨_, rfl, execValvePwmTransition_kept ..⟩

/-- Settles O6, from the frame of every command: none of their masks holds the part. -/
theorem everyCommandCompletes : Obligations.EveryCommandCompletes := by
  unfold Obligations.EveryCommandCompletes
  intro i s
  obtain ⟨m, hpart, hkept⟩ := exec_runsKept i s
  exact hkept.part_eq hpart

end Sys2Proof.Machine

/-!
PROOFS. The interrupt controller: the source a claim returns, claims, completions and pending bits (R431 to R437).
-/

namespace Sys2Proof.Machine

namespace Chip

/-! ## The source a claim returns (R433) -/

/-- A step of the search of `bestSource`: `s` takes the place of the source found so far where its PRIO is higher. -/
def prefer (c : Chip) : Option Nat → Nat → Option Nat
  | none, s => some s
  | some t, s => if c.fld (F.irqSrc_PRIO t) < c.fld (F.irqSrc_PRIO s) then some s else some t

theorem bestSource_eq_foldl (c : Chip) (x : Nat) : c.bestSource x = (sources.filter (c.eligible x)).foldl c.prefer none := by
  unfold bestSource
  congr 1
  funext b s
  cases b <;> rfl

theorem mem_sources {j : Nat} : j ∈ sources ↔ 1 ≤ j ∧ j ≤ 62 := by
  simp only [sources, List.mem_map, List.mem_range]
  constructor
  · rintro ⟨i, hi, rfl⟩; omega
  · rintro ⟨h1, h2⟩; exact ⟨j - 1, by omega, by omega⟩

theorem sources_sorted : sources.Pairwise (· < ·) := by decide

/-- The source found stays where no later one has a higher PRIO. -/
theorem foldl_prefer_some {c : Chip} {k : Nat} : ∀ {l : List Nat}, (∀ j ∈ l, c.fld (F.irqSrc_PRIO j) ≤ c.fld (F.irqSrc_PRIO k)) →
    l.foldl c.prefer (some k) = some k
  | [], _ => rfl
  | j :: l, h => by
    have hj := h j List.mem_cons_self
    rw [List.foldl_cons, show c.prefer (some k) j = some k from if_neg (by omega)]
    exact foldl_prefer_some fun i hi => h i (List.mem_cons_of_mem _ hi)

/-- A rising list's search ends at the source of the highest PRIO that comes first, as long as the one found before the list has
a lower PRIO. -/
theorem foldl_prefer_best {c : Chip} {k : Nat} : ∀ {l : List Nat} {b : Option Nat}, l.Pairwise (· < ·) → k ∈ l →
    (∀ j ∈ l, c.fld (F.irqSrc_PRIO j) < c.fld (F.irqSrc_PRIO k) ∨ (c.fld (F.irqSrc_PRIO j) = c.fld (F.irqSrc_PRIO k) ∧ k ≤ j)) →
    (∀ t ∈ b, c.fld (F.irqSrc_PRIO t) < c.fld (F.irqSrc_PRIO k)) → l.foldl c.prefer b = some k
  | j :: l, b, hs, hk, hbest, hb => by
    obtain ⟨hfirst, hs⟩ := List.pairwise_cons.mp hs
    have hrest : ∀ i ∈ l, _ := fun i hi => hbest i (List.mem_cons_of_mem _ hi)
    rw [List.foldl_cons]
    rcases List.mem_cons.mp hk with rfl | hk
    · have hstep : c.prefer b k = some k := by
        cases b with
        | none => rfl
        | some t => exact if_pos (hb t rfl)
      rw [hstep]
      exact foldl_prefer_some fun i hi => by have := hrest i hi; omega
    · have hj : c.fld (F.irqSrc_PRIO j) < c.fld (F.irqSrc_PRIO k) := by
        have := hbest j List.mem_cons_self
        have := hfirst k hk
        omega
      refine foldl_prefer_best hs hk hrest ?_
      intro t ht
      cases b with
      | none => cases ht; exact hj
      | some u =>
        have hu := hb u rfl
        simp only [prefer] at ht
        split at ht <;> cases ht <;> assumption

theorem bestSource_eq_some {c : Chip} {x k : Nat} (h1 : 1 ≤ k) (h62 : k ≤ 62) (he : c.eligible x k = true)
    (hbest : ∀ j, 1 ≤ j → j ≤ 62 → c.eligible x j = true →
      c.fld (F.irqSrc_PRIO j) < c.fld (F.irqSrc_PRIO k) ∨ (c.fld (F.irqSrc_PRIO j) = c.fld (F.irqSrc_PRIO k) ∧ k ≤ j)) :
    c.bestSource x = some k := by
  rw [bestSource_eq_foldl]
  refine foldl_prefer_best (sources_sorted.filter _) (List.mem_filter.mpr ⟨mem_sources.mpr ⟨h1, h62⟩, he⟩) ?_ (by simp)
  intro j hj
  obtain ⟨hj, hej⟩ := List.mem_filter.mp hj
  obtain ⟨hj1, hj62⟩ := mem_sources.mp hj
  exact hbest j hj1 hj62 hej

theorem bestSource_eq_none {c : Chip} {x : Nat} (h : ∀ j, 1 ≤ j → j ≤ 62 → c.eligible x j = false) : c.bestSource x = none := by
  have hnone : sources.filter (c.eligible x) = [] := List.filter_eq_nil_iff.mpr fun j hj => by
    obtain ⟨hj1, hj62⟩ := mem_sources.mp hj
    simp [h j hj1 hj62]
  rw [bestSource_eq_foldl, hnone]
  rfl

/-! ## What the operations of the interrupt controller leave -/

section
variable (x : HostTarget) (n : Nat) (b : Bool) (c : Chip)

@[simp] theorem clearPend_pend : (c.clearPend n).irq.pend = c.irq.pend &&& ~~~ (BitVec.ofNat 64 (2 ^ n)) := rfl
@[simp] theorem clearPend_actS : (c.clearPend n).irq.actS = c.irq.actS := rfl
@[simp] theorem clearPend_bus : (c.clearPend n).bus = c.bus := rfl
@[simp] theorem clearPend_activeOf : (c.clearPend n).activeOf x = c.activeOf x := by cases x <;> rfl

@[simp] theorem setActive_pend : (c.setActive x n b).irq.pend = c.irq.pend := by cases x <;> rfl
@[simp] theorem setActive_actS : (c.setActive x n b).irq.actS = c.irq.actS := by cases x <;> rfl
@[simp] theorem setActive_bus : (c.setActive x n b).bus = c.bus := by cases x <;> rfl
@[simp] theorem setActive_regs : (c.setActive x n b).regs = c.regs := by cases x <;> rfl
@[simp] theorem setActive_activeOf : (c.setActive x n b).activeOf x = withSrc (c.activeOf x) n b := by cases x <;> rfl

@[simp] theorem restartSeen_pend : (c.restartSeen x).irq.pend = c.irq.pend := by cases x <;> rfl
@[simp] theorem restartSeen_actS : (c.restartSeen x).irq.actS = c.irq.actS := by cases x <;> rfl
@[simp] theorem restartSeen_bus : (c.restartSeen x).bus = c.bus := by cases x <;> rfl
@[simp] theorem restartSeen_regs : (c.restartSeen x).regs = c.regs := by cases x <;> rfl
@[simp] theorem restartSeen_activeOf : (c.restartSeen x).activeOf x = c.activeOf x := by cases x <;> rfl

@[simp] theorem samplePins_pend : c.samplePins.irq.pend = c.irq.pend := rfl
@[simp] theorem samplePins_actA : c.samplePins.irq.actA = c.irq.actA := rfl
@[simp] theorem samplePins_actB : c.samplePins.irq.actB = c.irq.actB := rfl
@[simp] theorem samplePins_actS : c.samplePins.irq.actS = c.irq.actS := rfl
@[simp] theorem samplePins_activeOf : c.samplePins.activeOf x = c.activeOf x := by cases x <;> rfl

@[simp] theorem answer_activeOf (v : Word) : (c.answer v).activeOf x = c.activeOf x := by cases x <;> rfl
@[simp] theorem incFld_activeOf (f : Fld) : (c.incFld f).activeOf x = c.activeOf x := by cases x <;> rfl
end

/-! ## Claims (R433, R434) -/

section
variable {x : HostTarget} {c : Chip}

theorem claim_source {k : Nat} (h : c.bestSource (targetNo x) = some k) :
    c.claim x = (k, ((c.clearPend k).setActive x k true).restartSeen x) := by simp only [claim, h]

theorem claim_spurious (h : c.bestSource (targetNo x) = none) (hp : c.pinSeen x = true) :
    c.claim x = (63, (c.incFld F.irqAnomalyCount_SPURIOUS).restartSeen x) := by simp only [claim, h, if_pos hp]

theorem claim_nothing (h : c.bestSource (targetNo x) = none) (hp : c.pinSeen x = false) : c.claim x = (0, c.restartSeen x) := by
  simp [claim, h, hp]

/-! ## Completions and pending bits (R435, R437) -/

theorem complete_noSource {k : Nat} (h : k = 0 ∨ k = 63) : c.complete x k = c := if_pos h

theorem complete_active {k : Nat} (h : ¬ (k = 0 ∨ k = 63)) (ha : srcBit (c.activeOf x) k = true) :
    c.complete x k = (c.setActive x k false).samplePins := by simp only [complete, if_neg h, if_pos ha]

theorem complete_inactive {k : Nat} (h : ¬ (k = 0 ∨ k = 63)) (ha : srcBit (c.activeOf x) k = false) :
    c.complete x k = c.incFld F.irqAnomalyCount_BAD_COMPLETE := by simp [complete, h, ha]

theorem setPend_noSource {k : Nat} (h : k = 0 ∨ k = 63) : c.setPend k = c := if_pos h

theorem setPend_raise {k : Nat} (h : ¬ (k = 0 ∨ k = 63)) (hp : ¬ (c.part = .lb8612 ∧ 12 ≤ k ∧ k ≤ 14)) :
    c.setPend k = c.raise k := by simp only [setPend, if_neg h, if_neg hp]

theorem clearPends_irq (high : Bool) (mask : DWord) : (c.clearPends high mask.toNat).irq = { c.irq with pend := c.irq.pend &&&
    ~~~ (BitVec.ofNat 64 (if high then mask.toNat % 2 ^ 31 * 2 ^ 32 else mask.toNat - mask.toNat % 2)) } := by
  simp only [clearPends, modIrq, Nat.mod_eq_of_lt mask.isLt]

end

end Chip

open Chip

/-! ## The commands -/

section
variable {s : State} {x : HostTarget}

theorem irqClaim_source {k : Nat} (ho : s.chip.busOpen = true) (hb : s.chip.bestSource (targetNo x) = some k) :
    RunsIn (.irqClaim x) s [.bus, .irq] [] fun d =>
      d.bus = { s.chip.bus with read := BitVec.ofNat 16 k } ∧
        d.irq.pend = s.chip.irq.pend &&& ~~~ (BitVec.ofNat 64 (2 ^ k)) ∧
        d.activeOf x = s.chip.activeOf x ||| BitVec.ofNat 64 (2 ^ k) ∧ d.irq.actS = s.chip.irq.actS := by
  have hk : Kept 0x50 s.chip ((((s.chip.clearPend k).setActive x k true).restartSeen x).answer (BitVec.ofNat 16 k)) := by
    refine Kept.step (Chip.answer_kept ..) (by decide) ?_
    refine Kept.step (Chip.restartSeen_kept ..) (by decide) ?_
    refine Kept.step (Chip.setActive_kept ..) (by decide) ?_
    exact (Chip.clearPend_kept ..).mono (by decide)
  refine RunsIn.is (y := s.chip.hostRead (claim x)) rfl (by rw [hostRead_open ho, claim_source hb]) (.of_kept hk (by decide))
    (.same (by simp [clearPend, modIrq]) .rfl) ?_
  simp [withSrc]

theorem irqClaim_spurious (hok : s.chip.RegOk) (ho : s.chip.busOpen = true) (hb : s.chip.bestSource (targetNo x) = none)
    (hp : s.chip.pinSeen x = true) :
    RunsIn (.irqClaim x) s [.regs, .bus, .irq] [R.irqAnomalyCount] fun d =>
      d.bus = { s.chip.bus with read := 63 } ∧
        d.fld F.irqAnomalyCount_SPURIOUS = min 255 (s.chip.fld F.irqAnomalyCount_SPURIOUS + 1) ∧
        d.irq.pend = s.chip.irq.pend ∧ d.activeOf x = s.chip.activeOf x ∧ d.irq.actS = s.chip.irq.actS := by
  have hregs : ((s.chip.incFld F.irqAnomalyCount_SPURIOUS).restartSeen x).regs = (s.chip.incFld F.irqAnomalyCount_SPURIOUS).regs :=
    restartSeen_regs ..
  refine RunsIn.at (y := s.chip.hostRead (claim x)) rfl (execIrqClaim_kept x s) (by decide)
    (by rw [hostRead_open ho, claim_spurious hb hp])
    (.answer (.same hregs (.incFld (List.mem_singleton.mpr rfl) .rfl))) ?_
  refine ⟨by simp, ?_, by simp, by simp, by simp⟩
  rw [answer_fld, fld, get_of_regs hregs]
  exact fld_incFld_self hok (by decide)

theorem irqClaim_nothing (ho : s.chip.busOpen = true) (hb : s.chip.bestSource (targetNo x) = none)
    (hp : s.chip.pinSeen x = false) :
    RunsIn (.irqClaim x) s [.bus, .irq] [] fun d =>
      d.bus = { s.chip.bus with read := 0 } ∧ d.irq.pend = s.chip.irq.pend ∧ d.activeOf x = s.chip.activeOf x ∧
        d.irq.actS = s.chip.irq.actS := by
  have hk : Kept 0x50 s.chip ((s.chip.restartSeen x).answer (BitVec.ofNat 16 0)) := by
    refine Kept.step (Chip.answer_kept ..) (by decide) ?_
    exact (Chip.restartSeen_kept ..).mono (by decide)
  refine RunsIn.is (y := s.chip.hostRead (claim x)) rfl (by rw [hostRead_open ho, claim_nothing hb hp])
    (.of_kept hk (by decide)) (.same (by simp) .rfl) ?_
  simp

theorem irqComplete_noSource {v : Word} (ho : s.chip.busOpen = true) (h : v.toNat % 64 = 0 ∨ v.toNat % 64 = 63) :
    NoEffect (.irqComplete x v) s :=
  .at (y := s.chip.hostWrite (complete x (v.toNat % 64))) rfl (by rw [hostWrite_open ho, complete_noSource h])

theorem irqComplete_active {v : Word} (ho : s.chip.busOpen = true) (h : ¬ (v.toNat % 64 = 0 ∨ v.toNat % 64 = 63))
    (ha : srcBit (s.chip.activeOf x) (v.toNat % 64) = true) :
    RunsIn (.irqComplete x v) s [.irq] [] fun d =>
      d.activeOf x = s.chip.activeOf x &&& ~~~ (BitVec.ofNat 64 (2 ^ (v.toNat % 64))) ∧ d.irq.pend = s.chip.irq.pend ∧
        d.irq.actS = s.chip.irq.actS := by
  have hk : Kept 0x40 s.chip ((s.chip.setActive x (v.toNat % 64) false).samplePins) := by
    refine Kept.step (Chip.samplePins_kept ..) (by decide) ?_
    exact (Chip.setActive_kept ..).mono (by decide)
  refine RunsIn.is (y := s.chip.hostWrite (complete x (v.toNat % 64))) rfl (by rw [hostWrite_open ho, complete_active h ha])
    (.of_kept hk (by decide)) (.same (by simp) .rfl) ?_
  simp [withSrc]

theorem irqComplete_inactive {v : Word} (hok : s.chip.RegOk) (ho : s.chip.busOpen = true)
    (h : ¬ (v.toNat % 64 = 0 ∨ v.toNat % 64 = 63)) (ha : srcBit (s.chip.activeOf x) (v.toNat % 64) = false) :
    RunsIn (.irqComplete x v) s [.regs] [R.irqAnomalyCount] fun d =>
      d.fld F.irqAnomalyCount_BAD_COMPLETE = min 255 (s.chip.fld F.irqAnomalyCount_BAD_COMPLETE + 1) :=
  RunsIn.is (y := s.chip.hostWrite (complete x (v.toNat % 64))) rfl (by rw [hostWrite_open ho, complete_inactive h ha])
    (.of_kept (Kept.incFld_name .irqAnomalyCount 0 0 rfl) (by decide)) (.incFld (List.mem_singleton.mpr rfl) .rfl)
    (fld_incFld_self hok (by decide))

theorem irqSetPend_noSource {v : Word} (ho : s.chip.busOpen = true) (h : v.toNat % 64 = 0 ∨ v.toNat % 64 = 63) :
    NoEffect (.irqSetPend v) s :=
  .at (y := s.chip.hostWrite (setPend (v.toNat % 64))) rfl (by rw [hostWrite_open ho, setPend_noSource h])

theorem irqSetPend_raise {v : Word} (ho : s.chip.busOpen = true) (h : ¬ (v.toNat % 64 = 0 ∨ v.toNat % 64 = 63))
    (hp : ¬ (s.chip.part = .lb8612 ∧ 12 ≤ v.toNat % 64 ∧ v.toNat % 64 ≤ 14)) :
    RunsIn (.irqSetPend v) s [.irq] [] fun d =>
      d.irq.pend = s.chip.irq.pend ||| BitVec.ofNat 64 (2 ^ (v.toNat % 64)) ∧ d.irq.actA = s.chip.irq.actA ∧
        d.irq.actB = s.chip.irq.actB ∧ d.irq.actS = s.chip.irq.actS :=
  RunsIn.at (y := s.chip.hostWrite (setPend (v.toNat % 64))) rfl (execIrqSetPend_kept v s) (by decide)
    (by rw [hostWrite_open ho, setPend_raise h hp]) (.raise .rfl) ⟨rfl, rfl, rfl, rfl⟩

theorem irqPendClr_pend (high : Bool) (mask : DWord) : RunsIn (.irqPendClr high mask) s [.irq] [] fun d =>
    d.irq = { s.chip.irq with pend := s.chip.irq.pend &&&
      ~~~ (BitVec.ofNat 64 (if high then mask.toNat % 2 ^ 31 * 2 ^ 32 else mask.toNat - mask.toNat % 2)) } :=
  RunsIn.of rfl (execIrqPendClr_kept high mask s) (by decide) (.same rfl .rfl) (clearPends_irq high mask)

end

/-- Settles O24: the source of the statement's premise is the best one of the model, and each operation then runs its one branch. -/
theorem interruptClaims : Obligations.InterruptClaims := by
  unfold Obligations.InterruptClaims
  intro s x hinv
  have hok : s.chip.RegOk := hinv.regOk
  refine ⟨fun ho => ⟨?claims, ?spurious, ?completions⟩, fun high mask => irqPendClr_pend high mask⟩
  case claims =>
    intro k h1 h62 he hbest
    have hb : s.chip.bestSource (targetNo x) = some k := bestSource_eq_some h1 h62 he hbest
    exact irqClaim_source ho hb
  case spurious =>
    intro hnone
    have hb : s.chip.bestSource (targetNo x) = none := bestSource_eq_none hnone
    exact ⟨fun hp => irqClaim_spurious hok ho hb hp, fun hp => irqClaim_nothing ho hb hp⟩
  case completions =>
    intro v k
    refine ⟨fun h => ⟨irqComplete_noSource ho h, irqSetPend_noSource ho h⟩, fun h0 h63 ha => ?_, fun h0 h63 ha => ?_,
      fun h0 h63 hp => ?_⟩
    · exact irqComplete_active ho (not_or.mpr ⟨h0, h63⟩) ha
    · exact irqComplete_inactive hok ho (not_or.mpr ⟨h0, h63⟩) ha
    · exact irqSetPend_raise ho (not_or.mpr ⟨h0, h63⟩) hp

end Sys2Proof.Machine

/-!
PROOFS. The frame: what the operations of a frame leave of FRAME_COUNT, of the frame's length, of the run of overrun frames and
of the unlock window (R37 to R50, R80).
-/

namespace Sys2Proof.Machine

/-! ## Operations within a frame -/

/-- FRAME_COUNT, the length of the running frame, the run of overrun frames, the running frames and the unlock window are as they
were. -/
structure SameFrame (c d : Chip) : Prop where
  frame : d.tb.frame = c.tb.frame
  length : d.tb.length = c.tb.length
  overrunRun : d.tb.overrunRun = c.tb.overrunRun
  running : d.tb.running = c.tb.running
  openTicks : d.bus.openTicks = c.bus.openTicks

namespace SameFrame

variable {b c d : Chip}

theorem refl : SameFrame c c := ⟨rfl, rfl, rfl, rfl, rfl⟩

theorem trans (h : SameFrame b c) (h' : SameFrame c d) : SameFrame b d :=
  ⟨h'.frame.trans h.frame, h'.length.trans h.length, h'.overrunRun.trans h.overrunRun, h'.running.trans h.running,
    h'.openTicks.trans h.openTicks⟩

/-- An operation whose mask holds neither the time base nor the host bus. -/
theorem of_kept {m : Nat} (h : Kept m c d) (hm : m &&& 0x18 = 0) : SameFrame c d := by
  have hbit : ∀ i, (0x18 : Nat).testBit i = true → m.testBit i = false := fun i hi => by
    have := congrArg (Nat.testBit · i) hm
    simpa [hi] using this
  have htb : d.tb = c.tb := h.same_of .tb (hbit _ rfl)
  have hbus : d.bus = c.bus := h.same_of .bus (hbit _ rfl)
  constructor <;> simp [htb, hbus]

/-- One more operation whose mask holds neither the time base nor the host bus. -/
theorem step {m : Nat} (h : Kept m c d) (hm : m &&& 0x18 = 0) (h' : SameFrame b c) : SameFrame b d := h'.trans (of_kept h hm)

theorem ite {p : Prop} [Decidable p] (h : SameFrame b c) (h' : SameFrame b d) : SameFrame b (if p then c else d) := by
  split <;> assumption

theorem foldl {α : Type} {l : List α} {f : Chip → α → Chip} (hf : ∀ d x, SameFrame d (f d x)) (h : SameFrame b c) :
    SameFrame b (l.foldl f c) := by
  induction l generalizing c with
  | nil => exact h
  | cons x l ih => exact ih (h.trans (hf c x))

theorem stepN {n : Nat} {f : Chip → Chip} (hf : ∀ d, SameFrame d (f d)) : SameFrame c (Machine.stepN f n c) := by
  induction n generalizing c with
  | zero => exact refl
  | succ n ih => exact (hf c).trans ih

end SameFrame

namespace Chip

theorem atStep_sameFrame (k : Nat) (c : Chip) : SameFrame c (c.atStep k) := ⟨rfl, rfl, rfl, rfl, rfl⟩

theorem noteTick_sameFrame (c : Chip) : SameFrame c c.noteTick := ⟨rfl, rfl, rfl, rfl, rfl⟩

theorem watchTime_sameFrame (c : Chip) : SameFrame c c.watchTime := by
  unfold watchTime; split
  · exact ⟨rfl, rfl, rfl, rfl, rfl⟩
  · exact .refl

theorem runEdge_sameFrame (x : Edge) (c : Chip) : SameFrame c (c.runEdge x) := by
  unfold runEdge
  extract_lets c1 c2
  have h2 : SameFrame c c2 := .ite (atStep_sameFrame ..) (.step (driveEdge_kept ..) (by decide) (atStep_sameFrame ..))
  exact .ite (.step (leaveCache_kept ..) (by decide) h2) h2

theorem executeNext_sameFrame (c : Chip) : SameFrame c c.executeNext := by
  unfold executeNext
  split
  · exact .refl
  · extract_lets rest c1
    have h1 : SameFrame c c1 := .of_kept (modSched_kept ..) (by decide)
    exact (SameFrame.foldl (fun _ _ => .of_kept (shiftEnd_kept ..) (by decide)) h1).trans (runEdge_sameFrame ..)

theorem executeBefore_sameFrame (k : Int) (c : Chip) : SameFrame c (c.executeBefore k) := by
  refine .stepN fun d => ?_
  split
  · exact .ite (executeNext_sameFrame d) .refl
  · exact .refl

theorem nextEdge_sameFrame (more : List (Nat × DWord)) (pins : List (Nat × Bool)) (c : Chip) :
    SameFrame c (c.nextEdge more pins) := by
  unfold nextEdge
  refine .ite ?_ .refl
  have hbus : SameFrame c { c with bus := { c.bus with timerCommits := [] } } := ⟨rfl, rfl, rfl, rfl, rfl⟩
  exact .step (bclkEdge_kept ..) (by decide) (hbus.trans (watchTime_sameFrame _))

theorem finishFrame_sameFrame (n : Nat) (c : Chip) : SameFrame c (c.finishFrame n) := by
  unfold finishFrame
  extract_lets last
  refine SameFrame.trans (.foldl (fun d i => ?_) .refl) (.stepN executeNext_sameFrame)
  exact (executeBefore_sameFrame _ d).trans (nextEdge_sameFrame ..)

/-! ## Changes that take effect at a tick -/

theorem takeCommits_sameFrame (free : Bool) (c : Chip) : SameFrame c (c.takeCommits free) := by
  unfold takeCommits
  extract_lets due bus c1
  have h1 : SameFrame c c1 := ⟨rfl, rfl, rfl, rfl, rfl⟩
  refine .step (keepHits_kept ..) (by decide) (.foldl (fun d x => ?_) h1)
  exact .ite (.of_kept (commitTwinControl_kept ..) (by decide)) (.of_kept (applyCommit_kept ..) (by decide))

theorem setReply_sameFrame (r : Nat) (data : List Word) (c : Chip) : SameFrame c (c.setReply r data) := ⟨rfl, rfl, rfl, rfl, rfl⟩

theorem applyPackage_sameFrame (x : Staged) (c : Chip) : SameFrame c (c.applyPackage x) := by
  unfold applyPackage
  extract_lets bs c1 c2 part
  have h1 : SameFrame c c1 := .step (modCipher_kept ..) (by decide) (.foldl (fun _ _ => .of_kept (endReturn_kept ..) (by decide)) .refl)
  have h2 : SameFrame c c2 :=
    .step (takeInBlocks_kept ..) (by decide) (.foldl (fun _ _ => .of_kept (applyCommit_kept ..) (by decide)) h1)
  exact h2.trans (setReply_sameFrame ..)

theorem calTick_sameFrame (c : Chip) : SameFrame c c.calTick := by
  unfold calTick; split
  · exact applyPackage_sameFrame ..
  · exact .refl

theorem takeChanges_sameFrame (free : Bool) (c : Chip) : SameFrame c (c.takeChanges free) := by
  unfold takeChanges
  extract_lets ps c1
  have h1 : SameFrame c c1 :=
    .step (takeReturns_kept ..) (by decide) ((takeCommits_sameFrame free c).trans (calTick_sameFrame _))
  refine .step (captureTick_kept ..) (by decide) ?_
  refine .step (takeGroup_kept ..) (by decide) ?_
  refine .step (modTwin_kept ..) (by decide) ?_
  exact .step (mirrorGroup_kept ..) (by decide) h1

theorem tickEffects_sameFrame (t : TickInput) (c : Chip) : SameFrame c (c.tickEffects t) := by
  unfold tickEffects
  extract_lets c1 c2
  have h1 : SameFrame c c1 := .step (twinTick_kept ..) (by decide) (.of_kept (handOver_kept ..) (by decide))
  have h2 : SameFrame c c2 := .ite (.step (executeHand_kept ..) (by decide) h1) h1
  refine .step (armTick_kept ..) (by decide) ?_
  exact .step (clearLatch_kept ..) (by decide) (h2.trans (takeChanges_sameFrame ..))

/-! ## The operations that move the frame on -/

theorem countFrame_tb (n : Nat) (c : Chip) : (c.countFrame n).tb = c.tb := (countFrame_kept n c).same_of .tb (by decide)

theorem countFrame_openTicks (n : Nat) (c : Chip) : (c.countFrame n).bus.openTicks = c.bus.openTicks - 1 := by
  have hwdt : (c.wdtCount n).bus = c.bus := (wdtCount_kept n c).same_of .bus (by decide)
  unfold countFrame
  extract_lets c1 bus c2 t
  have h2 : c2.bus.openTicks = c.bus.openTicks - 1 := congrArg (·.openTicks - 1) hwdt
  split
  · exact h2
  · exact h2

theorem trim_length (c : Chip) : c.trim.tb.length ∈ [199, 200, 201] := by
  unfold trim
  extract_lets t
  split
  · simp
  · split <;> simp

theorem trim_frame (c : Chip) : c.trim.tb.frame = c.tb.frame ∧ c.trim.tb.overrunRun = c.tb.overrunRun := by
  unfold trim
  extract_lets t
  split
  · exact ⟨rfl, rfl⟩
  · split <;> exact ⟨rfl, rfl⟩

/-- An overrun lengthens the run of overrun frames by one, whatever its safe stop does (R50). -/
theorem overrun_tb (unit : Nat) (c : Chip) : (c.overrun unit).tb = { c.tb with overrunRun := c.tb.overrunRun + 1 } := by
  have hfault : ((c.raise 1).fault 0x0101 unit 0).tb = c.tb := (fault_kept ..).same_of .tb (by decide)
  unfold overrun
  extract_lets c1 tb c2
  have h2 : c2.tb = { c.tb with overrunRun := c.tb.overrunRun + 1 } :=
    congrArg (fun t : TimeBase => { t with overrunRun := t.overrunRun + 1 }) hfault
  unfold doIf
  split
  · exact ((faultF3_kept 0x0102 0 0 c2).same_of .tb (by decide)).trans h2
  · exact h2

theorem runA_tb (before : Nat) (c : Chip) : (c.runA before).tb = c.tb := (runA_kept ..).same_of .tb (by decide)

/-- The phases end the run of overrun frames, or an overrun lengthens it; of the time base they change nothing else (R47 to R50). -/
theorem phases_tb (lost : Option Phase) (before : Nat) (c : Chip) :
    (c.phases lost before).tb = { c.tb with overrunRun := if lost.isNone then 0 else c.tb.overrunRun + 1 } := by
  match lost with
  | none =>
    have h : ((c.runA before).phaseE).tb = c.tb := ((phaseE_kept _).same_of .tb (by decide)).trans (runA_tb ..)
    exact congrArg (fun t : TimeBase => { t with overrunRun := 0 }) h
  | some .a =>
    have h : c.missA.tb = c.tb := (missA_kept c).same_of .tb (by decide)
    exact (overrun_tb 0 _).trans (by rw [h]; rfl)
  | some .e =>
    have h : ((c.runA before).missE).tb = c.tb := ((missE_kept _).same_of .tb (by decide)).trans (runA_tb ..)
    exact (overrun_tb 1 _).trans (by rw [h]; rfl)
  | some .c =>
    have h : ((c.runA before).phaseEOnly).tb = c.tb := ((phaseEOnly_kept _).same_of .tb (by decide)).trans (runA_tb ..)
    exact (overrun_tb 2 _).trans (by rw [h]; rfl)
  | some .g =>
    have h : ((c.runA before).phaseEOnly).tb = c.tb := ((phaseEOnly_kept _).same_of .tb (by decide)).trans (runA_tb ..)
    exact (overrun_tb 3 _).trans (by rw [h]; rfl)

theorem phases_bus (lost : Option Phase) (before : Nat) (c : Chip) : (c.phases lost before).bus = c.bus :=
  (phases_kept ..).same_of .bus (by decide)

theorem qualTick_sameFrame (lapse : Bool) (c : Chip) : SameFrame c (c.qualTick lapse) := by
  unfold qualTick
  extract_lets tb c1 c2 k
  have h1 : SameFrame c c1 := ⟨rfl, rfl, rfl, rfl, rfl⟩
  have h2 : SameFrame c c2 := by
    refine .ite h1 (.ite ?_ ?_)
    · exact .step (setFld_kept ..) (by decide) h1
    · exact .step (setFld_kept ..) (by decide) (.step (useFree_kept ..) (by decide) h1)
  refine .ite h2 (.step (setFld_kept ..) (by decide) (h2.trans ⟨rfl, rfl, rfl, rfl, rfl⟩))

theorem renew_sameFrame (lapse : Bool) (c : Chip) : SameFrame c (c.renew lapse) := by
  refine SameFrame.trans ?_ (qualTick_sameFrame ..)
  refine .step (showConv_kept ..) (by decide) ?_
  refine .step (showBoost_kept ..) (by decide) ?_
  refine .step (refreshSupply_kept ..) (by decide) ?_
  exact .of_kept (settleAngles_kept ..) (by decide)

/-! ## The frame tick (R37) -/

/-- A frame tick: FRAME_COUNT and the unlock window move on by one tick, the frame's length is trimmed, and the phases settle the
run of overrun frames. -/
theorem frameTick_frame (t : TickInput) (c : Chip) :
    (c.frameTick t).tb.frame = c.tb.frame + 1 ∧ (c.frameTick t).bus.openTicks = c.bus.openTicks - 1 ∧
      (c.frameTick t).tb.length ∈ [199, 200, 201] ∧
      (c.frameTick t).tb.overrunRun = if t.overrun.isNone then 0 else c.tb.overrunRun + 1 := by
  unfold frameTick
  extract_lets c1 c2 c3 c4
  have h1 : SameFrame c c1 := (SameFrame.of_kept (formDigest_kept c) (by decide)).trans (finishFrame_sameFrame ..)
  have hadv : SameFrame c1.advance ((c1.advance.sampleShunts t.shunts).noteTick) :=
    (SameFrame.of_kept (sampleShunts_kept ..) (by decide)).trans (noteTick_sameFrame _)
  have h3 : SameFrame c2 c3 := (SameFrame.of_kept (afterWake_kept ..) (by decide)).trans (tickEffects_sameFrame ..)
  have hsend : SameFrame c3 (((c3.pairTick c1.tb.ticks).sendCopy).sendTwin c1.tb.frame c1.tb.ticks c1.tb.length c1.twin.mcount
      (c2.handFlag c3)) :=
    .step (sendTwin_kept ..) (by decide) (.step (sendCopy_kept ..) (by decide) (.of_kept (pairTick_kept ..) (by decide)))
  have hend : SameFrame (({ c4 with pubOld := c4.pub } : Chip).phases t.overrun c1.tb.ticks)
      (((({ c4 with pubOld := c4.pub } : Chip).phases t.overrun c1.tb.ticks).renew t.lapse).tagPoll) :=
    .step (tagPoll_kept ..) (by decide) (renew_sameFrame ..)
  have hframe : c4.tb.frame = c.tb.frame + 1 := calc
    c4.tb.frame = c3.tb.frame := (trim_frame _).1.trans hsend.frame
    _ = c1.advance.tb.frame := (h3.frame.trans (congrArg (·.frame) (countFrame_tb ..))).trans hadv.frame
    _ = c.tb.frame + 1 := congrArg (· + 1) h1.frame
  have hrun : c4.tb.overrunRun = c.tb.overrunRun := calc
    c4.tb.overrunRun = c3.tb.overrunRun := (trim_frame _).2.trans hsend.overrunRun
    _ = c1.advance.tb.overrunRun := (h3.overrunRun.trans (congrArg (·.overrunRun) (countFrame_tb ..))).trans hadv.overrunRun
    _ = c.tb.overrunRun := h1.overrunRun
  have hopen : c4.bus.openTicks = c.bus.openTicks - 1 := calc
    c4.bus.openTicks = c3.bus.openTicks := hsend.openTicks
    _ = c1.advance.bus.openTicks - 1 := (h3.openTicks.trans (countFrame_openTicks ..)).trans (congrArg (· - 1) hadv.openTicks)
    _ = c.bus.openTicks - 1 := congrArg (· - 1) h1.openTicks
  have hlen : c4.tb.length ∈ [199, 200, 201] := trim_length _
  have hph := phases_tb t.overrun c1.tb.ticks ({ c4 with pubOld := c4.pub } : Chip)
  refine ⟨?_, ?_, ?_, ?_⟩
  · rw [hend.frame, hph]; exact hframe
  · rw [hend.openTicks, phases_bus]; exact hopen
  · rw [hend.length, hph]; exact hlen
  · rw [hend.overrunRun, hph, ← hrun]

end Chip

end Sys2Proof.Machine

/-!
PROOFS. The power state and SUP_RUN: no change that takes effect at a tick touches them. A commit writes a register under its
map's masks, in which both are read-only (R43, R56, R493).
-/

namespace Sys2Proof.Machine

/-- The register numbers of DEV_STATUS and PWR_STATE are no other name's. -/
theorem RegName.avoids_power : (RegName.all.all fun r => (r == .devStatus || r.avoids R.devStatus) &&
    (r == .pwrState || r.avoids R.pwrState)) = true := by decide

/-- The bits of a mask that stand for DEV_STATUS, for PWR_STATE and for registers without a name. -/
def powerMask : Nat := 2 ^ 31 ||| 2 ^ (32 + RegName.devStatus.ctorIdx) ||| 2 ^ (32 + RegName.pwrState.ctorIdx)

/-- A sound block stays sound, and PWR_STATE.STATE and DEV_STATUS.SUP_RUN are as they were. -/
structure KeepsPower (c d : Chip) : Prop where
  ok : c.Ok → d.Ok
  state : c.Ok → d.fld F.pwrState_STATE = c.fld F.pwrState_STATE
  supRun : c.Ok → d.fld F.devStatus_SUP_RUN = c.fld F.devStatus_SUP_RUN

namespace KeepsPower

variable {b c d : Chip}

theorem refl : KeepsPower c c := ⟨id, fun _ => rfl, fun _ => rfl⟩

theorem trans (h : KeepsPower b c) (h' : KeepsPower c d) : KeepsPower b d :=
  ⟨fun hb => h'.ok (h.ok hb), fun hb => (h'.state (h.ok hb)).trans (h.state hb),
    fun hb => (h'.supRun (h.ok hb)).trans (h.supRun hb)⟩

/-- An operation whose mask holds neither register. -/
theorem of_kept {m : Nat} (h : Kept m c d) (hm : m &&& powerMask = 0) : KeepsPower c d := by
  have hbit : ∀ i, powerMask.testBit i = true → m.testBit i = false := fun i hi => by
    have := congrArg (Nat.testBit · i) hm
    simpa [hi] using this
  have hget : ∀ a, (∀ r : RegName, m.testBit (32 + r.ctorIdx) = true → r.avoids a = true) → d.get a = c.get a := fun a ha =>
    h.2.2 a (hbit 31 (by decide)) fun r hr => r.addr_ne (ha r hr)
  have hnames : ∀ r : RegName, m.testBit (32 + r.ctorIdx) = true → r.avoids R.devStatus = true ∧ r.avoids R.pwrState = true := by
    intro r hr
    have := List.all_eq_true.mp RegName.avoids_power r r.mem_all
    simp only [Bool.and_eq_true, Bool.or_eq_true, beq_iff_eq] at this
    obtain ⟨hdev, hpwr⟩ := this
    constructor
    · refine hdev.resolve_left ?_
      rintro rfl
      rw [hbit _ (by decide)] at hr; cases hr
    · refine hpwr.resolve_left ?_
      rintro rfl
      rw [hbit _ (by decide)] at hr; cases hr
  have hdev : d.get F.devStatus_SUP_RUN.reg = c.get F.devStatus_SUP_RUN.reg := hget _ fun r hr => (hnames r hr).1
  have hpwr : d.get F.pwrState_STATE.reg = c.get F.pwrState_STATE.reg := hget _ fun r hr => (hnames r hr).2
  exact ⟨h.ok, fun _ => by unfold Chip.fld; rw [hpwr], fun _ => by unfold Chip.fld; rw [hdev]⟩

/-- One more operation whose mask holds neither register. -/
theorem step {m : Nat} (h : Kept m c d) (hm : m &&& powerMask = 0) (h' : KeepsPower b c) : KeepsPower b d :=
  h'.trans (of_kept h hm)

theorem ite {p : Prop} [Decidable p] (h : KeepsPower b c) (h' : KeepsPower b d) : KeepsPower b (if p then c else d) := by
  split <;> assumption

theorem doIf {p : Bool} {f : Chip → Chip} (hf : KeepsPower c (f c)) (h : KeepsPower b c) : KeepsPower b (c.doIf p f) := by
  unfold Chip.doIf; split
  · exact h.trans hf
  · exact h

theorem foldl {α : Type} {l : List α} {f : Chip → α → Chip} (hf : ∀ d x, KeepsPower d (f d x)) (h : KeepsPower b c) :
    KeepsPower b (l.foldl f c) := by
  induction l generalizing c with
  | nil => exact h
  | cons x l ih => exact ih (h.trans (hf c x))

theorem stepN {n : Nat} {f : Chip → Chip} (hf : ∀ d, KeepsPower d (f d)) : KeepsPower c (Machine.stepN f n c) := by
  induction n generalizing c with
  | zero => exact refl
  | succ n ih => exact (hf c).trans ih

/-- A field apart from STATE and SUP_RUN. -/
theorem setFld {f : Fld} {n : Nat} (hf : f.ok = true) (hst : f.apart F.pwrState_STATE = true)
    (hrun : f.apart F.devStatus_SUP_RUN = true) : KeepsPower c (c.setFld f n) :=
  ⟨fun hc => ⟨Chip.regOk_setFld hc.regOk, hc.2⟩, fun hc => Chip.fld_setFld_ne hc.regOk hf hst,
    fun hc => Chip.fld_setFld_ne hc.regOk hf hrun⟩

end KeepsPower

namespace Chip

/-! ## Host writes under the masks of the register map -/

/-- A host write leaves a field alone that is in no writable bit of its register (R77, R78). -/
theorem fld_storeMasked_readOnly {f : Fld} {a : Nat} {v : DWord} {c : Chip} (hc : c.RegOk) (hf : f.ok = true)
    (hro : ∀ r ∈ regRow? f.reg, ∀ i, f.lo ≤ i → i ≤ f.hi → r.rw.getLsbD i = false ∧ r.w1c.getLsbD i = false) :
    (c.storeMasked a v).fld f = c.fld f := by
  simp only [Fld.ok, Bool.and_eq_true, decide_eq_true_eq] at hf
  unfold storeMasked
  split
  · rename_i r hr
    by_cases ha : f.reg = a
    · subst ha
      apply Nat.eq_of_testBit_eq
      intro i
      unfold fld
      rw [get_put_self hc, bitsOf_testBit, bitsOf_testBit]
      by_cases hi : i < f.hi + 1 - f.lo
      · obtain ⟨hrw, hw1c⟩ := hro r hr (i + f.lo) (by omega) (by omega)
        have h32 : i + f.lo < 32 := by omega
        rw [BitVec.getLsbD_eq_getElem h32] at hrw hw1c
        rw [BitVec.testBit_toNat, BitVec.testBit_toNat]
        simp [hrw, hw1c, h32]
      · simp [hi]
    · exact fld_put_ne ha
  · rfl

theorem regRow_pwrState : regRow? R.pwrState = some { base := 0x0010, ro := 0x0F1F } := by decide

theorem regRow_devStatus : regRow? R.devStatus = some { base := 0x0004, reset := 0x0008, ro := 0x073F, w1c := 0x0040 } := by decide

theorem storeMasked_keepsPower (a : Nat) (v : DWord) (c : Chip) : KeepsPower c (c.storeMasked a v) := by
  refine ⟨(storeMasked_kept a v c).ok, fun hc => fld_storeMasked_readOnly hc.regOk (by decide) ?_,
    fun hc => fld_storeMasked_readOnly hc.regOk (by decide) ?_⟩
  · intro r hr i _ _
    cases regRow_pwrState.symm.trans hr
    simp
  · intro r hr i hlo hhi
    cases regRow_devStatus.symm.trans hr
    obtain rfl : i = 2 := Nat.le_antisymm hhi hlo
    decide

/-! ## Commits to the converter region -/

theorem portErr_keepsPower (cause : Nat) (c : Chip) : KeepsPower c (c.portErr cause) :=
  KeepsPower.trans (.setFld (by decide) (by decide) (by decide)) (.setFld (by decide) (by decide) (by decide))

theorem commitRingTail_keepsPower (r v : Nat) (c : Chip) : KeepsPower c (c.commitRingTail r v) := by
  unfold commitRingTail
  refine .ite (portErr_keepsPower ..) ?_
  exact .step (showRing_kept ..) (by decide) (.of_kept (Kept.put_name .resTail r 0 rfl) (by decide))

theorem commitConvCfg_keepsPower (a : Nat) (v : DWord) (c : Chip) : KeepsPower c (c.commitConvCfg a v) := by
  unfold commitConvCfg
  extract_lets c1 b
  have h1 : KeepsPower c c1 := storeMasked_keepsPower ..
  have hend : ∀ p, KeepsPower c ((c.endAffected p).storeMasked a v) := fun p =>
    KeepsPower.trans (.of_kept (endAffected_kept ..) (by decide)) (storeMasked_keepsPower ..)
  split
  · extract_lets moved c2
    have h2 : KeepsPower c c2 := .ite (.step (monitorSecond_kept ..) (by decide) (hend _)) h1
    exact .ite (.step (restart_kept ..) (by decide) h2) h2
  · split
    · refine .ite h1 (.foldl (fun d k => ?_) (hend _))
      exact .ite (.of_kept (restart_kept ..) (by decide)) .refl
    · split
      · exact .step (showRing_kept ..) (by decide) h1
      · exact h1

theorem commitConv_keepsPower (a : Nat) (v : DWord) (c : Chip) : KeepsPower c (c.commitConv a v) := by
  unfold commitConv
  refine .ite (.of_kept (commitConvStart_kept ..) (by decide)) (.ite (.of_kept (commitConvSync_kept ..) (by decide)) ?_)
  split
  · exact commitRingTail_keepsPower ..
  · exact commitConvCfg_keepsPower ..

/-! ## Commits to the outputs region -/

theorem refuseStart_keepsPower (k i w cause : Nat) (c : Chip) : KeepsPower c (c.refuseStart k i w cause) := by
  unfold refuseStart
  extract_lets n cnt c1 c2
  have hreg : cnt.reg = R.bankCounts n := by
    show (if _ then _ else _ : Fld).reg = _
    split
    · rfl
    · split <;> rfl
  have h1 : KeepsPower c c1 := by
    refine .step (Kept.setFld_name .injDiag k 0 rfl) (by decide) ?_
    exact .step (Kept.incFld_name .bankCounts n 0 hreg) (by decide) (.of_kept (rewrite_kept ..) (by decide))
  have h2 : KeepsPower c c2 := .ite (.step (Kept.setFld_name .injDiag k 0 rfl) (by decide) h1) h1
  exact .step (outFault_kept ..) (by decide) (.step (raise_kept ..) (by decide) h2)

theorem refuseWaiting_keepsPower (k cause : Nat) (c : Chip) : KeepsPower c (c.refuseWaiting k cause) :=
  .step (showBank_kept ..) (by decide)
    (KeepsPower.trans (.of_kept (modInj_kept ..) (by decide)) (refuseStart_keepsPower ..))

theorem tryGrant_keepsPower (k : Nat) (c : Chip) : KeepsPower c (c.tryGrant k) := by
  unfold tryGrant
  extract_lets p
  refine .ite .refl (.ite ?_ (.ite ?_ ?_))
  · exact .step (outFault_kept ..) (by decide) (refuseWaiting_keepsPower ..)
  · exact .of_kept (grant_kept ..) (by decide)
  · split
    · exact .of_kept (grant_kept ..) (by decide)
    · exact .refl
    · exact refuseWaiting_keepsPower ..

theorem settleBank_keepsPower (n : Nat) (c : Chip) : KeepsPower c (c.settleBank n) := by
  refine .stepN fun d => ?_
  split
  · exact tryGrant_keepsPower ..
  · exact .refl

theorem injStop_keepsPower (k : Nat) (c : Chip) : KeepsPower c (c.injStop k) := by
  refine .step (showBank_kept ..) (by decide) (KeepsPower.trans ?_ (settleBank_keepsPower ..))
  exact .step (modInj_kept ..) (by decide) (.of_kept (closeDiag_kept ..) (by decide))

theorem injCut_keepsPower (k : Nat) (c : Chip) : KeepsPower c (c.injCut k) := by
  unfold injCut
  split
  · exact .refl
  · exact refuseWaiting_keepsPower ..
  · exact KeepsPower.trans (.of_kept (cutStatus_kept ..) (by decide)) (injStop_keepsPower ..)

theorem tripBank_keepsPower (n code detail : Nat) (c : Chip) : KeepsPower c (c.tripBank n code detail) := by
  unfold tripBank
  refine .ite .refl ?_
  extract_lets unit c0 c1 c2
  have h0 : KeepsPower c c0 :=
    .step (Kept.setBit_name .outStatus 0 0 rfl) (by decide)
      (.step (Kept.setFlag_name .bankStatus n 0 rfl) (by decide) (.of_kept (useFree_kept ..) (by decide)))
  have h1 : KeepsPower c c1 := .step (fault_kept ..) (by decide) (.step (raise_kept ..) (by decide) h0)
  refine .step (showBank_kept ..) (by decide) (.foldl (fun d k => ?_) h1)
  split
  · exact .refl
  · exact refuseWaiting_keepsPower ..
  · exact KeepsPower.trans (.of_kept (judge_kept ..) (by decide)) (injCut_keepsPower ..)

theorem clearTrip_keepsPower (n : Nat) (still : Bool) (c : Chip) : KeepsPower c (c.clearTrip n still) := by
  unfold clearTrip
  extract_lets c1
  have h1 : KeepsPower c c1 :=
    .step (Kept.setBit_name .outStatus 0 0 rfl) (by decide) (.of_kept (Kept.setFlag_name .bankStatus n 0 rfl) (by decide))
  exact .ite (h1.trans (tripBank_keepsPower ..)) h1

theorem commitInjEnable_keepsPower (v : Nat) (c : Chip) : KeepsPower c (c.commitInjEnable v) := by
  unfold commitInjEnable
  extract_lets chans v old cleared set c1 c2 c3
  have h1 : KeepsPower c c1 :=
    .foldl (fun _ _ => .of_kept (disableInj_kept ..) (by decide)) (.of_kept (Kept.put_name .injEnable 0 0 rfl) (by decide))
  have h2 : KeepsPower c c2 := .foldl (fun _ _ => injCut_keepsPower ..) h1
  have h3 : KeepsPower c c3 :=
    .foldl (fun _ _ => .ite (.step (showBank_kept ..) (by decide) (settleBank_keepsPower ..)) .refl) h2
  exact .foldl (fun _ _ => .of_kept (modOuts_kept ..) (by decide)) h3

theorem commitOutput_keepsPower (a : Nat) (v : DWord) (c : Chip) : KeepsPower c (c.commitOutput a v) := by
  unfold commitOutput
  refine .ite (commitInjEnable_keepsPower ..) (.ite (.of_kept (clearShort_kept ..) (by decide)) ?_)
  split
  · exact .ite (clearTrip_keepsPower ..) .refl
  · exact storeMasked_keepsPower ..

/-! ## The other commits, and all of a tick's -/

theorem commitWheel_keepsPower (a : Nat) (v : DWord) (c : Chip) : KeepsPower c (c.commitWheel a v) := by
  unfold commitWheel
  extract_lets old c1
  have h1 : KeepsPower c c1 := storeMasked_keepsPower ..
  refine .ite (.ite h1 (.step (restartAll_kept ..) (by decide) h1)) ?_
  split
  · refine .ite h1 (.step (restartInput_kept ..) (by decide) ?_)
    exact .step (showAmpl_kept ..) (by decide) (.step (modWheel_kept ..) (by decide) h1)
  · exact h1

theorem commitBoost_keepsPower (a : Nat) (v : DWord) (c : Chip) : KeepsPower c (c.commitBoost a v) :=
  .step (showBoost_kept ..) (by decide) (.step (modPower_kept ..) (by decide) (storeMasked_keepsPower a v c))

theorem applyCommit_keepsPower (a : Nat) (w : DWord) (c : Chip) : KeepsPower c (c.applyCommit a w) := by
  unfold applyCommit
  extract_lets v
  refine .ite .refl (.ite (.of_kept (commitSchedControl_kept ..) (by decide)) (.ite (.of_kept (inval_kept ..) (by decide)) ?_))
  split
  · exact .step (showConv_kept ..) (by decide) (commitConv_keepsPower ..)
  · exact commitOutput_keepsPower ..
  · exact commitWheel_keepsPower ..
  · exact commitBoost_keepsPower ..
  · split
    · exact .of_kept (commitTioSel_kept ..) (by decide)
    · exact .refl
  · exact storeMasked_keepsPower ..

theorem takeCommits_keepsPower (free : Bool) (c : Chip) : KeepsPower c (c.takeCommits free) := by
  unfold takeCommits
  extract_lets due bus c1
  have h1 : KeepsPower c c1 := .of_kept Kept.bus_set (by decide)
  refine .step (keepHits_kept ..) (by decide) (.foldl (fun d x => ?_) h1)
  exact .ite (.of_kept (commitTwinControl_kept ..) (by decide)) (applyCommit_keepsPower ..)

/-! ## A choice of the power state -/

theorem setPower_ok {n : Nat} {c : Chip} (hc : c.Ok) : (c.setPower n).Ok := (setPower_kept n c).ok hc

theorem setPower_state {n : Nat} {c : Chip} (hc : c.Ok) (hn : n < 8) : (c.setPower n).fld F.pwrState_STATE = n := by
  unfold setPower; split
  · assumption
  · have hok : ((c.setFld F.pwrState_STATE n).raise 61).Ok := (raise_kept ..).ok ((setFld_kept ..).ok hc)
    have hshow : KeepsPower _ ((c.setFld F.pwrState_STATE n).raise 61).showBoost := .of_kept (showBoost_kept _) (by decide)
    rw [hshow.state hok, raise_fld]
    exact fld_setFld_self_of_lt hc.regOk (by decide) hn

theorem setPower_supRun {n : Nat} {c : Chip} (hc : c.Ok) :
    (c.setPower n).fld F.devStatus_SUP_RUN = c.fld F.devStatus_SUP_RUN := by
  unfold setPower; split
  · rfl
  · have hok : ((c.setFld F.pwrState_STATE n).raise 61).Ok := (raise_kept ..).ok ((setFld_kept ..).ok hc)
    have hshow : KeepsPower _ ((c.setFld F.pwrState_STATE n).raise 61).showBoost := .of_kept (showBoost_kept _) (by decide)
    rw [hshow.supRun hok, raise_fld]
    exact fld_setFld_ne hc.regOk (by decide) (by decide)

end Chip

end Sys2Proof.Machine

/-!
PROOFS. The first frame tick after a reset (R23, R58, R496).
-/

namespace Sys2Proof.Machine

namespace Chip

/-! ## The phases of the first frame -/

theorem phases_none_keepsPower (before : Nat) (c : Chip) : KeepsPower c (c.phases none before) := by
  have h : KeepsPower c ((c.runA before).phaseE) := .step (phaseE_kept ..) (by decide) (.of_kept (runA_kept ..) (by decide))
  exact .step Kept.tb_set (by decide) h

theorem firstPhases_keepsPower (c : Chip) :
    KeepsPower c ((((c.clearLatch.noteTick).phases none 0).renew false).samplePins) := by
  refine .step (samplePins_kept ..) (by decide) (.step (renew_kept ..) (by decide) ?_)
  refine KeepsPower.trans ?_ (phases_none_keepsPower ..)
  exact .step (noteTick_kept ..) (by decide) (.of_kept (clearLatch_kept ..) (by decide))

theorem firstPhases_tb (c : Chip) :
    ((((c.clearLatch.noteTick).phases none 0).renew false).samplePins).tb.frame = c.tb.frame ∧
      ((((c.clearLatch.noteTick).phases none 0).renew false).samplePins).tb.running = c.tb.running := by
  have hlatch : SameFrame c c.clearLatch.noteTick :=
    (SameFrame.of_kept (clearLatch_kept c) (by decide)).trans (noteTick_sameFrame _)
  have hrenew : SameFrame ((c.clearLatch.noteTick).phases none 0) _ :=
    .step (samplePins_kept ..) (by decide) (renew_sameFrame false _)
  exact ⟨by rw [hrenew.frame, phases_tb]; exact hlatch.frame, by rw [hrenew.running, phases_tb]; exact hlatch.running⟩

/-! ## The first tick -/

/-- What the first tick makes of the block `c`: the frames go on, the supervisor runs, and after a wake from RETAIN the tick is counted
and the state is RUN or IDLE. -/
structure Started (c d : Chip) : Prop where
  ok : d.Ok
  running : d.tb.running = true
  supRun : d.fld F.devStatus_SUP_RUN = 1
  cold : c.fld F.pwrState_STATE ≠ 3 → d.tb.frame = c.tb.frame ∧ d.fld F.pwrState_STATE = c.fld F.pwrState_STATE
  wake : c.fld F.pwrState_STATE = 3 → d.tb.frame = c.tb.frame + 1 ∧ d.fld F.pwrState_STATE ≤ 1

/-- What follows in the same tick and keeps the state, SUP_RUN and FRAME_COUNT. -/
theorem Started.andThen {c d e : Chip} (h : Started c d) (hp : KeepsPower d e) (hf : e.tb.frame = d.tb.frame)
    (hr : e.tb.running = d.tb.running) : Started c e where
  ok := hp.ok h.ok
  running := hr.trans h.running
  supRun := (hp.supRun h.ok).trans h.supRun
  cold hst := by rw [hf, hp.state h.ok]; exact h.cold hst
  wake hst := by rw [hf, hp.state h.ok]; exact h.wake hst

theorem firstTick_idle {c : Chip} (h : c.tb.running = true ∨ c.power.isOff = true) : c.firstTick = c :=
  if_pos (by simpa using h)

theorem firstTick_started {c : Chip} (hc : c.Ok) (hrun : c.tb.running = false) (hoff : c.power.isOff = false) :
    Started c c.firstTick := by
  unfold firstTick
  rw [if_neg (by simp [hrun, hoff])]
  extract_lets wake c0 tb c1 d tbd e0 e bs g c2
  have hreleased : KeepsPower c ({ c0 with tb := { tb with running := true } } : Chip) :=
    .step Kept.tb_set (by decide) (.doIf (.of_kept (scrubAll_kept c) (by decide)) .refl)
  have hok := hreleased.ok hc
  have h1ok : c1.Ok := (setFlag_kept ..).ok hok
  have h1run : c1.fld F.devStatus_SUP_RUN = 1 := fld_setFld_self_of_lt hok.regOk (by decide) (by decide)
  have h1state : c1.fld F.pwrState_STATE = c.fld F.pwrState_STATE :=
    (fld_setFlag_ne hok.regOk (by decide) (by decide)).trans (hreleased.state hc)
  have h2 : Started c c2 := by
    by_cases hst : c.fld F.pwrState_STATE = 3
    · have hc2 : c2 = g.takeInBlocks _ := if_pos (by simpa [wake] using hst)
      have hdtb : d.tb = c1.tb := (setPower_kept _ c1).same_of .tb (by decide)
      have hchosen : min 1 c1.chosenState ≤ 1 := Nat.min_le_left ..
      have hcounted : Started c ({ d with tb := { tbd with frame := d.tb.frame + 1 } } : Chip) :=
        { ok := setPower_ok h1ok
          running := congrArg (·.running) hdtb
          supRun := (setPower_supRun h1ok).trans h1run
          cold := fun h => absurd hst h
          wake := fun _ => ⟨congrArg (·.frame + 1) hdtb, Nat.le_trans (Nat.le_of_eq (setPower_state h1ok (Nat.lt_of_le_of_lt hchosen (by decide)))) hchosen⟩ }
      have he0 : KeepsPower ({ d with tb := { tbd with frame := d.tb.frame + 1 } } : Chip) e0 :=
        .doIf (.of_kept (wdtStart_kept _) (by decide)) .refl
      have he0tb : e0.tb = { tbd with frame := d.tb.frame + 1 } := by
        simp only [e0, doIf]
        split
        · exact (wdtStart_kept _).same_of .tb (by decide)
        · rfl
      have hcommits : SameFrame e0 e := takeCommits_sameFrame ..
      have hblocks : SameFrame e c2 := by
        rw [hc2]
        exact .step (takeInBlocks_kept ..) (by decide) (.foldl (fun _ _ => .of_kept (endReturn_kept ..) (by decide)) .refl)
      have hpower : KeepsPower e c2 := by
        rw [hc2]
        exact .step (takeInBlocks_kept ..) (by decide) (.foldl (fun _ _ => .of_kept (endReturn_kept ..) (by decide)) .refl)
      have hframe := hcommits.trans hblocks
      exact ((hcounted.andThen he0 (congrArg (·.frame) he0tb) (congrArg (·.running) he0tb)).andThen
        ((takeCommits_keepsPower ..).trans hpower) hframe.frame hframe.running)
    · have hc2 : c2 = c1 := if_neg (by simpa [wake] using hst)
      rw [hc2]
      exact { ok := h1ok, running := rfl, supRun := h1run, cold := fun _ => ⟨rfl, h1state⟩, wake := fun h => absurd h hst }
  exact h2.andThen (firstPhases_keepsPower c2) (firstPhases_tb c2).1 (firstPhases_tb c2).2

end Chip

end Sys2Proof.Machine

/-!
PROOFS. The end of the boot (R511): READY and PATCH_OK, the BOOT entry that the journal keeps, the provisioning key (R465, R634).
-/

namespace Sys2Proof.Machine

theorem getElem_modAt {α : Type} {n : Nat} (v : Vector α n) (i : Nat) (f : α → α) (k : Fin n) :
    (modAt v i f)[k] = if k.val = i then f v[k] else v[k] := by
  unfold modAt
  by_cases hi : i < n
  · rw [Vector.getElem?_eq_getElem hi]
    by_cases hk : k.val = i
    · subst hk; simp
    · simp [hk, Vector.getElem_setIfInBounds_ne k.isLt (Ne.symm hk)]
  · have hk : k.val ≠ i := by omega
    simp [hi, hk]

/-! ## What waits for the journal goes on waiting -/

/-- No entry that waits to be written is lost. -/
structure KeepsWaiting (c d : Chip) : Prop where
  subset : c.jnl.waiting ⊆ d.jnl.waiting

namespace KeepsWaiting

variable {b c d : Chip}

theorem of_jnl (h : d.jnl = c.jnl) : KeepsWaiting c d := ⟨fun x hx => by rw [h]; exact hx⟩

theorem refl : KeepsWaiting c c := of_jnl rfl

theorem trans (h : KeepsWaiting b c) (h' : KeepsWaiting c d) : KeepsWaiting b d := ⟨fun _ hx => h'.subset (h.subset hx)⟩

theorem of_kept {m : Nat} (h : Kept m c d) (hm : m.testBit Comp.jnl.bit = false) : KeepsWaiting c d := of_jnl (h.same_of .jnl hm)

theorem step {m : Nat} (h : Kept m c d) (hm : m.testBit Comp.jnl.bit = false) (h' : KeepsWaiting b c) : KeepsWaiting b d :=
  h'.trans (of_kept h hm)

theorem ite {p : Prop} [Decidable p] (h : KeepsWaiting b c) (h' : KeepsWaiting b d) : KeepsWaiting b (if p then c else d) := by
  split <;> assumption

theorem doIf {p : Bool} {f : Chip → Chip} (hf : KeepsWaiting c (f c)) (h : KeepsWaiting b c) : KeepsWaiting b (c.doIf p f) := by
  unfold Chip.doIf; split
  · exact h.trans hf
  · exact h

end KeepsWaiting

namespace Chip

theorem journal_keepsWaiting (x : JCause) (c : Chip) : KeepsWaiting c (c.journal x) := ⟨List.subset_append_left ..⟩

theorem mem_journal (x : JCause) (c : Chip) : x ∈ (c.journal x).jnl.waiting :=
  List.mem_append_right _ (List.mem_singleton.mpr rfl)

theorem journalRaised_keepsWaiting (code unit cls detail : Nat) (c : Chip) : KeepsWaiting c (c.journalRaised code unit cls detail) := by
  unfold journalRaised
  exact .ite (journal_keepsWaiting ..) .refl

theorem makeRecord_keepsWaiting (k code unit cls detail : Nat) (standing : Bool) (c : Chip) :
    KeepsWaiting c (c.makeRecord k code unit cls detail standing) := by
  unfold makeRecord
  extract_lets c1
  have h1 : KeepsWaiting c c1 := .of_kept (putRecord_kept ..) (by decide)
  refine .step (raise_kept ..) (by decide) (KeepsWaiting.trans ?_ (journalRaised_keepsWaiting ..))
  exact .step Kept.flt_set (by decide) h1

theorem faultOf_keepsWaiting (code unit cls detail : Nat) (standing : Bool) (c : Chip) :
    KeepsWaiting c (c.faultOf code unit cls detail standing) := by
  unfold faultOf
  split
  · exact .of_kept (repeatRecord_kept ..) (by decide)
  · split
    · exact makeRecord_keepsWaiting ..
    · unfold recordFull
      split
      · refine KeepsWaiting.trans ?_ (makeRecord_keepsWaiting ..)
        exact .step Kept.flt_set (by decide) (.of_kept (incFld_kept ..) (by decide))
      · exact .step Kept.flt_set (by decide) (.of_kept (incFld_kept ..) (by decide))

theorem standing_keepsWaiting (was now : Bool) (code : Nat) (c : Chip) : KeepsWaiting c (c.standing was now code) := by
  unfold standing
  exact .ite (faultOf_keepsWaiting ..) (.ite (.of_kept (endStanding_kept ..) (by decide)) .refl)

theorem updateBands_keepsWaiting (c : Chip) : KeepsWaiting c c.updateBands := by
  unfold updateBands
  extract_lets p v dip low reduced ov c1 c2 c3 c4
  have hcount : ∀ (g : Fld) (d : Chip), KeepsWaiting d (d.incFld g) := fun _ _ => .of_kept (incFld_kept ..) (by decide)
  have h1 : KeepsWaiting c c1 := .of_kept (modPower_kept ..) (by decide)
  have h4 : KeepsWaiting c c4 := .doIf (hcount ..) (.doIf (hcount ..) (.doIf (hcount ..) h1))
  refine .step (showBoost_kept ..) (by decide) (h4.trans ?_)
  exact ((standing_keepsWaiting ..).trans (standing_keepsWaiting ..)).trans (standing_keepsWaiting ..)

theorem showErrors_keepsWaiting (c : Chip) : KeepsWaiting c c.showErrors := by
  unfold showErrors
  extract_lets passive
  have hset : ∀ n, KeepsWaiting c (c.setFld F.canStatus_STATE n) := fun _ => .of_kept (setFld_kept ..) (by decide)
  exact .ite .refl (.ite ((hset _).trans (faultOf_keepsWaiting ..)) (hset _))

theorem canStart_keepsWaiting (c : Chip) : KeepsWaiting c c.canStart := by
  unfold canStart
  have hset : ∀ n, KeepsWaiting c (c.setFld F.canStatus_STATE n) := fun _ => .of_kept (setFld_kept ..) (by decide)
  refine .ite (hset _) (.ite ?_ ((hset _).trans (showErrors_keepsWaiting _)))
  exact .step (restand_kept ..) (by decide) (.step (modCan_kept ..) (by decide) (hset _))

/-! ## A ring event -/

section
variable {f : Chip → Chip} {c : Chip}

theorem ringEvent_jnl : (c.ringEvent f).jnl = (f c).jnl := by
  unfold ringEvent
  extract_lets d e
  split <;> rfl

theorem ringEvent_cipher : (c.ringEvent f).cipher = (f c).cipher := by
  unfold ringEvent
  extract_lets d e
  split <;> rfl

theorem ringEvent_flag {g : Fld} (hok : (f c).RegOk) (hg : F.devStatus_RING_LOCK.apart g = true) :
    (c.ringEvent f).flag g = (f c).flag g := by
  have h := flag_setFlag_ne (b := (f c).locked) hok (show F.devStatus_RING_LOCK.ok = true by decide) hg
  unfold ringEvent
  extract_lets d e
  split
  · exact h
  · rw [raise_flag]; exact h
end

/-! ## The services that start at the end of the boot -/

/-- What the boot does once READY is set, up to the ring. -/
def bootServices (entry : JCause) (c : Chip) : Chip :=
  (((((c.bootTag).journal entry).canStart).updateBands).refreshSupply).recomputeDue

/-- DEV_STATUS and the keys are as they were, and the entry waits to be written. -/
theorem bootServices_kept (entry : JCause) (c : Chip) :
    Kept 0x2807000400020000000000000000000000000200011101c2 c (c.bootServices entry) := by
  refine .step (recomputeDue_kept ..) (by decide) ?_
  refine .step (refreshSupply_kept ..) (by decide) ?_
  refine .step (updateBands_kept ..) (by decide) ?_
  refine .step (canStart_kept ..) (by decide) ?_
  refine .step (journal_kept ..) (by decide) ?_
  exact (bootTag_kept ..).mono (by decide)

theorem mem_bootServices (entry : JCause) (c : Chip) : entry ∈ (c.bootServices entry).jnl.waiting := by
  have h : KeepsWaiting ((c.bootTag).journal entry) (c.bootServices entry) := by
    refine .step (recomputeDue_kept ..) (by decide) ?_
    refine .step (refreshSupply_kept ..) (by decide) ?_
    exact (canStart_keepsWaiting _).trans (updateBands_keepsWaiting _)
  exact h.subset (mem_journal ..)

/-! ## The end of the boot -/

theorem placeKey_slots (k : Nat) (key : Key) (c : Chip) :
    (c.placeKey k key).cipher.slots = modAt c.cipher.slots k fun _ => some key :=
  congrArg (·.slots) ((showSlot_kept k _).same_of .cipher (by decide))

/-- The provisioning key, derived from the root key for this device (R634). -/
def kekProv : Key :=
  { bytes := Aes.derive Config.rootKey.toList [0x4C, 0x42, 0x4B, 0x44, 0x01, 0x20, 0x01, 0x30] (leBytes 8 Config.devUid.toNat) 32
    role := 1, usage := 0x30, origin := 3 }

theorem deriveKekProv_eq (c : Chip) : c.deriveKekProv = c.placeKey 15 kekProv := rfl

theorem deriveKekProv_slots (c : Chip) (k : Fin 16) :
    c.deriveKekProv.cipher.slots[k] = if k = 15 then some kekProv else c.cipher.slots[k] := by
  rw [deriveKekProv_eq, placeKey_slots, getElem_modAt]
  by_cases hk : k = 15
  · subst hk
    rfl
  · have hval : k.val ≠ 15 := fun h => hk (Fin.ext h)
    rw [if_neg hval, if_neg hk]

/-- The block as it is when READY has been set. -/
def withReady (ok : Bool) (c : Chip) : Chip :=
  ((c.setFlag F.devStatus_PATCH_OK ok).modPower fun p => { p with patch := some ok }).setFlag F.devStatus_READY true

/-- The BOOT entry (R465). -/
def bootEntry (c : Chip) : JCause :=
  { kind := 3, code := (c.get R.resetCause).setWidth 16, detail := 0x0302, frame := c.tb.frame }

section
variable {c : Chip} (ok : Bool)

theorem withReady_ok (hc : c.Ok) : (c.withReady ok).Ok :=
  (setFlag_kept ..).ok ((modPower_kept ..).ok ((setFlag_kept ..).ok hc))

theorem withReady_ready (hc : c.Ok) : (c.withReady ok).flag F.devStatus_READY = true :=
  flag_setFlag_self (by rw [modPower_regOk]; exact regOk_setFlag hc.regOk) (by decide)

theorem withReady_patchOk (hc : c.Ok) : (c.withReady ok).flag F.devStatus_PATCH_OK = ok := by
  unfold withReady
  rw [flag_setFlag_ne (by rw [modPower_regOk]; exact regOk_setFlag hc.regOk) (by decide) (by decide), modPower_flag]
  exact flag_setFlag_self hc.regOk (by decide)

theorem withReady_resetCause : (c.withReady ok).get R.resetCause = c.get R.resetCause := by
  unfold withReady
  rw [get_setFlag_ne (by decide), modPower_get, get_setFlag_ne (by decide)]

end

theorem bootDone_idle {patch : Bool} {c : Chip} (h : c.tb.running = false ∨ c.ready = true ∨ c.supRuns = false) :
    c.bootDone patch = c := if_pos (by simpa [or_assoc] using h)

theorem bootKeys_kept (c : Chip) : Kept 0x40020000000000000000000000000000010201c2 c c.resumeOpTime.deriveKekProv :=
  .step (deriveKekProv_kept ..) (by decide) ((resumeOpTime_kept c).mono (by decide))

theorem bootDone_eq {patch : Bool} {c : Chip} (hrun : c.tb.running = true) (hready : c.ready = false) (hsup : c.supRuns = true) :
    c.bootDone patch =
      (((c.withReady (c.power.patch.getD patch)).resumeOpTime.deriveKekProv).bootServices c.bootEntry).ringEvent listen := by
  have hcause : ((c.withReady (c.power.patch.getD patch)).resumeOpTime.deriveKekProv).get R.resetCause = c.get R.resetCause :=
    ((bootKeys_kept _).get_of _ (by decide) (by decide)).trans (withReady_resetCause _)
  unfold bootDone
  rw [if_neg (by simp [hrun, hready, hsup])]
  unfold bootServices bootEntry
  rw [← hcause, ← BitVec.ofNat_toNat]
  rfl

section
variable {c : Chip} (entry : JCause)

/-- What the boot does once READY is set: the journal scan, the provisioning key, the services and the ring. -/
def bootRest (c : Chip) : Chip := ((c.resumeOpTime.deriveKekProv).bootServices entry).ringEvent listen

/-- A field of DEV_STATUS other than RING_LOCK. -/
theorem bootRest_flag {g : Fld} (hc : c.Ok) (hreg : g.reg = R.devStatus) (hg : F.devStatus_RING_LOCK.apart g = true) :
    (c.bootRest entry).flag g = c.flag g := by
  have hk : Kept 0x2000800002807000440020000000000000000002000000200011701ca c
      ((c.resumeOpTime.deriveKekProv).bootServices entry).listen :=
    .step (listen_kept _) (by decide) (.step (bootServices_kept ..) (by decide) ((bootKeys_kept c).mono (by decide)))
  have hget := hk.get_of R.devStatus (by decide) (by decide)
  unfold bootRest
  rw [ringEvent_flag (hk.ok hc).regOk hg]
  unfold flag fld
  rw [hreg, hget]

theorem mem_bootRest : entry ∈ (c.bootRest entry).jnl.waiting := by
  have hjnl : ((c.resumeOpTime.deriveKekProv).bootServices entry).listen.jnl =
      ((c.resumeOpTime.deriveKekProv).bootServices entry).jnl := (listen_kept _).same_of .jnl (by decide)
  unfold bootRest
  rw [ringEvent_jnl, hjnl]
  exact mem_bootServices ..

theorem bootRest_slots (k : Fin 16) : (c.bootRest entry).cipher.slots[k] = if k = 15 then some kekProv else c.cipher.slots[k] := by
  have hcipher : (c.bootRest entry).cipher = c.resumeOpTime.deriveKekProv.cipher := calc
    (c.bootRest entry).cipher = ((c.resumeOpTime.deriveKekProv).bootServices entry).listen.cipher := ringEvent_cipher
    _ = ((c.resumeOpTime.deriveKekProv).bootServices entry).cipher := (listen_kept _).same_of .cipher (by decide)
    _ = c.resumeOpTime.deriveKekProv.cipher := (bootServices_kept ..).same_of .cipher (by decide)
  have hresume : c.resumeOpTime.cipher = c.cipher := (resumeOpTime_kept c).same_of .cipher (by decide)
  rw [hcipher, deriveKekProv_slots, hresume]

end

/-- What the boot leaves (R465, R511, R634). -/
theorem bootDone_effect {patch : Bool} {c : Chip} (hc : c.Ok) (hrun : c.tb.running = true) (hready : c.ready = false)
    (hsup : c.supRuns = true) :
    (c.bootDone patch).flag F.devStatus_READY = true ∧
      (c.bootDone patch).flag F.devStatus_PATCH_OK = c.power.patch.getD patch ∧
      c.bootEntry ∈ (c.bootDone patch).jnl.waiting ∧
      ∀ k : Fin 16, (c.bootDone patch).cipher.slots[k] = if k = 15 then some kekProv else c.cipher.slots[k] := by
  have hdone : c.bootDone patch = (c.withReady (c.power.patch.getD patch)).bootRest c.bootEntry := bootDone_eq hrun hready hsup
  have hok := withReady_ok (c.power.patch.getD patch) hc
  rw [hdone]
  exact ⟨(bootRest_flag _ hok rfl (by decide)).trans (withReady_ready _ hc),
    (bootRest_flag _ hok rfl (by decide)).trans (withReady_patchOk _ hc), mem_bootRest _, bootRest_slots _⟩

end Chip

open Chip

/-- Settles O33: a frame tick by what each of its operations leaves of the frame, the first tick by the state it reaches and what
the rest of that tick keeps of it, the end of the boot by its services, which lose neither READY nor the BOOT entry nor a key. -/
theorem frameTicks : Obligations.FrameTicks := by
  unfold Obligations.FrameTicks
  intro s hinv
  refine ⟨fun hrun t => ?tick, fun hrun t => ?noTick, fun hrun hoff => ?first, fun h => ?noFirst, fun patch =>
    ⟨fun hrun hready hsup => ?boot, fun h => ?noBoot⟩⟩
  case tick =>
    obtain ⟨hframe, hopen, hlength, hover⟩ := frameTick_frame t s.chip
    refine runs_of (f := fun c => if c.frameRuns then c.frameTick t else c) rfl ?_
    rw [if_pos hrun]
    exact ⟨hframe, hopen, hlength, hover, .of_kept (frameTick_kept t s.chip) (by decide)⟩
  case noTick => exact .at rfl (if_neg (by simp [hrun]))
  case first =>
    have hstart := firstTick_started hinv hrun hoff
    have hflag : s.chip.firstTick.flag F.devStatus_SUP_RUN = true := by unfold flag; rw [hstart.supRun]; rfl
    exact runs_of rfl ⟨hstart.running, hflag, hstart.cold, hstart.wake, .of_kept (firstTick_kept s.chip) (by decide)⟩
  case noFirst => exact .at rfl (firstTick_idle h)
  case boot =>
    obtain ⟨hr, hp, hj, hs⟩ := bootDone_effect (patch := patch) hinv hrun hready hsup
    exact RunsBy.at rfl (execBootComplete_kept s patch) (by decide) (by decide) rfl (by decide)
      ⟨hr, hp, ⟨_, hj, rfl, rfl, rfl⟩, kekProv, hs, rfl⟩
  case noBoot => exact .at rfl (bootDone_idle h)

end Sys2Proof.Machine

/-!
PROOFS. The invariant: it holds after reset, and every step keeps it (R109, R112, R118).
-/

namespace Sys2Proof.Machine

/-- Settles O4: the register file after reset lists RESET_CAUSE alone, and the window lists nothing. -/
theorem invAtReset : Obligations.InvAtReset := by
  have hregs : RegsOk Chip.reset.regs := by unfold RegsOk; decide
  have hwin : WinOk Chip.reset.win := ⟨rfl, by simp [OwnOk, Chip.reset]⟩
  exact ⟨hregs, hwin⟩

theorem RunsKept.inv {m : Nat} {s t : State} {o : Host.Outcome State Fault Refusal} (h : RunsKept m s o) (hs : s.Inv)
    (ht : o = .next t) : t.Inv := by
  obtain ⟨u, hu, -, hk⟩ := h
  rw [ht] at hu
  cases hu
  exact hk.ok hs

theorem exec_inv {i : Instr} {s t : State} (hs : s.Inv) (ht : exec i s = .next t) : t.Inv := by
  obtain ⟨m, -, hk⟩ := exec_runsKept i s
  exact hk.inv hs ht

/-- Settles O5: an empty queue leaves the state as it is, and the command at the front of one runs within its frame, which is sound. -/
theorem invKept : Obligations.InvKept := by
  unfold Obligations.InvKept
  intro s t hs ht
  unfold step at ht
  cases hq : s.pending with
  | nil =>
    rw [hq] at ht
    cases ht
    exact hs
  | cons i rest =>
    rw [hq] at ht
    exact exec_inv (s := { s with pending := rest }) hs ht

end Sys2Proof.Machine

/-!
PROOFS. The requests for ownership of a block and the ends of their returns (R117 to R122).
-/

namespace Sys2Proof.Machine

namespace Chip

/-! ## OWN_STATUS (R122) -/

/-- From `c` to `d` no block but `b` changed its ownership. -/
def OwnersBut (b : Nat) (c d : Chip) : Prop := ∀ b', b' ≠ b → d.hostOwned b' = c.hostOwned b' ∧ d.isReturning b' = c.isReturning b'

/-- OWN_STATUS describes block `b`, with the result `r` of the request. -/
def OwnStatusShows (d : Chip) (b r : Nat) : Prop :=
  d.fld F.ownStatus_BLOCK = b ∧ d.fld F.ownStatus_RESULT = r ∧ d.flag F.ownStatus_OWNER = d.hostOwned b

theorem hostOwned_of_win {c d : Chip} (h : d.win = c.win) (b : Nat) : d.hostOwned b = c.hostOwned b := by
  unfold hostOwned; rw [h]

theorem isReturning_of_win {c d : Chip} (h : d.win = c.win) (b : Nat) : d.isReturning b = c.isReturning b := by
  unfold isReturning; rw [h]

theorem ownResult_shows {b r : Nat} {c : Chip} (hc : c.RegOk) (hb : b < 512) (hr : r < 4) : (c.ownResult b r).OwnStatusShows b r := by
  have h1 : (c.setFld F.ownStatus_BLOCK b).RegOk := regOk_setFld hc
  have h2 : ((c.setFld F.ownStatus_BLOCK b).setFld F.ownStatus_RESULT r).RegOk := regOk_setFld h1
  unfold ownResult
  refine ⟨?block, ?result, ?owner⟩
  case block =>
    rw [fld_setFlag_ne h2 (by decide) (by decide), fld_setFld_ne h1 (by decide) (by decide)]
    exact fld_setFld_self_of_lt hc (by decide) hb
  case result =>
    rw [fld_setFlag_ne h2 (by decide) (by decide)]
    exact fld_setFld_self_of_lt h1 (by decide) hr
  case owner => exact flag_setFlag_self h2 (by decide)

section
variable (b r : Nat) (c : Chip)

@[simp] theorem ownResult_win : (c.ownResult b r).win = c.win := rfl
@[simp] theorem ownResult_wheels : (c.ownResult b r).wheels = c.wheels := rfl
@[simp] theorem ownResult_sched : (c.ownResult b r).sched = c.sched := rfl
@[simp] theorem ownResult_hostOwned (b' : Nat) : (c.ownResult b r).hostOwned b' = c.hostOwned b' := rfl
@[simp] theorem ownResult_isReturning (b' : Nat) : (c.ownResult b r).isReturning b' = c.isReturning b' := rfl

theorem ownResult_regsOnly : RegsOnly [R.ownStatus] c (c.ownResult b r) :=
  have hmem : R.ownStatus ∈ [R.ownStatus] := List.mem_singleton.mpr rfl
  .setFlag hmem (.setFld hmem (.setFld hmem .rfl))

end

/-! ## The lists behind the ownership of blocks (R118) -/

/-- The host holds block `b`, which waits for no return tick. -/
def withTaken (b : Nat) (c : Chip) : Chip :=
  c.modWin fun w => { w with taken := w.taken ++ [b], returning := w.returning.filter fun r => r.1 != b }

/-- The host has given block `b` back, and `n` ticks are left to its return tick. -/
def withReturned (b n : Nat) (c : Chip) : Chip :=
  c.modWin fun w => { w with taken := w.taken.filter fun x => x != b, returning := w.returning ++ [(b, n)] }

section
variable (b n b' : Nat) (c : Chip)

theorem withTaken_hostOwned : (c.withTaken b).hostOwned b' = (c.hostOwned b' || b' == b) := by
  simp [withTaken, modWin, hostOwned, Bool.or_assoc, Bool.beq_eq_decide_eq]

theorem withTaken_isReturning : (c.withTaken b).isReturning b' = (c.isReturning b' && b' != b) := by
  simp only [withTaken, modWin, isReturning, List.any_filter]
  by_cases h : b' = b
  · subst h; simp
  · have he : ∀ r : Nat × Nat, (r.1 != b && r.1 == b') = (r.1 == b') := by intro r; grind
    simp [he, h]

@[simp] theorem withTaken_wheels : (c.withTaken b).wheels = c.wheels := rfl
@[simp] theorem withTaken_regs : (c.withTaken b).regs = c.regs := rfl
@[simp] theorem withReturned_regs : (c.withReturned b n).regs = c.regs := rfl
@[simp] theorem withTaken_sched : (c.withTaken b).sched = c.sched := rfl

theorem withReturned_hostOwned (hb : b < 496) : (c.withReturned b n).hostOwned b' = (c.hostOwned b' && b' != b) := by
  by_cases h : b' = b
  · subst h; simp [withReturned, modWin, hostOwned, hb]
  · simp [withReturned, modWin, hostOwned, h]

theorem withReturned_isReturning : (c.withReturned b n).isReturning b' = (c.isReturning b' || b' == b) := by
  simp [withReturned, modWin, isReturning, BEq.comm (a := b)]

end

/-! ## The requests (R118 to R120) -/

/-- What goes with a block that the host takes: the learning pass of a learned block (R213), and the event descriptors (R302). -/
def takeFollows (b : Nat) (c : Chip) : Chip :=
  (c.doIf (decide (26 ≤ b) && decide (b ≤ 29)) (modWheel ((b - 26) / 2) fun w => { w with pass := none })).doIf
    (decide (32 ≤ b) && decide (b ≤ 159)) (takeEvents b)

section
variable (b : Nat) (c : Chip)

theorem takeFollows_eq : c.takeFollows b = { c with wheels := (c.takeFollows b).wheels, sched := (c.takeFollows b).sched } := by
  unfold takeFollows doIf
  split <;> split <;> rfl

@[simp] theorem takeFollows_win : (c.takeFollows b).win = c.win := by rw [takeFollows_eq]

@[simp] theorem takeFollows_regs : (c.takeFollows b).regs = c.regs := by rw [takeFollows_eq]

theorem takeFollows_wheels (h : b < 26 ∨ 29 < b) : (c.takeFollows b).wheels = c.wheels := by
  have hno : (decide (26 ≤ b) && decide (b ≤ 29)) = false := by simp; omega
  unfold takeFollows
  rw [hno, doIf_false]
  unfold doIf
  split <;> rfl

theorem takeFollows_sched (h : b < 32 ∨ 159 < b) : (c.takeFollows b).sched = c.sched := by
  have hno : (decide (32 ≤ b) && decide (b ≤ 159)) = false := by simp; omega
  unfold takeFollows
  rw [hno, doIf_false]
  unfold doIf
  split <;> rfl

end

theorem transferable_lt {b : Nat} (h : transferable b = true) : b < 456 := by
  simp [transferable] at h
  omega

theorem hostOwned_transferable {b : Nat} {c : Chip} (hc : c.Ok) (hb : b < 496) (h : c.hostOwned b = true) : transferable b = true := by
  obtain ⟨-, -, htaken, -, -⟩ := hc
  simp only [hostOwned, Bool.or_eq_true, decide_eq_true_eq, List.contains_iff_mem] at h
  exact htaken b (h.resolve_left (by omega))

section
variable {b : Nat} {c : Chip}

theorem takeBlock_taken (hc : c.Ok) (h : c.hostOwned b = true) : c.takeBlock b = c.ownResult b 2 := by
  unfold takeBlock
  by_cases hb : 496 ≤ b
  · rw [if_pos hb]
  · simp [hb, h, hostOwned_transferable hc (by omega) h]

theorem takeBlock_fixed (ht : transferable b = false) (hb : b < 496) : c.takeBlock b = c.ownResult b 3 := by
  simp [takeBlock, ht, show ¬ 496 ≤ b by omega]

theorem takeBlock_refused (ht : transferable b = true) (ho : c.hostOwned b = false) (hr : c.takeRefused b = true) :
    c.takeBlock b = c.ownResult b 3 := by
  have hb := transferable_lt ht
  simp [takeBlock, ht, ho, hr, show ¬ 496 ≤ b by omega]

theorem takeBlock_granted (ht : transferable b = true) (ho : c.hostOwned b = false) (hr : c.takeRefused b = false) :
    c.takeBlock b = ((c.withTaken b).takeFollows b).ownResult b 2 := by
  have hb := transferable_lt ht
  simp [takeBlock, ht, ho, hr, show ¬ 496 ≤ b by omega]
  rfl

variable {phaseG : Bool}

theorem returnBlock_owned (ht : transferable b = true) (ho : c.hostOwned b = true) :
    c.returnBlock b phaseG = (c.withReturned b (c.tickWait phaseG)).ownResult b 1 := by
  have hb := transferable_lt ht
  simp [returnBlock, ht, ho, show ¬ 496 ≤ b by omega]
  rfl

theorem returnBlock_again (ht : transferable b = true) (ho : c.hostOwned b = false) :
    c.returnBlock b phaseG = c.ownResult b (if c.isReturning b then 1 else 2) := by
  have hb := transferable_lt ht
  simp [returnBlock, ht, ho, show ¬ 496 ≤ b by omega]

theorem returnBlock_fixed (ht : transferable b = false) (hb : b < 496) : c.returnBlock b phaseG = c.ownResult b 2 := by
  simp [returnBlock, ht, show ¬ 496 ≤ b by omega]

theorem returnBlock_scratch (hb : 496 ≤ b) : c.returnBlock b phaseG = c.ownResult b 3 := if_pos hb

end

/-! ## The ends of the returns (R120, R121) -/

section
variable {b : Nat} {c : Chip}

theorem endReturn_taken : (c.endReturn b).win.taken = c.win.taken := by
  unfold endReturn doIf
  split <;> rfl

theorem endReturn_returning : (c.endReturn b).win.returning = c.win.returning.filter fun r => r.1 != b := by
  unfold endReturn doIf
  split <;> rfl

theorem endReturns_taken {bs : List Nat} : (bs.foldl (fun d b => d.endReturn b) c).win.taken = c.win.taken := by
  induction bs generalizing c with
  | nil => rfl
  | cons b bs ih => rw [List.foldl_cons, ih, endReturn_taken]

theorem endReturns_returning {bs : List Nat} :
    (bs.foldl (fun d b => d.endReturn b) c).win.returning = c.win.returning.filter fun r => !bs.contains r.1 := by
  induction bs generalizing c with
  | nil => exact (List.filter_eq_self.mpr fun _ _ => rfl).symm
  | cons b bs ih =>
    rw [List.foldl_cons, ih, endReturn_returning, List.filter_filter]
    refine List.filter_congr fun r _ => ?_
    rw [List.contains_cons, Bool.not_or, Bool.and_comm]
    rfl

theorem mem_dueReturns : b ∈ c.dueReturns ↔ (b, 1) ∈ c.win.returning := by
  simp [dueReturns]

/-- What a tick leaves of the ownership of blocks: those due leave RETURNING, and the others wait a tick less. -/
theorem takeReturns_own : c.takeReturns.win.taken = c.win.taken ∧
    c.takeReturns.win.returning = (c.win.returning.filter fun r => !c.dueReturns.contains r.1).map fun r => (r.1, r.2 - 1) := by
  unfold takeReturns
  extract_lets bs c1
  obtain ⟨htaken, hreturning⟩ := Prod.mk.inj ((takeInBlocks_kept bs { c1 with win := { c1.win with
    returning := c1.win.returning.map fun (r : Nat × Nat) => (r.1, r.2 - 1) } }).same_of .own (by decide))
  refine ⟨htaken.trans endReturns_taken, hreturning.trans ?_⟩
  exact congrArg _ endReturns_returning

theorem takeReturns_isReturning :
    c.takeReturns.isReturning b = (c.isReturning b && !c.win.returning.contains (b, 1)) := by
  obtain ⟨-, hreturning⟩ := takeReturns_own (c := c)
  have hdue : c.dueReturns.contains b = c.win.returning.contains (b, 1) := by
    rw [Bool.eq_iff_iff, List.contains_iff_mem, List.contains_iff_mem, mem_dueReturns]
  rw [← hdue]
  unfold isReturning
  rw [hreturning, List.any_map, List.any_filter, Bool.eq_iff_iff]
  simp only [List.any_eq_true, Function.comp, Bool.and_eq_true, beq_iff_eq]
  constructor
  · rintro ⟨r, hr, hn, rfl⟩
    exact ⟨⟨r, hr, rfl⟩, hn⟩
  · rintro ⟨⟨r, hr, rfl⟩, hn⟩
    exact ⟨r, hr, hn, rfl⟩

theorem mem_takeReturns {n : Nat} (h : (b, n) ∈ c.takeReturns.win.returning) :
    (b, n + 1) ∈ c.win.returning ∨ (n = 0 ∧ (b, 0) ∈ c.win.returning) := by
  rw [takeReturns_own.2, List.mem_map] at h
  obtain ⟨⟨b', m⟩, hr, heq⟩ := h
  obtain ⟨rfl, rfl⟩ := Prod.mk.inj heq
  have hmem := (List.mem_filter.mp hr).1
  cases m with
  | zero => exact .inr ⟨rfl, hmem⟩
  | succ m => exact .inl hmem

end

end Chip

open Chip

/-! ## The commands -/

/-- A request that reports its result and does nothing else. -/
theorem RunsIn.ownResult {i : Instr} {s : State} {f : Chip → Chip} {b r : Nat} (hs : s.Inv) (ho : s.chip.busOpen = true)
    (he : exec i s = s.run (hostWrite f)) (hf : f s.chip = s.chip.ownResult b r) (hb : b < 512) (hr : r < 4) :
    RunsIn i s [.regs] [R.ownStatus] fun d => d.OwnStatusShows b r :=
  .is he ((hostWrite_open ho).trans hf) (.of_kept (ownResult_kept ..) (by decide)) (ownResult_regsOnly _ _ _)
    (ownResult_shows hs.regOk hb hr)

section
variable {s : State} {b : Fin 512}

theorem blockTake_granted (hs : s.Inv) (ho : s.chip.busOpen = true) (ht : transferable b.val = true)
    (hh : s.chip.hostOwned b.val = false) (hr : s.chip.takeRefused b.val = false) :
    RunsIn (.blockTake b) s [.regs, .own, .wheels, .sched] [R.ownStatus] fun d =>
      (b.val < 26 ∨ 29 < b.val → d.wheels = s.chip.wheels) ∧ (b.val < 32 ∨ 159 < b.val → d.sched = s.chip.sched) ∧
        d.hostOwned b.val = true ∧ d.isReturning b.val = false ∧ OwnersBut b.val s.chip d ∧ d.OwnStatusShows b.val 2 := by
  have hwin := takeFollows_win b.val (s.chip.withTaken b.val)
  have hregs : ((s.chip.withTaken b.val).takeFollows b.val).regs = s.chip.regs := takeFollows_regs ..
  have hok : ((s.chip.withTaken b.val).takeFollows b.val).RegOk := by unfold RegOk; rw [hregs]; exact hs.regOk
  refine .at rfl (execBlockTake_kept b s) (by decide) ((hostWrite_open ho).trans (takeBlock_granted ht hh hr))
    (.trans (.same hregs .rfl) (ownResult_regsOnly _ _ _)) ⟨?wheels, ?sched, ?owned, ?returning, ?others, ?shows⟩
  case wheels => intro h; simp [takeFollows_wheels _ _ h]
  case sched => intro h; simp [takeFollows_sched _ _ h]
  case owned => simp [hostOwned_of_win hwin, withTaken_hostOwned]
  case returning => simp [isReturning_of_win hwin, withTaken_isReturning]
  case others =>
    intro b' hb'
    simp [hostOwned_of_win hwin, isReturning_of_win hwin, withTaken_hostOwned, withTaken_isReturning, hb']
  case shows => exact ownResult_shows hok b.isLt (by decide)

theorem blockReturn_owned {phaseG : Bool} (hs : s.Inv) (ho : s.chip.busOpen = true) (ht : transferable b.val = true)
    (hh : s.chip.hostOwned b.val = true) :
    RunsIn (.blockReturn b phaseG) s [.regs, .own] [R.ownStatus] fun d =>
      d.hostOwned b.val = false ∧ d.isReturning b.val = true ∧ OwnersBut b.val s.chip d ∧ d.OwnStatusShows b.val 1 := by
  have hb : b.val < 496 := Nat.lt_trans (transferable_lt ht) (by decide)
  have hok : (s.chip.withReturned b.val (s.chip.tickWait phaseG)).RegOk := hs.regOk
  refine .at rfl (execBlockReturn_kept ..) (by decide) ((hostWrite_open ho).trans (returnBlock_owned ht hh))
    (.trans (.same (withReturned_regs ..) .rfl) (ownResult_regsOnly _ _ _)) ⟨?owned, ?returning, ?others, ?shows⟩
  case owned => simp [withReturned_hostOwned, hb]
  case returning => simp [withReturned_isReturning]
  case others =>
    intro b' hb'
    simp [withReturned_hostOwned, withReturned_isReturning, hb, hb']
  case shows => exact ownResult_shows hok b.isLt (by decide)

end

/-- Settles O14: of the requests one takes and one gives back, each by its change of the lists, and the others report their result alone. -/
theorem ownershipRequests : Obligations.OwnershipRequests := by
  unfold Obligations.OwnershipRequests
  intro shows others s b hs ho keeps
  have hb := b.isLt
  refine ⟨fun ht hh hr => ?take, fun hh => ?takeOwned, fun ht hlt => ?takeFixed, fun ht hh hr => ?takeRefused, fun phaseG =>
    ⟨fun ht hh => ?give, fun ht hh => ?returnAgain, fun ht hlt => ?returnFixed, fun hge => ?returnScratch⟩⟩
  case take => exact blockTake_granted hs ho ht hh hr
  case takeOwned => exact .ownResult hs ho rfl (takeBlock_taken hs hh) hb (by decide)
  case takeFixed => exact .ownResult hs ho rfl (takeBlock_fixed ht hlt) hb (by decide)
  case takeRefused => exact .ownResult hs ho rfl (takeBlock_refused ht hh hr) hb (by decide)
  case give => exact blockReturn_owned hs ho ht hh
  case returnAgain => exact .ownResult hs ho rfl (returnBlock_again ht hh) hb (by split <;> decide)
  case returnFixed => exact .ownResult hs ho rfl (returnBlock_fixed ht hlt) hb (by decide)
  case returnScratch => exact .ownResult hs ho rfl (returnBlock_scratch hge) hb (by decide)

/-- Settles O15: the mirroring of the blocks after the tick changes nothing of their ownership, and the tick takes the due ones off the
list. -/
theorem returnsEndAtTheirTick : Obligations.ReturnsEndAtTheirTick := by
  unfold Obligations.ReturnsEndAtTheirTick
  intro s _ hrun
  obtain ⟨htaken, hreturning⟩ := Prod.mk.inj ((mirrorGroup_kept (s.chip.dueReturns.filterMap mirroredBlock)
    s.chip.takeReturns).same_of .own (by decide))
  refine runs_of (f := fun c => if c.frameRuns then c.mirrorsOf (c.dueReturns.filterMap mirroredBlock) takeReturns else c) rfl ?_
  rw [if_pos hrun]
  refine ⟨fun b => ?returning, htaken.trans takeReturns_own.1, fun b n h => ?waits,
    .of_kept (Kept.mirrorsOf (by decide) takeReturns_kept .rfl) (by decide)⟩
  case returning =>
    rw [← takeReturns_isReturning]
    exact congrArg (fun l : List (Nat × Nat) => l.any fun r => r.1 == b) hreturning
  case waits => exact mem_takeReturns (hreturning ▸ h)

end Sys2Proof.Machine

/-!
PROOFS. Reads of the shared window: the words they answer, the latch, and what a reader makes of a word with an error (R111, R125,
R126, R134 to R140).
-/

namespace Sys2Proof.Machine

theorem QueueOnly.ecc {c d : Chip} (h : QueueOnly c d) {i : Nat} (hi : i < 0x100 ∨ 0x500 ≤ i) :
    Sparse.find? d.win.ecc i = Sparse.find? c.win.ecc i := by
  have hpart : (d.win.part fun o => !inFaultQueue o) = c.win.part fun o => !inFaultQueue o := congrArg (·.1) h
  have hi' : inFaultQueue (2 * i) = false := by simp [inFaultQueue]; omega
  simpa [Window.part, hi'] using congrFun (congrArg (·.2) hpart) i

namespace Chip

/-! ## The words of the window -/

/-- The stored word `n`. -/
def word (c : Chip) (n : Nat) : Word := c.winByte (2 * n + 1) ++ c.winByte (2 * n)

/-- A word with a wrong bit put right; a wrong check bit leaves the data as they are (R134). -/
def flipped (b : Fin 22) (v : Word) : Word := v ^^^ (if b.val < 16 then BitVec.ofNat 16 (2 ^ b.val) else 0)

section
variable (n : Nat) (c : Chip)

theorem word_toNat : (c.word n).toNat = c.win16 (2 * n) := by
  have hlow := (c.winByte (2 * n)).isLt
  unfold word win16
  rw [BitVec.toNat_append, ← Nat.shiftLeft_add_eq_or_of_lt hlow, Nat.shiftLeft_eq]
  omega

theorem ofNat_win16 : BitVec.ofNat 16 (c.win16 (2 * n)) = c.word n := by rw [← word_toNat, BitVec.ofNat_toNat, BitVec.setWidth_eq]

theorem flipped_toNat (b : Fin 22) (v : Word) : (flipped b v).toNat = v.toNat ^^^ (if b.val < 16 then 2 ^ b.val else 0) := by
  unfold flipped
  rw [BitVec.toNat_xor]
  split
  · rw [BitVec.toNat_ofNat, Nat.mod_eq_of_lt (Nat.pow_lt_pow_right (by decide) (by assumption))]
  · rfl

theorem corrected_eq (b : Fin 22) : c.corrected n b = (flipped b (c.word n)).toNat := by
  rw [flipped_toNat, word_toNat]
  rfl

theorem ofNat_corrected (b : Fin 22) : BitVec.ofNat 16 (c.corrected n b) = flipped b (c.word n) := by
  rw [corrected_eq, BitVec.ofNat_toNat, BitVec.setWidth_eq]

end

/-! ## A word stored outside the fault queue -/

section
variable {n v : Nat} {c : Chip}

theorem hasFreeSlot_putWin16 (hn : n < 0x100 ∨ 0x500 ≤ n) (h : c.hasFreeSlot) : (c.putWin16 (2 * n) v).hasFreeSlot := by
  obtain ⟨k, hk, hu⟩ := h
  have hk' : k < 16 := by simpa [slots] using hk
  refine ⟨k, hk, ?_⟩
  unfold slotUsed slotWord at *
  rw [ownWord_putWin16_ne (by unfold slotOff; omega)]
  exact hu

theorem ecc_putWin16_self : Sparse.find? (c.putWin16 (2 * n) v).win.ecc n = none := by
  show Sparse.find? (Sparse.drop _ ((2 * n + 1) / 2)) n = none
  rw [show (2 * n + 1) / 2 = n by omega]
  exact Sparse.find?_drop_self

theorem ecc_putWin16_ne {i : Nat} (hi : i ≠ n) : Sparse.find? (c.putWin16 (2 * n) v).win.ecc i = Sparse.find? c.win.ecc i := by
  show Sparse.find? (Sparse.drop (Sparse.drop c.win.ecc (2 * n / 2)) ((2 * n + 1) / 2)) i = _
  rw [Sparse.find?_drop_ne (by omega), Sparse.find?_drop_ne (by omega)]

end

/-! ## A report of an error (R111, R136, R137) -/

/-- From `c` to `d` word `n` took the value `v`, and no other byte of the window outside the fault queue changed. -/
def WordOnly (n : Nat) (v : Word) (c d : Chip) : Prop :=
  d.word n = v ∧ ∀ o, (o < 0x200 ∨ 0xA00 ≤ o) → o ≠ 2 * n → o ≠ 2 * n + 1 → d.winByte o = c.winByte o

/-- From `c` to `d` a reader met an error in word `n`: the fault `code` is on record, the word is `v` now, and of the window outside
the fault queue nothing else changed. -/
structure Reported (n code : Nat) (v : Word) (c d : Chip) : Prop where
  kept : Kept 0x20000000000000000000000000000010001c6 c d
  regs : RegsOnly [R.faultCounts] c d
  record : d.onRecord code n
  stored : WordOnly n v c d
  ecc : ∀ i, (i < 0x100 ∨ 0x500 ≤ i) → i ≠ n → Sparse.find? d.win.ecc i = Sparse.find? c.win.ecc i

theorem fault_reported {code n detail : Nat} {c : Chip} (hc : c.MemOk) (hf : c.hasFreeSlot) (hn : n < 0x100 ∨ 0x500 ≤ n)
    (hcode : code < 65536) : Reported n code (c.word n) c (c.fault code n detail) := by
  have hqueue : QueueOnly c (c.fault code n detail) := .faultOf
  refine ⟨(fault_kept ..).mono (by decide), .fault (List.mem_singleton.mpr rfl) .rfl, fault_onRecord hc hf hcode,
    ⟨?word, fun o ho _ _ => hqueue.winByte ho⟩, fun i hi _ => hqueue.ecc hi⟩
  case word =>
    unfold word
    rw [hqueue.winByte (by omega), hqueue.winByte (by omega)]

theorem Reported.bus {n code : Nat} {v : Word} {c d : Chip} (h : Reported n code v c d) : d.bus = c.bus :=
  h.kept.same_of .bus (by decide)

section
variable {n : Nat} {c : Chip}

theorem repair_device {b : Fin 22} (hn : n < 496 * 128) :
    c.repair n b = (c.putWin16 (2 * n) (c.corrected n b)).eccSingle n := by
  unfold repair
  rw [if_pos (show n / 128 < 496 by omega)]

theorem repair_scratch {b : Fin 22} (hn : 496 * 128 ≤ n) : c.repair n b = c.eccSingle n := by
  unfold repair
  rw [if_neg (show ¬ n / 128 < 496 by omega)]

/-- A single error is put right outside host scratch. -/
theorem repair_reported {b : Fin 22} (hc : c.MemOk) (hf : c.hasFreeSlot) (hn : n < 0x100 ∨ 0x500 ≤ n) :
    Reported n 0x0103 (if n < 496 * 128 then flipped b (c.word n) else c.word n) c (c.repair n b) := by
  by_cases hd : n < 496 * 128
  · rw [if_pos hd, repair_device hd]
    have hr : Reported n 0x0103 _ (c.putWin16 (2 * n) (c.corrected n b)) _ :=
      fault_reported (detail := 0) (memOk_putWin16 hc) (hasFreeSlot_putWin16 hn hf) hn (by decide)
    refine ⟨.step hr.kept (by decide) ((putWin16_kept ..).mono (by decide)), .trans (.same rfl .rfl) hr.regs, hr.record,
      ⟨?word, fun o ho hl hh => (hr.stored.2 o ho hl hh).trans (winByte_putWin16_ne (by omega))⟩,
      fun i hi hne => (hr.ecc i hi hne).trans (ecc_putWin16_ne hne)⟩
    case word =>
      refine hr.stored.1.trans (BitVec.eq_of_toNat_eq ?_)
      rw [word_toNat, win16_putWin16_self hc, corrected_eq, Nat.mod_eq_of_lt (BitVec.isLt _)]
  · rw [if_neg hd, repair_scratch (by omega)]
    exact fault_reported hc hf hn (by decide)

theorem repair_ecc {b : Fin 22} (hn : n < 0x100 ∨ 0x500 ≤ n) (hd : n < 496 * 128) :
    Sparse.find? (c.repair n b).win.ecc n = none := by
  rw [repair_device hd]
  exact (QueueOnly.faultOf.ecc hn).trans ecc_putWin16_self

/-! ## A read of the array -/

theorem readWord_sound {detail : Nat} (h : Sparse.find? c.win.ecc n = none) : c.readWord n detail = (c.win16 (2 * n), c) := by
  simp only [readWord, h]

theorem readWord_single {detail : Nat} {b : Fin 22} (h : Sparse.find? c.win.ecc n = some (.single b)) :
    c.readWord n detail = (c.corrected n b, c.repair n b) := by
  simp only [readWord, h]

theorem readWord_double {detail : Nat} {b b' : Fin 22} (h : Sparse.find? c.win.ecc n = some (.double b b')) :
    c.readWord n detail = (c.win16 (2 * n), c.eccDouble n detail) := by
  simp only [readWord, h]

end

/-! ## The read latch (R125, R126) -/

/-- The latch holds `v` as word `n`. -/
def withLatch (n : Nat) (v : Word) (c : Chip) : Chip := c.modWin fun x => { x with latchTag := some n, latch := v }

theorem withLatch_kept (n : Nat) (v : Word) (c : Chip) : Kept 4 c (c.withLatch n v) := .latch_of rfl rfl rfl rfl

theorem Reported.withLatch {n code m : Nat} {v x : Word} {c d : Chip} (h : Reported n code v c d) :
    Reported n code v c (d.withLatch m x) where
  kept := .step (withLatch_kept ..) (by decide) h.kept
  regs := .same rfl h.regs
  record := onRecord_same ((withLatch_kept ..).same_of .faultQueue (by decide)) h.record
  stored := h.stored
  ecc := h.ecc

section
variable {n : Nat} {c : Chip}

theorem windowRead_latched (hn : n % 2 = 1) (ht : c.win.latchTag = some n) : c.windowRead n = (c.win.latch.toNat, c) := by
  simp [windowRead, hn, ht]

theorem windowRead_array (hn : n % 2 = 1) (ht : c.win.latchTag ≠ some n) : c.windowRead n = c.readWord n 1 := by
  simp [windowRead, hn, ht]

/-- A read at a multiple of 4 loads the latch with the next word, where neither it nor the report of the read has put an error there. -/
theorem windowRead_loads {v : Nat} {d : Chip} (hn : n % 2 = 0) (hr : c.readWord n 1 = (v, d))
    (hc : Sparse.find? c.win.ecc (n + 1) = none) (hd : Sparse.find? d.win.ecc (n + 1) = none) :
    c.windowRead n = (v, d.withLatch (n + 1) (c.word (n + 1))) := by
  have hold : ({ d with win := c.win } : Chip).readWord (n + 1) 1 = (c.win16 (2 * (n + 1)), { d with win := c.win }) :=
    readWord_sound hc
  simp only [windowRead, if_pos hn, hr, readWord_sound hd, hold, ofNat_win16]
  rfl

end

/-- What a read of the window that met an error leaves, but for the latch. -/
theorem Reported.answered {n code : Nat} {x y : Word} {c d : Chip} (h : Reported n code x c d) :
    (d.answer y).bus = { c.bus with read := y } ∧ (d.answer y).onRecord code n ∧ WordOnly n x c (d.answer y) :=
  ⟨congrArg (fun q : Bus => { q with read := y }) h.bus, onRecord_of_win rfl h.record, h.stored⟩

end Chip

open Chip

/-! ## The commands -/

section
variable {s : State} {w : BitVec 16}

/-- A read of the window that met an error: the block that answers is the one that the read's effect left. -/
theorem windowRead_reports {code v : Nat} {x y : Word} {d : Chip} {P : Chip → Prop} (ho : s.chip.busOpen = true)
    (hr : s.chip.windowRead w.toNat = (v, d)) (hv : BitVec.ofNat 16 v = y) (h : Reported w.toNat code x s.chip d)
    (hp : P (d.answer y)) :
    RunsIn (.windowRead w) s [.regs, .win, .bus, .irq, .flt, .jnl, .faultQueue] [R.faultCounts] P := by
  have hkept : Kept 0x20000000000000000000000000000010001d6 s.chip (d.answer y) :=
    .step (answer_kept ..) (by decide) (h.kept.mono (by decide))
  refine .is (y := s.chip.hostRead (windowRead w.toNat)) rfl ?_ (.of_kept hkept (by decide)) (.answer h.regs) hp
  rw [hostRead_open ho, hr, hv]

/-- A read at 2 mod 4 that goes to the array and meets an error there. -/
theorem windowRead_array_reports {code v : Nat} {x y : Word} {d : Chip} (ho : s.chip.busOpen = true) (hw : w.toNat % 2 = 1)
    (ht : s.chip.win.latchTag ≠ some w.toNat) (hr : s.chip.readWord w.toNat 1 = (v, d)) (hv : BitVec.ofNat 16 v = y)
    (h : Reported w.toNat code x s.chip d) :
    RunsIn (.windowRead w) s [.regs, .win, .bus, .irq, .flt, .jnl, .faultQueue] [R.faultCounts] fun d =>
      d.bus = { s.chip.bus with read := y } ∧ d.onRecord code w.toNat ∧ WordOnly w.toNat x s.chip d :=
  windowRead_reports ho ((windowRead_array hw ht).trans hr) hv h h.answered

/-- A read at a multiple of 4 that meets an error in its word and none in the next. -/
theorem windowRead_loads_reports {code v : Nat} {x y : Word} {d : Chip} (ho : s.chip.busOpen = true) (hw : w.toNat % 2 = 0)
    (hq : 0x500 ≤ w.toNat) (he : Sparse.find? s.chip.win.ecc (w.toNat + 1) = none) (hr : s.chip.readWord w.toNat 1 = (v, d))
    (hv : BitVec.ofNat 16 v = y) (h : Reported w.toNat code x s.chip d) :
    RunsIn (.windowRead w) s [.regs, .win, .bus, .irq, .flt, .jnl, .faultQueue] [R.faultCounts] fun d =>
      d.bus = { s.chip.bus with read := y } ∧ d.onRecord code w.toNat ∧ d.win.latchTag = some (w.toNat + 1) ∧
        d.win.latch = s.chip.word (w.toNat + 1) ∧ WordOnly w.toNat x s.chip d := by
  have hd : Sparse.find? d.win.ecc (w.toNat + 1) = none := (h.ecc _ (by omega) (by omega)).trans he
  have hl := h.withLatch (m := w.toNat + 1) (x := s.chip.word (w.toNat + 1))
  obtain ⟨hbus, hrecord, hstored⟩ := hl.answered (y := y)
  exact windowRead_reports ho (windowRead_loads hw hr he hd) hv hl ⟨hbus, hrecord, rfl, rfl, hstored⟩

/-- A read at a multiple of 4 of two words without errors. -/
theorem windowRead_loads_sound (ho : s.chip.busOpen = true) (hw : w.toNat % 2 = 0)
    (he : Sparse.find? s.chip.win.ecc w.toNat = none) (hn : Sparse.find? s.chip.win.ecc (w.toNat + 1) = none) :
    Runs (.windowRead w) s fun d => d.bus = { s.chip.bus with read := s.chip.word w.toNat } ∧
      d.win = { s.chip.win with latchTag := some (w.toNat + 1), latch := s.chip.word (w.toNat + 1) } ∧
      ChangesOnly [.win, .bus] s.chip d := by
  have hkept : Kept 0x14 s.chip ((s.chip.withLatch (w.toNat + 1) (s.chip.word (w.toNat + 1))).answer (s.chip.word w.toNat)) :=
    .step (answer_kept ..) (by decide) ((withLatch_kept ..).mono (by decide))
  refine runs_of (f := hostRead (windowRead w.toNat)) rfl ?_
  rw [hostRead_open ho, windowRead_loads hw (readWord_sound he) hn hn, ofNat_win16]
  exact ⟨rfl, rfl, .of_kept hkept (by decide)⟩

theorem windowRead_latch (ho : s.chip.busOpen = true) (hw : w.toNat % 2 = 1) (ht : s.chip.win.latchTag = some w.toNat) :
    Runs (.windowRead w) s fun d => d = s.chip.answer s.chip.win.latch := by
  refine runs_of (f := hostRead (windowRead w.toNat)) rfl ?_
  rw [hostRead_open ho, windowRead_latched hw ht, BitVec.ofNat_toNat, BitVec.setWidth_eq]

theorem windowRead_array_sound (ho : s.chip.busOpen = true) (hw : w.toNat % 2 = 1) (ht : s.chip.win.latchTag ≠ some w.toNat)
    (he : Sparse.find? s.chip.win.ecc w.toNat = none) :
    Runs (.windowRead w) s fun d => d = s.chip.answer (s.chip.word w.toNat) := by
  refine runs_of (f := hostRead (windowRead w.toNat)) rfl ?_
  rw [hostRead_open ho, windowRead_array hw ht, readWord_sound he, ofNat_win16]

end

/-- Settles O12: a read answers the latch or goes to the array, which answers a word without an error as it is, and one with an error
after its report; at a multiple of 4 the latch is loaded after that. -/
theorem windowReads : Obligations.WindowReads := by
  unfold Obligations.WindowReads
  intro s w hs ho word put err reporting stored
  refine ⟨windowRead_loads_sound ho, windowRead_latch ho, windowRead_array_sound ho, fun hf hq => ?_⟩
  have hrepair : ∀ b, Reported w.toNat 0x0103 _ s.chip (s.chip.repair w.toNat b) :=
    fun b => repair_reported hs.memOk hf (.inr hq)
  have hdouble : Reported w.toNat 0x0104 _ s.chip (s.chip.eccDouble w.toNat 1) :=
    fault_reported hs.memOk hf (.inr hq) (by decide)
  refine ⟨fun hw ht => ⟨fun b hb => ?arraySingle, fun b b' hb => ?arrayDouble⟩,
    fun hw hn => ⟨fun b hb => ?loadsSingle, fun b b' hb => ?loadsDouble⟩⟩
  case arraySingle => exact windowRead_array_reports ho hw ht (readWord_single hb) (ofNat_corrected ..) (hrepair b)
  case arrayDouble => exact windowRead_array_reports ho hw ht (readWord_double hb) (ofNat_win16 ..) hdouble
  case loadsSingle => exact windowRead_loads_reports ho hw hq hn (readWord_single hb) (ofNat_corrected ..) (hrepair b)
  case loadsDouble => exact windowRead_loads_reports ho hw hq hn (readWord_double hb) (ofNat_win16 ..) hdouble

/-! ## The scrubber (R140) -/

section
variable {s : State} {w : BitVec 16}

theorem scrubberRead_stopped (h : s.chip.frameRuns = false) : NoEffect (.scrubberRead w) s := .at rfl (if_neg (by simp [h]))

theorem scrubberRead_passes (h : Sparse.find? s.chip.win.ecc w.toNat = none ∨ 496 * 128 ≤ w.toNat) :
    NoEffect (.scrubberRead w) s := by
  have hscrub : s.chip.scrub w.toNat = s.chip := by
    unfold scrub
    by_cases hw : w.toNat / 128 < 496
    · rw [if_pos hw, readWord_sound (h.resolve_right (by omega))]
    · rw [if_neg hw]
  refine .at (y := if s.chip.frameRuns then s.chip.scrub w.toNat else s.chip) rfl ?_
  rw [hscrub, ite_self]

/-- The scrubber's read of a word of blocks 0 to 495, by what the read of the array leaves. -/
theorem scrubberRead_reads {l : List Comp} {rs : List Nat} {v : Nat} {d : Chip} {P : Chip → Prop} (hrun : s.chip.frameRuns = true)
    (hw : w.toNat < 496 * 128) (hr : s.chip.readWord w.toNat 4 = (v, d)) (hc : ChangesOnly l s.chip d) (hrs : RegsOnly rs s.chip d)
    (hp : P d) : RunsIn (.scrubberRead w) s l rs P := by
  refine .is (y := if s.chip.frameRuns then s.chip.scrub w.toNat else s.chip) rfl ?_ hc hrs hp
  rw [if_pos hrun, scrub, if_pos (by omega), hr]

end

/-- Settles O13: of the words of blocks 0 to 495 the scrubber repairs one with a single error, and one with a double error it only
reports. -/
theorem scrubberReads : Obligations.ScrubberReads := by
  unfold Obligations.ScrubberReads
  intro s w hs
  refine ⟨scrubberRead_stopped, fun hrun => ⟨scrubberRead_passes, fun b hf hd hq hb => ?single, fun b b' hf hd hb => ?double⟩⟩
  case single =>
    have hn : w.toNat < 0x100 ∨ 0x500 ≤ w.toNat := by omega
    have hrep := repair_reported (b := b) hs.memOk hf hn
    obtain ⟨hword, hbytes⟩ := hrep.stored
    rw [if_pos hd] at hword
    have hcorrected : (s.chip.repair w.toNat b).win16 (2 * w.toNat) = s.chip.corrected w.toNat b := by
      rw [← word_toNat, hword, corrected_eq]
    exact scrubberRead_reads hrun hd (readWord_single hb) (.of_kept hrep.kept (by decide)) hrep.regs
      ⟨hcorrected, repair_ecc hn hd, hbytes, hrep.record⟩
  case double =>
    exact scrubberRead_reads hrun hd (readWord_double hb) (.of_kept (eccDouble_kept ..) (by decide))
      (.fault (List.mem_singleton.mpr rfl) .rfl) (fault_onRecord hs.memOk hf (by decide))

end Sys2Proof.Machine
